-- ==== Sys2Proof/Word.lean ====
section
/-!
DEFINITION. The machine's words: 32-bit registers and bytes (R10, R12), and the widths the manual uses for positions
and times (R7, R9).
-/
namespace Sys2Proof

/-- A register or a Nolre word (R57, R12). -/
abbrev Word := BitVec 32

/-- A byte of memory. -/
abbrev Byte := BitVec 8

/-- A 64-bit time, position or counter (R7, R9). -/
abbrev Dword := BitVec 64

end Sys2Proof
end

