-- ==== Sys2Proof/Syntax.lean ====
section
/-!
DEFINITION. The commands of the block: one constructor per row of the opcode table, with the row's operands. A Nolre
row names the core that executes it; a register-write row names the supervisor core that issues the write; an event row
names the instance it happens at and carries what the world outside decides.
-/
namespace Sys2Proof

/-- The processors that execute Nolre (R56). -/
inductive CoreId where
  | sc (x : Fin 2)
  | sq (k : Fin 12)
  | fantail
deriving DecidableEq, Repr

/-- The masters of the on-chip buses: the processors, and the device-side masters of R92. -/
inductive Master where
  | sc (x : Fin 2)
  | sq (k : Fin 12)
  | fantail
  | dev
deriving DecidableEq, Repr

/-- The width of a bus access (R12, R66). -/
inductive AccSize where
  | byte | half | word
deriving DecidableEq, Repr

/-- The crossings of R29. -/
inductive Crossing where
  | dspSeq | seqHpx | seqTb | tbSeq | tbDsp | aonAny
deriving DecidableEq, Repr

/-- A POS frame (R161): sender, channel, sequence, TSTEP, LAST_STEP, ILLEGAL, and 1 to 4 pairs (P, NT in 2^-16 ns). -/
structure PosFrame where
  src : BitVec 12
  ch : Nat
  seq : BitVec 16
  tstep : BitVec 8
  lastStep : Word
  illegal : Bool
  pairs : List (BitVec 48 × BitVec 80)
deriving DecidableEq, Repr

/-- A status word of a head as its receiver takes it: the word, and the stop bit of an asynchronous frame (R207). -/
structure StatusFrame where
  word : Word
  stop : Bool
deriving DecidableEq, Repr

/-- A link word that a port ignores and counts: the port, and the symbols in error by lane, true for an invalid code (R291, R300). -/
structure BadWord where
  port : Fin 4
  errs : List (Fin 4 × Bool)
deriving DecidableEq, Repr

/-- The state of an ECC word found on a read (R333). -/
inductive EccErr where
  | none
  | ce (word : Fin 8) (syndrome : BitVec 8)
  | ue (word : Fin 8) (syndrome : BitVec 8)
deriving DecidableEq, Repr

/-- The ECC of a CSI-2 packet header: without error, with a corrected single-bit error, or uncorrectable (R260). -/
inductive HdrEcc where
  | ok | corrected | bad
deriving DecidableEq, Repr

/-- A CSI-2 long packet (R256): channel, data type, header ECC, word count, whether its CRC passes, and its samples. -/
structure RowPacket where
  vc : Fin 4
  dt : BitVec 6
  hdr : HdrEcc
  bytes : Nat
  crcOk : Bool
  row : List (BitVec 12)
deriving DecidableEq, Repr

/-- A frame as it arrives (R297, R298): the bytes between K27.7 and the end symbol, whether K30.7 ends it, whether a second K28.7 came
within a preempting frame, the fine step of its start, and the symbols in error, by lane, true for an invalid code. -/
structure RxFrame where
  bytes : List Byte
  stomped : Bool
  split : Bool
  fine : BitVec 4
  errs : List (Fin 4 × Bool)
deriving DecidableEq, Repr

/-- What a lane finds at training for each CTLE setting (R294): whether it was free of errors, and its margin. -/
structure LaneTrain where
  tries : Vector (Bool × BitVec 7) 16
deriving DecidableEq, Repr

/-- What a self-test finds on a lane (R314, R315): near-end and far-end errors, the best setting, the margin, and whether the
lane aligned. -/
structure LaneTest where
  errors : Nat
  feErrors : Nat
  ctle : BitVec 4
  margin : BitVec 7
  aligned : Bool
deriving DecidableEq, Repr

/-- The commands: one constructor per row of the opcode table. -/
inductive Instr where
  /-- REGISTER_WRITE (R13). -/
  | registerWrite (m : Master) (addr : BitVec 40) (size : AccSize) (value : Word)
  /-- LO_READ_CAPTURE (R17). -/
  | loReadCapture (m : Master) (addr : BitVec 40)
  /-- RC_READ_CLEAR (R14). -/
  | rcReadClear (m : Master) (addr : BitVec 40)
  /-- CROSSING_WORD_ARRIVAL (R29). -/
  | crossingWordArrival (x : Crossing)
  /-- ADD (R61). -/
  | add (c : CoreId) (rd ra rb : Fin 32)
  /-- SUB (R61). -/
  | sub (c : CoreId) (rd ra rb : Fin 32)
  /-- AND (R61). -/
  | andR (c : CoreId) (rd ra rb : Fin 32)
  /-- OR (R61). -/
  | orR (c : CoreId) (rd ra rb : Fin 32)
  /-- XOR (R61). -/
  | xorR (c : CoreId) (rd ra rb : Fin 32)
  /-- NOR (R61). -/
  | norR (c : CoreId) (rd ra rb : Fin 32)
  /-- SLT (R61). -/
  | slt (c : CoreId) (rd ra rb : Fin 32)
  /-- SLTU (R61). -/
  | sltu (c : CoreId) (rd ra rb : Fin 32)
  /-- SLL (R61). -/
  | sll (c : CoreId) (rd ra rb : Fin 32)
  /-- SRL (R61). -/
  | srl (c : CoreId) (rd ra rb : Fin 32)
  /-- SRA (R61). -/
  | sra (c : CoreId) (rd ra rb : Fin 32)
  /-- SLLI (R61). -/
  | slli (c : CoreId) (rd ra sh : Fin 32)
  /-- SRLI (R61). -/
  | srli (c : CoreId) (rd ra sh : Fin 32)
  /-- SRAI (R61). -/
  | srai (c : CoreId) (rd ra sh : Fin 32)
  /-- CLZ (R61). -/
  | clz (c : CoreId) (rd ra : Fin 32)
  /-- MUL (R62). -/
  | mul (c : CoreId) (rd ra rb : Fin 32)
  /-- MULH (R62). -/
  | mulh (c : CoreId) (rd ra rb : Fin 32)
  /-- MULHU (R62). -/
  | mulhu (c : CoreId) (rd ra rb : Fin 32)
  /-- DIV (R63). -/
  | div (c : CoreId) (rd ra rb : Fin 32)
  /-- DIVU (R63). -/
  | divu (c : CoreId) (rd ra rb : Fin 32)
  /-- REM (R63). -/
  | rem (c : CoreId) (rd ra rb : Fin 32)
  /-- REMU (R63). -/
  | remu (c : CoreId) (rd ra rb : Fin 32)
  /-- BEXTU (R64). -/
  | bextu (c : CoreId) (rd ra pos widthM1 : Fin 32)
  /-- BEXTS (R64). -/
  | bexts (c : CoreId) (rd ra pos widthM1 : Fin 32)
  /-- BINS (R64). -/
  | bins (c : CoreId) (rd ra pos widthM1 : Fin 32)
  /-- ADDI (R65). -/
  | addi (c : CoreId) (rd ra : Fin 32) (imm : BitVec 16)
  /-- ANDI (R65). -/
  | andi (c : CoreId) (rd ra : Fin 32) (imm : BitVec 16)
  /-- ORI (R65). -/
  | ori (c : CoreId) (rd ra : Fin 32) (imm : BitVec 16)
  /-- XORI (R65). -/
  | xori (c : CoreId) (rd ra : Fin 32) (imm : BitVec 16)
  /-- SLTI (R65). -/
  | slti (c : CoreId) (rd ra : Fin 32) (imm : BitVec 16)
  /-- SLTIU (R65). -/
  | sltiu (c : CoreId) (rd ra : Fin 32) (imm : BitVec 16)
  /-- LUI (R65). -/
  | lui (c : CoreId) (rd : Fin 32) (imm : BitVec 16)
  /-- AUIPC (R65). -/
  | auipc (c : CoreId) (rd : Fin 32) (imm : BitVec 16)
  /-- LB (R66). -/
  | lb (c : CoreId) (rd ra : Fin 32) (imm : BitVec 16)
  /-- LH (R66). -/
  | lh (c : CoreId) (rd ra : Fin 32) (imm : BitVec 16)
  /-- LW (R66). -/
  | lw (c : CoreId) (rd ra : Fin 32) (imm : BitVec 16)
  /-- LBU (R66). -/
  | lbu (c : CoreId) (rd ra : Fin 32) (imm : BitVec 16)
  /-- LHU (R66). -/
  | lhu (c : CoreId) (rd ra : Fin 32) (imm : BitVec 16)
  /-- SB (R66). -/
  | sb (c : CoreId) (rd ra : Fin 32) (imm : BitVec 16)
  /-- SH (R66). -/
  | sh (c : CoreId) (rd ra : Fin 32) (imm : BitVec 16)
  /-- SW (R66). -/
  | sw (c : CoreId) (rd ra : Fin 32) (imm : BitVec 16)
  /-- BEQ (R67). -/
  | beq (c : CoreId) (ra rd : Fin 32) (off : BitVec 16)
  /-- BNE (R67). -/
  | bne (c : CoreId) (ra rd : Fin 32) (off : BitVec 16)
  /-- BLT (R67). -/
  | blt (c : CoreId) (ra rd : Fin 32) (off : BitVec 16)
  /-- BGE (R67). -/
  | bge (c : CoreId) (ra rd : Fin 32) (off : BitVec 16)
  /-- BLTU (R67). -/
  | bltu (c : CoreId) (ra rd : Fin 32) (off : BitVec 16)
  /-- BGEU (R67). -/
  | bgeu (c : CoreId) (ra rd : Fin 32) (off : BitVec 16)
  /-- J (R68). -/
  | jump (c : CoreId) (imm : BitVec 26)
  /-- JAL (R68). -/
  | jal (c : CoreId) (imm : BitVec 26)
  /-- JALR (R68). -/
  | jalr (c : CoreId) (rd ra : Fin 32) (imm : BitVec 16)
  /-- TRAP (R71). -/
  | trap (c : CoreId) (code : Fin 32)
  /-- RFT (R79). -/
  | rft (c : CoreId)
  /-- FENCE_IO (R91). -/
  | fenceIo (c : CoreId)
  /-- WFE (R81). -/
  | wfe (c : CoreId)
  /-- CCLN_D (R89). -/
  | cclnD (c : CoreId) (ra : Fin 32)
  /-- CINV_D (R89). -/
  | cinvD (c : CoreId) (ra : Fin 32)
  /-- CINV_I (R89). -/
  | cinvI (c : CoreId) (ra : Fin 32)
  /-- CCLNR_D (R89). -/
  | cclnrD (c : CoreId) (ra rb : Fin 32)
  /-- CINVR_D (R89). -/
  | cinvrD (c : CoreId) (ra rb : Fin 32)
  /-- CINVR_I (R89). -/
  | cinvrI (c : CoreId) (ra rb : Fin 32)
  /-- RTR (R85). -/
  | rtr (c : CoreId) (rd ra : Fin 32)
  /-- RTW (R87). -/
  | rtw (c : CoreId) (ra rb : Fin 32)
  /-- CSRR (R72). -/
  | csrr (c : CoreId) (rd : Fin 32) (csr : BitVec 12)
  /-- CSRW (R72). -/
  | csrw (c : CoreId) (rd ra : Fin 32) (csr : BitVec 12)
  /-- CSRS (R72). -/
  | csrs (c : CoreId) (rd ra : Fin 32) (csr : BitVec 12)
  /-- CSRC (R72). -/
  | csrc (c : CoreId) (rd ra : Fin 32) (csr : BitVec 12)
  /-- EVENT_TRAP (R77). -/
  | eventTrap (x : Fin 2)
  /-- WATCHDOG_EXPIRY (R83). -/
  | watchdogExpiry (x : Fin 2)
  /-- WDT_KICK (R83). -/
  | wdtKick (x : Fin 2)
  /-- WB_ERROR_RESPONSE (R91). -/
  | wbErrorResponse (x : Fin 2) (fromCache : Bool)
  /-- PAGE (R103). -/
  | page (c : CoreId) (ra rb : Fin 32) (mask : BitVec 4)
  /-- ENDPG (R106). -/
  | endpg (c : CoreId)
  /-- STREAM (R105). -/
  | stream (c : CoreId) (rd ra : Fin 32)
  /-- STREAM_HEADER_ARRIVAL (R105). -/
  | streamHeaderArrival (k : Fin 12)
  /-- SETPORT (R107). -/
  | setport (c : CoreId) (mask : BitVec 4)
  /-- LDPROF (R108). -/
  | ldprof (c : CoreId) (ra rb : Fin 32) (fld : BitVec 4)
  /-- BUILDN (R109). -/
  | buildn (c : CoreId) (rd ra rb : Fin 32)
  /-- FILL (R112). -/
  | fill (c : CoreId) (rd ra rb : Fin 32) (level : BitVec 4)
  /-- PATT (R113). -/
  | patt (c : CoreId) (rd ra rb : Fin 32)
  /-- COMMIT (R115). -/
  | commit (c : CoreId) (rd ra rb : Fin 32)
  /-- VOID (R117). -/
  | voidL (c : CoreId) (rd ra rb : Fin 32)
  /-- WAITQ (R118). -/
  | waitq (c : CoreId) (ra rb : Fin 32) (cond : BitVec 4)
  /-- WAITQ_TIMEOUT (R118). -/
  | waitqTimeout (k : Fin 12)
  /-- SYNCL (R119). -/
  | syncl (c : CoreId) (ra : Fin 32)
  /-- SYNCL_TIMEOUT (R119). -/
  | synclTimeout (k : Fin 12)
  /-- MARK (R120). -/
  | mark (c : CoreId) (ra rb : Fin 32)
  /-- EPOCHQ (R121). -/
  | epochq (c : CoreId) (rd ra : Fin 32)
  /-- FREAD (R121). -/
  | fread (c : CoreId) (rd sel : Fin 32)
  /-- XCLR (R121). -/
  | xclr (c : CoreId) (ra : Fin 32)
  /-- BXS (R101). -/
  | bxs (c : CoreId) (cond : Fin 32) (off : BitVec 16)
  /-- BXC (R101). -/
  | bxc (c : CoreId) (cond : Fin 32) (off : BitVec 16)
  /-- PORT_LINE_BUILT (R124). -/
  | portLineBuilt (k : Fin 12)
  /-- GO (R97). -/
  | go (x : Fin 2) (k : Fin 12) (value : Word)
  /-- HOLD (R97). -/
  | hold (x : Fin 2) (k : Fin 12) (value : Word)
  /-- JOB_PUSH (R130). -/
  | jobPush (x : Fin 2) (k : Fin 12)
  /-- JOB_POP (R130). -/
  | jobPop (k : Fin 12)
  /-- ENC_TRANSITION (R136). -/
  | encTransition (n : Fin 4) (input : Fin 3) (level : Bool)
  /-- EDGE_CONFIRM (R137). -/
  | edgeConfirm (n : Fin 4)
  /-- CHANNEL_ENABLE (R138). -/
  | channelEnable (x : Fin 2) (ch : Fin 10) (value : Word)
  /-- ARM (R141). -/
  | armCh (x : Fin 2) (ch : Fin 10)
  /-- POS_WRITE (R144). -/
  | posWrite (x : Fin 2) (ch : Fin 10) (pos : BitVec 48)
  /-- SSI_READ_START (R143). -/
  | ssiReadStart (n : Fin 2) (dataHigh : Bool)
  /-- SSI_READ_DONE (R143). -/
  | ssiReadDone (n : Fin 2) (raw : BitVec 40)
  /-- AXIS_CFG_WRITE (R144). -/
  | axisCfgWrite (x : Fin 2) (a : Fin 4) (value : Word)
  /-- HIST_SNAP (R168). -/
  | histSnap (x : Fin 2) (ch : Fin 10)
  /-- TRIGGER_ENABLE (R149). -/
  | triggerEnable (x : Fin 2) (t : Fin 16) (value : Word)
  /-- TRIGGER_PULSE (R148). -/
  | triggerPulse (t : Fin 16)
  /-- TRIGGER_PULSE_END (R148). -/
  | triggerPulseEnd (t : Fin 16)
  /-- TIME_RATE_WRITE (R152). -/
  | timeRateWrite (x : Fin 2) (value : Word)
  /-- TIME_OFFSET_WRITE (R153). -/
  | timeOffsetWrite (x : Fin 2) (value : Word)
  /-- TIME_ADJ_WRITE (R153). -/
  | timeAdjWrite (x : Fin 2) (value : Word)
  /-- SYNC (R155). -/
  | sync (port : Fin 4) (clockId : Dword)
  /-- SYNC_TIMEOUT (R155). -/
  | syncTimeout
  /-- TIME_CMP_ARM (R156). -/
  | timeCmpArm (x : Fin 2) (n : Fin 8) (value : Word)
  /-- TIME_CMP (R156). -/
  | timeCmp (n : Fin 8)
  /-- TS_POP (R157). -/
  | tsPop (x : Fin 2)
  /-- POS_FRAME_SEND (R160). -/
  | posFrameSend (ch : Fin 6)
  /-- POS_FRAME_RECEIVED (R162). -/
  | posFrameReceived (f : PosFrame)
  /-- VENC_PAIR_ENTRY (R163). -/
  | vencPairEntry (v : Fin 4)
  /-- PLAN_ADD (R170). -/
  | planAdd (x : Fin 2)
  /-- PLAN_DELETE (R170). -/
  | planDelete (x : Fin 2)
  /-- PLAN_READ (R170). -/
  | planRead (x : Fin 2) (i : Fin 16)
  /-- DEADLINE (R176). -/
  | deadline (p : Fin 48)
  /-- FREEZE (R178). -/
  | freeze (p : Fin 48)
  /-- GUARD_ENTRY (R180). -/
  | guardEntry (p : Fin 48)
  /-- LOAD_START (R177). -/
  | loadStart (p : Fin 48)
  /-- LOAD_COMPLETE (R177). -/
  | loadComplete (p : Fin 48)
  /-- LOAD_SHORT (R177). -/
  | loadShort (p : Fin 48)
  /-- STROBE_RISE (R184). -/
  | strobeRise (p : Fin 48)
  /-- STROBE_FALL (R185). -/
  | strobeFall (p : Fin 48)
  /-- INHIBIT_ASSERT (R187). -/
  | inhibitAssert (held40ns : Bool)
  /-- INHIBIT_DEASSERT (R188). -/
  | inhibitDeassert
  /-- BRAKE_CUT (R189). -/
  | brakeCut (p : Fin 48)
  /-- BRAKE_OSC_COUNT (R190). -/
  | brakeOscCount (count : BitVec 16)
  /-- FSCH_ABORT (R196). -/
  | fschAbort (x : Fin 2) (page : Word)
  /-- REPORT_WRITE (R52). -/
  | reportWrite
  /-- FSCH_RPT_CTRL_WRITE (R53). -/
  | fschRptCtrlWrite (x : Fin 2) (value : Word)
  /-- PORT_ENABLE (R205). -/
  | portEnable (x : Fin 2) (p : Fin 48) (value : Word)
  /-- STATUS_WORD (R208). -/
  | statusWord (p : Fin 48) (w : StatusFrame)
  /-- STATUS_BURST (R207). -/
  | statusBurst (p : Fin 48)
  /-- HEAD_ST_LOST (R209). -/
  | headStLost (p : Fin 48)
  /-- HEAD_FAULT (R210). -/
  | headFault (p : Fin 48)
  /-- HEAD_FAULT_CLEAR (R210). -/
  | headFaultClear (p : Fin 48)
  /-- HEAD_PRESENT (R211). -/
  | headPresent (p : Fin 48)
  /-- HEAD_LOST (R211). -/
  | headLost (p : Fin 48)
  /-- READ_HIR (R214). -/
  | readHir (x : Fin 2) (p : Fin 48)
  /-- WRITE_CAL (R218). -/
  | writeCal (x : Fin 2) (p : Fin 48)
  /-- WR_TIMEOUT (R218). -/
  | wrTimeout (p : Fin 48)
  /-- I2C_DONE (R219). -/
  | i2cDone (p : Fin 48) (result : Fin 8) (data : List Byte)
  /-- RANK_REQ_WRITE (R215). -/
  | rankReqWrite (x : Fin 2) (p : Fin 48) (value : Word)
  /-- RETIRE (R221). -/
  | retire (x : Fin 2) (p : Fin 48) (now : Bool)
  /-- RETURN (R224). -/
  | return (x : Fin 2) (p : Fin 48)
  /-- CANCEL (R221). -/
  | cancel (x : Fin 2) (p : Fin 48)
  /-- DCE_DOORBELL (R234). -/
  | dceDoorbell (x : Fin 2) (e : Fin 18)
  /-- STREAM_ENABLE (R236). -/
  | streamEnable (x : Fin 2) (k : Fin 16) (value : Word)
  /-- STREAM_DISABLE (R252). -/
  | streamDisable (x : Fin 2) (k : Fin 16) (value : Word)
  /-- CONTAINER_HEADER (R237). -/
  | containerHeader (k : Fin 16)
  /-- CONTAINER_VERDICT (R237). -/
  | containerVerdict (k : Fin 16)
  /-- CONTAINER_SKIP (R239). -/
  | containerSkip (k : Fin 16)
  /-- DESCRIPTOR_BUS_ERROR (R234). -/
  | descriptorBusError (e : Fin 18)
  /-- DCE_START (R241). -/
  | dceStart (x : Fin 2) (k : Fin 16) (value : Word)
  /-- DCE_STOPPED (R242). -/
  | dceStopped (k : Fin 16)
  /-- DCE_RESUME (R244). -/
  | dceResume (x : Fin 2) (k : Fin 16) (value : Word)
  /-- DCE_RESTORE (R244). -/
  | dceRestore (x : Fin 2) (k : Fin 16) (value : Word)
  /-- DCE_ABORT (R251). -/
  | dceAbort (x : Fin 2) (k : Fin 16) (value : Word)
  /-- DCE_JOB_DONE (R251). -/
  | dceJobDone (k : Fin 16)
  /-- CMP_START (R245). -/
  | cmpStart (x : Fin 2) (n : Fin 2) (value : Word)
  /-- CMP_VERIFY_REDO (R249). -/
  | cmpVerifyRedo (n : Fin 2)
  /-- CMP_BLOCK_VERIFIED (R249). -/
  | cmpBlockVerified (n : Fin 2)
  /-- CMP_STOP (R250). -/
  | cmpStop (n : Fin 2)
  /-- CMP_RESUME (R250). -/
  | cmpResume (x : Fin 2) (n : Fin 2) (value : Word)
  /-- CMP_ABORT (R251). -/
  | cmpAbort (x : Fin 2) (n : Fin 2) (value : Word)
  /-- CMP_JOB_DONE (R251). -/
  | cmpJobDone (n : Fin 2)
  /-- FRAME_START (R257). -/
  | frameStart (n : Fin 8) (vc : Fin 4) (hdr : HdrEcc)
  /-- FRAME_END (R260). -/
  | frameEnd (n : Fin 8) (vc : Fin 4) (hdr : HdrEcc)
  /-- LONG_PACKET (R256). -/
  | longPacket (n : Fin 8) (pk : RowPacket)
  /-- CAPTURE (R269). -/
  | capture (x : Fin 2) (n : Fin 8) (value : Word)
  /-- ISP_STRIPE_START (R267). -/
  | ispStripeStart
  /-- ISP_STRIPE_DONE (R266). -/
  | ispStripeDone
  /-- BOLTER_CONTAINER_FINISHED (R276). -/
  | bolterContainerFinished (k : Fin 16)
  /-- BOLT_RECORD_WRITE (R277). -/
  | boltRecordWrite
  /-- PROPOSAL_PASS (R285). -/
  | proposalPass
  /-- CLAIM (R282). -/
  | claim (x : Fin 2)
  /-- CLAIM_COPY_DONE (R282). -/
  | claimCopyDone
  /-- CS_COMMIT (R283). -/
  | csCommit (x : Fin 2)
  /-- DISCARD (R282). -/
  | discard (x : Fin 2)
  /-- RELEASE (R282). -/
  | release (x : Fin 2)
  /-- HELD_TO_FREE (R282). -/
  | heldToFree
  /-- LINK_ENABLE (R292). -/
  | linkEnable (x : Fin 2) (p : Fin 4) (value : Word)
  /-- RETRAIN (R292). -/
  | retrain (x : Fin 2) (p : Fin 4)
  /-- LINK_TRAINED (R292). -/
  | linkTrained (p : Fin 4) (r : Vector LaneTrain 4)
  /-- INIT (R305). -/
  | initWord (p : Fin 4)
  /-- ACK (R303). -/
  | ack (p : Fin 4) (vc : Fin 2) (value : BitVec 16)
  /-- NAK (R303). -/
  | nak (p : Fin 4) (vc : Fin 2) (value : BitVec 16)
  /-- CREDIT (R301). -/
  | credit (p : Fin 4) (vc : Fin 2) (value : BitVec 16)
  /-- LINK_RESUME (R319). -/
  | linkResume (p : Fin 4) (vc : Fin 2) (value : BitVec 16)
  /-- LB_REQ (R300). -/
  | lbReq (p : Fin 4) (lanes : BitVec 4)
  /-- LB_END (R300). -/
  | lbEnd (p : Fin 4)
  /-- FRAME_RECEIVED (R304). -/
  | frameReceived (p : Fin 4) (f : RxFrame)
  /-- FRAME_TRANSMIT (R301). -/
  | frameTransmit (p : Fin 4)
  /-- REPLAY_TIMEOUT (R303). -/
  | replayTimeout (p : Fin 4) (vc : Fin 2)
  /-- LOS (R293). -/
  | los (ln : Fin 16)
  /-- LOS_CLEAR (R293). -/
  | losClear (ln : Fin 16)
  /-- LOS_TIME_EXPIRY (R317). -/
  | losTimeExpiry (p : Fin 4)
  /-- FAILOVER (R317). -/
  | failover (x : Fin 2)
  /-- RESUME_TIMEOUT (R320). -/
  | resumeTimeout
  /-- MAKE_STANDBY (R323). -/
  | makeStandby (x : Fin 2)
  /-- SELF_TEST (R314). -/
  | selfTest
  /-- SELF_TEST_END (R315). -/
  | selfTestEnd (pllOk feDone : Bool) (r : Vector LaneTest 4)
  /-- CHECKPOINT (R316). -/
  | checkpoint
  /-- DISC_START (R311). -/
  | discStart (x : Fin 2)
  /-- DISC_WAIT_EXPIRY (R311). -/
  | discWaitExpiry
  /-- DISCOVER (R311). -/
  | discover (nextId origin : BitVec 12)
  /-- DISC_END (R311). -/
  | discEnd (lastId origin : BitVec 12) (ring : Bool)
  /-- DDR_INIT (R340). -/
  | ddrInit (x : Fin 2) (c : Fin 2)
  /-- INIT_DONE (R340). -/
  | initDone (c : Fin 2)
  /-- TRAIN_CS (R340). -/
  | trainCs (x : Fin 2) (c : Fin 2) (rank : Fin 2)
  /-- TRAIN_CA (R340). -/
  | trainCa (x : Fin 2) (c : Fin 2) (rank : Fin 2)
  /-- TRAIN_WL (R340). -/
  | trainWl (x : Fin 2) (c : Fin 2) (rank : Fin 2)
  /-- TRAIN_GATE (R340). -/
  | trainGate (x : Fin 2) (c : Fin 2) (rank : Fin 2)
  /-- TRAIN_READ (R340). -/
  | trainRead (x : Fin 2) (c : Fin 2) (rank : Fin 2)
  /-- TRAIN_WRITE (R340). -/
  | trainWrite (x : Fin 2) (c : Fin 2) (rank : Fin 2)
  /-- TRAIN_OSC (R340). -/
  | trainOsc (x : Fin 2) (c : Fin 2) (rank : Fin 2)
  /-- TRAIN_DONE (R340). -/
  | trainDone (c : Fin 2) (pass : Bool)
  /-- PHY_IMAGE_WRITE (R341). -/
  | phyImageWrite (x : Fin 2) (c : Fin 2) (word : Fin 4096) (value : Word)
  /-- DDR_ONLINE (R340). -/
  | ddrOnline (x : Fin 2) (c : Fin 2)
  /-- DDR_SELF_REFRESH (R339). -/
  | ddrSelfRefresh (x : Fin 2) (c : Fin 2)
  /-- DRAM_REQUEST (R329). -/
  | dramRequest (write : Bool) (addr : BitVec 40) (data : List Byte)
  /-- DRAM_READ_DATA (R333). -/
  | dramReadData (c sub : Fin 2) (err : EccErr)
  /-- REFRESH_INTERVAL (R336). -/
  | refreshInterval (c rank : Fin 2)
  /-- TEMP_POLL (R337). -/
  | tempPoll (c rank : Fin 2) (need : Fin 3)
  /-- PD_IDLE_EXPIRY (R338). -/
  | pdIdleExpiry (c rank : Fin 2)
  /-- SCRUB_BURST (R335). -/
  | scrubBurst (c : Fin 2)
  /-- DQS_TRACKING (R341). -/
  | dqsTracking (c sub : Fin 2) (osc : BitVec 16)
  /-- DMA_COPY (R352). -/
  | dmaCopy (x : Fin 2) (n : Fin 32) (value : Word)
  /-- DMA_FILL (R352). -/
  | dmaFill (x : Fin 2) (n : Fin 32) (value : Word)
  /-- DMA_COMPARE (R353). -/
  | dmaCompare (x : Fin 2) (n : Fin 32) (value : Word)
  /-- DMA_RESHUFFLE (R354). -/
  | dmaReshuffle (x : Fin 2) (n : Fin 32) (value : Word)
  /-- DMA_COMPLETE (R348). -/
  | dmaComplete (n : Fin 32)
  /-- DMA_LATE_ERR (R356). -/
  | dmaLateErr (n : Fin 32)
  /-- DMA_CH_ABORT (R360). -/
  | dmaChAbort (x : Fin 2) (n : Fin 32)
  /-- RING_DOORBELL (R350). -/
  | ringDoorbell (x : Fin 2) (r : Fin 5)
  /-- RING_ABORT (R360). -/
  | ringAbort (x : Fin 2) (r : Fin 5)
  /-- DATA_SLICE (R361). -/
  | dataSlice (p : Fin 4)
  /-- LOCAL_FRAME (R363). -/
  | localFrame (p : Fin 4)
  /-- EGRESS_FRAME (R364). -/
  | egressFrame
  /-- RING3_FLUSH (R366). -/
  | ring3Flush
  /-- GOVERNOR_STEP (R371). -/
  | governorStep
  /-- SPDREQ (R373). -/
  | spdreq
  /-- GOV_ENABLE (R387). -/
  | govEnable (x : Fin 2) (value : Word)
  /-- WEIR_REQUEST (R380). -/
  | weirRequest (r : Fin 32)
  /-- WEIR_DECISION (R381). -/
  | weirDecision
  /-- WEIR_RELEASE (R382). -/
  | weirRelease (r : Fin 32)
  /-- FW_REQ (R380). -/
  | fwReq (x : Fin 2) (j : Fin 4) (value : Word)
  /-- FW_REL (R382). -/
  | fwRel (x : Fin 2) (j : Fin 4) (value : Word)
  /-- FW_DUR_EXPIRY (R382). -/
  | fwDurExpiry (j : Fin 4)
  /-- TOLL_WINDOW (R384). -/
  | tollWindow (act : BitVec 16)
  /-- HEAD_POWER_WINDOW (R386). -/
  | headPowerWindow
  /-- POR_ASSERT (R411). -/
  | porAssert
  /-- BROWN_OUT (R447). -/
  | brownOut
  /-- POR_RELEASE (R414). -/
  | porRelease (balls : BitVec 18)
  /-- OSC_DLY_EXPIRY (R388). -/
  | oscDlyExpiry
  /-- REF_ACCEPT_COUNT (R388). -/
  | refAcceptCount (count : BitVec 9)
  /-- NVES_SCAN_DONE (R423). -/
  | nvesScanDone
  /-- SC0_RELEASE (R414). -/
  | sc0Release
  /-- WRST_N_ASSERT (R411). -/
  | wrstNAssert
  /-- WARM_RESET_RELEASE (R412). -/
  | warmResetRelease
  /-- CORE_RESET (R413). -/
  | coreReset (x : Fin 2) (value : Word)
  /-- REF_MON_COUNT (R389). -/
  | refMonCount (count : BitVec 9) (absent : Bool)
  /-- REF_RETRY (R389). -/
  | refRetry (x : Fin 2)
  /-- PLL_LOCK (R393). -/
  | pllLock (i : Fin 10) (stuck : Bool)
  /-- PLL_UNLOCK (R394). -/
  | pllUnlock (i : Fin 10)
  /-- PLL_MON_COUNT (R394). -/
  | pllMonCount (i : Fin 10) (count : BitVec 16)
  /-- CLOCK_SWITCH (R393). -/
  | clockSwitch (x : Fin 2) (value : Word) (stuck : BitVec 5)
  /-- CLK_EN_WRITE (R396). -/
  | clkEnWrite (x : Fin 2) (w : Fin 3) (value : Word)
  /-- THERMAL_SAMPLE (R401). -/
  | thermalSample (i : Fin 64) (reading : BitVec 12)
  /-- THERM_TRIP_TIMEOUT (R404). -/
  | thermTripTimeout
  /-- HCRIT_CLEAR (R403). -/
  | hcritClear (x : Fin 2) (p : Fin 48)
  /-- CAL_RUN (R406). -/
  | calRun (x : Fin 2)
  /-- CAL_RETRY_EXPIRY (R406). -/
  | calRetryExpiry
  /-- TENTER_TABLES_COMPLETE (R409). -/
  | tenterTablesComplete (rings : Vector (Nat × Nat) 12) (deskew : Vector (BitVec 25) 48)
  /-- CAL_TIMEOUT (R408). -/
  | calTimeout
  /-- PORT_DESKEW (R410). -/
  | portDeskew (x : Fin 2) (port : BitVec 6) (taps : BitVec 25)
  /-- PERMIT (R418). -/
  | permit (x : Fin 2)
  /-- WITHDRAW (R418). -/
  | withdraw (x : Fin 2)
  /-- NVES_ACK (R418). -/
  | nvesAck (x : Fin 2)
  /-- LOG (R418). -/
  | log (x : Fin 2)
  /-- WARM_RESET (R418). -/
  | warmReset (x : Fin 2)
  /-- MBX_DONE (R417). -/
  | mbxDone
  /-- NVES_WRITE (R420). -/
  | nvesWrite
  /-- NVES_TOKEN_REFILL (R422). -/
  | nvesTokenRefill
  /-- BOOT_IMAGE_CHECK (R426). -/
  | bootImageCheck (img : Option (List Byte)) (slot : BitVec 2)
  /-- BOOT_REQ (R424). -/
  | bootReq
  /-- SEC_VER_GO (R438). -/
  | secVerGo (x : Fin 2)
  /-- ROLLBACK_SET (R427). -/
  | rollbackSet (x : Fin 2) (value : Word)
  /-- SEC_REVOKE (R427). -/
  | secRevoke (x : Fin 2) (value : Word)
  /-- DEBUG_CHALLENGE (R431). -/
  | debugChallenge
  /-- DEBUG_UNLOCK (R431). -/
  | debugUnlock (kx ky r q : BitVec 256)
  /-- EXTEST (R430). -/
  | extest
  /-- EVT_RAISE (R436). -/
  | evtRaise (m : Master) (value : Word)
  /-- EVT_Q_POP (R435). -/
  | evtQPop (x : Fin 2) (queue : Fin 2)
  /-- EVENT_DELIVERY (R434). -/
  | eventDelivery
  /-- ILLEGAL_INSTRUCTION (R59). -/
  | illegalInstruction (c : CoreId) (word : Word)
  /-- LW_ERR (R300). -/
  | lwErr (p : BadWord)
  /-- PRBS_LOCK (R296). -/
  | prbsLock (ln : Fin 16) (got : List (Option Byte))
  /-- SELF_REFRESH_ENTERED (R339). -/
  | selfRefreshEntered (c : Fin 2)
  /-- BROWN_OUT_RELEASE (R447). -/
  | brownOutRelease (balls : BitVec 18)
  /-- OTP_WRITE_DONE (R427). -/
  | otpWriteDone
  /-- SEC_VER_DONE (R438). -/
  | secVerDone
  /-- SCAN_INSTRUCTION_LOAD (R430). -/
  | scanInstructionLoad
deriving DecidableEq, Repr

end Sys2Proof
end

