-- ==== Sys2Proof/Decode.lean ====
section
/-!
DEFINITION. The decoder over the table's bits. No row of the opcode table gives bits, so no word spells a command; the instruction words of the
block's own Nolre processors are in Machine/Encode.lean.
-/
namespace Sys2Proof

/-- The command that a word spells by the table's bits: none, since no row gives any. -/
def decodeTableWord (_nbits _w : Nat) : Option Instr := none

end Sys2Proof
end

