-- ==== Sys2Proof/Machine/Bits.lean ====
section
/-!
DEFINITION. Bit ranges (R8), saturation (R16), byte order (R10) and the arithmetic helpers the pseudocode of the manual
uses (R11).
-/
namespace Sys2Proof.Machine

/-- The unsigned value of bits [hi:lo] of a word (R8). -/
def field (w : Word) (hi lo : Nat) : Nat := (w.extractLsb' lo (hi + 1 - lo)).toNat

/-- The word with ones exactly in bits [hi:lo]. -/
def fieldMask (hi lo : Nat) : Word := BitVec.ofNat 32 ((2 ^ (hi + 1 - lo) - 1) * 2 ^ lo)

/-- Bits [hi:lo] of `w` replaced by the low bits of `v`. -/
def withField (w : Word) (hi lo v : Nat) : Word :=
  (w &&& ~~~ fieldMask hi lo) ||| (BitVec.ofNat 32 (v * 2 ^ lo) &&& fieldMask hi lo)

/-- A Bool as the number 0 or 1. -/
def b2n (b : Bool) : Nat := if b then 1 else 0

/-- A counter of `w` bits that saturates at its all-ones value (R16). -/
def satAdd (w v k : Nat) : Nat := min (v + k) (2 ^ w - 1)

/-- The low `n` bits of `v` read as a two's complement number. -/
def sext (n v : Nat) : Int := (BitVec.ofNat n v).toInt

/-- An integer reduced to an unsigned n-bit value. -/
def wrap (n : Nat) (i : Int) : Nat := (BitVec.ofInt n i).toNat

/-- An integer saturated to the signed range of n bits, as an unsigned n-bit value (R433). -/
def satSigned (n : Nat) (i : Int) : Nat :=
  wrap n (max (-(2 ^ (n - 1) : Int)) (min i (2 ^ (n - 1) - 1)))

/-- An unsigned value saturated to n bits (R433). -/
def satNat (n v : Nat) : Nat := min v (2 ^ n - 1)

/-- Division rounded up. -/
def ceilDiv (a b : Nat) : Nat := if b = 0 then 0 else (a + b - 1) / b

/-- floor_div of R162. -/
def floorDiv (a b : Int) : Int := Int.fdiv a b

/-- Division truncated toward zero (R11). -/
def truncDiv (a b : Int) : Int := Int.tdiv a b

/-- The `n` bytes of a number, least significant first (R10). -/
def leBytes : Nat → Nat → List Byte
  | 0, _ => []
  | n + 1, v => BitVec.ofNat 8 v :: leBytes n (v / 256)

/-- The number whose bytes, least significant first, are given (R10). -/
def leNat : List Byte → Nat
  | [] => 0
  | b :: t => b.toNat + 256 * leNat t

/-- The `n` bytes of a number, most significant first. -/
def beBytes (n v : Nat) : List Byte := (leBytes n v).reverse

/-- The number whose bytes, most significant first, are given. -/
def beNat (bs : List Byte) : Nat := leNat bs.reverse

/-- The `n` bytes of a list from an offset on, zero past its end. -/
def slice (bs : List Byte) (off n : Nat) : List Byte :=
  let t := (bs.drop off).take n
  t ++ List.replicate (n - t.length) 0

/-- The little-endian number in `n` bytes at an offset of a list. -/
def leAt (bs : List Byte) (off n : Nat) : Nat := leNat (slice bs off n)

/-- Element `i` of a vector replaced. -/
def vset {α : Type} {n : Nat} (v : Vector α n) (i : Fin n) (x : α) : Vector α n := v.set i.val x i.isLt

/-- The numbers 0 to n - 1 as members of `Fin n`. -/
def fins (n : Nat) : List (Fin n) := List.finRange n

/-- An instance number taken modulo the count of instances. -/
def finOf (n : Nat) (h : 0 < n) (v : Nat) : Fin n := ⟨v % n, Nat.mod_lt v h⟩

/-- Bit `i` of a bit vector set to `b`. -/
def setBit {w : Nat} (v : BitVec w) (i : Nat) (b : Bool) : BitVec w :=
  if b then v ||| BitVec.ofNat w (2 ^ i) else v &&& ~~~ BitVec.ofNat w (2 ^ i)

/-- The lowest set bit below `n` of a bit vector. -/
def lowestSet {w : Nat} (v : BitVec w) (n : Nat) : Option Nat := (List.range n).find? (fun i => v.getLsbD i)

end Sys2Proof.Machine
end

