-- ==== Sys2Proof/Machine/Checks.lean ====
section
/-!
DEFINITION. The check codes the manual computes: CRC-64 of the fire digest (R54), CRC-32C of headers and reports (R50,
R225), CRC-16 of R213, CRC-8 of R208, the Adler-32 of RFC 1950, SHA-256 and ECDSA P-256 of secure boot (R425).
-/
namespace Sys2Proof.Machine

/-! ## Reflected CRCs -/

/-- One bit of a reflected CRC with the reflected polynomial `poly`. -/
def crcBit {w : Nat} (poly crc : BitVec w) : BitVec w :=
  if crc.getLsbD 0 then (crc >>> 1) ^^^ poly else crc >>> 1

/-- One byte of a reflected CRC. -/
def crcByte {w : Nat} (poly crc : BitVec w) (b : Byte) : BitVec w :=
  let c := crc ^^^ b.setWidth w
  crcBit poly (crcBit poly (crcBit poly (crcBit poly (crcBit poly (crcBit poly (crcBit poly (crcBit poly c)))))))

/-- crc64_step of R55 over a list of bytes. -/
def crc64Bytes (crc : Dword) (bs : List Byte) : Dword := bs.foldl (crcByte 0xC96C5795D7870F42#64) crc

/-- The CRC-64 of R54 over a whole list. -/
def crc64 (bs : List Byte) : Dword := crc64Bytes (BitVec.allOnes 64) bs ^^^ BitVec.allOnes 64

/-- CRC-32C (Castagnoli), reflected, initial value and final XOR all ones (R50, R225, R298). -/
def crc32c (bs : List Byte) : Word := bs.foldl (crcByte 0x82F63B78#32) (BitVec.allOnes 32) ^^^ BitVec.allOnes 32

/-! ## CRCs taken most significant bit first -/

/-- One bit of a CRC taken most significant bit first. -/
def crcMsbBit {w : Nat} (poly crc : BitVec w) : BitVec w :=
  if crc.getLsbD (w - 1) then (crc <<< 1) ^^^ poly else crc <<< 1

/-- Folds the bits of a number, most significant of `n` first, into a CRC. -/
def crcMsbBits {w : Nat} (poly : BitVec w) : Nat → Nat → BitVec w → BitVec w
  | 0, _, crc => crc
  | n + 1, v, crc =>
    let top := v.testBit n
    crcMsbBits poly n v (crcMsbBit poly (if top then crc ^^^ BitVec.ofNat w (2 ^ (w - 1)) else crc))

/-- CRC-16 with polynomial 0x1021 and initial value 0xFFFF, most significant bit first (R213). -/
def crc16 (bs : List Byte) : BitVec 16 := bs.foldl (fun c b => crcMsbBits 0x1021#16 8 b.toNat c) 0xFFFF#16

/-- CRC-8 with polynomial 0x07 and initial value 0 (R208). -/
def crc8 (bs : List Byte) : BitVec 8 := bs.foldl (fun c b => crcMsbBits 0x07#8 8 b.toNat c) 0x00#8

/-! ## Adler-32 (RFC 1950) -/

/-- One byte of Adler-32 on the pair (a, b). -/
def adlerStep (s : Nat × Nat) (x : Byte) : Nat × Nat :=
  let a := (s.1 + x.toNat) % 65521
  (a, (s.2 + a) % 65521)

/-- The Adler-32 of a list of bytes. -/
def adler32 (bs : List Byte) : Nat :=
  let s := bs.foldl adlerStep (1, 0)
  s.2 * 65536 + s.1

/-! ## SHA-256 (FIPS 180-4), whose constants are the first 32 fractional bits of roots of primes -/

/-- The first 64 primes. -/
def shaPrimes : List Nat :=
  (List.range 312).filter (fun n => 2 ≤ n && (List.range 18).all (fun d => d < 2 || d = n || n % d != 0))

/-- The largest number below 2^`k` above `acc` whose power `e` is at most `x`, found one bit at a time. -/
def rootBits (e x : Nat) : Nat → Nat → Nat
  | 0, acc => acc
  | k + 1, acc => rootBits e x k (if (acc + 2 ^ k) ^ e ≤ x then acc + 2 ^ k else acc)

/-- The first 32 bits behind the point of the `e`-th root of `n`. -/
def rootFrac (e n : Nat) : Word := BitVec.ofNat 32 (rootBits e (n * 2 ^ (32 * e)) 38 0)

/-- Three rotations of a word, or two and a shift, added bit by bit: the functions Σ and σ of the standard. -/
def shaMix (x : Word) (p q r : Nat) (shift : Bool) : Word :=
  let last := if shift then x >>> r else x.rotateRight r
  last ^^^ x.rotateRight p ^^^ x.rotateRight q

/-- What one round works on: the eight working words, oldest last, and the sixteen schedule words that come next. -/
structure ShaWork where
  v : List Word
  win : List Word
deriving DecidableEq, Repr

/-- A round with constant `k`: it takes the first word of the window and appends the word sixteen further on. -/
def ShaWork.round (s : ShaWork) (k : Word) : ShaWork :=
  let v := fun i => s.v.getD i 0
  let w := fun i => s.win.getD i 0
  let choice := v 6 ^^^ (v 4 &&& (v 5 ^^^ v 6))
  let majority := (v 0 &&& v 1) ||| (v 2 &&& (v 0 ||| v 1))
  let push := w 0 + k + v 7 + choice + shaMix (v 4) 6 11 25 false
  let head := push + majority + shaMix (v 0) 2 13 22 false
  let next := shaMix (w 14) 17 19 10 true + w 9 + shaMix (w 1) 7 18 3 true + w 0
  { v := head :: (s.v.take 3 ++ (v 3 + push) :: (s.v.drop 4).take 3), win := s.win.drop 1 ++ [next] }

/-- The word that four bytes spell, the first most significant. -/
def beWord (bs : List Byte) : Word := BitVec.ofNat 32 (bs.foldl (fun a b => a * 256 + b.toNat) 0)

/-- The chaining value after a block of 64 bytes. -/
def shaBlock (h : List Word) (block : List Byte) : List Word :=
  let win := (List.range 16).map (fun i => beWord ((block.drop (4 * i)).take 4))
  let out := shaPrimes.foldl (fun (s : ShaWork) p => s.round (rootFrac 3 p)) { v := h, win := win }
  (List.range 8).map (fun i => h.getD i 0 + out.v.getD i 0)

/-- SHA-256 of a list of bytes, as 32 bytes. -/
def sha256 (m : List Byte) : List Byte :=
  let fill := 63 - (m.length + 8) % 64
  let text := m ++ 0x80#8 :: (List.replicate fill 0 ++ beBytes 8 (8 * m.length))
  let start := (shaPrimes.take 8).map (rootFrac 2)
  let out := (List.range (text.length / 64)).foldl (fun h i => shaBlock h ((text.drop (64 * i)).take 64)) start
  out.flatMap (fun w => beBytes 4 w.toNat)

/-! ## ECDSA on P-256 (FIPS 186) -/

/-- The field prime of P-256. -/
def p256p : Nat := 0xffffffff00000001000000000000000000000000ffffffffffffffffffffffff

/-- The group order of P-256. -/
def p256n : Nat := 0xffffffff00000000ffffffffffffffffbce6faada7179e84f3b9cac2fc632551

/-- The coefficient b of P-256. -/
def p256b : Nat := 0x5ac635d8aa3a93e7b3ebbd55769886bc651d06b0cc53b0f63bce3c3e27d2604b

/-- The base point of P-256. -/
def p256g : Nat × Nat :=
  (0x6b17d1f2e12c4247f8bce6e563a440f277037d812deb33a0f4a13945d898c296,
   0x4fe342e2fe1a7f9b8ee7eb4a7c0f9e162bce33576b315ececbb6406837bf51f5)

/-- b ^ e modulo m by `k` bits of the exponent. -/
def powMod (m : Nat) : Nat → Nat → Nat → Nat → Nat
  | 0, _, _, acc => acc
  | k + 1, b, e, acc => powMod m k (b * b % m) (e / 2) (if e % 2 = 1 then acc * b % m else acc)

/-- The inverse modulo a prime. -/
def invMod (m a : Nat) : Nat := powMod m 256 (a % m) (m - 2) 1

/-- Addition of affine points of P-256; none is the point at infinity. -/
def ecAdd (a b : Option (Nat × Nat)) : Option (Nat × Nat) :=
  match a, b with
  | none, q => q
  | q, none => q
  | some (x1, y1), some (x2, y2) =>
    if x1 = x2 ∧ (y1 + y2) % p256p = 0 then none
    else
      let lam :=
        if x1 = x2 then (3 * x1 * x1 + (p256p - 3)) * invMod p256p (2 * y1) % p256p
        else (y2 + p256p - y1) * invMod p256p (x2 + p256p - x1) % p256p
      let x3 := (lam * lam + 2 * p256p - x1 - x2) % p256p
      some (x3, (lam * (x1 + p256p - x3) + p256p - y1) % p256p)

/-- A multiple of a point by `k` bits of the scalar. -/
def ecMul : Nat → Nat → Option (Nat × Nat) → Option (Nat × Nat) → Option (Nat × Nat)
  | 0, _, _, acc => acc
  | k + 1, e, q, acc => ecMul k (e / 2) (ecAdd q q) (if e % 2 = 1 then ecAdd acc q else acc)

/-- Whether (r, s) is a valid ECDSA P-256 signature of a SHA-256 digest under the public key (x, y). -/
def ecdsaVerify (x y : Nat) (digest : List Byte) (r s : Nat) : Bool :=
  let onCurve := decide (x < p256p ∧ y < p256p ∧ y * y % p256p = (x * x * x + (p256p - 3) * x + p256b) % p256p)
  let inRange := decide (0 < r ∧ r < p256n ∧ 0 < s ∧ s < p256n)
  let e := beNat digest
  let w := invMod p256n s
  let q := ecAdd (ecMul 256 (e * w % p256n) (some p256g) none) (ecMul 256 (r * w % p256n) (some (x, y)) none)
  onCurve && inRange && (match q with
    | none => false
    | some (qx, _) => decide (qx % p256n = r))

end Sys2Proof.Machine
end

