-- ==== Sys2Proof/Config.lean ====
section
/-!
DEFINITION. What the spec leaves open, as constants without a body: nothing in Lean can evaluate them, so a statement
about the model holds whatever they are. Log entries 1 and 3 name them.
-/
namespace Sys2Proof.Config

/-- A fresh unconstrained word for each count of State.free: an undefined or unstated value (log 1). -/
opaque freeWord : Nat → Word

/-- A fresh unconstrained byte: data the spec calls undefined, such as DMA bytes after an error (log 1). -/
opaque freeByte : Nat → Byte

/-- A fresh unconstrained choice among `n + 1` possibilities, such as a cache victim (R88, log 1). -/
opaque freeNat : Nat → Nat

/-- A fresh unconstrained bit, such as whether a short INHIBIT_N pulse blanks (R187, log 1). -/
opaque freeBit : Nat → Bool

/-- A fresh 256-bit nonce (R431, log 1). -/
opaque freeNonce : Nat → BitVec 256

/-- The byte at an offset of the boot ROM (R35), whose contents the spec does not give (log 3). -/
opaque bootRomByte : Nat → Byte

/-- The byte at an offset of Fantail's ROM (R30), whose contents the spec does not give (log 3). -/
opaque fantailRomByte : Nat → Byte

/-- Where Fantail's own 64 KiB ROM and 64 KiB RAM lie in Fantail's address space: the spec gives no map (log 11). -/
opaque fantailRomBase : Nat

/-- See `fantailRomBase`. -/
opaque fantailRamBase : Nat

/-- Cycles until the response of an uncached, device or register access arrives (R69), per access (log 1). -/
opaque busLatency : Nat → Nat

/-- Core cycles of a supervisor core in a tick of the TB island (R73, log 80). -/
opaque tickCycles : Nat → Nat

/-- Core cycles of a trap entry (R73, R76, log 80). -/
opaque trapCycles : Nat

/-- Whether the check word of a written PHY image passes: the spec gives no algorithm (R341, log 13). -/
opaque phyImageOk : Nat → List Word → Bool

/-- Word `w` of the image that holds the training results of a channel; the first argument tells one training from
another (R341, log 13). -/
opaque phyImageWord : Nat → Nat → Word

/-- What a compressor's match search makes of a block, as literals (0, byte) and matches (length, distance): EFFORT, the input before
the block, newest byte first, and the block. R246 bounds the search and does not give it (log 16). -/
opaque cmpMatches : Nat → List Byte → List Byte → List (Nat × Nat)

/-- A dynamic block of a compressor, its bits as a number with its length: EFFORT, the input before the block, newest byte first, the
block, and whether it is the final one. R246 gives no rule for its codes (log 16). -/
opaque cmpDynamic : Nat → List Byte → List Byte → Bool → Nat × Nat

end Sys2Proof.Config
end

