-- ==== Sys2Proof/Machine/Regs.lean ====
section
/-!
DEFINITION. Every register of the device by name: its physical address (R35 and the register's own heading) and its
fields by bit range. An instance number is the argument n, an index within a register array the argument i.
-/
namespace Sys2Proof.Machine

/-- A field of a register: the register's address and the field's bit range [hi:lo] (R8). -/
structure RegField where
  addr : Nat
  hi : Nat
  lo : Nat
deriving DecidableEq, Repr


/-! Unit SYS. -/
/-- SYS_ID, R4. -/
abbrev SYS_ID : Nat := 0x40000000
abbrev SYS_ID_PART : RegField := ⟨SYS_ID, 31, 16⟩
abbrev SYS_ID_STEP_MAJOR : RegField := ⟨SYS_ID, 7, 4⟩
abbrev SYS_ID_STEP_MINOR : RegField := ⟨SYS_ID, 3, 0⟩
/-- SYS_STRAP, R415. -/
abbrev SYS_STRAP : Nat := 0x40000004
abbrev SYS_STRAP_ID_FIX : RegField := ⟨SYS_STRAP, 31, 31⟩
abbrev SYS_STRAP_ID_BAD : RegField := ⟨SYS_STRAP, 30, 30⟩
abbrev SYS_STRAP_ID : RegField := ⟨SYS_STRAP, 27, 16⟩
abbrev SYS_STRAP_BOOT_SRC : RegField := ⟨SYS_STRAP, 4, 3⟩
abbrev SYS_STRAP_OSC_DLY : RegField := ⟨SYS_STRAP, 2, 0⟩
/-- SYS_RST, R413. -/
abbrev SYS_RST : Nat := 0x40000008
abbrev SYS_RST_SC1_RST : RegField := ⟨SYS_RST, 1, 1⟩
abbrev SYS_RST_SC0_RST : RegField := ⟨SYS_RST, 0, 0⟩
/-- SYS_RST_CAUSE, R411. -/
abbrev SYS_RST_CAUSE : Nat := 0x4000000c
abbrev SYS_RST_CAUSE_SC1_WDT : RegField := ⟨SYS_RST_CAUSE, 5, 5⟩
abbrev SYS_RST_CAUSE_SC0_WDT : RegField := ⟨SYS_RST_CAUSE, 4, 4⟩
abbrev SYS_RST_CAUSE_SHUTDOWN : RegField := ⟨SYS_RST_CAUSE, 3, 3⟩
abbrev SYS_RST_CAUSE_MBX : RegField := ⟨SYS_RST_CAUSE, 2, 2⟩
abbrev SYS_RST_CAUSE_PIN : RegField := ⟨SYS_RST_CAUSE, 1, 1⟩
abbrev SYS_RST_CAUSE_POR : RegField := ⟨SYS_RST_CAUSE, 0, 0⟩
/-- SYS_SC_ENTRY, R413. -/
abbrev SYS_SC_ENTRY (i : Nat) : Nat := 0x40000010 + 0x4 * i
abbrev SYS_SC_ENTRY_ENTRY (i : Nat) : RegField := ⟨SYS_SC_ENTRY i, 31, 2⟩
/-- BRAKE_LIM, R192. -/
abbrev BRAKE_LIM (i : Nat) : Nat := 0x40001000 + 0x4 * i
abbrev BRAKE_LIM_LIMIT (i : Nat) : RegField := ⟨BRAKE_LIM i, 15, 0⟩
/-- BRAKE_STAT0, R189. -/
abbrev BRAKE_STAT0 : Nat := 0x40001100
/-- BRAKE_STAT1, R189. -/
abbrev BRAKE_STAT1 : Nat := 0x40001104
abbrev BRAKE_STAT1_CUT : RegField := ⟨BRAKE_STAT1, 15, 0⟩
/-- BRAKE_OSC, R190. -/
abbrev BRAKE_OSC : Nat := 0x40001108
abbrev BRAKE_OSC_OSC_FAIL : RegField := ⟨BRAKE_OSC, 31, 31⟩
abbrev BRAKE_OSC_RATE : RegField := ⟨BRAKE_OSC, 15, 0⟩

/-! Unit CLK. -/
/-- CLK_STAT, R388. -/
abbrev CLK_STAT : Nat := 0x40010000
abbrev CLK_STAT_REF_RETRY : RegField := ⟨CLK_STAT, 31, 31⟩
abbrev CLK_STAT_TB_FAIL : RegField := ⟨CLK_STAT, 7, 7⟩
abbrev CLK_STAT_CLKSW_FORCED : RegField := ⟨CLK_STAT, 6, 6⟩
abbrev CLK_STAT_REF_FAIL : RegField := ⟨CLK_STAT, 5, 5⟩
abbrev CLK_STAT_REF_BAD : RegField := ⟨CLK_STAT, 4, 4⟩
abbrev CLK_STAT_ON_RC : RegField := ⟨CLK_STAT, 1, 1⟩
abbrev CLK_STAT_REF_OK : RegField := ⟨CLK_STAT, 0, 0⟩
/-- CLK_REF_MON, R389. -/
abbrev CLK_REF_MON : Nat := 0x40010004
abbrev CLK_REF_MON_RC_COUNT : RegField := ⟨CLK_REF_MON, 8, 0⟩
/-- CLK_EN0, R395. -/
abbrev CLK_EN0 : Nat := 0x40010010
abbrev CLK_EN0_CAM : RegField := ⟨CLK_EN0, 27, 20⟩
abbrev CLK_EN0_CMP : RegField := ⟨CLK_EN0, 18, 17⟩
abbrev CLK_EN0_CS : RegField := ⟨CLK_EN0, 16, 16⟩
abbrev CLK_EN0_BOLT : RegField := ⟨CLK_EN0, 15, 15⟩
abbrev CLK_EN0_ISP : RegField := ⟨CLK_EN0, 14, 14⟩
abbrev CLK_EN0_PORT : RegField := ⟨CLK_EN0, 13, 10⟩
abbrev CLK_EN0_DDR : RegField := ⟨CLK_EN0, 9, 8⟩
abbrev CLK_EN0_DMA : RegField := ⟨CLK_EN0, 7, 7⟩
abbrev CLK_EN0_SEC : RegField := ⟨CLK_EN0, 6, 6⟩
abbrev CLK_EN0_GPIO : RegField := ⟨CLK_EN0, 5, 5⟩
abbrev CLK_EN0_UART : RegField := ⟨CLK_EN0, 4, 4⟩
abbrev CLK_EN0_QSPI : RegField := ⟨CLK_EN0, 3, 3⟩
abbrev CLK_EN0_SC1 : RegField := ⟨CLK_EN0, 2, 2⟩
abbrev CLK_EN0_SC0 : RegField := ⟨CLK_EN0, 1, 1⟩
abbrev CLK_EN0_BOOT_ROM : RegField := ⟨CLK_EN0, 0, 0⟩
/-- CLK_EN1, R395. -/
abbrev CLK_EN1 : Nat := 0x40010014
abbrev CLK_EN1_HPG : RegField := ⟨CLK_EN1, 27, 16⟩
abbrev CLK_EN1_SQ : RegField := ⟨CLK_EN1, 11, 0⟩
/-- CLK_EN2, R395. -/
abbrev CLK_EN2 : Nat := 0x40010018
abbrev CLK_EN2_DCE : RegField := ⟨CLK_EN2, 15, 0⟩
/-- CLK_SEL, R393. -/
abbrev CLK_SEL : Nat := 0x40010020
abbrev CLK_SEL_BYPASS : RegField := ⟨CLK_SEL, 4, 0⟩
/-- PLL_CTRL, R390. -/
abbrev PLL_CTRL (i : Nat) : Nat := 0x40010100 + 0x10 * i
abbrev PLL_CTRL_EN (i : Nat) : RegField := ⟨PLL_CTRL i, 31, 31⟩
abbrev PLL_CTRL_LOCK (i : Nat) : RegField := ⟨PLL_CTRL i, 30, 30⟩
abbrev PLL_CTRL_RATE (i : Nat) : RegField := ⟨PLL_CTRL i, 25, 24⟩
abbrev PLL_CTRL_SSC_RATE (i : Nat) : RegField := ⟨PLL_CTRL i, 21, 16⟩
abbrev PLL_CTRL_SSC_DEPTH (i : Nat) : RegField := ⟨PLL_CTRL i, 12, 8⟩
/-- PLL_MON, R394. -/
abbrev PLL_MON (i : Nat) : Nat := 0x40010104 + 0x10 * i
abbrev PLL_MON_MON_ERR (i : Nat) : RegField := ⟨PLL_MON i, 31, 31⟩
abbrev PLL_MON_UNLOCK (i : Nat) : RegField := ⟨PLL_MON i, 30, 30⟩
abbrev PLL_MON_COUNT (i : Nat) : RegField := ⟨PLL_MON i, 15, 0⟩
/-- LPLL_MON, R394. -/
abbrev LPLL_MON (i : Nat) : Nat := 0x40010160 + 0x4 * i
abbrev LPLL_MON_MON_ERR (i : Nat) : RegField := ⟨LPLL_MON i, 31, 31⟩
abbrev LPLL_MON_UNLOCK (i : Nat) : RegField := ⟨LPLL_MON i, 30, 30⟩
abbrev LPLL_MON_LOCK (i : Nat) : RegField := ⟨LPLL_MON i, 29, 29⟩
abbrev LPLL_MON_COUNT (i : Nat) : RegField := ⟨LPLL_MON i, 15, 0⟩

/-! Unit PWR. -/
/-- PWR_BUDGET, R379. -/
abbrev PWR_BUDGET : Nat := 0x40020000
abbrev PWR_BUDGET_RAIL_MW : RegField := ⟨PWR_BUDGET, 31, 16⟩
abbrev PWR_BUDGET_THERM_MW : RegField := ⟨PWR_BUDGET, 15, 0⟩
/-- PWR_RES_BASE, R379. -/
abbrev PWR_RES_BASE : Nat := 0x40020004
abbrev PWR_RES_BASE_RES_BASE : RegField := ⟨PWR_RES_BASE, 15, 0⟩
/-- PWR_RES_LINE, R379. -/
abbrev PWR_RES_LINE : Nat := 0x40020008
abbrev PWR_RES_LINE_RES_LINE : RegField := ⟨PWR_RES_LINE, 23, 0⟩
/-- PWR_WSTAT, R379. -/
abbrev PWR_WSTAT : Nat := 0x4002000c
abbrev PWR_WSTAT_GRANTED : RegField := ⟨PWR_WSTAT, 31, 16⟩
abbrev PWR_WSTAT_RES : RegField := ⟨PWR_WSTAT, 15, 0⟩
/-- PWR_WFLAG, R382. -/
abbrev PWR_WFLAG : Nat := 0x40020010
abbrev PWR_WFLAG_OVER : RegField := ⟨PWR_WFLAG, 31, 31⟩
abbrev PWR_WFLAG_WAITING : RegField := ⟨PWR_WFLAG, 23, 16⟩
abbrev PWR_WFLAG_TOO_BIG_SEEN : RegField := ⟨PWR_WFLAG, 2, 2⟩
abbrev PWR_WFLAG_TIMEOUT_SEEN : RegField := ⟨PWR_WFLAG, 1, 1⟩
abbrev PWR_WFLAG_OVER_SEEN : RegField := ⟨PWR_WFLAG, 0, 0⟩
/-- PWR_TOLL_CFG, R384. -/
abbrev PWR_TOLL_CFG : Nat := 0x40020020
abbrev PWR_TOLL_CFG_TOL : RegField := ⟨PWR_TOLL_CFG, 31, 16⟩
abbrev PWR_TOLL_CFG_N : RegField := ⟨PWR_TOLL_CFG, 7, 0⟩
/-- PWR_TOLL_WIN, R384. -/
abbrev PWR_TOLL_WIN : Nat := 0x40020024
abbrev PWR_TOLL_WIN_PLAN : RegField := ⟨PWR_TOLL_WIN, 31, 16⟩
abbrev PWR_TOLL_WIN_ACT : RegField := ⟨PWR_TOLL_WIN, 15, 0⟩
/-- PWR_TOLL_PLAN_LO, R384. -/
abbrev PWR_TOLL_PLAN_LO : Nat := 0x40020028
/-- PWR_TOLL_PLAN_HI, R384. -/
abbrev PWR_TOLL_PLAN_HI : Nat := 0x4002002c
/-- PWR_TOLL_ACT_LO, R384. -/
abbrev PWR_TOLL_ACT_LO : Nat := 0x40020030
/-- PWR_TOLL_ACT_HI, R384. -/
abbrev PWR_TOLL_ACT_HI : Nat := 0x40020034
/-- PWR_TOLL_EXC, R384. -/
abbrev PWR_TOLL_EXC : Nat := 0x40020038
abbrev PWR_TOLL_EXC_MAX_EX : RegField := ⟨PWR_TOLL_EXC, 31, 16⟩
abbrev PWR_TOLL_EXC_EXC_CNT : RegField := ⟨PWR_TOLL_EXC, 15, 0⟩
/-- PWR_HP_CFG, R386. -/
abbrev PWR_HP_CFG : Nat := 0x40020040
abbrev PWR_HP_CFG_WIN : RegField := ⟨PWR_HP_CFG, 7, 0⟩
/-- PWR_HP_STAT, R386. -/
abbrev PWR_HP_STAT : Nat := 0x40020044
abbrev PWR_HP_STAT_SEEN : RegField := ⟨PWR_HP_STAT, 15, 8⟩
abbrev PWR_HP_STAT_ALARM : RegField := ⟨PWR_HP_STAT, 7, 0⟩
/-- PWR_RQ_CFG, R380. -/
abbrev PWR_RQ_CFG (i : Nat) : Nat := 0x40020100 + 0x8 * i
abbrev PWR_RQ_CFG_PWR (i : Nat) : RegField := ⟨PWR_RQ_CFG i, 31, 16⟩
abbrev PWR_RQ_CFG_MAXWAIT (i : Nat) : RegField := ⟨PWR_RQ_CFG i, 15, 0⟩
/-- PWR_RQ_STAT, R380. -/
abbrev PWR_RQ_STAT (i : Nat) : Nat := 0x40020104 + 0x8 * i
abbrev PWR_RQ_STAT_STATE (i : Nat) : RegField := ⟨PWR_RQ_STAT i, 31, 30⟩
abbrev PWR_RQ_STAT_CLASS (i : Nat) : RegField := ⟨PWR_RQ_STAT i, 26, 24⟩
abbrev PWR_RQ_STAT_RESULT (i : Nat) : RegField := ⟨PWR_RQ_STAT i, 23, 20⟩
abbrev PWR_RQ_STAT_GRANT (i : Nat) : RegField := ⟨PWR_RQ_STAT i, 15, 0⟩
/-- PWR_FW_REQ, R380. -/
abbrev PWR_FW_REQ (i : Nat) : Nat := 0x40020200 + 0x8 * i
abbrev PWR_FW_REQ_REQ (i : Nat) : RegField := ⟨PWR_FW_REQ i, 31, 31⟩
abbrev PWR_FW_REQ_REL (i : Nat) : RegField := ⟨PWR_FW_REQ i, 30, 30⟩
abbrev PWR_FW_REQ_CLASS (i : Nat) : RegField := ⟨PWR_FW_REQ i, 26, 24⟩
abbrev PWR_FW_REQ_PWR (i : Nat) : RegField := ⟨PWR_FW_REQ i, 15, 0⟩
/-- PWR_FW_WAIT, R382. -/
abbrev PWR_FW_WAIT (i : Nat) : Nat := 0x40020204 + 0x8 * i
abbrev PWR_FW_WAIT_MAXWAIT (i : Nat) : RegField := ⟨PWR_FW_WAIT i, 31, 16⟩
abbrev PWR_FW_WAIT_DUR (i : Nat) : RegField := ⟨PWR_FW_WAIT i, 15, 0⟩
/-- PWR_HE_LO, R385. -/
abbrev PWR_HE_LO (i : Nat) : Nat := 0x40020300 + 0x10 * i
/-- PWR_HE_HI, R385. -/
abbrev PWR_HE_HI (i : Nat) : Nat := 0x40020304 + 0x10 * i
/-- PWR_HE_LIM, R386. -/
abbrev PWR_HE_LIM (i : Nat) : Nat := 0x40020308 + 0x10 * i
/-- PWR_HE_PWR, R386. -/
abbrev PWR_HE_PWR (i : Nat) : Nat := 0x4002030c + 0x10 * i

/-! Unit THM. -/
/-- THM_CTRL, R398. -/
abbrev THM_CTRL : Nat := 0x40030000
abbrev THM_CTRL_NEAR_MARGIN : RegField := ⟨THM_CTRL, 7, 0⟩
/-- THM_STAT, R405. -/
abbrev THM_STAT : Nat := 0x40030004
abbrev THM_STAT_SHUT_PENDING : RegField := ⟨THM_STAT, 31, 31⟩
abbrev THM_STAT_HCLR_REFUSED : RegField := ⟨THM_STAT, 30, 30⟩
abbrev THM_STAT_DIE_LEVEL : RegField := ⟨THM_STAT, 5, 4⟩
abbrev THM_STAT_DIE_SRC : RegField := ⟨THM_STAT, 3, 0⟩
/-- THM_DRISE, R400. -/
abbrev THM_DRISE (i : Nat) : Nat := 0x40030010 + 0x4 * i
abbrev THM_DRISE_RISE_CRIT (i : Nat) : RegField := ⟨THM_DRISE i, 31, 16⟩
abbrev THM_DRISE_RISE_WARN (i : Nat) : RegField := ⟨THM_DRISE i, 15, 0⟩
/-- THM_HRISE, R400. -/
abbrev THM_HRISE (i : Nat) : Nat := 0x40030020 + 0x4 * i
abbrev THM_HRISE_RISE_CRIT (i : Nat) : RegField := ⟨THM_HRISE i, 31, 16⟩
abbrev THM_HRISE_RISE_WARN (i : Nat) : RegField := ⟨THM_HRISE i, 15, 0⟩
/-- THM_HCRIT0, R403. -/
abbrev THM_HCRIT0 : Nat := 0x40030030
/-- THM_HCRIT1, R403. -/
abbrev THM_HCRIT1 : Nat := 0x40030034
abbrev THM_HCRIT1_CRIT : RegField := ⟨THM_HCRIT1, 15, 0⟩
/-- TS_LIM, R399. -/
abbrev TS_LIM (i : Nat) : Nat := 0x40030100 + 0x8 * i
abbrev TS_LIM_RESUME (i : Nat) : RegField := ⟨TS_LIM i, 31, 24⟩
abbrev TS_LIM_CRIT (i : Nat) : RegField := ⟨TS_LIM i, 23, 16⟩
abbrev TS_LIM_LIMIT (i : Nat) : RegField := ⟨TS_LIM i, 15, 8⟩
abbrev TS_LIM_WARN (i : Nat) : RegField := ⟨TS_LIM i, 7, 0⟩
/-- TS_READ, R397. -/
abbrev TS_READ (i : Nat) : Nat := 0x40030104 + 0x8 * i
abbrev TS_READ_FAST (i : Nat) : RegField := ⟨TS_READ i, 31, 31⟩
abbrev TS_READ_VALID (i : Nat) : RegField := ⟨TS_READ i, 30, 30⟩
abbrev TS_READ_LEVEL (i : Nat) : RegField := ⟨TS_READ i, 29, 28⟩
abbrev TS_READ_TEMP (i : Nat) : RegField := ⟨TS_READ i, 27, 16⟩
abbrev TS_READ_SLOPE (i : Nat) : RegField := ⟨TS_READ i, 15, 0⟩
/-- HT_READ, R397. -/
abbrev HT_READ (i : Nat) : Nat := 0x40030200 + 0x4 * i
abbrev HT_READ_FAST (i : Nat) : RegField := ⟨HT_READ i, 31, 31⟩
abbrev HT_READ_VALID (i : Nat) : RegField := ⟨HT_READ i, 30, 30⟩
abbrev HT_READ_LEVEL (i : Nat) : RegField := ⟨HT_READ i, 29, 28⟩
abbrev HT_READ_TEMP (i : Nat) : RegField := ⟨HT_READ i, 27, 16⟩
abbrev HT_READ_SLOPE (i : Nat) : RegField := ⟨HT_READ i, 15, 0⟩

/-! Unit CAL. -/
/-- CAL_CTRL, R406. -/
abbrev CAL_CTRL : Nat := 0x40040000
abbrev CAL_CTRL_AUTO : RegField := ⟨CAL_CTRL, 31, 31⟩
abbrev CAL_CTRL_CAL_DT : RegField := ⟨CAL_CTRL, 30, 24⟩
abbrev CAL_CTRL_CAL_LEAD : RegField := ⟨CAL_CTRL, 23, 16⟩
abbrev CAL_CTRL_CAL_SENS : RegField := ⟨CAL_CTRL, 15, 0⟩
/-- CAL_TIME, R408. -/
abbrev CAL_TIME : Nat := 0x40040004
abbrev CAL_TIME_CAL_TIMEOUT : RegField := ⟨CAL_TIME, 31, 16⟩
abbrev CAL_TIME_CAL_RETRY : RegField := ⟨CAL_TIME, 15, 0⟩
/-- CAL_CMD, R406. -/
abbrev CAL_CMD : Nat := 0x40040008
abbrev CAL_CMD_PORT : RegField := ⟨CAL_CMD, 29, 24⟩
abbrev CAL_CMD_OP : RegField := ⟨CAL_CMD, 1, 0⟩
/-- CAL_STATUS, R407. -/
abbrev CAL_STATUS : Nat := 0x4004000c
abbrev CAL_STATUS_RUNS : RegField := ⟨CAL_STATUS, 31, 24⟩
abbrev CAL_STATUS_RESULT : RegField := ⟨CAL_STATUS, 19, 16⟩
abbrev CAL_STATUS_PENDING : RegField := ⟨CAL_STATUS, 5, 5⟩
abbrev CAL_STATUS_CMD_IGNORED : RegField := ⟨CAL_STATUS, 4, 4⟩
abbrev CAL_STATUS_DISCARDED : RegField := ⟨CAL_STATUS, 3, 3⟩
abbrev CAL_STATUS_SKIPPED : RegField := ⟨CAL_STATUS, 2, 2⟩
abbrev CAL_STATUS_BUSY : RegField := ⟨CAL_STATUS, 1, 1⟩
abbrev CAL_STATUS_STALE : RegField := ⟨CAL_STATUS, 0, 0⟩
/-- CAL_COMMIT_PAGE, R409. -/
abbrev CAL_COMMIT_PAGE : Nat := 0x40040010
/-- CAL_COMMIT_LINE, R409. -/
abbrev CAL_COMMIT_LINE : Nat := 0x40040014
/-- CAL_D, R407. -/
abbrev CAL_D (i : Nat) : Nat := 0x40040040 + 0x4 * i
abbrev CAL_D_D (i : Nat) : RegField := ⟨CAL_D i, 15, 0⟩
/-- CAL_P_TAB0, R407. -/
abbrev CAL_P_TAB0 (i : Nat) : Nat := 0x40041000 + 0x20 * i
/-- CAL_P_TAB1, R407. -/
abbrev CAL_P_TAB1 (i : Nat) : Nat := 0x40041004 + 0x20 * i
/-- CAL_P_TAB2, R407. -/
abbrev CAL_P_TAB2 (i : Nat) : Nat := 0x40041008 + 0x20 * i
/-- CAL_P_TAB3, R407. -/
abbrev CAL_P_TAB3 (i : Nat) : Nat := 0x4004100c + 0x20 * i
/-- CAL_P_DESKEW, R410. -/
abbrev CAL_P_DESKEW (i : Nat) : Nat := 0x40041010 + 0x20 * i
abbrev CAL_P_DESKEW_DESKEWED (i : Nat) : RegField := ⟨CAL_P_DESKEW i, 31, 31⟩
abbrev CAL_P_DESKEW_TAPS (i : Nat) : RegField := ⟨CAL_P_DESKEW i, 24, 0⟩

/-! Unit NVES. -/
/-- NVES_STAT, R423. -/
abbrev NVES_STAT : Nat := 0x40050000
abbrev NVES_STAT_FULL : RegField := ⟨NVES_STAT, 31, 31⟩
abbrev NVES_STAT_SHUT_PENDING : RegField := ⟨NVES_STAT, 30, 30⟩
abbrev NVES_STAT_NEXT : RegField := ⟨NVES_STAT, 24, 16⟩
abbrev NVES_STAT_TOKENS : RegField := ⟨NVES_STAT, 6, 0⟩
/-- NVES_CNT, R422. -/
abbrev NVES_CNT : Nat := 0x40050004
abbrev NVES_CNT_SUPPRESSED : RegField := ⟨NVES_CNT, 31, 16⟩
abbrev NVES_CNT_SEQ : RegField := ⟨NVES_CNT, 15, 0⟩

/-! Unit EVT. -/
/-- EVT_MASK, R434. -/
abbrev EVT_MASK (i : Nat) : Nat := 0x40060000 + 0x4 * i
/-- EVT_Q0_STAT, R435. -/
abbrev EVT_Q0_STAT : Nat := 0x40060100
abbrev EVT_Q0_STAT_LOST : RegField := ⟨EVT_Q0_STAT, 31, 16⟩
abbrev EVT_Q0_STAT_COUNT : RegField := ⟨EVT_Q0_STAT, 6, 0⟩
/-- EVT_Q0_POP, R435. -/
abbrev EVT_Q0_POP : Nat := 0x40060108
/-- EVT_Q0_REC, R435. -/
abbrev EVT_Q0_REC (i : Nat) : Nat := 0x40060110 + 0x4 * i
/-- EVT_Q1_STAT, R435. -/
abbrev EVT_Q1_STAT : Nat := 0x40060140
abbrev EVT_Q1_STAT_LOST : RegField := ⟨EVT_Q1_STAT, 31, 16⟩
abbrev EVT_Q1_STAT_COUNT : RegField := ⟨EVT_Q1_STAT, 6, 0⟩
/-- EVT_Q1_POP, R435. -/
abbrev EVT_Q1_POP : Nat := 0x40060148
/-- EVT_Q1_REC, R435. -/
abbrev EVT_Q1_REC (i : Nat) : Nat := 0x40060150 + 0x4 * i
/-- EVT_RAISE, R436. -/
abbrev EVT_RAISE : Nat := 0x40060200
abbrev EVT_RAISE_EVENT : RegField := ⟨EVT_RAISE, 8, 0⟩
/-- EVT_RAISE_VAL, R436. -/
abbrev EVT_RAISE_VAL : Nat := 0x40060204

/-! Unit TIME. -/
/-- TIME_TBC_LO, R150. -/
abbrev TIME_TBC_LO : Nat := 0x40070000
/-- TIME_TBC_HI, R150. -/
abbrev TIME_TBC_HI : Nat := 0x40070004
/-- TIME_NT_LO, R151. -/
abbrev TIME_NT_LO : Nat := 0x40070008
/-- TIME_NT_HI, R151. -/
abbrev TIME_NT_HI : Nat := 0x4007000c
/-- TIME_NT_FRAC, R151. -/
abbrev TIME_NT_FRAC : Nat := 0x40070010
abbrev TIME_NT_FRAC_NT_FRAC : RegField := ⟨TIME_NT_FRAC, 15, 0⟩
/-- TIME_SNAP_TBC_LO, R151. -/
abbrev TIME_SNAP_TBC_LO : Nat := 0x40070014
/-- TIME_SNAP_TBC_HI, R151. -/
abbrev TIME_SNAP_TBC_HI : Nat := 0x40070018
/-- TIME_RATE, R152. -/
abbrev TIME_RATE : Nat := 0x4007001c
/-- TIME_OFFSET_LO, R153. -/
abbrev TIME_OFFSET_LO : Nat := 0x40070020
/-- TIME_OFFSET_HI, R153. -/
abbrev TIME_OFFSET_HI : Nat := 0x40070024
/-- TIME_OFFSET_FRAC, R153. -/
abbrev TIME_OFFSET_FRAC : Nat := 0x40070028
abbrev TIME_OFFSET_FRAC_OFS_FRAC : RegField := ⟨TIME_OFFSET_FRAC, 15, 0⟩
/-- TIME_ADJ, R153. -/
abbrev TIME_ADJ : Nat := 0x4007002c
/-- TIME_JUMP_MAX, R153. -/
abbrev TIME_JUMP_MAX : Nat := 0x40070030
/-- TIME_CTRL, R155. -/
abbrev TIME_CTRL : Nat := 0x40070034
abbrev TIME_CTRL_STEP_ALLOW : RegField := ⟨TIME_CTRL, 31, 31⟩
abbrev TIME_CTRL_SYNC_TO : RegField := ⟨TIME_CTRL, 23, 8⟩
abbrev TIME_CTRL_SLAVE_PORT : RegField := ⟨TIME_CTRL, 2, 0⟩
/-- TIME_STAT, R154. -/
abbrev TIME_STAT : Nat := 0x40070038
abbrev TIME_STAT_TSTEP : RegField := ⟨TIME_STAT, 31, 24⟩
abbrev TIME_STAT_HOLD_CAUSE : RegField := ⟨TIME_STAT, 9, 8⟩
abbrev TIME_STAT_TS_OVF : RegField := ⟨TIME_STAT, 5, 5⟩
abbrev TIME_STAT_HOLD_WR : RegField := ⟨TIME_STAT, 4, 4⟩
abbrev TIME_STAT_RATE_CLAMPED : RegField := ⟨TIME_STAT, 3, 3⟩
abbrev TIME_STAT_JUMP_REFUSED : RegField := ⟨TIME_STAT, 2, 2⟩
abbrev TIME_STAT_HOLDOVER : RegField := ⟨TIME_STAT, 0, 0⟩
/-- TIME_LAST_STEP, R154. -/
abbrev TIME_LAST_STEP : Nat := 0x4007003c
/-- TIME_MASTER_ID_LO, R155. -/
abbrev TIME_MASTER_ID_LO : Nat := 0x40070040
/-- TIME_MASTER_ID_HI, R155. -/
abbrev TIME_MASTER_ID_HI : Nat := 0x40070044
/-- TIME_ASYM, R157. -/
abbrev TIME_ASYM (i : Nat) : Nat := 0x40070050 + 0x4 * i
abbrev TIME_ASYM_PORT_ASYM_TX (i : Nat) : RegField := ⟨TIME_ASYM i, 31, 16⟩
abbrev TIME_ASYM_PORT_ASYM_RX (i : Nat) : RegField := ⟨TIME_ASYM i, 15, 0⟩
/-- TIME_TS_INFO, R157. -/
abbrev TIME_TS_INFO : Nat := 0x40070060
abbrev TIME_TS_INFO_VALID : RegField := ⟨TIME_TS_INFO, 31, 31⟩
abbrev TIME_TS_INFO_PORT : RegField := ⟨TIME_TS_INFO, 28, 27⟩
abbrev TIME_TS_INFO_DIR : RegField := ⟨TIME_TS_INFO, 26, 26⟩
abbrev TIME_TS_INFO_MSG : RegField := ⟨TIME_TS_INFO, 23, 16⟩
abbrev TIME_TS_INFO_SEQ : RegField := ⟨TIME_TS_INFO, 15, 0⟩
/-- TIME_TS_LO, R157. -/
abbrev TIME_TS_LO : Nat := 0x40070064
/-- TIME_TS_HI, R157. -/
abbrev TIME_TS_HI : Nat := 0x40070068
/-- TIME_TS_POP, R157. -/
abbrev TIME_TS_POP : Nat := 0x4007006c
/-- TIME_CMP_CTRL, R156. -/
abbrev TIME_CMP_CTRL (i : Nat) : Nat := 0x40070080 + 0x8 * i
abbrev TIME_CMP_CTRL_EN (i : Nat) : RegField := ⟨TIME_CMP_CTRL i, 31, 31⟩
abbrev TIME_CMP_CTRL_LATE (i : Nat) : RegField := ⟨TIME_CMP_CTRL i, 3, 3⟩
abbrev TIME_CMP_CTRL_FIRED (i : Nat) : RegField := ⟨TIME_CMP_CTRL i, 2, 2⟩
abbrev TIME_CMP_CTRL_BASE (i : Nat) : RegField := ⟨TIME_CMP_CTRL i, 0, 0⟩
/-- TIME_CMP_VAL, R156. -/
abbrev TIME_CMP_VAL (i : Nat) : Nat := 0x40070084 + 0x8 * i

/-! Unit POS. -/
/-- POS_CTRL, R168. -/
abbrev POS_CTRL : Nat := 0x40080000
abbrev POS_CTRL_HORIZON : RegField := ⟨POS_CTRL, 31, 16⟩
abbrev POS_CTRL_RELAY_EN : RegField := ⟨POS_CTRL, 5, 0⟩
/-- AX_CFG, R144. -/
abbrev AX_CFG (i : Nat) : Nat := 0x40080400 + 0x40 * i
abbrev AX_CFG_EN (i : Nat) : RegField := ⟨AX_CFG i, 31, 31⟩
abbrev AX_CFG_SRC (i : Nat) : RegField := ⟨AX_CFG i, 19, 16⟩
abbrev AX_CFG_EST (i : Nat) : RegField := ⟨AX_CFG i, 9, 8⟩
abbrev AX_CFG_LS_N (i : Nat) : RegField := ⟨AX_CFG i, 5, 4⟩
/-- AX_GAIN, R145. -/
abbrev AX_GAIN (i : Nat) : Nat := 0x40080404 + 0x40 * i
abbrev AX_GAIN_ALPHA (i : Nat) : RegField := ⟨AX_GAIN i, 31, 16⟩
abbrev AX_GAIN_BETA (i : Nat) : RegField := ⟨AX_GAIN i, 15, 0⟩
/-- AX_PITCH, R147. -/
abbrev AX_PITCH (i : Nat) : Nat := 0x40080408 + 0x40 * i
/-- AX_VEL_LO, R145. -/
abbrev AX_VEL_LO (i : Nat) : Nat := 0x4008040c + 0x40 * i
/-- AX_VEL_HI, R145. -/
abbrev AX_VEL_HI (i : Nat) : Nat := 0x40080410 + 0x40 * i
/-- AX_AP_LO, R145. -/
abbrev AX_AP_LO (i : Nat) : Nat := 0x40080414 + 0x40 * i
/-- AX_AP_HI, R145. -/
abbrev AX_AP_HI (i : Nat) : Nat := 0x40080418 + 0x40 * i
/-- AX_AT_LO, R145. -/
abbrev AX_AT_LO (i : Nat) : Nat := 0x4008041c + 0x40 * i
/-- AX_AT_HI, R145. -/
abbrev AX_AT_HI (i : Nat) : Nat := 0x40080420 + 0x40 * i
/-- AX_SPEED, R147. -/
abbrev AX_SPEED (i : Nat) : Nat := 0x40080424 + 0x40 * i
/-- AX_SPEED_MMS, R147. -/
abbrev AX_SPEED_MMS (i : Nat) : Nat := 0x40080428 + 0x40 * i
/-- AX_DIR_STALL, R144. -/
abbrev AX_DIR_STALL (i : Nat) : Nat := 0x4008042c + 0x40 * i
abbrev AX_DIR_STALL_DIR (i : Nat) : RegField := ⟨AX_DIR_STALL i, 1, 1⟩
abbrev AX_DIR_STALL_STALL (i : Nat) : RegField := ⟨AX_DIR_STALL i, 0, 0⟩
/-- PTRG_CFG, R148. -/
abbrev PTRG_CFG (i : Nat) : Nat := 0x40080800 + 0x20 * i
abbrev PTRG_CFG_EN (i : Nat) : RegField := ⟨PTRG_CFG i, 31, 31⟩
abbrev PTRG_CFG_POL (i : Nat) : RegField := ⟨PTRG_CFG i, 30, 30⟩
abbrev PTRG_CFG_AX (i : Nat) : RegField := ⟨PTRG_CFG i, 29, 28⟩
abbrev PTRG_CFG_WIDTH (i : Nat) : RegField := ⟨PTRG_CFG i, 27, 16⟩
abbrev PTRG_CFG_ADV (i : Nat) : RegField := ⟨PTRG_CFG i, 15, 0⟩
/-- PTRG_START_LO, R148. -/
abbrev PTRG_START_LO (i : Nat) : Nat := 0x40080804 + 0x20 * i
/-- PTRG_START_HI, R148. -/
abbrev PTRG_START_HI (i : Nat) : Nat := 0x40080808 + 0x20 * i
/-- PTRG_PITCH, R148. -/
abbrev PTRG_PITCH (i : Nat) : Nat := 0x4008080c + 0x20 * i
/-- PTRG_COUNT, R148. -/
abbrev PTRG_COUNT (i : Nat) : Nat := 0x40080810 + 0x20 * i
/-- PTRG_NEXT, R149. -/
abbrev PTRG_NEXT (i : Nat) : Nat := 0x40080814 + 0x20 * i
/-- PTRG_SKIP, R149. -/
abbrev PTRG_SKIP (i : Nat) : Nat := 0x40080818 + 0x20 * i
abbrev PTRG_SKIP_SKIP_CNT (i : Nat) : RegField := ⟨PTRG_SKIP i, 15, 0⟩
/-- CH_CFG, R138. -/
abbrev CH_CFG (i : Nat) : Nat := 0x40081000 + 0x200 * i
abbrev CH_CFG_INDEX_TOL (i : Nat) : RegField := ⟨CH_CFG i, 31, 20⟩
abbrev CH_CFG_MIN_EDGE (i : Nat) : RegField := ⟨CH_CFG i, 19, 10⟩
abbrev CH_CFG_LATCH_LOG2 (i : Nat) : RegField := ⟨CH_CFG i, 9, 6⟩
abbrev CH_CFG_DIR_INV (i : Nat) : RegField := ⟨CH_CFG i, 5, 5⟩
abbrev CH_CFG_Z_POL (i : Nat) : RegField := ⟨CH_CFG i, 4, 4⟩
abbrev CH_CFG_ARM (i : Nat) : RegField := ⟨CH_CFG i, 3, 3⟩
abbrev CH_CFG_IDX_MODE (i : Nat) : RegField := ⟨CH_CFG i, 2, 1⟩
abbrev CH_CFG_EN (i : Nat) : RegField := ⟨CH_CFG i, 0, 0⟩
/-- CH_POS_LO, R135. -/
abbrev CH_POS_LO (i : Nat) : Nat := 0x40081004 + 0x200 * i
/-- CH_POS_HI, R135. -/
abbrev CH_POS_HI (i : Nat) : Nat := 0x40081008 + 0x200 * i
abbrev CH_POS_HI_POS_SX (i : Nat) : RegField := ⟨CH_POS_HI i, 31, 16⟩
abbrev CH_POS_HI_POS_H (i : Nat) : RegField := ⟨CH_POS_HI i, 15, 0⟩
/-- CH_REV_POS, R135. -/
abbrev CH_REV_POS (i : Nat) : Nat := 0x4008100c + 0x200 * i
/-- CH_INDEX_EXPECT, R142. -/
abbrev CH_INDEX_EXPECT (i : Nat) : Nat := 0x40081010 + 0x200 * i
/-- CH_IDX_SEEN, R142. -/
abbrev CH_IDX_SEEN (i : Nat) : Nat := 0x40081014 + 0x200 * i
/-- CH_STAT, R168. -/
abbrev CH_STAT (i : Nat) : Nat := 0x40081018 + 0x200 * i
abbrev CH_STAT_HIST_VALID (i : Nat) : RegField := ⟨CH_STAT i, 20, 16⟩
abbrev CH_STAT_STEP_LOST (i : Nat) : RegField := ⟨CH_STAT i, 8, 8⟩
abbrev CH_STAT_LATE (i : Nat) : RegField := ⟨CH_STAT i, 7, 7⟩
abbrev CH_STAT_GAP (i : Nat) : RegField := ⟨CH_STAT i, 6, 6⟩
abbrev CH_STAT_SSI_ERR (i : Nat) : RegField := ⟨CH_STAT i, 5, 5⟩
abbrev CH_STAT_ORDER (i : Nat) : RegField := ⟨CH_STAT i, 4, 4⟩
abbrev CH_STAT_DIR (i : Nat) : RegField := ⟨CH_STAT i, 3, 3⟩
abbrev CH_STAT_ARMED (i : Nat) : RegField := ⟨CH_STAT i, 2, 2⟩
abbrev CH_STAT_IDX_MISMATCH (i : Nat) : RegField := ⟨CH_STAT i, 1, 1⟩
abbrev CH_STAT_ILLEGAL (i : Nat) : RegField := ⟨CH_STAT i, 0, 0⟩
/-- CH_ERR_CNT, R168. -/
abbrev CH_ERR_CNT (i : Nat) : Nat := 0x4008101c + 0x200 * i
abbrev CH_ERR_CNT_CNT_B (i : Nat) : RegField := ⟨CH_ERR_CNT i, 31, 16⟩
abbrev CH_ERR_CNT_CNT_A (i : Nat) : RegField := ⟨CH_ERR_CNT i, 15, 0⟩
/-- CH_AUX, R168. -/
abbrev CH_AUX (i : Nat) : Nat := 0x40081020 + 0x200 * i
/-- CH_HIST_SNAP, R168. -/
abbrev CH_HIST_SNAP (i : Nat) : Nat := 0x40081024 + 0x200 * i
/-- CH_HIST, R168. -/
abbrev CH_HIST (i : Nat) : Nat := 0x40081100 + 0x200 * i

/-! Unit GOV. -/
/-- GOV_CTRL, R371. -/
abbrev GOV_CTRL : Nat := 0x40090000
abbrev GOV_CTRL_EN : RegField := ⟨GOV_CTRL, 31, 31⟩
abbrev GOV_CTRL_FORCE_STOP : RegField := ⟨GOV_CTRL, 30, 30⟩
abbrev GOV_CTRL_NC_STOP : RegField := ⟨GOV_CTRL, 29, 29⟩
abbrev GOV_CTRL_AX : RegField := ⟨GOV_CTRL, 13, 12⟩
abbrev GOV_CTRL_SQ_MASK : RegField := ⟨GOV_CTRL, 11, 0⟩
/-- GOV_DRIVE, R370. -/
abbrev GOV_DRIVE : Nat := 0x40090004
abbrev GOV_DRIVE_DECEL : RegField := ⟨GOV_DRIVE, 31, 16⟩
abbrev GOV_DRIVE_ACCEL : RegField := ⟨GOV_DRIVE, 15, 0⟩
/-- GOV_LAT, R370. -/
abbrev GOV_LAT : Nat := 0x40090008
abbrev GOV_LAT_LAT : RegField := ⟨GOV_LAT, 31, 16⟩
abbrev GOV_LAT_MARGIN : RegField := ⟨GOV_LAT, 15, 0⟩
/-- GOV_LPITCH, R387. -/
abbrev GOV_LPITCH : Nat := 0x4009000c
abbrev GOV_LPITCH_LPITCH : RegField := ⟨GOV_LPITCH, 23, 0⟩
/-- GOV_SPDMAX, R371. -/
abbrev GOV_SPDMAX : Nat := 0x40090010
/-- GOV_SLOW, R372. -/
abbrev GOV_SLOW : Nat := 0x40090014
abbrev GOV_SLOW_SLOW_BAND : RegField := ⟨GOV_SLOW, 31, 16⟩
abbrev GOV_SLOW_SLOW_FRAC : RegField := ⟨GOV_SLOW, 15, 8⟩
abbrev GOV_SLOW_HOLD : RegField := ⟨GOV_SLOW, 7, 0⟩
/-- GOV_PWM, R374. -/
abbrev GOV_PWM : Nat := 0x40090018
abbrev GOV_PWM_EN : RegField := ⟨GOV_PWM, 31, 31⟩
abbrev GOV_PWM_POL : RegField := ⟨GOV_PWM, 30, 30⟩
abbrev GOV_PWM_FREQ : RegField := ⟨GOV_PWM, 23, 16⟩
abbrev GOV_PWM_FULL : RegField := ⟨GOV_PWM, 15, 0⟩
/-- GOV_COMPLY, R377. -/
abbrev GOV_COMPLY : Nat := 0x4009001c
abbrev GOV_COMPLY_TOL : RegField := ⟨GOV_COMPLY, 31, 16⟩
abbrev GOV_COMPLY_TIME : RegField := ⟨GOV_COMPLY, 15, 0⟩
/-- GOV_REQ, R371. -/
abbrev GOV_REQ : Nat := 0x40090020
/-- GOV_SPEED, R372. -/
abbrev GOV_SPEED : Nat := 0x40090024
/-- GOV_STAT, R375. -/
abbrev GOV_STAT : Nat := 0x40090028
abbrev GOV_STAT_STOP : RegField := ⟨GOV_STAT, 31, 31⟩
abbrev GOV_STAT_SLOW : RegField := ⟨GOV_STAT, 30, 30⟩
abbrev GOV_STAT_NONCOMPLIANT : RegField := ⟨GOV_STAT, 29, 29⟩
abbrev GOV_STAT_CAUSE : RegField := ⟨GOV_STAT, 23, 16⟩
abbrev GOV_STAT_LIMIT_SQ : RegField := ⟨GOV_STAT, 3, 0⟩
/-- GOV_LAG, R377. -/
abbrev GOV_LAG : Nat := 0x4009002c
abbrev GOV_LAG_EXCESS : RegField := ⟨GOV_LAG, 31, 16⟩
abbrev GOV_LAG_LAG : RegField := ⟨GOV_LAG, 15, 0⟩
/-- GOV_LINE_HZ, R372. -/
abbrev GOV_LINE_HZ : Nat := 0x40090030
abbrev GOV_LINE_HZ_LINE_HZ : RegField := ⟨GOV_LINE_HZ, 17, 0⟩
/-- GOV_RW, R368. -/
abbrev GOV_RW (i : Nat) : Nat := 0x40090040 + 0x4 * i
/-- GOV_CR, R369. -/
abbrev GOV_CR (i : Nat) : Nat := 0x40090080 + 0x4 * i
abbrev GOV_CR_CR (i : Nat) : RegField := ⟨GOV_CR i, 15, 0⟩

/-! Unit FSCH. -/
/-- FSCH_TIMING, R176. -/
abbrev FSCH_TIMING : Nat := 0x400a0000
abbrev FSCH_TIMING_FIRE_LEAD : RegField := ⟨FSCH_TIMING, 28, 16⟩
abbrev FSCH_TIMING_CUTOFF : RegField := ⟨FSCH_TIMING, 9, 0⟩
/-- FSCH_STAT, R188. -/
abbrev FSCH_STAT : Nat := 0x400a0004
abbrev FSCH_STAT_INHIBIT : RegField := ⟨FSCH_STAT, 31, 31⟩
abbrev FSCH_STAT_CRIT_ALL : RegField := ⟨FSCH_STAT, 30, 30⟩
abbrev FSCH_STAT_PLANS : RegField := ⟨FSCH_STAT, 20, 16⟩
abbrev FSCH_STAT_INH_SEEN : RegField := ⟨FSCH_STAT, 5, 5⟩
abbrev FSCH_STAT_MISSED : RegField := ⟨FSCH_STAT, 4, 4⟩
abbrev FSCH_STAT_NOPLAN : RegField := ⟨FSCH_STAT, 3, 3⟩
abbrev FSCH_STAT_PLAN_REFUSED : RegField := ⟨FSCH_STAT, 2, 2⟩
abbrev FSCH_STAT_ABORT_REFUSED : RegField := ⟨FSCH_STAT, 1, 1⟩
/-- FSCH_INH_CNT, R188. -/
abbrev FSCH_INH_CNT : Nat := 0x400a0008
abbrev FSCH_INH_CNT_INH_CNT : RegField := ⟨FSCH_INH_CNT, 15, 0⟩
/-- FSCH_ABORT, R196. -/
abbrev FSCH_ABORT : Nat := 0x400a000c
/-- FSCH_GRP, R182. -/
abbrev FSCH_GRP (i : Nat) : Nat := 0x400a0020 + 0x4 * i
abbrev FSCH_GRP_DELAYED (i : Nat) : RegField := ⟨FSCH_GRP i, 31, 16⟩
abbrev FSCH_GRP_MAX_DELAY (i : Nat) : RegField := ⟨FSCH_GRP i, 15, 8⟩
abbrev FSCH_GRP_GUARD (i : Nat) : RegField := ⟨FSCH_GRP i, 7, 0⟩
/-- FSCH_PLAN_ID, R170. -/
abbrev FSCH_PLAN_ID : Nat := 0x400a0040
/-- FSCH_PLAN_ORIGIN_LO, R170. -/
abbrev FSCH_PLAN_ORIGIN_LO : Nat := 0x400a0044
/-- FSCH_PLAN_ORIGIN_HI, R170. -/
abbrev FSCH_PLAN_ORIGIN_HI : Nat := 0x400a0048
/-- FSCH_PLAN_PITCH, R170. -/
abbrev FSCH_PLAN_PITCH : Nat := 0x400a004c
/-- FSCH_PLAN_CMD, R170. -/
abbrev FSCH_PLAN_CMD : Nat := 0x400a0050
abbrev FSCH_PLAN_CMD_INDEX : RegField := ⟨FSCH_PLAN_CMD, 19, 16⟩
abbrev FSCH_PLAN_CMD_OP : RegField := ⟨FSCH_PLAN_CMD, 1, 0⟩
/-- FSCH_PLAN_RES, R170. -/
abbrev FSCH_PLAN_RES : Nat := 0x400a0054
abbrev FSCH_PLAN_RES_VALID : RegField := ⟨FSCH_PLAN_RES, 31, 16⟩
abbrev FSCH_PLAN_RES_RESULT : RegField := ⟨FSCH_PLAN_RES, 2, 0⟩
/-- FSCH_RPT_BASE_LO, R53. -/
abbrev FSCH_RPT_BASE_LO : Nat := 0x400a0f00
abbrev FSCH_RPT_BASE_LO_BASE_L : RegField := ⟨FSCH_RPT_BASE_LO, 31, 9⟩
/-- FSCH_RPT_BASE_HI, R53. -/
abbrev FSCH_RPT_BASE_HI : Nat := 0x400a0f04
abbrev FSCH_RPT_BASE_HI_BASE_H : RegField := ⟨FSCH_RPT_BASE_HI, 7, 0⟩
/-- FSCH_RPT_CTRL, R53. -/
abbrev FSCH_RPT_CTRL : Nat := 0x400a0f08
abbrev FSCH_RPT_CTRL_EN : RegField := ⟨FSCH_RPT_CTRL, 31, 31⟩
abbrev FSCH_RPT_CTRL_PENDING : RegField := ⟨FSCH_RPT_CTRL, 18, 16⟩
abbrev FSCH_RPT_CTRL_LOST : RegField := ⟨FSCH_RPT_CTRL, 9, 9⟩
abbrev FSCH_RPT_CTRL_BUS_ERR : RegField := ⟨FSCH_RPT_CTRL, 8, 8⟩
abbrev FSCH_RPT_CTRL_SIZE : RegField := ⟨FSCH_RPT_CTRL, 2, 0⟩
/-- FSCH_RPT_IDX, R53. -/
abbrev FSCH_RPT_IDX : Nat := 0x400a0f0c
abbrev FSCH_RPT_IDX_WIDX : RegField := ⟨FSCH_RPT_IDX, 31, 16⟩
abbrev FSCH_RPT_IDX_RIDX : RegField := ⟨FSCH_RPT_IDX, 15, 0⟩
/-- FSCH_P_CFG, R198. -/
abbrev FSCH_P_CFG (i : Nat) : Nat := 0x400a1000 + 0x40 * i
abbrev FSCH_P_CFG_GROUP (i : Nat) : RegField := ⟨FSCH_P_CFG i, 6, 4⟩
abbrev FSCH_P_CFG_AX (i : Nat) : RegField := ⟨FSCH_P_CFG i, 1, 0⟩
/-- FSCH_P_OFFSET_LO, R172. -/
abbrev FSCH_P_OFFSET_LO (i : Nat) : Nat := 0x400a1004 + 0x40 * i
/-- FSCH_P_OFFSET_HI, R172. -/
abbrev FSCH_P_OFFSET_HI (i : Nat) : Nat := 0x400a1008 + 0x40 * i
abbrev FSCH_P_OFFSET_HI_OFS_SX (i : Nat) : RegField := ⟨FSCH_P_OFFSET_HI i, 31, 16⟩
abbrev FSCH_P_OFFSET_HI_OFS_H (i : Nat) : RegField := ⟨FSCH_P_OFFSET_HI i, 15, 0⟩
/-- FSCH_P_ADV, R173. -/
abbrev FSCH_P_ADV (i : Nat) : Nat := 0x400a100c + 0x40 * i
abbrev FSCH_P_ADV_STROBE_ADV (i : Nat) : RegField := ⟨FSCH_P_ADV i, 19, 0⟩
/-- FSCH_P_MINPER, R181. -/
abbrev FSCH_P_MINPER (i : Nat) : Nat := 0x400a1010 + 0x40 * i
/-- FSCH_P_STAT, R180. -/
abbrev FSCH_P_STAT (i : Nat) : Nat := 0x400a1014 + 0x40 * i
abbrev FSCH_P_STAT_SKIPPED (i : Nat) : RegField := ⟨FSCH_P_STAT i, 18, 18⟩
abbrev FSCH_P_STAT_MISSED (i : Nat) : RegField := ⟨FSCH_P_STAT i, 17, 17⟩
abbrev FSCH_P_STAT_LOAD_SHORT (i : Nat) : RegField := ⟨FSCH_P_STAT i, 16, 16⟩
abbrev FSCH_P_STAT_BRAKE (i : Nat) : RegField := ⟨FSCH_P_STAT i, 12, 12⟩
abbrev FSCH_P_STAT_THERMAL (i : Nat) : RegField := ⟨FSCH_P_STAT i, 11, 11⟩
abbrev FSCH_P_STAT_CRIT (i : Nat) : RegField := ⟨FSCH_P_STAT i, 10, 10⟩
abbrev FSCH_P_STAT_INH (i : Nat) : RegField := ⟨FSCH_P_STAT i, 9, 9⟩
abbrev FSCH_P_STAT_STALE (i : Nat) : RegField := ⟨FSCH_P_STAT i, 8, 8⟩
abbrev FSCH_P_STAT_STATE (i : Nat) : RegField := ⟨FSCH_P_STAT i, 3, 0⟩
/-- FSCH_P_PAGE, R175. -/
abbrev FSCH_P_PAGE (i : Nat) : Nat := 0x400a1018 + 0x40 * i
/-- FSCH_P_LINE, R175. -/
abbrev FSCH_P_LINE (i : Nat) : Nat := 0x400a101c + 0x40 * i
/-- FSCH_P_TG_LO, R182. -/
abbrev FSCH_P_TG_LO (i : Nat) : Nat := 0x400a1020 + 0x40 * i
/-- FSCH_P_TG_HI, R182. -/
abbrev FSCH_P_TG_HI (i : Nat) : Nat := 0x400a1024 + 0x40 * i
/-- FSCH_P_CNT, R181. -/
abbrev FSCH_P_CNT (i : Nat) : Nat := 0x400a1028 + 0x40 * i
abbrev FSCH_P_CNT_SKIP_CNT (i : Nat) : RegField := ⟨FSCH_P_CNT i, 31, 16⟩
abbrev FSCH_P_CNT_MISS_CNT (i : Nat) : RegField := ⟨FSCH_P_CNT i, 15, 0⟩

/-! Unit HP. -/
/-- HP_CTRL, R205. -/
abbrev HP_CTRL (n : Nat) : Nat := 0x41000000 + 0x10000 * n
abbrev HP_CTRL_ST_FLT (n : Nat) : RegField := ⟨HP_CTRL n, 1, 1⟩
abbrev HP_CTRL_EN (n : Nat) : RegField := ⟨HP_CTRL n, 0, 0⟩
/-- HP_STAT, R205. -/
abbrev HP_STAT (n : Nat) : Nat := 0x41000004 + 0x10000 * n
abbrev HP_STAT_ENABLE_REFUSED (n : Nat) : RegField := ⟨HP_STAT n, 19, 19⟩
abbrev HP_STAT_PRS_CHG (n : Nat) : RegField := ⟨HP_STAT n, 18, 18⟩
abbrev HP_STAT_FLT_SEEN (n : Nat) : RegField := ⟨HP_STAT n, 17, 17⟩
abbrev HP_STAT_ST_ERR (n : Nat) : RegField := ⟨HP_STAT n, 16, 16⟩
abbrev HP_STAT_ST_LOST (n : Nat) : RegField := ⟨HP_STAT n, 8, 8⟩
abbrev HP_STAT_FAULT (n : Nat) : RegField := ⟨HP_STAT n, 7, 7⟩
abbrev HP_STAT_PERMIT (n : Nat) : RegField := ⟨HP_STAT n, 6, 6⟩
abbrev HP_STAT_PRESENT (n : Nat) : RegField := ⟨HP_STAT n, 5, 5⟩
abbrev HP_STAT_STATE (n : Nat) : RegField := ⟨HP_STAT n, 2, 0⟩
/-- HP_GEOM, R204. -/
abbrev HP_GEOM (n : Nat) : Nat := 0x41000010 + 0x10000 * n
abbrev HP_GEOM_MAP (n : Nat) : RegField := ⟨HP_GEOM n, 27, 24⟩
abbrev HP_GEOM_PAIRS (n : Nat) : RegField := ⟨HP_GEOM n, 21, 20⟩
abbrev HP_GEOM_BPN (n : Nat) : RegField := ⟨HP_GEOM n, 17, 16⟩
abbrev HP_GEOM_NOZZLES (n : Nat) : RegField := ⟨HP_GEOM n, 12, 0⟩
/-- HP_PROFILE, R204. -/
abbrev HP_PROFILE (n : Nat) : Nat := 0x41000014 + 0x10000 * n
abbrev HP_PROFILE_WSEL (n : Nat) : RegField := ⟨HP_PROFILE n, 31, 24⟩
abbrev HP_PROFILE_WSEL_W (n : Nat) : RegField := ⟨HP_PROFILE n, 23, 20⟩
abbrev HP_PROFILE_MAXRATE (n : Nat) : RegField := ⟨HP_PROFILE n, 17, 0⟩
/-- HP_LINK, R204. -/
abbrev HP_LINK (n : Nat) : Nat := 0x41000018 + 0x10000 * n
abbrev HP_LINK_ST_DIV (n : Nat) : RegField := ⟨HP_LINK n, 31, 24⟩
abbrev HP_LINK_ST_TO (n : Nat) : RegField := ⟨HP_LINK n, 23, 20⟩
abbrev HP_LINK_ST_FMT (n : Nat) : RegField := ⟨HP_LINK n, 16, 16⟩
abbrev HP_LINK_CKMODE (n : Nat) : RegField := ⟨HP_LINK n, 12, 12⟩
abbrev HP_LINK_BITPER (n : Nat) : RegField := ⟨HP_LINK n, 8, 0⟩
/-- HP_TIMING, R204. -/
abbrev HP_TIMING (n : Nat) : Nat := 0x4100001c + 0x10000 * n
abbrev HP_TIMING_SW (n : Nat) : RegField := ⟨HP_TIMING n, 31, 16⟩
abbrev HP_TIMING_LSU (n : Nat) : RegField := ⟨HP_TIMING n, 15, 0⟩
/-- HP_STROBE, R204. -/
abbrev HP_STROBE (n : Nat) : Nat := 0x41000020 + 0x10000 * n
abbrev HP_STROBE_SW_MAX (n : Nat) : RegField := ⟨HP_STROBE n, 31, 16⟩
abbrev HP_STROBE_SW_MIN (n : Nat) : RegField := ⟨HP_STROBE n, 15, 0⟩
/-- HP_TLIM, R204. -/
abbrev HP_TLIM (n : Nat) : Nat := 0x41000024 + 0x10000 * n
abbrev HP_TLIM_RESUME (n : Nat) : RegField := ⟨HP_TLIM n, 31, 24⟩
abbrev HP_TLIM_CRIT (n : Nat) : RegField := ⟨HP_TLIM n, 23, 16⟩
abbrev HP_TLIM_LIMIT (n : Nat) : RegField := ⟨HP_TLIM n, 15, 8⟩
abbrev HP_TLIM_WARN (n : Nat) : RegField := ⟨HP_TLIM n, 7, 0⟩
/-- HP_ENERGY, R206. -/
abbrev HP_ENERGY (n i : Nat) : Nat := 0x41000040 + 0x10000 * n + 0x4 * i
abbrev HP_ENERGY_E_HI (n i : Nat) : RegField := ⟨HP_ENERGY n i, 31, 16⟩
abbrev HP_ENERGY_E_LO (n i : Nat) : RegField := ⟨HP_ENERGY n i, 15, 0⟩
/-- HP_RANK_REQ, R215. -/
abbrev HP_RANK_REQ (n : Nat) : Nat := 0x41000060 + 0x10000 * n
abbrev HP_RANK_REQ_SPEED_MIN (n : Nat) : RegField := ⟨HP_RANK_REQ n, 19, 16⟩
abbrev HP_RANK_REQ_VOL_MASK (n : Nat) : RegField := ⟨HP_RANK_REQ n, 15, 0⟩
/-- HP_HIR_STAT, R214. -/
abbrev HP_HIR_STAT (n : Nat) : Nat := 0x41000064 + 0x10000 * n
abbrev HP_HIR_STAT_FRESH (n : Nat) : RegField := ⟨HP_HIR_STAT n, 16, 16⟩
abbrev HP_HIR_STAT_CHECK (n : Nat) : RegField := ⟨HP_HIR_STAT n, 15, 12⟩
abbrev HP_HIR_STAT_RANK_OK (n : Nat) : RegField := ⟨HP_HIR_STAT n, 8, 8⟩
abbrev HP_HIR_STAT_CAL (n : Nat) : RegField := ⟨HP_HIR_STAT n, 5, 4⟩
abbrev HP_HIR_STAT_VERDICT (n : Nat) : RegField := ⟨HP_HIR_STAT n, 3, 0⟩
/-- HP_I2C_CTRL, R219. -/
abbrev HP_I2C_CTRL (n : Nat) : Nat := 0x41000070 + 0x10000 * n
abbrev HP_I2C_CTRL_ADDR (n : Nat) : RegField := ⟨HP_I2C_CTRL n, 30, 24⟩
abbrev HP_I2C_CTRL_SPEED (n : Nat) : RegField := ⟨HP_I2C_CTRL n, 17, 16⟩
abbrev HP_I2C_CTRL_PRS_DEB (n : Nat) : RegField := ⟨HP_I2C_CTRL n, 15, 8⟩
abbrev HP_I2C_CTRL_WR_TO (n : Nat) : RegField := ⟨HP_I2C_CTRL n, 7, 0⟩
/-- HP_I2C_CMD, R214. -/
abbrev HP_I2C_CMD (n : Nat) : Nat := 0x41000074 + 0x10000 * n
abbrev HP_I2C_CMD_OP (n : Nat) : RegField := ⟨HP_I2C_CMD n, 1, 0⟩
/-- HP_I2C_STAT, R219. -/
abbrev HP_I2C_STAT (n : Nat) : Nat := 0x41000078 + 0x10000 * n
abbrev HP_I2C_STAT_BUSY (n : Nat) : RegField := ⟨HP_I2C_STAT n, 31, 31⟩
abbrev HP_I2C_STAT_RESULT (n : Nat) : RegField := ⟨HP_I2C_STAT n, 3, 0⟩
/-- HP_SVC_CMD, R221. -/
abbrev HP_SVC_CMD (n : Nat) : Nat := 0x41000080 + 0x10000 * n
abbrev HP_SVC_CMD_NOW (n : Nat) : RegField := ⟨HP_SVC_CMD n, 31, 31⟩
abbrev HP_SVC_CMD_OP (n : Nat) : RegField := ⟨HP_SVC_CMD n, 1, 0⟩
/-- HP_SVC_PAGE, R221. -/
abbrev HP_SVC_PAGE (n : Nat) : Nat := 0x41000084 + 0x10000 * n
/-- HP_SVC_LINE, R221. -/
abbrev HP_SVC_LINE (n : Nat) : Nat := 0x41000088 + 0x10000 * n
/-- HP_SVC_STAT, R221. -/
abbrev HP_SVC_STAT (n : Nat) : Nat := 0x4100008c + 0x10000 * n
abbrev HP_SVC_STAT_PENDING (n : Nat) : RegField := ⟨HP_SVC_STAT n, 31, 31⟩
abbrev HP_SVC_STAT_RETIRED (n : Nat) : RegField := ⟨HP_SVC_STAT n, 30, 30⟩
abbrev HP_SVC_STAT_RESULT (n : Nat) : RegField := ⟨HP_SVC_STAT n, 3, 0⟩
/-- HP_ST_LAST, R208. -/
abbrev HP_ST_LAST (n : Nat) : Nat := 0x41000090 + 0x10000 * n
/-- HP_ST_CNT, R208. -/
abbrev HP_ST_CNT (n : Nat) : Nat := 0x41000094 + 0x10000 * n
abbrev HP_ST_CNT_OK_CNT (n : Nat) : RegField := ⟨HP_ST_CNT n, 31, 16⟩
abbrev HP_ST_CNT_ERR_CNT (n : Nat) : RegField := ⟨HP_ST_CNT n, 15, 0⟩

/-! Unit SQ. -/
/-- SQ_CTRL, R133. -/
abbrev SQ_CTRL (n : Nat) : Nat := 0x42000000 + 0x10000 * n
abbrev SQ_CTRL_HOLD (n : Nat) : RegField := ⟨SQ_CTRL n, 3, 3⟩
abbrev SQ_CTRL_PARK_REQ (n : Nat) : RegField := ⟨SQ_CTRL n, 2, 2⟩
abbrev SQ_CTRL_FRESH (n : Nat) : RegField := ⟨SQ_CTRL n, 1, 1⟩
abbrev SQ_CTRL_GO (n : Nat) : RegField := ⟨SQ_CTRL n, 0, 0⟩
/-- SQ_STATUS, R97. -/
abbrev SQ_STATUS (n : Nat) : Nat := 0x42000004 + 0x10000 * n
abbrev SQ_STATUS_WAIT (n : Nat) : RegField := ⟨SQ_STATUS n, 15, 12⟩
abbrev SQ_STATUS_PAGE_OPEN (n : Nat) : RegField := ⟨SQ_STATUS n, 8, 8⟩
abbrev SQ_STATUS_STATE (n : Nat) : RegField := ⟨SQ_STATUS n, 2, 0⟩
/-- SQ_ENTRY, R133. -/
abbrev SQ_ENTRY (n : Nat) : Nat := 0x42000008 + 0x10000 * n
abbrev SQ_ENTRY_ENTRY (n : Nat) : RegField := ⟨SQ_ENTRY n, 31, 2⟩
/-- SQ_PC, R133. -/
abbrev SQ_PC (n : Nat) : Nat := 0x4200000c + 0x10000 * n
/-- SQ_TRAP_INFO, R82. -/
abbrev SQ_TRAP_INFO (n : Nat) : Nat := 0x42000010 + 0x10000 * n
abbrev SQ_TRAP_INFO_KIND (n : Nat) : RegField := ⟨SQ_TRAP_INFO n, 15, 12⟩
abbrev SQ_TRAP_INFO_RESP (n : Nat) : RegField := ⟨SQ_TRAP_INFO n, 10, 8⟩
abbrev SQ_TRAP_INFO_CODE (n : Nat) : RegField := ⟨SQ_TRAP_INFO n, 7, 0⟩
/-- SQ_TRAP_TVAL, R82. -/
abbrev SQ_TRAP_TVAL (n : Nat) : Nat := 0x42000014 + 0x10000 * n
/-- SQ_TRAP_PC, R82. -/
abbrev SQ_TRAP_PC (n : Nat) : Nat := 0x42000018 + 0x10000 * n
/-- SQ_PAGE_ID, R99. -/
abbrev SQ_PAGE_ID (n : Nat) : Nat := 0x42000020 + 0x10000 * n
/-- SQ_PAGE_LINES, R99. -/
abbrev SQ_PAGE_LINES (n : Nat) : Nat := 0x42000024 + 0x10000 * n
/-- SQ_XSTAT, R101. -/
abbrev SQ_XSTAT (n : Nat) : Nat := 0x42000028 + 0x10000 * n
abbrev SQ_XSTAT_XSTAT (n : Nat) : RegField := ⟨SQ_XSTAT n, 15, 0⟩
/-- SQ_FSTATE, R99. -/
abbrev SQ_FSTATE (n : Nat) : Nat := 0x4200002c + 0x10000 * n
abbrev SQ_FSTATE_STREAM_ID (n : Nat) : RegField := ⟨SQ_FSTATE n, 31, 16⟩
abbrev SQ_FSTATE_PAGE_OPEN (n : Nat) : RegField := ⟨SQ_FSTATE n, 8, 8⟩
abbrev SQ_FSTATE_PMASK (n : Nat) : RegField := ⟨SQ_FSTATE n, 7, 4⟩
abbrev SQ_FSTATE_AM (n : Nat) : RegField := ⟨SQ_FSTATE n, 3, 0⟩
/-- SQ_STAGE, R98. -/
abbrev SQ_STAGE (n : Nat) : Nat := 0x42000030 + 0x10000 * n
abbrev SQ_STAGE_SIZE (n : Nat) : RegField := ⟨SQ_STAGE n, 29, 24⟩
abbrev SQ_STAGE_BASE (n : Nat) : RegField := ⟨SQ_STAGE n, 17, 12⟩
/-- SQ_SYNC, R119. -/
abbrev SQ_SYNC (n : Nat) : Nat := 0x42000034 + 0x10000 * n
abbrev SQ_SYNC_TIMEOUT (n : Nat) : RegField := ⟨SQ_SYNC n, 31, 20⟩
abbrev SQ_SYNC_MASK (n : Nat) : RegField := ⟨SQ_SYNC n, 11, 0⟩
/-- SQ_FB, R129. -/
abbrev SQ_FB (n : Nat) : Nat := 0x42000038 + 0x10000 * n
abbrev SQ_FB_SLOTS (n : Nat) : RegField := ⟨SQ_FB n, 18, 16⟩
abbrev SQ_FB_CH (n : Nat) : RegField := ⟨SQ_FB n, 12, 8⟩
abbrev SQ_FB_FB_MASK (n : Nat) : RegField := ⟨SQ_FB n, 3, 0⟩
/-- SQ_FB_BUF, R129. -/
abbrev SQ_FB_BUF (n : Nat) : Nat := 0x4200003c + 0x10000 * n
abbrev SQ_FB_BUF_OFS (n : Nat) : RegField := ⟨SQ_FB_BUF n, 23, 10⟩
/-- SQ_FIFO, R114. -/
abbrev SQ_FIFO (n i : Nat) : Nat := 0x42000040 + 0x10000 * n + 0x4 * i
abbrev SQ_FIFO_READY (n i : Nat) : RegField := ⟨SQ_FIFO n i, 30, 24⟩
abbrev SQ_FIFO_WAITING (n i : Nat) : RegField := ⟨SQ_FIFO n i, 22, 16⟩
abbrev SQ_FIFO_BUILT (n i : Nat) : RegField := ⟨SQ_FIFO n i, 14, 8⟩
abbrev SQ_FIFO_FREE (n i : Nat) : RegField := ⟨SQ_FIFO n i, 6, 0⟩
/-- SQ_TWIN_CNT, R128. -/
abbrev SQ_TWIN_CNT (n : Nat) : Nat := 0x42000050 + 0x10000 * n
abbrev SQ_TWIN_CNT_LOST (n : Nat) : RegField := ⟨SQ_TWIN_CNT n, 31, 16⟩
abbrev SQ_TWIN_CNT_SKIPPED (n : Nat) : RegField := ⟨SQ_TWIN_CNT n, 15, 0⟩
/-- SQ_NEXTSEG, R105. -/
abbrev SQ_NEXTSEG (n : Nat) : Nat := 0x42000054 + 0x10000 * n
abbrev SQ_NEXTSEG_NEXTSEG (n : Nat) : RegField := ⟨SQ_NEXTSEG n, 23, 0⟩
/-- SQ_NB, R99. -/
abbrev SQ_NB (n i : Nat) : Nat := 0x42000060 + 0x10000 * n + 0x4 * i
/-- SQ_NOM, R126. -/
abbrev SQ_NOM (n i : Nat) : Nat := 0x42000080 + 0x10000 * n + 0x4 * i
abbrev SQ_NOM_PAD (n i : Nat) : RegField := ⟨SQ_NOM n i, 31, 24⟩
abbrev SQ_NOM_RAW (n i : Nat) : RegField := ⟨SQ_NOM n i, 23, 23⟩
abbrev SQ_NOM_INV (n i : Nat) : RegField := ⟨SQ_NOM n i, 22, 22⟩
abbrev SQ_NOM_BITORD (n i : Nat) : RegField := ⟨SQ_NOM n i, 21, 20⟩
abbrev SQ_NOM_REV (n i : Nat) : RegField := ⟨SQ_NOM n i, 19, 19⟩
abbrev SQ_NOM_ROWS_LOG2 (n i : Nat) : RegField := ⟨SQ_NOM n i, 18, 16⟩
abbrev SQ_NOM_SPLIT (n i : Nat) : RegField := ⟨SQ_NOM n i, 15, 15⟩
/-- SQ_JOB_STAT, R130. -/
abbrev SQ_JOB_STAT (n : Nat) : Nat := 0x42000100 + 0x10000 * n
abbrev SQ_JOB_STAT_OVF (n : Nat) : RegField := ⟨SQ_JOB_STAT n, 8, 8⟩
abbrev SQ_JOB_STAT_COUNT (n : Nat) : RegField := ⟨SQ_JOB_STAT n, 2, 0⟩
/-- SQ_JOB_PUSH, R130. -/
abbrev SQ_JOB_PUSH (n : Nat) : Nat := 0x42000104 + 0x10000 * n
/-- SQ_JOB_POP, R130. -/
abbrev SQ_JOB_POP (n : Nat) : Nat := 0x42000108 + 0x10000 * n
/-- SQ_JOB_IN, R130. -/
abbrev SQ_JOB_IN (n i : Nat) : Nat := 0x42000110 + 0x10000 * n + 0x4 * i
/-- SQ_JOB_OUT, R130. -/
abbrev SQ_JOB_OUT (n i : Nat) : Nat := 0x42000120 + 0x10000 * n + 0x4 * i

/-! Unit DCE. -/
/-- DCE_CTRL, R254. -/
abbrev DCE_CTRL (n : Nat) : Nat := 0x43000000 + 0x10000 * n
abbrev DCE_CTRL_EN (n : Nat) : RegField := ⟨DCE_CTRL n, 31, 31⟩
abbrev DCE_CTRL_SINK_SQ (n : Nat) : RegField := ⟨DCE_CTRL n, 28, 24⟩
abbrev DCE_CTRL_SINK (n : Nat) : RegField := ⟨DCE_CTRL n, 21, 20⟩
abbrev DCE_CTRL_FORMAT (n : Nat) : RegField := ⟨DCE_CTRL n, 16, 16⟩
abbrev DCE_CTRL_COMPAT (n : Nat) : RegField := ⟨DCE_CTRL n, 12, 12⟩
abbrev DCE_CTRL_RESTORE (n : Nat) : RegField := ⟨DCE_CTRL n, 3, 3⟩
abbrev DCE_CTRL_RESUME (n : Nat) : RegField := ⟨DCE_CTRL n, 2, 2⟩
abbrev DCE_CTRL_ABORT (n : Nat) : RegField := ⟨DCE_CTRL n, 1, 1⟩
abbrev DCE_CTRL_START (n : Nat) : RegField := ⟨DCE_CTRL n, 0, 0⟩
/-- DCE_STAT, R230. -/
abbrev DCE_STAT (n : Nat) : Nat := 0x43000004 + 0x10000 * n
abbrev DCE_STAT_ERR (n : Nat) : RegField := ⟨DCE_STAT n, 31, 24⟩
abbrev DCE_STAT_CMD_IGNORED (n : Nat) : RegField := ⟨DCE_STAT n, 15, 15⟩
abbrev DCE_STAT_ABORT_LATE (n : Nat) : RegField := ⟨DCE_STAT n, 14, 14⟩
abbrev DCE_STAT_WEIR_REFUSED (n : Nat) : RegField := ⟨DCE_STAT n, 13, 13⟩
abbrev DCE_STAT_DONE (n : Nat) : RegField := ⟨DCE_STAT n, 12, 12⟩
abbrev DCE_STAT_BAD_SEEN (n : Nat) : RegField := ⟨DCE_STAT n, 11, 11⟩
abbrev DCE_STAT_STATE (n : Nat) : RegField := ⟨DCE_STAT n, 3, 0⟩
/-- DCE_IRING_LO, R233. -/
abbrev DCE_IRING_LO (n : Nat) : Nat := 0x43000008 + 0x10000 * n
abbrev DCE_IRING_LO_BASE_L (n : Nat) : RegField := ⟨DCE_IRING_LO n, 31, 4⟩
/-- DCE_IRING_HI, R233. -/
abbrev DCE_IRING_HI (n : Nat) : Nat := 0x4300000c + 0x10000 * n
abbrev DCE_IRING_HI_BASE_H (n : Nat) : RegField := ⟨DCE_IRING_HI n, 7, 0⟩
/-- DCE_IRING_CFG, R233. -/
abbrev DCE_IRING_CFG (n : Nat) : Nat := 0x43000010 + 0x10000 * n
abbrev DCE_IRING_CFG_SIZE (n : Nat) : RegField := ⟨DCE_IRING_CFG n, 2, 0⟩
/-- DCE_IRING_IDX, R234. -/
abbrev DCE_IRING_IDX (n : Nat) : Nat := 0x43000014 + 0x10000 * n
abbrev DCE_IRING_IDX_OPEN (n : Nat) : RegField := ⟨DCE_IRING_IDX n, 31, 16⟩
abbrev DCE_IRING_IDX_IDX (n : Nat) : RegField := ⟨DCE_IRING_IDX n, 15, 0⟩
/-- DCE_DB, R234. -/
abbrev DCE_DB (n : Nat) : Nat := 0x43000018 + 0x10000 * n
/-- DCE_ORING_LO, R233. -/
abbrev DCE_ORING_LO (n : Nat) : Nat := 0x43000020 + 0x10000 * n
abbrev DCE_ORING_LO_BASE_L (n : Nat) : RegField := ⟨DCE_ORING_LO n, 31, 4⟩
/-- DCE_ORING_HI, R233. -/
abbrev DCE_ORING_HI (n : Nat) : Nat := 0x43000024 + 0x10000 * n
abbrev DCE_ORING_HI_BASE_H (n : Nat) : RegField := ⟨DCE_ORING_HI n, 7, 0⟩
/-- DCE_ORING_CFG, R233. -/
abbrev DCE_ORING_CFG (n : Nat) : Nat := 0x43000028 + 0x10000 * n
abbrev DCE_ORING_CFG_SIZE (n : Nat) : RegField := ⟨DCE_ORING_CFG n, 2, 0⟩
/-- DCE_ORING_IDX, R234. -/
abbrev DCE_ORING_IDX (n : Nat) : Nat := 0x4300002c + 0x10000 * n
abbrev DCE_ORING_IDX_IDX (n : Nat) : RegField := ⟨DCE_ORING_IDX n, 15, 0⟩
/-- DCE_IN_BITS, R243. -/
abbrev DCE_IN_BITS (n : Nat) : Nat := 0x43000030 + 0x10000 * n
/-- DCE_OUT_BYTES, R241. -/
abbrev DCE_OUT_BYTES (n : Nat) : Nat := 0x43000034 + 0x10000 * n
/-- DCE_HIST_LO, R244. -/
abbrev DCE_HIST_LO (n : Nat) : Nat := 0x43000038 + 0x10000 * n
/-- DCE_HIST_HI, R244. -/
abbrev DCE_HIST_HI (n : Nat) : Nat := 0x4300003c + 0x10000 * n
abbrev DCE_HIST_HI_HIST_H (n : Nat) : RegField := ⟨DCE_HIST_HI n, 7, 0⟩
/-- DCE_RESUME, R243. -/
abbrev DCE_RESUME (n i : Nat) : Nat := 0x43000040 + 0x10000 * n + 0x4 * i
/-- DCE_WEIR, R236. -/
abbrev DCE_WEIR (n : Nat) : Nat := 0x43000060 + 0x10000 * n
abbrev DCE_WEIR_PWR (n : Nat) : RegField := ⟨DCE_WEIR n, 31, 16⟩
abbrev DCE_WEIR_MAXWAIT (n : Nat) : RegField := ⟨DCE_WEIR n, 15, 0⟩
/-- DCE_SEG_CNT, R238. -/
abbrev DCE_SEG_CNT (n : Nat) : Nat := 0x43000070 + 0x10000 * n
abbrev DCE_SEG_CNT_BAD (n : Nat) : RegField := ⟨DCE_SEG_CNT n, 31, 16⟩
abbrev DCE_SEG_CNT_PASS (n : Nat) : RegField := ⟨DCE_SEG_CNT n, 15, 0⟩
/-- DCE_SKIP_CNT, R239. -/
abbrev DCE_SKIP_CNT (n : Nat) : Nat := 0x43000074 + 0x10000 * n
abbrev DCE_SKIP_CNT_SKIPPED (n : Nat) : RegField := ⟨DCE_SKIP_CNT n, 15, 0⟩
/-- DCE_LAST_BAD, R238. -/
abbrev DCE_LAST_BAD (n : Nat) : Nat := 0x43000078 + 0x10000 * n
abbrev DCE_LAST_BAD_CODE (n : Nat) : RegField := ⟨DCE_LAST_BAD n, 31, 24⟩
abbrev DCE_LAST_BAD_SEGMENT (n : Nat) : RegField := ⟨DCE_LAST_BAD n, 23, 0⟩
/-- DCE_LAST_BAD_PAGE, R238. -/
abbrev DCE_LAST_BAD_PAGE (n : Nat) : Nat := 0x4300007c + 0x10000 * n

/-! Unit CMP. -/
/-- CMP_CTRL, R254. -/
abbrev CMP_CTRL (n : Nat) : Nat := 0x43100000 + 0x10000 * n
abbrev CMP_CTRL_EN (n : Nat) : RegField := ⟨CMP_CTRL n, 31, 31⟩
abbrev CMP_CTRL_FORMAT (n : Nat) : RegField := ⟨CMP_CTRL n, 16, 16⟩
abbrev CMP_CTRL_COMPAT (n : Nat) : RegField := ⟨CMP_CTRL n, 12, 12⟩
abbrev CMP_CTRL_RESTORE (n : Nat) : RegField := ⟨CMP_CTRL n, 3, 3⟩
abbrev CMP_CTRL_RESUME (n : Nat) : RegField := ⟨CMP_CTRL n, 2, 2⟩
abbrev CMP_CTRL_ABORT (n : Nat) : RegField := ⟨CMP_CTRL n, 1, 1⟩
abbrev CMP_CTRL_START (n : Nat) : RegField := ⟨CMP_CTRL n, 0, 0⟩
/-- CMP_STAT, R230. -/
abbrev CMP_STAT (n : Nat) : Nat := 0x43100004 + 0x10000 * n
abbrev CMP_STAT_ERR (n : Nat) : RegField := ⟨CMP_STAT n, 31, 24⟩
abbrev CMP_STAT_CMD_IGNORED (n : Nat) : RegField := ⟨CMP_STAT n, 15, 15⟩
abbrev CMP_STAT_ABORT_LATE (n : Nat) : RegField := ⟨CMP_STAT n, 14, 14⟩
abbrev CMP_STAT_WEIR_REFUSED (n : Nat) : RegField := ⟨CMP_STAT n, 13, 13⟩
abbrev CMP_STAT_DONE (n : Nat) : RegField := ⟨CMP_STAT n, 12, 12⟩
abbrev CMP_STAT_BAD_SEEN (n : Nat) : RegField := ⟨CMP_STAT n, 11, 11⟩
abbrev CMP_STAT_STATE (n : Nat) : RegField := ⟨CMP_STAT n, 3, 0⟩
/-- CMP_IRING_LO, R233. -/
abbrev CMP_IRING_LO (n : Nat) : Nat := 0x43100008 + 0x10000 * n
abbrev CMP_IRING_LO_BASE_L (n : Nat) : RegField := ⟨CMP_IRING_LO n, 31, 4⟩
/-- CMP_IRING_HI, R233. -/
abbrev CMP_IRING_HI (n : Nat) : Nat := 0x4310000c + 0x10000 * n
abbrev CMP_IRING_HI_BASE_H (n : Nat) : RegField := ⟨CMP_IRING_HI n, 7, 0⟩
/-- CMP_IRING_CFG, R233. -/
abbrev CMP_IRING_CFG (n : Nat) : Nat := 0x43100010 + 0x10000 * n
abbrev CMP_IRING_CFG_SIZE (n : Nat) : RegField := ⟨CMP_IRING_CFG n, 2, 0⟩
/-- CMP_IRING_IDX, R234. -/
abbrev CMP_IRING_IDX (n : Nat) : Nat := 0x43100014 + 0x10000 * n
abbrev CMP_IRING_IDX_OPEN (n : Nat) : RegField := ⟨CMP_IRING_IDX n, 31, 16⟩
abbrev CMP_IRING_IDX_IDX (n : Nat) : RegField := ⟨CMP_IRING_IDX n, 15, 0⟩
/-- CMP_DB, R234. -/
abbrev CMP_DB (n : Nat) : Nat := 0x43100018 + 0x10000 * n
/-- CMP_ORING_LO, R233. -/
abbrev CMP_ORING_LO (n : Nat) : Nat := 0x43100020 + 0x10000 * n
abbrev CMP_ORING_LO_BASE_L (n : Nat) : RegField := ⟨CMP_ORING_LO n, 31, 4⟩
/-- CMP_ORING_HI, R233. -/
abbrev CMP_ORING_HI (n : Nat) : Nat := 0x43100024 + 0x10000 * n
abbrev CMP_ORING_HI_BASE_H (n : Nat) : RegField := ⟨CMP_ORING_HI n, 7, 0⟩
/-- CMP_ORING_CFG, R233. -/
abbrev CMP_ORING_CFG (n : Nat) : Nat := 0x43100028 + 0x10000 * n
abbrev CMP_ORING_CFG_SIZE (n : Nat) : RegField := ⟨CMP_ORING_CFG n, 2, 0⟩
/-- CMP_ORING_IDX, R234. -/
abbrev CMP_ORING_IDX (n : Nat) : Nat := 0x4310002c + 0x10000 * n
abbrev CMP_ORING_IDX_IDX (n : Nat) : RegField := ⟨CMP_ORING_IDX n, 15, 0⟩
/-- CMP_IN_BITS, R254. -/
abbrev CMP_IN_BITS (n : Nat) : Nat := 0x43100030 + 0x10000 * n
/-- CMP_OUT_BYTES, R241. -/
abbrev CMP_OUT_BYTES (n : Nat) : Nat := 0x43100034 + 0x10000 * n
/-- CMP_RESUME0, R250. -/
abbrev CMP_RESUME0 (n : Nat) : Nat := 0x43100040 + 0x10000 * n
/-- CMP_RESUME1, R250. -/
abbrev CMP_RESUME1 (n : Nat) : Nat := 0x43100044 + 0x10000 * n
abbrev CMP_RESUME1_PEND_BITS (n : Nat) : RegField := ⟨CMP_RESUME1 n, 15, 8⟩
abbrev CMP_RESUME1_PEND_N (n : Nat) : RegField := ⟨CMP_RESUME1 n, 2, 0⟩
/-- CMP_WEIR, R236. -/
abbrev CMP_WEIR (n : Nat) : Nat := 0x43100060 + 0x10000 * n
abbrev CMP_WEIR_PWR (n : Nat) : RegField := ⟨CMP_WEIR n, 31, 16⟩
abbrev CMP_WEIR_MAXWAIT (n : Nat) : RegField := ⟨CMP_WEIR n, 15, 0⟩
/-- CMP_SEG_CNT, R254. -/
abbrev CMP_SEG_CNT (n : Nat) : Nat := 0x43100070 + 0x10000 * n
abbrev CMP_SEG_CNT_BAD (n : Nat) : RegField := ⟨CMP_SEG_CNT n, 31, 16⟩
abbrev CMP_SEG_CNT_PASS (n : Nat) : RegField := ⟨CMP_SEG_CNT n, 15, 0⟩
/-- CMP_SKIP_CNT, R254. -/
abbrev CMP_SKIP_CNT (n : Nat) : Nat := 0x43100074 + 0x10000 * n
abbrev CMP_SKIP_CNT_SKIPPED (n : Nat) : RegField := ⟨CMP_SKIP_CNT n, 15, 0⟩
/-- CMP_LAST_BAD, R254. -/
abbrev CMP_LAST_BAD (n : Nat) : Nat := 0x43100078 + 0x10000 * n
abbrev CMP_LAST_BAD_CODE (n : Nat) : RegField := ⟨CMP_LAST_BAD n, 31, 24⟩
abbrev CMP_LAST_BAD_SEGMENT (n : Nat) : RegField := ⟨CMP_LAST_BAD n, 23, 0⟩
/-- CMP_LAST_BAD_PAGE, R254. -/
abbrev CMP_LAST_BAD_PAGE (n : Nat) : Nat := 0x4310007c + 0x10000 * n
/-- CMP_CFG, R246. -/
abbrev CMP_CFG (n : Nat) : Nat := 0x43100080 + 0x10000 * n
abbrev CMP_CFG_LINES (n : Nat) : RegField := ⟨CMP_CFG n, 29, 24⟩
abbrev CMP_CFG_LINE_BYTES (n : Nat) : RegField := ⟨CMP_CFG n, 20, 8⟩
abbrev CMP_CFG_FILTER (n : Nat) : RegField := ⟨CMP_CFG n, 7, 6⟩
abbrev CMP_CFG_BLOCK_LOG2 (n : Nat) : RegField := ⟨CMP_CFG n, 5, 4⟩
abbrev CMP_CFG_EFFORT (n : Nat) : RegField := ⟨CMP_CFG n, 2, 0⟩
/-- CMP_PAGE, R247. -/
abbrev CMP_PAGE (n : Nat) : Nat := 0x43100084 + 0x10000 * n
/-- CMP_STREAM, R247. -/
abbrev CMP_STREAM (n : Nat) : Nat := 0x43100088 + 0x10000 * n
abbrev CMP_STREAM_STREAM_ID (n : Nat) : RegField := ⟨CMP_STREAM n, 15, 0⟩
/-- CMP_SEG, R247. -/
abbrev CMP_SEG (n : Nat) : Nat := 0x4310008c + 0x10000 * n
abbrev CMP_SEG_SEGMENT (n : Nat) : RegField := ⟨CMP_SEG n, 23, 0⟩
/-- CMP_REDO, R249. -/
abbrev CMP_REDO (n : Nat) : Nat := 0x43100090 + 0x10000 * n
abbrev CMP_REDO_VERIFY_REDO (n : Nat) : RegField := ⟨CMP_REDO n, 15, 0⟩

/-! Unit DMA. -/
/-- DMA_CH_CTRL, R348. -/
abbrev DMA_CH_CTRL (i : Nat) : Nat := 0x44001000 + 0x40 * i
abbrev DMA_CH_CTRL_OWN (i : Nat) : RegField := ⟨DMA_CH_CTRL i, 31, 31⟩
abbrev DMA_CH_CTRL_BARRIER (i : Nat) : RegField := ⟨DMA_CH_CTRL i, 30, 30⟩
abbrev DMA_CH_CTRL_IRQ (i : Nat) : RegField := ⟨DMA_CH_CTRL i, 29, 29⟩
abbrev DMA_CH_CTRL_ERR_AFTER_LAST (i : Nat) : RegField := ⟨DMA_CH_CTRL i, 27, 27⟩
abbrev DMA_CH_CTRL_RESP (i : Nat) : RegField := ⟨DMA_CH_CTRL i, 26, 24⟩
abbrev DMA_CH_CTRL_CV (i : Nat) : RegField := ⟨DMA_CH_CTRL i, 20, 20⟩
abbrev DMA_CH_CTRL_OP (i : Nat) : RegField := ⟨DMA_CH_CTRL i, 19, 16⟩
abbrev DMA_CH_CTRL_STATUS (i : Nat) : RegField := ⟨DMA_CH_CTRL i, 15, 8⟩
abbrev DMA_CH_CTRL_SIDE (i : Nat) : RegField := ⟨DMA_CH_CTRL i, 0, 0⟩
/-- DMA_CH_SRC_LO, R367. -/
abbrev DMA_CH_SRC_LO (i : Nat) : Nat := 0x44001004 + 0x40 * i
/-- DMA_CH_SRC_HI, R367. -/
abbrev DMA_CH_SRC_HI (i : Nat) : Nat := 0x44001008 + 0x40 * i
abbrev DMA_CH_SRC_HI_ADDR_H (i : Nat) : RegField := ⟨DMA_CH_SRC_HI i, 7, 0⟩
/-- DMA_CH_DST_LO, R367. -/
abbrev DMA_CH_DST_LO (i : Nat) : Nat := 0x4400100c + 0x40 * i
/-- DMA_CH_DST_HI, R367. -/
abbrev DMA_CH_DST_HI (i : Nat) : Nat := 0x44001010 + 0x40 * i
abbrev DMA_CH_DST_HI_ADDR_H (i : Nat) : RegField := ⟨DMA_CH_DST_HI i, 7, 0⟩
/-- DMA_CH_COUNT, R367. -/
abbrev DMA_CH_COUNT (i : Nat) : Nat := 0x44001014 + 0x40 * i
/-- DMA_CH_VALUE, R367. -/
abbrev DMA_CH_VALUE (i : Nat) : Nat := 0x44001018 + 0x40 * i
/-- DMA_CH_PARAM, R354. -/
abbrev DMA_CH_PARAM (i : Nat) : Nat := 0x4400101c + 0x40 * i
/-- DMA_CH_RESULT, R348. -/
abbrev DMA_CH_RESULT (i : Nat) : Nat := 0x44001020 + 0x40 * i
/-- DMA_CH_CMD, R360. -/
abbrev DMA_CH_CMD (i : Nat) : Nat := 0x44001024 + 0x40 * i
abbrev DMA_CH_CMD_ABORT (i : Nat) : RegField := ⟨DMA_CH_CMD i, 0, 0⟩
/-- DMA_CH_STAT, R356. -/
abbrev DMA_CH_STAT (i : Nat) : Nat := 0x44001028 + 0x40 * i
abbrev DMA_CH_STAT_LATE_RESP (i : Nat) : RegField := ⟨DMA_CH_STAT i, 10, 8⟩
abbrev DMA_CH_STAT_LATE_ERR (i : Nat) : RegField := ⟨DMA_CH_STAT i, 2, 2⟩
abbrev DMA_CH_STAT_ABORT_LATE (i : Nat) : RegField := ⟨DMA_CH_STAT i, 1, 1⟩
abbrev DMA_CH_STAT_DONE (i : Nat) : RegField := ⟨DMA_CH_STAT i, 0, 0⟩
/-- DMA_CH_LATE_OFS, R356. -/
abbrev DMA_CH_LATE_OFS (i : Nat) : Nat := 0x4400102c + 0x40 * i
/-- RING_BASE_LO, R350. -/
abbrev RING_BASE_LO (i : Nat) : Nat := 0x44002000 + 0x40 * i
abbrev RING_BASE_LO_BASE_L (i : Nat) : RegField := ⟨RING_BASE_LO i, 31, 5⟩
/-- RING_BASE_HI, R350. -/
abbrev RING_BASE_HI (i : Nat) : Nat := 0x44002004 + 0x40 * i
abbrev RING_BASE_HI_BASE_H (i : Nat) : RegField := ⟨RING_BASE_HI i, 7, 0⟩
/-- RING_CFG, R360. -/
abbrev RING_CFG (i : Nat) : Nat := 0x44002008 + 0x40 * i
abbrev RING_CFG_EN (i : Nat) : RegField := ⟨RING_CFG i, 31, 31⟩
abbrev RING_CFG_ABORT (i : Nat) : RegField := ⟨RING_CFG i, 30, 30⟩
abbrev RING_CFG_FLUSH (i : Nat) : RegField := ⟨RING_CFG i, 23, 8⟩
abbrev RING_CFG_SIZE (i : Nat) : RegField := ⟨RING_CFG i, 2, 0⟩
/-- RING_IDX, R350. -/
abbrev RING_IDX (i : Nat) : Nat := 0x4400200c + 0x40 * i
abbrev RING_IDX_IDX (i : Nat) : RegField := ⟨RING_IDX i, 15, 0⟩
/-- RING_DB, R350. -/
abbrev RING_DB (i : Nat) : Nat := 0x44002010 + 0x40 * i
/-- RING_CNT, R367. -/
abbrev RING_CNT (i : Nat) : Nat := 0x44002014 + 0x40 * i
abbrev RING_CNT_DROP (i : Nat) : RegField := ⟨RING_CNT i, 31, 16⟩
abbrev RING_CNT_ERRS (i : Nat) : RegField := ⟨RING_CNT i, 15, 0⟩

/-! Unit DDR. -/
/-- DDR_CTRL, R342. -/
abbrev DDR_CTRL (n : Nat) : Nat := 0x45000000 + 0x10000 * n
abbrev DDR_CTRL_MODE (n : Nat) : RegField := ⟨DDR_CTRL n, 2, 0⟩
/-- DDR_STAT, R340. -/
abbrev DDR_STAT (n : Nat) : Nat := 0x45000004 + 0x10000 * n
abbrev DDR_STAT_RESULT (n : Nat) : RegField := ⟨DDR_STAT n, 11, 8⟩
abbrev DDR_STAT_DDR_HOT (n : Nat) : RegField := ⟨DDR_STAT n, 5, 5⟩
abbrev DDR_STAT_LOG_VALID (n : Nat) : RegField := ⟨DDR_STAT n, 4, 4⟩
abbrev DDR_STAT_STATE (n : Nat) : RegField := ⟨DDR_STAT n, 2, 0⟩
/-- DDR_CFG, R326. -/
abbrev DDR_CFG (n : Nat) : Nat := 0x45000008 + 0x10000 * n
abbrev DDR_CFG_RATE (n : Nat) : RegField := ⟨DDR_CFG n, 5, 4⟩
abbrev DDR_CFG_RANKS (n : Nat) : RegField := ⟨DDR_CFG n, 3, 3⟩
abbrev DDR_CFG_DENSITY (n : Nat) : RegField := ⟨DDR_CFG n, 1, 0⟩
/-- DDR_SCHED, R329. -/
abbrev DDR_SCHED (n : Nat) : Nat := 0x4500000c + 0x10000 * n
abbrev DDR_SCHED_AGE_MAX (n : Nat) : RegField := ⟨DDR_SCHED n, 31, 16⟩
abbrev DDR_SCHED_WR_HI (n : Nat) : RegField := ⟨DDR_SCHED n, 12, 8⟩
abbrev DDR_SCHED_WR_LO (n : Nat) : RegField := ⟨DDR_SCHED n, 4, 0⟩
/-- DDR_REF, R336. -/
abbrev DDR_REF (n : Nat) : Nat := 0x45000010 + 0x10000 * n
abbrev DDR_REF_PD_IDLE (n : Nat) : RegField := ⟨DDR_REF n, 31, 16⟩
abbrev DDR_REF_TEMP_POLL (n : Nat) : RegField := ⟨DDR_REF n, 15, 8⟩
abbrev DDR_REF_TRACK_MS (n : Nat) : RegField := ⟨DDR_REF n, 7, 6⟩
abbrev DDR_REF_REF_POSTPONE (n : Nat) : RegField := ⟨DDR_REF n, 2, 0⟩
/-- DDR_SCRUB, R335. -/
abbrev DDR_SCRUB (n : Nat) : Nat := 0x45000014 + 0x10000 * n
abbrev DDR_SCRUB_EN (n : Nat) : RegField := ⟨DDR_SCRUB n, 31, 31⟩
abbrev DDR_SCRUB_PERIOD (n : Nat) : RegField := ⟨DDR_SCRUB n, 23, 16⟩
abbrev DDR_SCRUB_SCRUB_PWR (n : Nat) : RegField := ⟨DDR_SCRUB n, 15, 0⟩
/-- DDR_SCRUB_STAT, R335. -/
abbrev DDR_SCRUB_STAT (n : Nat) : Nat := 0x45000018 + 0x10000 * n
abbrev DDR_SCRUB_STAT_SCRUB_SKIP (n : Nat) : RegField := ⟨DDR_SCRUB_STAT n, 31, 16⟩
abbrev DDR_SCRUB_STAT_BURST (n : Nat) : RegField := ⟨DDR_SCRUB_STAT n, 15, 0⟩
/-- DDR_ECC_CNT, R333. -/
abbrev DDR_ECC_CNT (n : Nat) : Nat := 0x4500001c + 0x10000 * n
abbrev DDR_ECC_CNT_UE (n : Nat) : RegField := ⟨DDR_ECC_CNT n, 31, 16⟩
abbrev DDR_ECC_CNT_CE (n : Nat) : RegField := ⟨DDR_ECC_CNT n, 15, 0⟩
/-- DDR_REF_CNT, R336. -/
abbrev DDR_REF_CNT (n : Nat) : Nat := 0x45000020 + 0x10000 * n
abbrev DDR_REF_CNT_REF_FB (n : Nat) : RegField := ⟨DDR_REF_CNT n, 15, 0⟩
/-- DDR_ECC_LOG_LO, R334. -/
abbrev DDR_ECC_LOG_LO (n : Nat) : Nat := 0x45000024 + 0x10000 * n
abbrev DDR_ECC_LOG_LO_ADDR_L (n : Nat) : RegField := ⟨DDR_ECC_LOG_LO n, 31, 6⟩
/-- DDR_ECC_LOG_HI, R334. -/
abbrev DDR_ECC_LOG_HI (n : Nat) : Nat := 0x45000028 + 0x10000 * n
abbrev DDR_ECC_LOG_HI_ADDR_H (n : Nat) : RegField := ⟨DDR_ECC_LOG_HI n, 7, 0⟩
/-- DDR_ECC_LOG_INFO, R334. -/
abbrev DDR_ECC_LOG_INFO (n : Nat) : Nat := 0x4500002c + 0x10000 * n
abbrev DDR_ECC_LOG_INFO_UE (n : Nat) : RegField := ⟨DDR_ECC_LOG_INFO n, 31, 31⟩
abbrev DDR_ECC_LOG_INFO_SCRUB (n : Nat) : RegField := ⟨DDR_ECC_LOG_INFO n, 30, 30⟩
abbrev DDR_ECC_LOG_INFO_SYNDROME (n : Nat) : RegField := ⟨DDR_ECC_LOG_INFO n, 23, 16⟩
abbrev DDR_ECC_LOG_INFO_RANK (n : Nat) : RegField := ⟨DDR_ECC_LOG_INFO n, 5, 5⟩
abbrev DDR_ECC_LOG_INFO_SUBCH (n : Nat) : RegField := ⟨DDR_ECC_LOG_INFO n, 4, 4⟩
abbrev DDR_ECC_LOG_INFO_WORD (n : Nat) : RegField := ⟨DDR_ECC_LOG_INFO n, 2, 0⟩
/-- DDR_INJ, R342. -/
abbrev DDR_INJ (n : Nat) : Nat := 0x45000030 + 0x10000 * n
abbrev DDR_INJ_INJ (n : Nat) : RegField := ⟨DDR_INJ n, 1, 0⟩
/-- DDR_WEIR, R340. -/
abbrev DDR_WEIR (n : Nat) : Nat := 0x45000034 + 0x10000 * n
abbrev DDR_WEIR_TRAIN_PWR (n : Nat) : RegField := ⟨DDR_WEIR n, 15, 0⟩
/-- DDR_TRAIN, R340. -/
abbrev DDR_TRAIN (n : Nat) : Nat := 0x45000038 + 0x10000 * n
abbrev DDR_TRAIN_BUSY (n : Nat) : RegField := ⟨DDR_TRAIN n, 31, 31⟩
abbrev DDR_TRAIN_DONE (n : Nat) : RegField := ⟨DDR_TRAIN n, 30, 30⟩
abbrev DDR_TRAIN_ORDER (n : Nat) : RegField := ⟨DDR_TRAIN n, 29, 29⟩
abbrev DDR_TRAIN_RESULT (n : Nat) : RegField := ⟨DDR_TRAIN n, 25, 24⟩
abbrev DDR_TRAIN_RANK (n : Nat) : RegField := ⟨DDR_TRAIN n, 8, 8⟩
abbrev DDR_TRAIN_STEP (n : Nat) : RegField := ⟨DDR_TRAIN n, 2, 0⟩
/-- DDR_TP, R340. -/
abbrev DDR_TP (n i : Nat) : Nat := 0x45000100 + 0x10000 * n + 0x4 * i
abbrev DDR_TP_VALUE (n i : Nat) : RegField := ⟨DDR_TP n i, 15, 0⟩

/-! Unit LN. -/
/-- LN_CTRL, R295. -/
abbrev LN_CTRL (n : Nat) : Nat := 0x46000000 + 0x10000 * n
abbrev LN_CTRL_CTLE (n : Nat) : RegField := ⟨LN_CTRL n, 27, 24⟩
abbrev LN_CTRL_CTLE_AUTO (n : Nat) : RegField := ⟨LN_CTRL n, 23, 23⟩
abbrev LN_CTRL_PRBS_RX (n : Nat) : RegField := ⟨LN_CTRL n, 19, 18⟩
abbrev LN_CTRL_PRBS_TX (n : Nat) : RegField := ⟨LN_CTRL n, 17, 16⟩
abbrev LN_CTRL_LOOP (n : Nat) : RegField := ⟨LN_CTRL n, 9, 8⟩
abbrev LN_CTRL_POL_RX (n : Nat) : RegField := ⟨LN_CTRL n, 1, 1⟩
abbrev LN_CTRL_POL_TX (n : Nat) : RegField := ⟨LN_CTRL n, 0, 0⟩
/-- LN_STAT, R293. -/
abbrev LN_STAT (n : Nat) : Nat := 0x46000004 + 0x10000 * n
abbrev LN_STAT_CTLE_SEL (n : Nat) : RegField := ⟨LN_STAT n, 31, 28⟩
abbrev LN_STAT_CTLE_FAIL (n : Nat) : RegField := ⟨LN_STAT n, 7, 7⟩
abbrev LN_STAT_LOS (n : Nat) : RegField := ⟨LN_STAT n, 6, 6⟩
abbrev LN_STAT_LOS_NOW (n : Nat) : RegField := ⟨LN_STAT n, 5, 5⟩
abbrev LN_STAT_PRBS_LOCK (n : Nat) : RegField := ⟨LN_STAT n, 4, 4⟩
abbrev LN_STAT_DESKEWED (n : Nat) : RegField := ⟨LN_STAT n, 3, 3⟩
abbrev LN_STAT_ALIGNED (n : Nat) : RegField := ⟨LN_STAT n, 2, 2⟩
/-- LN_ERR, R291. -/
abbrev LN_ERR (n : Nat) : Nat := 0x46000008 + 0x10000 * n
abbrev LN_ERR_CODE_ERR (n : Nat) : RegField := ⟨LN_ERR n, 31, 16⟩
abbrev LN_ERR_DISP_ERR (n : Nat) : RegField := ⟨LN_ERR n, 15, 0⟩
/-- LN_PRBS_ERR, R296. -/
abbrev LN_PRBS_ERR (n : Nat) : Nat := 0x4600000c + 0x10000 * n
/-- LN_MARGIN, R324. -/
abbrev LN_MARGIN (n : Nat) : Nat := 0x46000010 + 0x10000 * n
abbrev LN_MARGIN_MARGIN (n : Nat) : RegField := ⟨LN_MARGIN n, 6, 0⟩

/-! Unit PX. -/
/-- PX_CTRL, R324. -/
abbrev PX_CTRL (n : Nat) : Nat := 0x46100000 + 0x10000 * n
abbrev PX_CTRL_EN (n : Nat) : RegField := ⟨PX_CTRL n, 31, 31⟩
abbrev PX_CTRL_RETRAIN (n : Nat) : RegField := ⟨PX_CTRL n, 30, 30⟩
abbrev PX_CTRL_RATE (n : Nat) : RegField := ⟨PX_CTRL n, 29, 28⟩
abbrev PX_CTRL_REPLAY_MAX (n : Nat) : RegField := ⟨PX_CTRL n, 27, 24⟩
abbrev PX_CTRL_REPLAY_TO (n : Nat) : RegField := ⟨PX_CTRL n, 23, 16⟩
/-- PX_STAT, R312. -/
abbrev PX_STAT (n : Nat) : Nat := 0x46100004 + 0x10000 * n
abbrev PX_STAT_RING_BREAK (n : Nat) : RegField := ⟨PX_STAT n, 8, 8⟩
abbrev PX_STAT_STATE (n : Nat) : RegField := ⟨PX_STAT n, 2, 0⟩
/-- PX_SEQ, R302. -/
abbrev PX_SEQ (n i : Nat) : Nat := 0x46100008 + 0x10000 * n + 0x4 * i
abbrev PX_SEQ_TX_NEXT (n i : Nat) : RegField := ⟨PX_SEQ n i, 27, 16⟩
abbrev PX_SEQ_RX_EXP (n i : Nat) : RegField := ⟨PX_SEQ n i, 11, 0⟩
/-- PX_CREDIT, R301. -/
abbrev PX_CREDIT (n : Nat) : Nat := 0x46100010 + 0x10000 * n
abbrev PX_CREDIT_VC0 (n : Nat) : RegField := ⟨PX_CREDIT n, 31, 16⟩
abbrev PX_CREDIT_VC1 (n : Nat) : RegField := ⟨PX_CREDIT n, 15, 0⟩
/-- PX_VIOL, R304. -/
abbrev PX_VIOL (n : Nat) : Nat := 0x46100014 + 0x10000 * n
abbrev PX_VIOL_SEEN (n : Nat) : RegField := ⟨PX_VIOL n, 7, 0⟩
/-- PX_CNT, R304. -/
abbrev PX_CNT (n i : Nat) : Nat := 0x46100020 + 0x10000 * n + 0x4 * i
abbrev PX_CNT_HIGH (n i : Nat) : RegField := ⟨PX_CNT n i, 31, 16⟩
abbrev PX_CNT_LOW (n i : Nat) : RegField := ⟨PX_CNT n i, 15, 0⟩
/-- PX_HEALTH, R315. -/
abbrev PX_HEALTH (n i : Nat) : Nat := 0x46100040 + 0x10000 * n + 0x4 * i
abbrev PX_HEALTH_ERRORS (n i : Nat) : RegField := ⟨PX_HEALTH n i, 31, 16⟩
abbrev PX_HEALTH_CTLE (n i : Nat) : RegField := ⟨PX_HEALTH n i, 15, 12⟩
abbrev PX_HEALTH_CLASS (n i : Nat) : RegField := ⟨PX_HEALTH n i, 11, 10⟩
abbrev PX_HEALTH_MARGIN (n i : Nat) : RegField := ⟨PX_HEALTH n i, 6, 0⟩
/-- PX_HEALTH_INFO, R315. -/
abbrev PX_HEALTH_INFO (n : Nat) : Nat := 0x46100050 + 0x10000 * n
abbrev PX_HEALTH_INFO_TESTS (n : Nat) : RegField := ⟨PX_HEALTH_INFO n, 31, 8⟩
abbrev PX_HEALTH_INFO_SKIPPED (n : Nat) : RegField := ⟨PX_HEALTH_INFO n, 3, 3⟩
abbrev PX_HEALTH_INFO_FE_DONE (n : Nat) : RegField := ⟨PX_HEALTH_INFO n, 2, 2⟩
abbrev PX_HEALTH_INFO_CLASS (n : Nat) : RegField := ⟨PX_HEALTH_INFO n, 1, 0⟩
/-- MR_ID, R311. -/
abbrev MR_ID (n : Nat) : Nat := 0x46100800 + 0x10000 * n
abbrev MR_ID_SRC (n : Nat) : RegField := ⟨MR_ID n, 13, 12⟩
abbrev MR_ID_CHIP_ID (n : Nat) : RegField := ⟨MR_ID n, 11, 0⟩
/-- MR_DISC, R311. -/
abbrev MR_DISC (n : Nat) : Nat := 0x46100804 + 0x10000 * n
abbrev MR_DISC_START (n : Nat) : RegField := ⟨MR_DISC n, 31, 31⟩
abbrev MR_DISC_STATE (n : Nat) : RegField := ⟨MR_DISC n, 18, 16⟩
abbrev MR_DISC_LAST_ID (n : Nat) : RegField := ⟨MR_DISC n, 11, 0⟩
/-- MR_CFG, R324. -/
abbrev MR_CFG (n : Nat) : Nat := 0x46100808 + 0x10000 * n
abbrev MR_CFG_RESUME_TO (n : Nat) : RegField := ⟨MR_CFG n, 31, 24⟩
abbrev MR_CFG_DISC_WAIT (n : Nat) : RegField := ⟨MR_CFG n, 23, 16⟩
abbrev MR_CFG_MARGIN_GOOD (n : Nat) : RegField := ⟨MR_CFG n, 15, 8⟩
abbrev MR_CFG_MARGIN_MIN (n : Nat) : RegField := ⟨MR_CFG n, 7, 0⟩
/-- MR_PATH_CTRL, R317. -/
abbrev MR_PATH_CTRL (n : Nat) : Nat := 0x46100810 + 0x10000 * n
abbrev MR_PATH_CTRL_FAILOVER (n : Nat) : RegField := ⟨MR_PATH_CTRL n, 31, 31⟩
abbrev MR_PATH_CTRL_AUTO (n : Nat) : RegField := ⟨MR_PATH_CTRL n, 30, 30⟩
abbrev MR_PATH_CTRL_MAKE_STANDBY (n : Nat) : RegField := ⟨MR_PATH_CTRL n, 29, 29⟩
abbrev MR_PATH_CTRL_HEALTH_PERIOD (n : Nat) : RegField := ⟨MR_PATH_CTRL n, 23, 16⟩
abbrev MR_PATH_CTRL_LOS_TIME (n : Nat) : RegField := ⟨MR_PATH_CTRL n, 15, 8⟩
abbrev MR_PATH_CTRL_CRC_LIM (n : Nat) : RegField := ⟨MR_PATH_CTRL n, 7, 0⟩
/-- MR_PATH_STAT, R318. -/
abbrev MR_PATH_STAT (n : Nat) : Nat := 0x46100814 + 0x10000 * n
abbrev MR_PATH_STAT_ACTIVE (n : Nat) : RegField := ⟨MR_PATH_STAT n, 31, 31⟩
abbrev MR_PATH_STAT_STANDBY_OK (n : Nat) : RegField := ⟨MR_PATH_STAT n, 30, 30⟩
abbrev MR_PATH_STAT_IN_PROGRESS (n : Nat) : RegField := ⟨MR_PATH_STAT n, 29, 29⟩
abbrev MR_PATH_STAT_RESULT (n : Nat) : RegField := ⟨MR_PATH_STAT n, 19, 16⟩
abbrev MR_PATH_STAT_FO_CNT (n : Nat) : RegField := ⟨MR_PATH_STAT n, 15, 0⟩
/-- MR_SAVE, R316. -/
abbrev MR_SAVE (n : Nat) : Nat := 0x46100818 + 0x10000 * n

/-! Unit CAM. -/
/-- CAM_CTRL, R256. -/
abbrev CAM_CTRL (n : Nat) : Nat := 0x47000000 + 0x10000 * n
abbrev CAM_CTRL_EN (n : Nat) : RegField := ⟨CAM_CTRL n, 31, 31⟩
abbrev CAM_CTRL_CAPTURE (n : Nat) : RegField := ⟨CAM_CTRL n, 30, 30⟩
abbrev CAM_CTRL_CAP_RAW (n : Nat) : RegField := ⟨CAM_CTRL n, 29, 29⟩
abbrev CAM_CTRL_VC (n : Nat) : RegField := ⟨CAM_CTRL n, 25, 24⟩
abbrev CAM_CTRL_DT (n : Nat) : RegField := ⟨CAM_CTRL n, 21, 20⟩
abbrev CAM_CTRL_SKIP (n : Nat) : RegField := ⟨CAM_CTRL n, 15, 12⟩
abbrev CAM_CTRL_PHASE (n : Nat) : RegField := ⟨CAM_CTRL n, 11, 8⟩
/-- CAM_SIZE, R256. -/
abbrev CAM_SIZE (n : Nat) : Nat := 0x47000004 + 0x10000 * n
abbrev CAM_SIZE_HEIGHT (n : Nat) : RegField := ⟨CAM_SIZE n, 28, 16⟩
abbrev CAM_SIZE_WIDTH (n : Nat) : RegField := ⟨CAM_SIZE n, 13, 0⟩
/-- CAM_TRIG_WIN, R257. -/
abbrev CAM_TRIG_WIN (n : Nat) : Nat := 0x47000008 + 0x10000 * n
abbrev CAM_TRIG_WIN_WIN (n : Nat) : RegField := ⟨CAM_TRIG_WIN n, 19, 0⟩
/-- CAM_DIST_LO, R258. -/
abbrev CAM_DIST_LO (n : Nat) : Nat := 0x4700000c + 0x10000 * n
/-- CAM_DIST_HI, R258. -/
abbrev CAM_DIST_HI (n : Nat) : Nat := 0x47000010 + 0x10000 * n
abbrev CAM_DIST_HI_DIST_SX (n : Nat) : RegField := ⟨CAM_DIST_HI n, 31, 16⟩
abbrev CAM_DIST_HI_DIST_H (n : Nat) : RegField := ⟨CAM_DIST_HI n, 15, 0⟩
/-- CAM_ROWP, R258. -/
abbrev CAM_ROWP (n : Nat) : Nat := 0x47000014 + 0x10000 * n
/-- CAM_STAT, R260. -/
abbrev CAM_STAT (n : Nat) : Nat := 0x47000018 + 0x10000 * n
abbrev CAM_STAT_STATE (n : Nat) : RegField := ⟨CAM_STAT n, 27, 24⟩
abbrev CAM_STAT_CAP_LOST (n : Nat) : RegField := ⟨CAM_STAT n, 9, 9⟩
abbrev CAM_STAT_DT_IGN (n : Nat) : RegField := ⟨CAM_STAT n, 8, 8⟩
abbrev CAM_STAT_UNTRIG (n : Nat) : RegField := ⟨CAM_STAT n, 7, 7⟩
abbrev CAM_STAT_CSI_ERR (n : Nat) : RegField := ⟨CAM_STAT n, 6, 6⟩
abbrev CAM_STAT_OVERFLOW (n : Nat) : RegField := ⟨CAM_STAT n, 5, 5⟩
abbrev CAM_STAT_LONG (n : Nat) : RegField := ⟨CAM_STAT n, 4, 4⟩
abbrev CAM_STAT_SHORT (n : Nat) : RegField := ⟨CAM_STAT n, 3, 3⟩
/-- CAM_CNT, R259. -/
abbrev CAM_CNT (n : Nat) : Nat := 0x4700001c + 0x10000 * n
abbrev CAM_CNT_FRAMES (n : Nat) : RegField := ⟨CAM_CNT n, 31, 16⟩
abbrev CAM_CNT_DROPPED (n : Nat) : RegField := ⟨CAM_CNT n, 15, 0⟩
/-- CAM_ERR, R260. -/
abbrev CAM_ERR (n : Nat) : Nat := 0x47000020 + 0x10000 * n
abbrev CAM_ERR_ECC_CORR (n : Nat) : RegField := ⟨CAM_ERR n, 31, 16⟩
abbrev CAM_ERR_CSI_ERR (n : Nat) : RegField := ⟨CAM_ERR n, 15, 0⟩

/-! Unit ISP. -/
/-- ISP_CTRL, R289. -/
abbrev ISP_CTRL : Nat := 0x47080000
abbrev ISP_CTRL_EN : RegField := ⟨ISP_CTRL, 31, 31⟩
/-- ISP_STAT, R262. -/
abbrev ISP_STAT : Nat := 0x47080004
abbrev ISP_STAT_DPC_ORDER : RegField := ⟨ISP_STAT, 7, 7⟩
abbrev ISP_STAT_BUSY : RegField := ⟨ISP_STAT, 3, 3⟩
abbrev ISP_STAT_CAM : RegField := ⟨ISP_STAT, 2, 0⟩
/-- ISP_SWITCH, R266. -/
abbrev ISP_SWITCH : Nat := 0x47080008
/-- ISP_C_BL01, R262. -/
abbrev ISP_C_BL01 (i : Nat) : Nat := 0x47080100 + 0x40 * i
abbrev ISP_C_BL01_BL_ODD (i : Nat) : RegField := ⟨ISP_C_BL01 i, 27, 16⟩
abbrev ISP_C_BL01_BL_EVEN (i : Nat) : RegField := ⟨ISP_C_BL01 i, 11, 0⟩
/-- ISP_C_BL23, R262. -/
abbrev ISP_C_BL23 (i : Nat) : Nat := 0x47080104 + 0x40 * i
abbrev ISP_C_BL23_BL_ODD (i : Nat) : RegField := ⟨ISP_C_BL23 i, 27, 16⟩
abbrev ISP_C_BL23_BL_EVEN (i : Nat) : RegField := ⟨ISP_C_BL23 i, 11, 0⟩
/-- ISP_C_CFA, R261. -/
abbrev ISP_C_CFA (i : Nat) : Nat := 0x47080108 + 0x40 * i
abbrev ISP_C_CFA_CFA (i : Nat) : RegField := ⟨ISP_C_CFA i, 1, 0⟩
/-- ISP_C_WB0, R263. -/
abbrev ISP_C_WB0 (i : Nat) : Nat := 0x4708010c + 0x40 * i
abbrev ISP_C_WB0_WB_G (i : Nat) : RegField := ⟨ISP_C_WB0 i, 31, 16⟩
abbrev ISP_C_WB0_WB_R (i : Nat) : RegField := ⟨ISP_C_WB0 i, 15, 0⟩
/-- ISP_C_WB1, R263. -/
abbrev ISP_C_WB1 (i : Nat) : Nat := 0x47080110 + 0x40 * i
abbrev ISP_C_WB1_WB_B (i : Nat) : RegField := ⟨ISP_C_WB1 i, 15, 0⟩
/-- ISP_C_CCM0, R265. -/
abbrev ISP_C_CCM0 (i : Nat) : Nat := 0x47080114 + 0x40 * i
abbrev ISP_C_CCM0_M_HI (i : Nat) : RegField := ⟨ISP_C_CCM0 i, 31, 16⟩
abbrev ISP_C_CCM0_M_LO (i : Nat) : RegField := ⟨ISP_C_CCM0 i, 15, 0⟩
/-- ISP_C_CCM1, R265. -/
abbrev ISP_C_CCM1 (i : Nat) : Nat := 0x47080118 + 0x40 * i
abbrev ISP_C_CCM1_M_HI (i : Nat) : RegField := ⟨ISP_C_CCM1 i, 31, 16⟩
abbrev ISP_C_CCM1_M_LO (i : Nat) : RegField := ⟨ISP_C_CCM1 i, 15, 0⟩
/-- ISP_C_CCM2, R265. -/
abbrev ISP_C_CCM2 (i : Nat) : Nat := 0x4708011c + 0x40 * i
abbrev ISP_C_CCM2_M_HI (i : Nat) : RegField := ⟨ISP_C_CCM2 i, 31, 16⟩
abbrev ISP_C_CCM2_M_LO (i : Nat) : RegField := ⟨ISP_C_CCM2 i, 15, 0⟩
/-- ISP_C_CCM3, R265. -/
abbrev ISP_C_CCM3 (i : Nat) : Nat := 0x47080120 + 0x40 * i
abbrev ISP_C_CCM3_M_HI (i : Nat) : RegField := ⟨ISP_C_CCM3 i, 31, 16⟩
abbrev ISP_C_CCM3_M_LO (i : Nat) : RegField := ⟨ISP_C_CCM3 i, 15, 0⟩
/-- ISP_C_CCM4, R265. -/
abbrev ISP_C_CCM4 (i : Nat) : Nat := 0x47080124 + 0x40 * i
abbrev ISP_C_CCM4_M_LO (i : Nat) : RegField := ⟨ISP_C_CCM4 i, 15, 0⟩
/-- ISP_SHADE, R263. -/
abbrev ISP_SHADE (i : Nat) : Nat := 0x47081000 + 0x4 * i
abbrev ISP_SHADE_K_ODD (i : Nat) : RegField := ⟨ISP_SHADE i, 31, 16⟩
abbrev ISP_SHADE_K_EVEN (i : Nat) : RegField := ⟨ISP_SHADE i, 15, 0⟩
/-- ISP_DPC, R262. -/
abbrev ISP_DPC (i : Nat) : Nat := 0x47084000 + 0x4 * i
abbrev ISP_DPC_VALID (i : Nat) : RegField := ⟨ISP_DPC i, 31, 31⟩
abbrev ISP_DPC_ROW (i : Nat) : RegField := ⟨ISP_DPC i, 27, 16⟩
abbrev ISP_DPC_COL (i : Nat) : RegField := ⟨ISP_DPC i, 12, 0⟩
/-- ISP_DLUT, R265. -/
abbrev ISP_DLUT (i : Nat) : Nat := 0x47088000 + 0x4 * i
abbrev ISP_DLUT_D_ODD (i : Nat) : RegField := ⟨ISP_DLUT i, 31, 16⟩
abbrev ISP_DLUT_D_EVEN (i : Nat) : RegField := ⟨ISP_DLUT i, 15, 0⟩

/-! Unit BOLT. -/
/-- BOLT_CTRL, R285. -/
abbrev BOLT_CTRL : Nat := 0x47090000
abbrev BOLT_CTRL_EN : RegField := ⟨BOLT_CTRL, 31, 31⟩
abbrev BOLT_CTRL_PROPOSE : RegField := ⟨BOLT_CTRL, 30, 30⟩
abbrev BOLT_CTRL_AUTO : RegField := ⟨BOLT_CTRL, 29, 29⟩
/-- BOLT_STAT, R286. -/
abbrev BOLT_STAT : Nat := 0x47090004
abbrev BOLT_STAT_PLAN_FULL : RegField := ⟨BOLT_STAT, 5, 5⟩
abbrev BOLT_STAT_PROP_TRUNC : RegField := ⟨BOLT_STAT, 4, 4⟩
abbrev BOLT_STAT_AUTO_DONE : RegField := ⟨BOLT_STAT, 3, 3⟩
abbrev BOLT_STAT_PROP : RegField := ⟨BOLT_STAT, 1, 0⟩
/-- BOLT_CLS0, R274. -/
abbrev BOLT_CLS0 : Nat := 0x47090008
abbrev BOLT_CLS0_HOT_TH : RegField := ⟨BOLT_CLS0, 31, 24⟩
abbrev BOLT_CLS0_WEAK_TH : RegField := ⟨BOLT_CLS0, 23, 16⟩
abbrev BOLT_CLS0_MISS_TH : RegField := ⟨BOLT_CLS0, 15, 8⟩
abbrev BOLT_CLS0_DEV_TH : RegField := ⟨BOLT_CLS0, 7, 0⟩
/-- BOLT_CLS1, R274. -/
abbrev BOLT_CLS1 : Nat := 0x4709000c
abbrev BOLT_CLS1_SPRAY_TH : RegField := ⟨BOLT_CLS1, 31, 24⟩
abbrev BOLT_CLS1_DOM_TH : RegField := ⟨BOLT_CLS1, 23, 16⟩
abbrev BOLT_CLS1_REG_MAX : RegField := ⟨BOLT_CLS1, 15, 4⟩
abbrev BOLT_CLS1_CONF_MAX : RegField := ⟨BOLT_CLS1, 3, 2⟩
abbrev BOLT_CLS1_PROP_CONF : RegField := ⟨BOLT_CLS1, 1, 0⟩
/-- BOLT_LIM, R286. -/
abbrev BOLT_LIM : Nat := 0x47090010
abbrev BOLT_LIM_MAX_CHANGE : RegField := ⟨BOLT_LIM, 31, 16⟩
abbrev BOLT_LIM_TRIM_MAX : RegField := ⟨BOLT_LIM, 6, 0⟩
/-- BOLT_UNMIX_A, R272. -/
abbrev BOLT_UNMIX_A (i : Nat) : Nat := 0x47090020 + 0x8 * i
abbrev BOLT_UNMIX_A_U1 (i : Nat) : RegField := ⟨BOLT_UNMIX_A i, 31, 16⟩
abbrev BOLT_UNMIX_A_U0 (i : Nat) : RegField := ⟨BOLT_UNMIX_A i, 15, 0⟩
/-- BOLT_UNMIX_B, R272. -/
abbrev BOLT_UNMIX_B (i : Nat) : Nat := 0x47090024 + 0x8 * i
abbrev BOLT_UNMIX_B_U2 (i : Nat) : RegField := ⟨BOLT_UNMIX_B i, 15, 0⟩
/-- BOLT_SMAP, R270. -/
abbrev BOLT_SMAP (i : Nat) : Nat := 0x47090040 + 0x4 * i
abbrev BOLT_SMAP_VALID (i : Nat) : RegField := ⟨BOLT_SMAP i, 31, 31⟩
abbrev BOLT_SMAP_CH (i : Nat) : RegField := ⟨BOLT_SMAP i, 28, 28⟩
abbrev BOLT_SMAP_SQ (i : Nat) : RegField := ⟨BOLT_SMAP i, 27, 24⟩
abbrev BOLT_SMAP_STREAM_ID (i : Nat) : RegField := ⟨BOLT_SMAP i, 15, 0⟩
/-- BOLT_P_MAP0, R271. -/
abbrev BOLT_P_MAP0 (i : Nat) : Nat := 0x47090100 + 0x8 * i
abbrev BOLT_P_MAP0_EN (i : Nat) : RegField := ⟨BOLT_P_MAP0 i, 31, 31⟩
abbrev BOLT_P_MAP0_CAM (i : Nat) : RegField := ⟨BOLT_P_MAP0 i, 30, 28⟩
abbrev BOLT_P_MAP0_CH (i : Nat) : RegField := ⟨BOLT_P_MAP0 i, 27, 27⟩
abbrev BOLT_P_MAP0_COL0 (i : Nat) : RegField := ⟨BOLT_P_MAP0 i, 23, 0⟩
/-- BOLT_P_MAP1, R271. -/
abbrev BOLT_P_MAP1 (i : Nat) : Nat := 0x47090104 + 0x8 * i
abbrev BOLT_P_MAP1_NPITCH (i : Nat) : RegField := ⟨BOLT_P_MAP1 i, 15, 0⟩
/-- BOLT_RPT_BASE_LO, R277. -/
abbrev BOLT_RPT_BASE_LO : Nat := 0x47090f00
abbrev BOLT_RPT_BASE_LO_BASE_L : RegField := ⟨BOLT_RPT_BASE_LO, 31, 6⟩
/-- BOLT_RPT_BASE_HI, R277. -/
abbrev BOLT_RPT_BASE_HI : Nat := 0x47090f04
abbrev BOLT_RPT_BASE_HI_BASE_H : RegField := ⟨BOLT_RPT_BASE_HI, 7, 0⟩
/-- BOLT_RPT_CTRL, R277. -/
abbrev BOLT_RPT_CTRL : Nat := 0x47090f08
abbrev BOLT_RPT_CTRL_EN : RegField := ⟨BOLT_RPT_CTRL, 31, 31⟩
abbrev BOLT_RPT_CTRL_PENDING : RegField := ⟨BOLT_RPT_CTRL, 18, 16⟩
abbrev BOLT_RPT_CTRL_LOST : RegField := ⟨BOLT_RPT_CTRL, 9, 9⟩
abbrev BOLT_RPT_CTRL_BUS_ERR : RegField := ⟨BOLT_RPT_CTRL, 8, 8⟩
abbrev BOLT_RPT_CTRL_SIZE : RegField := ⟨BOLT_RPT_CTRL, 2, 0⟩
/-- BOLT_RPT_IDX, R277. -/
abbrev BOLT_RPT_IDX : Nat := 0x47090f0c
abbrev BOLT_RPT_IDX_WIDX : RegField := ⟨BOLT_RPT_IDX, 31, 16⟩
abbrev BOLT_RPT_IDX_RIDX : RegField := ⟨BOLT_RPT_IDX, 15, 0⟩
/-- BOLT_KERNEL, R271. -/
abbrev BOLT_KERNEL (i : Nat) : Nat := 0x47091000 + 0x4 * i
abbrev BOLT_KERNEL_KE (i : Nat) : RegField := ⟨BOLT_KERNEL i, 31, 16⟩
abbrev BOLT_KERNEL_KC_KD (i : Nat) : RegField := ⟨BOLT_KERNEL i, 15, 0⟩

/-! Unit CS. -/
/-- CS_CMD, R282. -/
abbrev CS_CMD : Nat := 0x47280000
abbrev CS_CMD_OP : RegField := ⟨CS_CMD, 2, 0⟩
/-- CS_STAT, R282. -/
abbrev CS_STAT : Nat := 0x47280004
abbrev CS_STAT_RESULT : RegField := ⟨CS_STAT, 27, 24⟩
abbrev CS_STAT_EPOCH_LATE : RegField := ⟨CS_STAT, 10, 10⟩
abbrev CS_STAT_SHADOW : RegField := ⟨CS_STAT, 2, 0⟩
/-- CS_EPOCH, R283. -/
abbrev CS_EPOCH : Nat := 0x47280008
/-- CS_EP_PAGE, R283. -/
abbrev CS_EP_PAGE : Nat := 0x4728000c
/-- CS_EP_LINE, R283. -/
abbrev CS_EP_LINE : Nat := 0x47280010
/-- CS_SH_KEY, R280. -/
abbrev CS_SH_KEY : Nat := 0x47280014
/-- CS_ACT_KEY, R280. -/
abbrev CS_ACT_KEY : Nat := 0x47280018
/-- CS_SH_BOOST, R280. -/
abbrev CS_SH_BOOST (i : Nat) : Nat := 0x47280100 + 0x4 * i
/-- CS_ACT_BOOST, R280. -/
abbrev CS_ACT_BOOST (i : Nat) : Nat := 0x47280180 + 0x4 * i
/-- CS_PBASE, R278. -/
abbrev CS_PBASE (i : Nat) : Nat := 0x47280200 + 0x4 * i
abbrev CS_PBASE_PBASE (i : Nat) : RegField := ⟨CS_PBASE i, 16, 0⟩
/-- CS_LOG, R283. -/
abbrev CS_LOG (i : Nat) : Nat := 0x47280400 + 0x4 * i

/-! Unit SEC. -/
/-- SEC_STAT, R427. -/
abbrev SEC_STAT : Nat := 0x48030000
abbrev SEC_STAT_SECURE : RegField := ⟨SEC_STAT, 31, 31⟩
abbrev SEC_STAT_DBG_UNLOCKED : RegField := ⟨SEC_STAT, 30, 30⟩
abbrev SEC_STAT_SLOT : RegField := ⟨SEC_STAT, 29, 28⟩
abbrev SEC_STAT_KEY_INDEX : RegField := ⟨SEC_STAT, 27, 26⟩
abbrev SEC_STAT_REVOKED : RegField := ⟨SEC_STAT, 19, 16⟩
abbrev SEC_STAT_FAIL : RegField := ⟨SEC_STAT, 11, 8⟩
abbrev SEC_STAT_BOOT_VER : RegField := ⟨SEC_STAT, 5, 0⟩
/-- SEC_ROLLBACK, R427. -/
abbrev SEC_ROLLBACK : Nat := 0x48030004
abbrev SEC_ROLLBACK_BUSY : RegField := ⟨SEC_ROLLBACK, 31, 31⟩
abbrev SEC_ROLLBACK_REFUSED : RegField := ⟨SEC_ROLLBACK, 30, 30⟩
abbrev SEC_ROLLBACK_COUNT : RegField := ⟨SEC_ROLLBACK, 5, 0⟩
/-- SEC_ROLLBACK_SET, R427. -/
abbrev SEC_ROLLBACK_SET : Nat := 0x48030008
abbrev SEC_ROLLBACK_SET_N : RegField := ⟨SEC_ROLLBACK_SET, 5, 0⟩
/-- SEC_REVOKE, R427. -/
abbrev SEC_REVOKE : Nat := 0x4803000c
abbrev SEC_REVOKE_KEYS : RegField := ⟨SEC_REVOKE, 3, 0⟩
/-- SEC_UID_LO, R427. -/
abbrev SEC_UID_LO : Nat := 0x48030010
/-- SEC_UID_HI, R427. -/
abbrev SEC_UID_HI : Nat := 0x48030014
/-- SEC_VER_LO, R438. -/
abbrev SEC_VER_LO : Nat := 0x48030020
/-- SEC_VER_HI, R438. -/
abbrev SEC_VER_HI : Nat := 0x48030024
abbrev SEC_VER_HI_ADDR_H : RegField := ⟨SEC_VER_HI, 7, 0⟩
/-- SEC_VER_CMD, R438. -/
abbrev SEC_VER_CMD : Nat := 0x48030028
abbrev SEC_VER_CMD_GO : RegField := ⟨SEC_VER_CMD, 0, 0⟩
/-- SEC_VER_STAT, R438. -/
abbrev SEC_VER_STAT : Nat := 0x4803002c
abbrev SEC_VER_STAT_BUSY : RegField := ⟨SEC_VER_STAT, 31, 31⟩
abbrev SEC_VER_STAT_DONE : RegField := ⟨SEC_VER_STAT, 30, 30⟩
abbrev SEC_VER_STAT_RESULT : RegField := ⟨SEC_VER_STAT, 3, 0⟩

/-! Unit MBX. -/
/-- MBX_CMD, R417. -/
abbrev MBX_CMD : Nat := 0x48040000
abbrev MBX_CMD_OP : RegField := ⟨MBX_CMD, 7, 0⟩
/-- MBX_STAT, R417. -/
abbrev MBX_STAT : Nat := 0x48040004
abbrev MBX_STAT_BUSY : RegField := ⟨MBX_STAT, 31, 31⟩
abbrev MBX_STAT_OWNER : RegField := ⟨MBX_STAT, 28, 28⟩
abbrev MBX_STAT_RESULT : RegField := ⟨MBX_STAT, 15, 8⟩
abbrev MBX_STAT_LAST_OP : RegField := ⟨MBX_STAT, 7, 0⟩
/-- MBX_ARG, R418. -/
abbrev MBX_ARG (i : Nat) : Nat := 0x48040010 + 0x4 * i
/-- MBX_RES, R418. -/
abbrev MBX_RES (i : Nat) : Nat := 0x48040020 + 0x4 * i

end Sys2Proof.Machine
end

