-- ==== Sys2Proof/Machine/RegTable.lean ====
section
/-!
DEFINITION. The register tables of the manual as data: for each unit the registers with their offsets, and for each
field its bits, access code (R14) and value after power-on reset. A field not listed is reserved (R13).
-/
namespace Sys2Proof.Machine

/-- The access codes of R14. -/
inductive Access where
  | ro | rw | w1c | w1s | wo | rc
deriving DecidableEq, Repr

/-- One field row of a register table. -/
structure FieldRow where
  hi : Nat
  lo : Nat
  name : String
  acc : Access
  reset : Nat
deriving DecidableEq, Repr

/-- One register heading: its name, offset in its unit, stride and count of an array, rule and fields. -/
structure RegRow where
  name : String
  off : Nat
  stride : Nat
  count : Nat
  rule : Nat
  fields : List FieldRow
deriving DecidableEq, Repr

def sysTable0 : List RegRow :=
  [ ⟨"SYS_ID", 0x0, 0x0, 1, 4, [⟨31, 16, "PART", .ro, 0x4896⟩, ⟨7, 4, "STEP_MAJOR", .ro, 0xa⟩, ⟨3, 0, "STEP_MINOR", .ro, 0x1⟩]⟩,
    ⟨"SYS_STRAP", 0x4, 0x0, 1, 415, [⟨31, 31, "ID_FIX", .ro, 0x0⟩, ⟨30, 30, "ID_BAD", .ro, 0x0⟩, ⟨27, 16, "ID", .ro, 0x0⟩, ⟨4, 3, "BOOT_SRC", .ro, 0x0⟩, ⟨2, 0, "OSC_DLY", .ro, 0x0⟩]⟩,
    ⟨"SYS_RST", 0x8, 0x0, 1, 413, [⟨1, 1, "SC1_RST", .rw, 0x1⟩, ⟨0, 0, "SC0_RST", .rw, 0x0⟩]⟩,
    ⟨"SYS_RST_CAUSE", 0xc, 0x0, 1, 411, [⟨5, 5, "SC1_WDT", .w1c, 0x0⟩, ⟨4, 4, "SC0_WDT", .w1c, 0x0⟩, ⟨3, 3, "SHUTDOWN", .w1c, 0x0⟩, ⟨2, 2, "MBX", .w1c, 0x0⟩, ⟨1, 1, "PIN", .w1c, 0x0⟩, ⟨0, 0, "POR", .w1c, 0x1⟩]⟩,
    ⟨"SYS_SC_ENTRY", 0x10, 0x4, 2, 413, [⟨31, 2, "ENTRY", .rw, 0x0⟩]⟩,
    ⟨"BRAKE_LIM", 0x1000, 0x4, 48, 192, [⟨15, 0, "LIMIT", .rw, 0x0⟩]⟩,
    ⟨"BRAKE_STAT0", 0x1100, 0x0, 1, 189, [⟨31, 0, "CUT", .w1c, 0x0⟩]⟩,
    ⟨"BRAKE_STAT1", 0x1104, 0x0, 1, 189, [⟨15, 0, "CUT", .w1c, 0x0⟩]⟩,
    ⟨"BRAKE_OSC", 0x1108, 0x0, 1, 190, [⟨31, 31, "OSC_FAIL", .w1c, 0x0⟩, ⟨15, 0, "RATE", .ro, 0x0⟩]⟩ ]

/-- The registers of unit SYS. -/
def sysTable : List RegRow := sysTable0

def clkTable0 : List RegRow :=
  [ ⟨"CLK_STAT", 0x0, 0x0, 1, 388, [⟨31, 31, "REF_RETRY", .w1s, 0x0⟩, ⟨7, 7, "TB_FAIL", .w1c, 0x0⟩, ⟨6, 6, "CLKSW_FORCED", .w1c, 0x0⟩, ⟨5, 5, "REF_FAIL", .w1c, 0x0⟩, ⟨4, 4, "REF_BAD", .w1c, 0x0⟩, ⟨1, 1, "ON_RC", .ro, 0x1⟩, ⟨0, 0, "REF_OK", .ro, 0x0⟩]⟩,
    ⟨"CLK_REF_MON", 0x4, 0x0, 1, 389, [⟨8, 0, "RC_COUNT", .ro, 0x0⟩]⟩,
    ⟨"CLK_EN0", 0x10, 0x0, 1, 395, [⟨27, 20, "CAM", .rw, 0x0⟩, ⟨18, 17, "CMP", .rw, 0x0⟩, ⟨16, 16, "CS", .rw, 0x0⟩, ⟨15, 15, "BOLT", .rw, 0x0⟩, ⟨14, 14, "ISP", .rw, 0x0⟩, ⟨13, 10, "PORT", .rw, 0x0⟩, ⟨9, 8, "DDR", .rw, 0x0⟩, ⟨7, 7, "DMA", .rw, 0x0⟩, ⟨6, 6, "SEC", .rw, 0x0⟩, ⟨5, 5, "GPIO", .rw, 0x0⟩, ⟨4, 4, "UART", .rw, 0x1⟩, ⟨3, 3, "QSPI", .rw, 0x1⟩, ⟨2, 2, "SC1", .rw, 0x0⟩, ⟨1, 1, "SC0", .rw, 0x1⟩, ⟨0, 0, "BOOT_ROM", .rw, 0x1⟩]⟩,
    ⟨"CLK_EN1", 0x14, 0x0, 1, 395, [⟨27, 16, "HPG", .rw, 0x0⟩, ⟨11, 0, "SQ", .rw, 0x0⟩]⟩,
    ⟨"CLK_EN2", 0x18, 0x0, 1, 395, [⟨15, 0, "DCE", .rw, 0x0⟩]⟩,
    ⟨"CLK_SEL", 0x20, 0x0, 1, 393, [⟨4, 0, "BYPASS", .rw, 0x1f⟩]⟩,
    ⟨"PLL_CTRL", 0x100, 0x10, 6, 390, [⟨31, 31, "EN", .rw, 0x0⟩, ⟨30, 30, "LOCK", .ro, 0x0⟩, ⟨25, 24, "RATE", .rw, 0x0⟩, ⟨21, 16, "SSC_RATE", .rw, 0x0⟩, ⟨12, 8, "SSC_DEPTH", .rw, 0x0⟩]⟩,
    ⟨"PLL_MON", 0x104, 0x10, 6, 394, [⟨31, 31, "MON_ERR", .w1c, 0x0⟩, ⟨30, 30, "UNLOCK", .w1c, 0x0⟩, ⟨15, 0, "COUNT", .ro, 0x0⟩]⟩,
    ⟨"LPLL_MON", 0x160, 0x4, 4, 394, [⟨31, 31, "MON_ERR", .w1c, 0x0⟩, ⟨30, 30, "UNLOCK", .w1c, 0x0⟩, ⟨29, 29, "LOCK", .ro, 0x0⟩, ⟨15, 0, "COUNT", .ro, 0x0⟩]⟩ ]

/-- The registers of unit CLK. -/
def clkTable : List RegRow := clkTable0

def pwrTable0 : List RegRow :=
  [ ⟨"PWR_BUDGET", 0x0, 0x0, 1, 379, [⟨31, 16, "RAIL_MW", .rw, 0x0⟩, ⟨15, 0, "THERM_MW", .rw, 0x0⟩]⟩,
    ⟨"PWR_RES_BASE", 0x4, 0x0, 1, 379, [⟨15, 0, "RES_BASE", .rw, 0x0⟩]⟩,
    ⟨"PWR_RES_LINE", 0x8, 0x0, 1, 379, [⟨23, 0, "RES_LINE", .rw, 0x0⟩]⟩,
    ⟨"PWR_WSTAT", 0xc, 0x0, 1, 379, [⟨31, 16, "GRANTED", .ro, 0x0⟩, ⟨15, 0, "RES", .ro, 0x0⟩]⟩,
    ⟨"PWR_WFLAG", 0x10, 0x0, 1, 382, [⟨31, 31, "OVER", .ro, 0x0⟩, ⟨23, 16, "WAITING", .ro, 0x0⟩, ⟨2, 2, "TOO_BIG_SEEN", .w1c, 0x0⟩, ⟨1, 1, "TIMEOUT_SEEN", .w1c, 0x0⟩, ⟨0, 0, "OVER_SEEN", .w1c, 0x0⟩]⟩,
    ⟨"PWR_TOLL_CFG", 0x20, 0x0, 1, 384, [⟨31, 16, "TOL", .rw, 0x3e8⟩, ⟨7, 0, "N", .rw, 0xa⟩]⟩,
    ⟨"PWR_TOLL_WIN", 0x24, 0x0, 1, 384, [⟨31, 16, "PLAN", .ro, 0x0⟩, ⟨15, 0, "ACT", .ro, 0x0⟩]⟩,
    ⟨"PWR_TOLL_PLAN_LO", 0x28, 0x0, 1, 384, [⟨31, 0, "ENERGY", .ro, 0x0⟩]⟩,
    ⟨"PWR_TOLL_PLAN_HI", 0x2c, 0x0, 1, 384, [⟨31, 0, "ENERGY", .ro, 0x0⟩]⟩,
    ⟨"PWR_TOLL_ACT_LO", 0x30, 0x0, 1, 384, [⟨31, 0, "ENERGY", .ro, 0x0⟩]⟩,
    ⟨"PWR_TOLL_ACT_HI", 0x34, 0x0, 1, 384, [⟨31, 0, "ENERGY", .ro, 0x0⟩]⟩,
    ⟨"PWR_TOLL_EXC", 0x38, 0x0, 1, 384, [⟨31, 16, "MAX_EX", .rc, 0x0⟩, ⟨15, 0, "EXC_CNT", .rc, 0x0⟩]⟩ ]

def pwrTable1 : List RegRow :=
  [ ⟨"PWR_HP_CFG", 0x40, 0x0, 1, 386, [⟨7, 0, "WIN", .rw, 0x1⟩]⟩,
    ⟨"PWR_HP_STAT", 0x44, 0x0, 1, 386, [⟨15, 8, "SEEN", .w1c, 0x0⟩, ⟨7, 0, "ALARM", .ro, 0x0⟩]⟩,
    ⟨"PWR_RQ_CFG", 0x100, 0x8, 32, 380, [⟨31, 16, "PWR", .rw, 0x0⟩, ⟨15, 0, "MAXWAIT", .rw, 0x0⟩]⟩,
    ⟨"PWR_RQ_STAT", 0x104, 0x8, 32, 380, [⟨31, 30, "STATE", .ro, 0x0⟩, ⟨26, 24, "CLASS", .ro, 0x0⟩, ⟨23, 20, "RESULT", .ro, 0x0⟩, ⟨15, 0, "GRANT", .ro, 0x0⟩]⟩,
    ⟨"PWR_FW_REQ", 0x200, 0x8, 4, 380, [⟨31, 31, "REQ", .w1s, 0x0⟩, ⟨30, 30, "REL", .w1s, 0x0⟩, ⟨26, 24, "CLASS", .rw, 0x7⟩, ⟨15, 0, "PWR", .rw, 0x0⟩]⟩,
    ⟨"PWR_FW_WAIT", 0x204, 0x8, 4, 382, [⟨31, 16, "MAXWAIT", .rw, 0x0⟩, ⟨15, 0, "DUR", .rw, 0x0⟩]⟩,
    ⟨"PWR_HE_LO", 0x300, 0x10, 8, 385, [⟨31, 0, "ENERGY", .ro, 0x0⟩]⟩,
    ⟨"PWR_HE_HI", 0x304, 0x10, 8, 385, [⟨31, 0, "ENERGY", .ro, 0x0⟩]⟩,
    ⟨"PWR_HE_LIM", 0x308, 0x10, 8, 386, [⟨31, 0, "LIMIT", .rw, 0x0⟩]⟩,
    ⟨"PWR_HE_PWR", 0x30c, 0x10, 8, 386, [⟨31, 0, "POWER", .ro, 0x0⟩]⟩ ]

/-- The registers of unit PWR. -/
def pwrTable : List RegRow := pwrTable0 ++ pwrTable1

def thmTable0 : List RegRow :=
  [ ⟨"THM_CTRL", 0x0, 0x0, 1, 398, [⟨7, 0, "NEAR_MARGIN", .rw, 0x8⟩]⟩,
    ⟨"THM_STAT", 0x4, 0x0, 1, 405, [⟨31, 31, "SHUT_PENDING", .ro, 0x0⟩, ⟨30, 30, "HCLR_REFUSED", .w1c, 0x0⟩, ⟨5, 4, "DIE_LEVEL", .ro, 0x0⟩, ⟨3, 0, "DIE_SRC", .ro, 0x0⟩]⟩,
    ⟨"THM_DRISE", 0x10, 0x4, 3, 400, [⟨31, 16, "RISE_CRIT", .rw, 0x0⟩, ⟨15, 0, "RISE_WARN", .rw, 0x0⟩]⟩,
    ⟨"THM_HRISE", 0x20, 0x4, 3, 400, [⟨31, 16, "RISE_CRIT", .rw, 0x0⟩, ⟨15, 0, "RISE_WARN", .rw, 0x0⟩]⟩,
    ⟨"THM_HCRIT0", 0x30, 0x0, 1, 403, [⟨31, 0, "CRIT", .w1c, 0x0⟩]⟩,
    ⟨"THM_HCRIT1", 0x34, 0x0, 1, 403, [⟨15, 0, "CRIT", .w1c, 0x0⟩]⟩,
    ⟨"TS_LIM", 0x100, 0x8, 16, 399, [⟨31, 24, "RESUME", .rw, 0xb4⟩, ⟨23, 16, "CRIT", .rw, 0xdc⟩, ⟨15, 8, "LIMIT", .rw, 0xd2⟩, ⟨7, 0, "WARN", .rw, 0xc8⟩]⟩,
    ⟨"TS_READ", 0x104, 0x8, 16, 397, [⟨31, 31, "FAST", .ro, 0x0⟩, ⟨30, 30, "VALID", .ro, 0x0⟩, ⟨29, 28, "LEVEL", .ro, 0x0⟩, ⟨27, 16, "TEMP", .ro, 0x0⟩, ⟨15, 0, "SLOPE", .ro, 0x0⟩]⟩,
    ⟨"HT_READ", 0x200, 0x4, 48, 397, [⟨31, 31, "FAST", .ro, 0x0⟩, ⟨30, 30, "VALID", .ro, 0x0⟩, ⟨29, 28, "LEVEL", .ro, 0x0⟩, ⟨27, 16, "TEMP", .ro, 0x0⟩, ⟨15, 0, "SLOPE", .ro, 0x0⟩]⟩ ]

/-- The registers of unit THM. -/
def thmTable : List RegRow := thmTable0

def calTable0 : List RegRow :=
  [ ⟨"CAL_CTRL", 0x0, 0x0, 1, 406, [⟨31, 31, "AUTO", .rw, 0x0⟩, ⟨30, 24, "CAL_DT", .rw, 0x10⟩, ⟨23, 16, "CAL_LEAD", .rw, 0x40⟩, ⟨15, 0, "CAL_SENS", .rw, 0xffff⟩]⟩,
    ⟨"CAL_TIME", 0x4, 0x0, 1, 408, [⟨31, 16, "CAL_TIMEOUT", .rw, 0x7d0⟩, ⟨15, 0, "CAL_RETRY", .rw, 0xa⟩]⟩,
    ⟨"CAL_CMD", 0x8, 0x0, 1, 406, [⟨29, 24, "PORT", .wo, 0x0⟩, ⟨1, 0, "OP", .wo, 0x0⟩]⟩,
    ⟨"CAL_STATUS", 0xc, 0x0, 1, 407, [⟨31, 24, "RUNS", .ro, 0x0⟩, ⟨19, 16, "RESULT", .ro, 0x0⟩, ⟨5, 5, "PENDING", .ro, 0x0⟩, ⟨4, 4, "CMD_IGNORED", .w1c, 0x0⟩, ⟨3, 3, "DISCARDED", .w1c, 0x0⟩, ⟨2, 2, "SKIPPED", .w1c, 0x0⟩, ⟨1, 1, "BUSY", .ro, 0x0⟩, ⟨0, 0, "STALE", .ro, 0x0⟩]⟩,
    ⟨"CAL_COMMIT_PAGE", 0x10, 0x0, 1, 409, [⟨31, 0, "PAGE_ID", .ro, 0x0⟩]⟩,
    ⟨"CAL_COMMIT_LINE", 0x14, 0x0, 1, 409, [⟨31, 0, "LINE", .ro, 0x0⟩]⟩,
    ⟨"CAL_D", 0x40, 0x4, 12, 407, [⟨15, 0, "D", .ro, 0x2328⟩]⟩,
    ⟨"CAL_P_TAB0", 0x1000, 0x20, 48, 407, [⟨31, 0, "TAP", .ro, 0x1a110900⟩]⟩,
    ⟨"CAL_P_TAB1", 0x1004, 0x20, 48, 407, [⟨31, 0, "TAP", .ro, 0x3d342b23⟩]⟩,
    ⟨"CAL_P_TAB2", 0x1008, 0x20, 48, 407, [⟨31, 0, "TAP", .ro, 0x5f574e45⟩]⟩,
    ⟨"CAL_P_TAB3", 0x100c, 0x20, 48, 407, [⟨31, 0, "TAP", .ro, 0x827a7168⟩]⟩,
    ⟨"CAL_P_DESKEW", 0x1010, 0x20, 48, 410, [⟨31, 31, "DESKEWED", .ro, 0x0⟩, ⟨24, 0, "TAPS", .ro, 0x0⟩]⟩ ]

/-- The registers of unit CAL. -/
def calTable : List RegRow := calTable0

def nvesTable0 : List RegRow :=
  [ ⟨"NVES_STAT", 0x0, 0x0, 1, 423, [⟨31, 31, "FULL", .w1c, 0x0⟩, ⟨30, 30, "SHUT_PENDING", .ro, 0x0⟩, ⟨24, 16, "NEXT", .ro, 0x0⟩, ⟨6, 0, "TOKENS", .ro, 0x40⟩]⟩,
    ⟨"NVES_CNT", 0x4, 0x0, 1, 422, [⟨31, 16, "SUPPRESSED", .rc, 0x0⟩, ⟨15, 0, "SEQ", .ro, 0x0⟩]⟩ ]

/-- The registers of unit NVES. -/
def nvesTable : List RegRow := nvesTable0

def evtTable0 : List RegRow :=
  [ ⟨"EVT_MASK", 0x0, 0x4, 64, 434, [⟨31, 0, "MASK", .rw, 0x0⟩]⟩,
    ⟨"EVT_Q0_STAT", 0x100, 0x0, 1, 435, [⟨31, 16, "LOST", .rc, 0x0⟩, ⟨6, 0, "COUNT", .ro, 0x0⟩]⟩,
    ⟨"EVT_Q0_POP", 0x108, 0x0, 1, 435, [⟨31, 0, "POP", .wo, 0x0⟩]⟩,
    ⟨"EVT_Q0_REC", 0x110, 0x4, 8, 435, [⟨31, 0, "REC", .ro, 0x0⟩]⟩,
    ⟨"EVT_Q1_STAT", 0x140, 0x0, 1, 435, [⟨31, 16, "LOST", .rc, 0x0⟩, ⟨6, 0, "COUNT", .ro, 0x0⟩]⟩,
    ⟨"EVT_Q1_POP", 0x148, 0x0, 1, 435, [⟨31, 0, "POP", .wo, 0x0⟩]⟩,
    ⟨"EVT_Q1_REC", 0x150, 0x4, 8, 435, [⟨31, 0, "REC", .ro, 0x0⟩]⟩,
    ⟨"EVT_RAISE", 0x200, 0x0, 1, 436, [⟨8, 0, "EVENT", .wo, 0x0⟩]⟩,
    ⟨"EVT_RAISE_VAL", 0x204, 0x0, 1, 436, [⟨31, 0, "VALUE", .rw, 0x0⟩]⟩ ]

/-- The registers of unit EVT. -/
def evtTable : List RegRow := evtTable0

def timeTable0 : List RegRow :=
  [ ⟨"TIME_TBC_LO", 0x0, 0x0, 1, 150, [⟨31, 0, "TBC", .ro, 0x0⟩]⟩,
    ⟨"TIME_TBC_HI", 0x4, 0x0, 1, 150, [⟨31, 0, "TBC", .ro, 0x0⟩]⟩,
    ⟨"TIME_NT_LO", 0x8, 0x0, 1, 151, [⟨31, 0, "NT_NS", .ro, 0x0⟩]⟩,
    ⟨"TIME_NT_HI", 0xc, 0x0, 1, 151, [⟨31, 0, "NT_NS", .ro, 0x0⟩]⟩,
    ⟨"TIME_NT_FRAC", 0x10, 0x0, 1, 151, [⟨15, 0, "NT_FRAC", .ro, 0x0⟩]⟩,
    ⟨"TIME_SNAP_TBC_LO", 0x14, 0x0, 1, 151, [⟨31, 0, "SNAP", .ro, 0x0⟩]⟩,
    ⟨"TIME_SNAP_TBC_HI", 0x18, 0x0, 1, 151, [⟨31, 0, "SNAP", .ro, 0x0⟩]⟩,
    ⟨"TIME_RATE", 0x1c, 0x0, 1, 152, [⟨31, 0, "RATE", .rw, 0x0⟩]⟩,
    ⟨"TIME_OFFSET_LO", 0x20, 0x0, 1, 153, [⟨31, 0, "OFS_NS", .rw, 0x0⟩]⟩,
    ⟨"TIME_OFFSET_HI", 0x24, 0x0, 1, 153, [⟨31, 0, "OFS_NS", .rw, 0x0⟩]⟩,
    ⟨"TIME_OFFSET_FRAC", 0x28, 0x0, 1, 153, [⟨15, 0, "OFS_FRAC", .rw, 0x0⟩]⟩,
    ⟨"TIME_ADJ", 0x2c, 0x0, 1, 153, [⟨31, 0, "ADJ", .wo, 0x0⟩]⟩ ]

def timeTable1 : List RegRow :=
  [ ⟨"TIME_JUMP_MAX", 0x30, 0x0, 1, 153, [⟨31, 0, "JUMP_MAX", .rw, 0x3e8⟩]⟩,
    ⟨"TIME_CTRL", 0x34, 0x0, 1, 155, [⟨31, 31, "STEP_ALLOW", .w1s, 0x0⟩, ⟨23, 8, "SYNC_TO", .rw, 0x0⟩, ⟨2, 0, "SLAVE_PORT", .rw, 0x0⟩]⟩,
    ⟨"TIME_STAT", 0x38, 0x0, 1, 154, [⟨31, 24, "TSTEP", .ro, 0x0⟩, ⟨9, 8, "HOLD_CAUSE", .ro, 0x0⟩, ⟨5, 5, "TS_OVF", .w1c, 0x0⟩, ⟨4, 4, "HOLD_WR", .w1c, 0x0⟩, ⟨3, 3, "RATE_CLAMPED", .w1c, 0x0⟩, ⟨2, 2, "JUMP_REFUSED", .w1c, 0x0⟩, ⟨0, 0, "HOLDOVER", .w1c, 0x0⟩]⟩,
    ⟨"TIME_LAST_STEP", 0x3c, 0x0, 1, 154, [⟨31, 0, "LAST_STEP", .ro, 0x0⟩]⟩,
    ⟨"TIME_MASTER_ID_LO", 0x40, 0x0, 1, 155, [⟨31, 0, "MASTER_ID", .rw, 0x0⟩]⟩,
    ⟨"TIME_MASTER_ID_HI", 0x44, 0x0, 1, 155, [⟨31, 0, "MASTER_ID", .rw, 0x0⟩]⟩,
    ⟨"TIME_ASYM", 0x50, 0x4, 4, 157, [⟨31, 16, "PORT_ASYM_TX", .rw, 0x0⟩, ⟨15, 0, "PORT_ASYM_RX", .rw, 0x0⟩]⟩,
    ⟨"TIME_TS_INFO", 0x60, 0x0, 1, 157, [⟨31, 31, "VALID", .ro, 0x0⟩, ⟨28, 27, "PORT", .ro, 0x0⟩, ⟨26, 26, "DIR", .ro, 0x0⟩, ⟨23, 16, "MSG", .ro, 0x0⟩, ⟨15, 0, "SEQ", .ro, 0x0⟩]⟩,
    ⟨"TIME_TS_LO", 0x64, 0x0, 1, 157, [⟨31, 0, "STAMP", .ro, 0x0⟩]⟩,
    ⟨"TIME_TS_HI", 0x68, 0x0, 1, 157, [⟨31, 0, "STAMP", .ro, 0x0⟩]⟩,
    ⟨"TIME_TS_POP", 0x6c, 0x0, 1, 157, [⟨31, 0, "POP", .wo, 0x0⟩]⟩,
    ⟨"TIME_CMP_CTRL", 0x80, 0x8, 8, 156, [⟨31, 31, "EN", .rw, 0x0⟩, ⟨3, 3, "LATE", .w1c, 0x0⟩, ⟨2, 2, "FIRED", .w1c, 0x0⟩, ⟨0, 0, "BASE", .rw, 0x0⟩]⟩ ]

def timeTable2 : List RegRow :=
  [ ⟨"TIME_CMP_VAL", 0x84, 0x8, 8, 156, [⟨31, 0, "VAL", .rw, 0x0⟩]⟩ ]

/-- The registers of unit TIME. -/
def timeTable : List RegRow := timeTable0 ++ timeTable1 ++ timeTable2

def posTable0 : List RegRow :=
  [ ⟨"POS_CTRL", 0x0, 0x0, 1, 168, [⟨31, 16, "HORIZON", .rw, 0x9c40⟩, ⟨5, 0, "RELAY_EN", .rw, 0x0⟩]⟩,
    ⟨"AX_CFG", 0x400, 0x40, 4, 144, [⟨31, 31, "EN", .rw, 0x0⟩, ⟨19, 16, "SRC", .rw, 0x0⟩, ⟨9, 8, "EST", .rw, 0x0⟩, ⟨5, 4, "LS_N", .rw, 0x0⟩]⟩,
    ⟨"AX_GAIN", 0x404, 0x40, 4, 145, [⟨31, 16, "ALPHA", .rw, 0x4000⟩, ⟨15, 0, "BETA", .rw, 0x800⟩]⟩,
    ⟨"AX_PITCH", 0x408, 0x40, 4, 147, [⟨31, 0, "PITCH", .rw, 0x0⟩]⟩,
    ⟨"AX_VEL_LO", 0x40c, 0x40, 4, 145, [⟨31, 0, "VEL", .ro, 0x0⟩]⟩,
    ⟨"AX_VEL_HI", 0x410, 0x40, 4, 145, [⟨31, 0, "VEL", .ro, 0x0⟩]⟩,
    ⟨"AX_AP_LO", 0x414, 0x40, 4, 145, [⟨31, 0, "AP", .ro, 0x0⟩]⟩,
    ⟨"AX_AP_HI", 0x418, 0x40, 4, 145, [⟨31, 0, "AP", .ro, 0x0⟩]⟩,
    ⟨"AX_AT_LO", 0x41c, 0x40, 4, 145, [⟨31, 0, "AT", .ro, 0x0⟩]⟩,
    ⟨"AX_AT_HI", 0x420, 0x40, 4, 145, [⟨31, 0, "AT", .ro, 0x0⟩]⟩,
    ⟨"AX_SPEED", 0x424, 0x40, 4, 147, [⟨31, 0, "SPEED", .ro, 0x0⟩]⟩,
    ⟨"AX_SPEED_MMS", 0x428, 0x40, 4, 147, [⟨31, 0, "SPEED_MMS", .ro, 0x0⟩]⟩ ]

def posTable1 : List RegRow :=
  [ ⟨"AX_DIR_STALL", 0x42c, 0x40, 4, 144, [⟨1, 1, "DIR", .ro, 0x0⟩, ⟨0, 0, "STALL", .ro, 0x1⟩]⟩,
    ⟨"PTRG_CFG", 0x800, 0x20, 16, 148, [⟨31, 31, "EN", .rw, 0x0⟩, ⟨30, 30, "POL", .rw, 0x0⟩, ⟨29, 28, "AX", .rw, 0x0⟩, ⟨27, 16, "WIDTH", .rw, 0x1⟩, ⟨15, 0, "ADV", .rw, 0x0⟩]⟩,
    ⟨"PTRG_START_LO", 0x804, 0x20, 16, 148, [⟨31, 0, "START", .rw, 0x0⟩]⟩,
    ⟨"PTRG_START_HI", 0x808, 0x20, 16, 148, [⟨31, 0, "START", .rw, 0x0⟩]⟩,
    ⟨"PTRG_PITCH", 0x80c, 0x20, 16, 148, [⟨31, 0, "PITCH", .rw, 0x0⟩]⟩,
    ⟨"PTRG_COUNT", 0x810, 0x20, 16, 148, [⟨31, 0, "COUNT", .rw, 0x0⟩]⟩,
    ⟨"PTRG_NEXT", 0x814, 0x20, 16, 149, [⟨31, 0, "NEXT", .ro, 0x0⟩]⟩,
    ⟨"PTRG_SKIP", 0x818, 0x20, 16, 149, [⟨15, 0, "SKIP_CNT", .rc, 0x0⟩]⟩,
    ⟨"CH_CFG", 0x1000, 0x200, 10, 138, [⟨31, 20, "INDEX_TOL", .rw, 0x0⟩, ⟨19, 10, "MIN_EDGE", .rw, 0x10⟩, ⟨9, 6, "LATCH_LOG2", .rw, 0x0⟩, ⟨5, 5, "DIR_INV", .rw, 0x0⟩, ⟨4, 4, "Z_POL", .rw, 0x0⟩, ⟨3, 3, "ARM", .w1s, 0x0⟩, ⟨2, 1, "IDX_MODE", .rw, 0x0⟩, ⟨0, 0, "EN", .rw, 0x0⟩]⟩,
    ⟨"CH_POS_LO", 0x1004, 0x200, 10, 135, [⟨31, 0, "POS_L", .rw, 0x0⟩]⟩,
    ⟨"CH_POS_HI", 0x1008, 0x200, 10, 135, [⟨31, 16, "POS_SX", .ro, 0x0⟩, ⟨15, 0, "POS_H", .rw, 0x0⟩]⟩,
    ⟨"CH_REV_POS", 0x100c, 0x200, 10, 135, [⟨31, 0, "REV_POS", .rw, 0x0⟩]⟩ ]

def posTable2 : List RegRow :=
  [ ⟨"CH_INDEX_EXPECT", 0x1010, 0x200, 10, 142, [⟨31, 0, "INDEX_EXPECT", .rw, 0x0⟩]⟩,
    ⟨"CH_IDX_SEEN", 0x1014, 0x200, 10, 142, [⟨31, 0, "IDX_SEEN", .ro, 0x0⟩]⟩,
    ⟨"CH_STAT", 0x1018, 0x200, 10, 168, [⟨20, 16, "HIST_VALID", .ro, 0x0⟩, ⟨8, 8, "STEP_LOST", .w1c, 0x0⟩, ⟨7, 7, "LATE", .w1c, 0x0⟩, ⟨6, 6, "GAP", .w1c, 0x0⟩, ⟨5, 5, "SSI_ERR", .w1c, 0x0⟩, ⟨4, 4, "ORDER", .w1c, 0x0⟩, ⟨3, 3, "DIR", .ro, 0x0⟩, ⟨2, 2, "ARMED", .ro, 0x0⟩, ⟨1, 1, "IDX_MISMATCH", .w1c, 0x0⟩, ⟨0, 0, "ILLEGAL", .w1c, 0x0⟩]⟩,
    ⟨"CH_ERR_CNT", 0x101c, 0x200, 10, 168, [⟨31, 16, "CNT_B", .rc, 0x0⟩, ⟨15, 0, "CNT_A", .rc, 0x0⟩]⟩,
    ⟨"CH_AUX", 0x1020, 0x200, 10, 168, [⟨31, 0, "AUX", .rw, 0x0⟩]⟩,
    ⟨"CH_HIST_SNAP", 0x1024, 0x200, 10, 168, [⟨31, 0, "SNAP", .wo, 0x0⟩]⟩,
    ⟨"CH_HIST", 0x1100, 0x200, 10, 168, [⟨31, 0, "P_L_P_H_T_L_T_H", .ro, 0x0⟩]⟩ ]

/-- The registers of unit POS. -/
def posTable : List RegRow := posTable0 ++ posTable1 ++ posTable2

def govTable0 : List RegRow :=
  [ ⟨"GOV_CTRL", 0x0, 0x0, 1, 371, [⟨31, 31, "EN", .rw, 0x0⟩, ⟨30, 30, "FORCE_STOP", .rw, 0x0⟩, ⟨29, 29, "NC_STOP", .rw, 0x0⟩, ⟨13, 12, "AX", .rw, 0x0⟩, ⟨11, 0, "SQ_MASK", .rw, 0x0⟩]⟩,
    ⟨"GOV_DRIVE", 0x4, 0x0, 1, 370, [⟨31, 16, "DECEL", .rw, 0x3e8⟩, ⟨15, 0, "ACCEL", .rw, 0x3e8⟩]⟩,
    ⟨"GOV_LAT", 0x8, 0x0, 1, 370, [⟨31, 16, "LAT", .rw, 0x2710⟩, ⟨15, 0, "MARGIN", .rw, 0x1000⟩]⟩,
    ⟨"GOV_LPITCH", 0xc, 0x0, 1, 387, [⟨23, 0, "LPITCH", .rw, 0x0⟩]⟩,
    ⟨"GOV_SPDMAX", 0x10, 0x0, 1, 371, [⟨31, 0, "SPD_MAX", .rw, 0x0⟩]⟩,
    ⟨"GOV_SLOW", 0x14, 0x0, 1, 372, [⟨31, 16, "SLOW_BAND", .rw, 0x32⟩, ⟨15, 8, "SLOW_FRAC", .rw, 0xf0⟩, ⟨7, 0, "HOLD", .rw, 0x64⟩]⟩,
    ⟨"GOV_PWM", 0x18, 0x0, 1, 374, [⟨31, 31, "EN", .rw, 0x0⟩, ⟨30, 30, "POL", .rw, 0x0⟩, ⟨23, 16, "FREQ", .rw, 0xa⟩, ⟨15, 0, "FULL", .rw, 0x1388⟩]⟩,
    ⟨"GOV_COMPLY", 0x1c, 0x0, 1, 377, [⟨31, 16, "TOL", .rw, 0x64⟩, ⟨15, 0, "TIME", .rw, 0x32⟩]⟩,
    ⟨"GOV_REQ", 0x20, 0x0, 1, 371, [⟨31, 0, "REQ", .ro, 0x0⟩]⟩,
    ⟨"GOV_SPEED", 0x24, 0x0, 1, 372, [⟨31, 0, "SPEED", .ro, 0x0⟩]⟩,
    ⟨"GOV_STAT", 0x28, 0x0, 1, 375, [⟨31, 31, "STOP", .ro, 0x1⟩, ⟨30, 30, "SLOW", .ro, 0x1⟩, ⟨29, 29, "NONCOMPLIANT", .w1c, 0x0⟩, ⟨23, 16, "CAUSE", .ro, 0x0⟩, ⟨3, 0, "LIMIT_SQ", .ro, 0xf⟩]⟩,
    ⟨"GOV_LAG", 0x2c, 0x0, 1, 377, [⟨31, 16, "EXCESS", .ro, 0x0⟩, ⟨15, 0, "LAG", .ro, 0x0⟩]⟩ ]

def govTable1 : List RegRow :=
  [ ⟨"GOV_LINE_HZ", 0x30, 0x0, 1, 372, [⟨17, 0, "LINE_HZ", .ro, 0x0⟩]⟩,
    ⟨"GOV_RW", 0x40, 0x4, 12, 368, [⟨31, 0, "RW", .ro, 0xffffffff⟩]⟩,
    ⟨"GOV_CR", 0x80, 0x4, 12, 369, [⟨15, 0, "CR", .ro, 0x800⟩]⟩ ]

/-- The registers of unit GOV. -/
def govTable : List RegRow := govTable0 ++ govTable1

def fschTable0 : List RegRow :=
  [ ⟨"FSCH_TIMING", 0x0, 0x0, 1, 176, [⟨28, 16, "FIRE_LEAD", .rw, 0x800⟩, ⟨9, 0, "CUTOFF", .rw, 0x40⟩]⟩,
    ⟨"FSCH_STAT", 0x4, 0x0, 1, 188, [⟨31, 31, "INHIBIT", .ro, 0x1⟩, ⟨30, 30, "CRIT_ALL", .ro, 0x0⟩, ⟨20, 16, "PLANS", .ro, 0x0⟩, ⟨5, 5, "INH_SEEN", .w1c, 0x0⟩, ⟨4, 4, "MISSED", .w1c, 0x0⟩, ⟨3, 3, "NOPLAN", .w1c, 0x0⟩, ⟨2, 2, "PLAN_REFUSED", .w1c, 0x0⟩, ⟨1, 1, "ABORT_REFUSED", .w1c, 0x0⟩]⟩,
    ⟨"FSCH_INH_CNT", 0x8, 0x0, 1, 188, [⟨15, 0, "INH_CNT", .rc, 0x0⟩]⟩,
    ⟨"FSCH_ABORT", 0xc, 0x0, 1, 196, [⟨31, 0, "PAGE_ID", .wo, 0x0⟩]⟩,
    ⟨"FSCH_GRP", 0x20, 0x4, 8, 182, [⟨31, 16, "DELAYED", .rc, 0x0⟩, ⟨15, 8, "MAX_DELAY", .rc, 0x0⟩, ⟨7, 0, "GUARD", .rw, 0x28⟩]⟩,
    ⟨"FSCH_PLAN_ID", 0x40, 0x0, 1, 170, [⟨31, 0, "PAGE_ID", .rw, 0x0⟩]⟩,
    ⟨"FSCH_PLAN_ORIGIN_LO", 0x44, 0x0, 1, 170, [⟨31, 0, "ORIGIN", .rw, 0x0⟩]⟩,
    ⟨"FSCH_PLAN_ORIGIN_HI", 0x48, 0x0, 1, 170, [⟨31, 0, "ORIGIN", .rw, 0x0⟩]⟩,
    ⟨"FSCH_PLAN_PITCH", 0x4c, 0x0, 1, 170, [⟨31, 0, "PITCH", .rw, 0x0⟩]⟩,
    ⟨"FSCH_PLAN_CMD", 0x50, 0x0, 1, 170, [⟨19, 16, "INDEX", .wo, 0x0⟩, ⟨1, 0, "OP", .wo, 0x0⟩]⟩,
    ⟨"FSCH_PLAN_RES", 0x54, 0x0, 1, 170, [⟨31, 16, "VALID", .ro, 0x0⟩, ⟨2, 0, "RESULT", .ro, 0x0⟩]⟩,
    ⟨"FSCH_RPT_BASE_LO", 0xf00, 0x0, 1, 53, [⟨31, 9, "BASE_L", .rw, 0x0⟩]⟩ ]

def fschTable1 : List RegRow :=
  [ ⟨"FSCH_RPT_BASE_HI", 0xf04, 0x0, 1, 53, [⟨7, 0, "BASE_H", .rw, 0x0⟩]⟩,
    ⟨"FSCH_RPT_CTRL", 0xf08, 0x0, 1, 53, [⟨31, 31, "EN", .rw, 0x0⟩, ⟨18, 16, "PENDING", .ro, 0x0⟩, ⟨9, 9, "LOST", .w1c, 0x0⟩, ⟨8, 8, "BUS_ERR", .w1c, 0x0⟩, ⟨2, 0, "SIZE", .rw, 0x0⟩]⟩,
    ⟨"FSCH_RPT_IDX", 0xf0c, 0x0, 1, 53, [⟨31, 16, "WIDX", .ro, 0x0⟩, ⟨15, 0, "RIDX", .rw, 0x0⟩]⟩,
    ⟨"FSCH_P_CFG", 0x1000, 0x40, 48, 198, [⟨6, 4, "GROUP", .rw, 0x0⟩, ⟨1, 0, "AX", .rw, 0x0⟩]⟩,
    ⟨"FSCH_P_OFFSET_LO", 0x1004, 0x40, 48, 172, [⟨31, 0, "OFS_L", .rw, 0x0⟩]⟩,
    ⟨"FSCH_P_OFFSET_HI", 0x1008, 0x40, 48, 172, [⟨31, 16, "OFS_SX", .ro, 0x0⟩, ⟨15, 0, "OFS_H", .rw, 0x0⟩]⟩,
    ⟨"FSCH_P_ADV", 0x100c, 0x40, 48, 173, [⟨19, 0, "STROBE_ADV", .rw, 0x0⟩]⟩,
    ⟨"FSCH_P_MINPER", 0x1010, 0x40, 48, 181, [⟨31, 0, "MINPER", .ro, 0x0⟩]⟩,
    ⟨"FSCH_P_STAT", 0x1014, 0x40, 48, 180, [⟨18, 18, "SKIPPED", .w1c, 0x0⟩, ⟨17, 17, "MISSED", .w1c, 0x0⟩, ⟨16, 16, "LOAD_SHORT", .w1c, 0x0⟩, ⟨12, 12, "BRAKE", .ro, 0x0⟩, ⟨11, 11, "THERMAL", .ro, 0x0⟩, ⟨10, 10, "CRIT", .ro, 0x0⟩, ⟨9, 9, "INH", .ro, 0x0⟩, ⟨8, 8, "STALE", .ro, 0x0⟩, ⟨3, 0, "STATE", .ro, 0x0⟩]⟩,
    ⟨"FSCH_P_PAGE", 0x1018, 0x40, 48, 175, [⟨31, 0, "PAGE_ID", .ro, 0x0⟩]⟩,
    ⟨"FSCH_P_LINE", 0x101c, 0x40, 48, 175, [⟨31, 0, "LINE", .ro, 0x0⟩]⟩,
    ⟨"FSCH_P_TG_LO", 0x1020, 0x40, 48, 182, [⟨31, 0, "TG", .ro, 0x0⟩]⟩ ]

def fschTable2 : List RegRow :=
  [ ⟨"FSCH_P_TG_HI", 0x1024, 0x40, 48, 182, [⟨31, 0, "TG", .ro, 0x0⟩]⟩,
    ⟨"FSCH_P_CNT", 0x1028, 0x40, 48, 181, [⟨31, 16, "SKIP_CNT", .rc, 0x0⟩, ⟨15, 0, "MISS_CNT", .rc, 0x0⟩]⟩ ]

/-- The registers of unit FSCH. -/
def fschTable : List RegRow := fschTable0 ++ fschTable1 ++ fschTable2

def hpTable0 : List RegRow :=
  [ ⟨"HP_CTRL", 0x0, 0x0, 1, 205, [⟨1, 1, "ST_FLT", .rw, 0x0⟩, ⟨0, 0, "EN", .rw, 0x0⟩]⟩,
    ⟨"HP_STAT", 0x4, 0x0, 1, 205, [⟨19, 19, "ENABLE_REFUSED", .w1c, 0x0⟩, ⟨18, 18, "PRS_CHG", .w1c, 0x0⟩, ⟨17, 17, "FLT_SEEN", .w1c, 0x0⟩, ⟨16, 16, "ST_ERR", .w1c, 0x0⟩, ⟨8, 8, "ST_LOST", .ro, 0x0⟩, ⟨7, 7, "FAULT", .ro, 0x0⟩, ⟨6, 6, "PERMIT", .ro, 0x0⟩, ⟨5, 5, "PRESENT", .ro, 0x0⟩, ⟨2, 0, "STATE", .ro, 0x0⟩]⟩,
    ⟨"HP_GEOM", 0x10, 0x0, 1, 204, [⟨27, 24, "MAP", .rw, 0x0⟩, ⟨21, 20, "PAIRS", .rw, 0x1⟩, ⟨17, 16, "BPN", .rw, 0x0⟩, ⟨12, 0, "NOZZLES", .rw, 0x0⟩]⟩,
    ⟨"HP_PROFILE", 0x14, 0x0, 1, 204, [⟨31, 24, "WSEL", .rw, 0x0⟩, ⟨23, 20, "WSEL_W", .rw, 0x0⟩, ⟨17, 0, "MAXRATE", .rw, 0x0⟩]⟩,
    ⟨"HP_LINK", 0x18, 0x0, 1, 204, [⟨31, 24, "ST_DIV", .rw, 0x1e⟩, ⟨23, 20, "ST_TO", .rw, 0x2⟩, ⟨16, 16, "ST_FMT", .rw, 0x0⟩, ⟨12, 12, "CKMODE", .rw, 0x0⟩, ⟨8, 0, "BITPER", .rw, 0x8⟩]⟩,
    ⟨"HP_TIMING", 0x1c, 0x0, 1, 204, [⟨31, 16, "SW", .rw, 0x0⟩, ⟨15, 0, "LSU", .rw, 0x0⟩]⟩,
    ⟨"HP_STROBE", 0x20, 0x0, 1, 204, [⟨31, 16, "SW_MAX", .rw, 0x0⟩, ⟨15, 0, "SW_MIN", .rw, 0x0⟩]⟩,
    ⟨"HP_TLIM", 0x24, 0x0, 1, 204, [⟨31, 24, "RESUME", .rw, 0x0⟩, ⟨23, 16, "CRIT", .rw, 0x0⟩, ⟨15, 8, "LIMIT", .rw, 0x0⟩, ⟨7, 0, "WARN", .rw, 0x0⟩]⟩,
    ⟨"HP_ENERGY", 0x40, 0x4, 8, 206, [⟨31, 16, "E_HI", .rw, 0x0⟩, ⟨15, 0, "E_LO", .rw, 0x0⟩]⟩,
    ⟨"HP_RANK_REQ", 0x60, 0x0, 1, 215, [⟨19, 16, "SPEED_MIN", .rw, 0x0⟩, ⟨15, 0, "VOL_MASK", .rw, 0xffff⟩]⟩,
    ⟨"HP_HIR_STAT", 0x64, 0x0, 1, 214, [⟨16, 16, "FRESH", .ro, 0x0⟩, ⟨15, 12, "CHECK", .ro, 0x0⟩, ⟨8, 8, "RANK_OK", .ro, 0x0⟩, ⟨5, 4, "CAL", .ro, 0x0⟩, ⟨3, 0, "VERDICT", .ro, 0x0⟩]⟩,
    ⟨"HP_I2C_CTRL", 0x70, 0x0, 1, 219, [⟨30, 24, "ADDR", .rw, 0x50⟩, ⟨17, 16, "SPEED", .rw, 0x0⟩, ⟨15, 8, "PRS_DEB", .rw, 0x64⟩, ⟨7, 0, "WR_TO", .rw, 0xa⟩]⟩ ]

def hpTable1 : List RegRow :=
  [ ⟨"HP_I2C_CMD", 0x74, 0x0, 1, 214, [⟨1, 0, "OP", .wo, 0x0⟩]⟩,
    ⟨"HP_I2C_STAT", 0x78, 0x0, 1, 219, [⟨31, 31, "BUSY", .ro, 0x0⟩, ⟨3, 0, "RESULT", .ro, 0x0⟩]⟩,
    ⟨"HP_SVC_CMD", 0x80, 0x0, 1, 221, [⟨31, 31, "NOW", .wo, 0x0⟩, ⟨1, 0, "OP", .wo, 0x0⟩]⟩,
    ⟨"HP_SVC_PAGE", 0x84, 0x0, 1, 221, [⟨31, 0, "PAGE_ID", .rw, 0x0⟩]⟩,
    ⟨"HP_SVC_LINE", 0x88, 0x0, 1, 221, [⟨31, 0, "LINE", .rw, 0x0⟩]⟩,
    ⟨"HP_SVC_STAT", 0x8c, 0x0, 1, 221, [⟨31, 31, "PENDING", .ro, 0x0⟩, ⟨30, 30, "RETIRED", .ro, 0x0⟩, ⟨3, 0, "RESULT", .ro, 0x0⟩]⟩,
    ⟨"HP_ST_LAST", 0x90, 0x0, 1, 208, [⟨31, 0, "WORD", .ro, 0x0⟩]⟩,
    ⟨"HP_ST_CNT", 0x94, 0x0, 1, 208, [⟨31, 16, "OK_CNT", .rc, 0x0⟩, ⟨15, 0, "ERR_CNT", .rc, 0x0⟩]⟩ ]

/-- The registers of unit HP. -/
def hpTable : List RegRow := hpTable0 ++ hpTable1

def sqTable0 : List RegRow :=
  [ ⟨"SQ_CTRL", 0x0, 0x0, 1, 133, [⟨3, 3, "HOLD", .rw, 0x1⟩, ⟨2, 2, "PARK_REQ", .rw, 0x0⟩, ⟨1, 1, "FRESH", .rw, 0x0⟩, ⟨0, 0, "GO", .w1s, 0x0⟩]⟩,
    ⟨"SQ_STATUS", 0x4, 0x0, 1, 97, [⟨15, 12, "WAIT", .ro, 0x0⟩, ⟨8, 8, "PAGE_OPEN", .ro, 0x0⟩, ⟨2, 0, "STATE", .ro, 0x0⟩]⟩,
    ⟨"SQ_ENTRY", 0x8, 0x0, 1, 133, [⟨31, 2, "ENTRY", .rw, 0x0⟩]⟩,
    ⟨"SQ_PC", 0xc, 0x0, 1, 133, [⟨31, 0, "PC", .ro, 0x0⟩]⟩,
    ⟨"SQ_TRAP_INFO", 0x10, 0x0, 1, 82, [⟨15, 12, "KIND", .ro, 0x0⟩, ⟨10, 8, "RESP", .ro, 0x0⟩, ⟨7, 0, "CODE", .ro, 0x0⟩]⟩,
    ⟨"SQ_TRAP_TVAL", 0x14, 0x0, 1, 82, [⟨31, 0, "TVAL", .ro, 0x0⟩]⟩,
    ⟨"SQ_TRAP_PC", 0x18, 0x0, 1, 82, [⟨31, 0, "TPC", .ro, 0x0⟩]⟩,
    ⟨"SQ_PAGE_ID", 0x20, 0x0, 1, 99, [⟨31, 0, "PAGE_ID", .ro, 0x0⟩]⟩,
    ⟨"SQ_PAGE_LINES", 0x24, 0x0, 1, 99, [⟨31, 0, "LINES", .ro, 0x0⟩]⟩,
    ⟨"SQ_XSTAT", 0x28, 0x0, 1, 101, [⟨15, 0, "XSTAT", .ro, 0x0⟩]⟩,
    ⟨"SQ_FSTATE", 0x2c, 0x0, 1, 99, [⟨31, 16, "STREAM_ID", .ro, 0x0⟩, ⟨8, 8, "PAGE_OPEN", .ro, 0x0⟩, ⟨7, 4, "PMASK", .ro, 0x0⟩, ⟨3, 0, "AM", .ro, 0x0⟩]⟩,
    ⟨"SQ_STAGE", 0x30, 0x0, 1, 98, [⟨29, 24, "SIZE", .rw, 0x0⟩, ⟨17, 12, "BASE", .rw, 0x0⟩]⟩ ]

def sqTable1 : List RegRow :=
  [ ⟨"SQ_SYNC", 0x34, 0x0, 1, 119, [⟨31, 20, "TIMEOUT", .rw, 0x0⟩, ⟨11, 0, "MASK", .rw, 0x0⟩]⟩,
    ⟨"SQ_FB", 0x38, 0x0, 1, 129, [⟨18, 16, "SLOTS", .rw, 0x0⟩, ⟨12, 8, "CH", .rw, 0x0⟩, ⟨3, 0, "FB_MASK", .rw, 0x0⟩]⟩,
    ⟨"SQ_FB_BUF", 0x3c, 0x0, 1, 129, [⟨23, 10, "OFS", .rw, 0x0⟩]⟩,
    ⟨"SQ_FIFO", 0x40, 0x4, 4, 114, [⟨30, 24, "READY", .ro, 0x0⟩, ⟨22, 16, "WAITING", .ro, 0x0⟩, ⟨14, 8, "BUILT", .ro, 0x0⟩, ⟨6, 0, "FREE", .ro, 0x40⟩]⟩,
    ⟨"SQ_TWIN_CNT", 0x50, 0x0, 1, 128, [⟨31, 16, "LOST", .rc, 0x0⟩, ⟨15, 0, "SKIPPED", .rc, 0x0⟩]⟩,
    ⟨"SQ_NEXTSEG", 0x54, 0x0, 1, 105, [⟨23, 0, "NEXTSEG", .ro, 0x0⟩]⟩,
    ⟨"SQ_NB", 0x60, 0x4, 4, 99, [⟨31, 0, "NB", .ro, 0x0⟩]⟩,
    ⟨"SQ_NOM", 0x80, 0x4, 16, 126, [⟨31, 24, "PAD", .rw, 0x0⟩, ⟨23, 23, "RAW", .rw, 0x0⟩, ⟨22, 22, "INV", .rw, 0x0⟩, ⟨21, 20, "BITORD", .rw, 0x0⟩, ⟨19, 19, "REV", .rw, 0x0⟩, ⟨18, 16, "ROWS_LOG2", .rw, 0x0⟩, ⟨15, 15, "SPLIT", .rw, 0x0⟩]⟩,
    ⟨"SQ_JOB_STAT", 0x100, 0x0, 1, 130, [⟨8, 8, "OVF", .w1c, 0x0⟩, ⟨2, 0, "COUNT", .ro, 0x0⟩]⟩,
    ⟨"SQ_JOB_PUSH", 0x104, 0x0, 1, 130, [⟨31, 0, "PUSH", .wo, 0x0⟩]⟩,
    ⟨"SQ_JOB_POP", 0x108, 0x0, 1, 130, [⟨31, 0, "POP", .wo, 0x0⟩]⟩,
    ⟨"SQ_JOB_IN", 0x110, 0x4, 4, 130, [⟨31, 0, "WORD", .rw, 0x0⟩]⟩ ]

def sqTable2 : List RegRow :=
  [ ⟨"SQ_JOB_OUT", 0x120, 0x4, 4, 130, [⟨31, 0, "WORD", .ro, 0x0⟩]⟩ ]

/-- The registers of unit SQ. -/
def sqTable : List RegRow := sqTable0 ++ sqTable1 ++ sqTable2

def dceTable0 : List RegRow :=
  [ ⟨"DCE_CTRL", 0x0, 0x0, 1, 254, [⟨31, 31, "EN", .rw, 0x0⟩, ⟨28, 24, "SINK_SQ", .rw, 0x0⟩, ⟨21, 20, "SINK", .rw, 0x0⟩, ⟨16, 16, "FORMAT", .rw, 0x0⟩, ⟨12, 12, "COMPAT", .rw, 0x0⟩, ⟨3, 3, "RESTORE", .w1s, 0x0⟩, ⟨2, 2, "RESUME", .w1s, 0x0⟩, ⟨1, 1, "ABORT", .w1s, 0x0⟩, ⟨0, 0, "START", .w1s, 0x0⟩]⟩,
    ⟨"DCE_STAT", 0x4, 0x0, 1, 230, [⟨31, 24, "ERR", .ro, 0x0⟩, ⟨15, 15, "CMD_IGNORED", .w1c, 0x0⟩, ⟨14, 14, "ABORT_LATE", .w1c, 0x0⟩, ⟨13, 13, "WEIR_REFUSED", .w1c, 0x0⟩, ⟨12, 12, "DONE", .w1c, 0x0⟩, ⟨11, 11, "BAD_SEEN", .w1c, 0x0⟩, ⟨3, 0, "STATE", .ro, 0x0⟩]⟩,
    ⟨"DCE_IRING_LO", 0x8, 0x0, 1, 233, [⟨31, 4, "BASE_L", .rw, 0x0⟩]⟩,
    ⟨"DCE_IRING_HI", 0xc, 0x0, 1, 233, [⟨7, 0, "BASE_H", .rw, 0x0⟩]⟩,
    ⟨"DCE_IRING_CFG", 0x10, 0x0, 1, 233, [⟨2, 0, "SIZE", .rw, 0x0⟩]⟩,
    ⟨"DCE_IRING_IDX", 0x14, 0x0, 1, 234, [⟨31, 16, "OPEN", .ro, 0x0⟩, ⟨15, 0, "IDX", .rw, 0x0⟩]⟩,
    ⟨"DCE_DB", 0x18, 0x0, 1, 234, [⟨31, 0, "DB", .wo, 0x0⟩]⟩,
    ⟨"DCE_ORING_LO", 0x20, 0x0, 1, 233, [⟨31, 4, "BASE_L", .rw, 0x0⟩]⟩,
    ⟨"DCE_ORING_HI", 0x24, 0x0, 1, 233, [⟨7, 0, "BASE_H", .rw, 0x0⟩]⟩,
    ⟨"DCE_ORING_CFG", 0x28, 0x0, 1, 233, [⟨2, 0, "SIZE", .rw, 0x0⟩]⟩,
    ⟨"DCE_ORING_IDX", 0x2c, 0x0, 1, 234, [⟨15, 0, "IDX", .rw, 0x0⟩]⟩,
    ⟨"DCE_IN_BITS", 0x30, 0x0, 1, 243, [⟨31, 0, "IN_BITS", .ro, 0x0⟩]⟩ ]

def dceTable1 : List RegRow :=
  [ ⟨"DCE_OUT_BYTES", 0x34, 0x0, 1, 241, [⟨31, 0, "OUT_BYTES", .ro, 0x0⟩]⟩,
    ⟨"DCE_HIST_LO", 0x38, 0x0, 1, 244, [⟨31, 0, "HIST_L", .rw, 0x0⟩]⟩,
    ⟨"DCE_HIST_HI", 0x3c, 0x0, 1, 244, [⟨7, 0, "HIST_H", .rw, 0x0⟩]⟩,
    ⟨"DCE_RESUME", 0x40, 0x4, 8, 243, [⟨31, 0, "WORD", .rw, 0x0⟩]⟩,
    ⟨"DCE_WEIR", 0x60, 0x0, 1, 236, [⟨31, 16, "PWR", .rw, 0x190⟩, ⟨15, 0, "MAXWAIT", .rw, 0x0⟩]⟩,
    ⟨"DCE_SEG_CNT", 0x70, 0x0, 1, 238, [⟨31, 16, "BAD", .rc, 0x0⟩, ⟨15, 0, "PASS", .rc, 0x0⟩]⟩,
    ⟨"DCE_SKIP_CNT", 0x74, 0x0, 1, 239, [⟨15, 0, "SKIPPED", .rc, 0x0⟩]⟩,
    ⟨"DCE_LAST_BAD", 0x78, 0x0, 1, 238, [⟨31, 24, "CODE", .ro, 0x0⟩, ⟨23, 0, "SEGMENT", .ro, 0x0⟩]⟩,
    ⟨"DCE_LAST_BAD_PAGE", 0x7c, 0x0, 1, 238, [⟨31, 0, "PAGE_ID", .ro, 0x0⟩]⟩ ]

/-- The registers of unit DCE. -/
def dceTable : List RegRow := dceTable0 ++ dceTable1

def cmpTable0 : List RegRow :=
  [ ⟨"CMP_CTRL", 0x0, 0x0, 1, 254, [⟨31, 31, "EN", .rw, 0x0⟩, ⟨16, 16, "FORMAT", .rw, 0x0⟩, ⟨12, 12, "COMPAT", .rw, 0x0⟩, ⟨3, 3, "RESTORE", .w1s, 0x0⟩, ⟨2, 2, "RESUME", .w1s, 0x0⟩, ⟨1, 1, "ABORT", .w1s, 0x0⟩, ⟨0, 0, "START", .w1s, 0x0⟩]⟩,
    ⟨"CMP_STAT", 0x4, 0x0, 1, 230, [⟨31, 24, "ERR", .ro, 0x0⟩, ⟨15, 15, "CMD_IGNORED", .w1c, 0x0⟩, ⟨14, 14, "ABORT_LATE", .w1c, 0x0⟩, ⟨13, 13, "WEIR_REFUSED", .w1c, 0x0⟩, ⟨12, 12, "DONE", .w1c, 0x0⟩, ⟨11, 11, "BAD_SEEN", .w1c, 0x0⟩, ⟨3, 0, "STATE", .ro, 0x0⟩]⟩,
    ⟨"CMP_IRING_LO", 0x8, 0x0, 1, 233, [⟨31, 4, "BASE_L", .rw, 0x0⟩]⟩,
    ⟨"CMP_IRING_HI", 0xc, 0x0, 1, 233, [⟨7, 0, "BASE_H", .rw, 0x0⟩]⟩,
    ⟨"CMP_IRING_CFG", 0x10, 0x0, 1, 233, [⟨2, 0, "SIZE", .rw, 0x0⟩]⟩,
    ⟨"CMP_IRING_IDX", 0x14, 0x0, 1, 234, [⟨31, 16, "OPEN", .ro, 0x0⟩, ⟨15, 0, "IDX", .rw, 0x0⟩]⟩,
    ⟨"CMP_DB", 0x18, 0x0, 1, 234, [⟨31, 0, "DB", .wo, 0x0⟩]⟩,
    ⟨"CMP_ORING_LO", 0x20, 0x0, 1, 233, [⟨31, 4, "BASE_L", .rw, 0x0⟩]⟩,
    ⟨"CMP_ORING_HI", 0x24, 0x0, 1, 233, [⟨7, 0, "BASE_H", .rw, 0x0⟩]⟩,
    ⟨"CMP_ORING_CFG", 0x28, 0x0, 1, 233, [⟨2, 0, "SIZE", .rw, 0x0⟩]⟩,
    ⟨"CMP_ORING_IDX", 0x2c, 0x0, 1, 234, [⟨15, 0, "IDX", .rw, 0x0⟩]⟩,
    ⟨"CMP_IN_BITS", 0x30, 0x0, 1, 254, [⟨31, 0, "IN_BITS", .ro, 0x0⟩]⟩ ]

def cmpTable1 : List RegRow :=
  [ ⟨"CMP_OUT_BYTES", 0x34, 0x0, 1, 241, [⟨31, 0, "OUT_BYTES", .ro, 0x0⟩]⟩,
    ⟨"CMP_RESUME0", 0x40, 0x0, 1, 250, [⟨31, 0, "IN_BYTES", .ro, 0x0⟩]⟩,
    ⟨"CMP_RESUME1", 0x44, 0x0, 1, 250, [⟨15, 8, "PEND_BITS", .ro, 0x0⟩, ⟨2, 0, "PEND_N", .ro, 0x0⟩]⟩,
    ⟨"CMP_WEIR", 0x60, 0x0, 1, 236, [⟨31, 16, "PWR", .rw, 0x190⟩, ⟨15, 0, "MAXWAIT", .rw, 0x0⟩]⟩,
    ⟨"CMP_SEG_CNT", 0x70, 0x0, 1, 254, [⟨31, 16, "BAD", .rc, 0x0⟩, ⟨15, 0, "PASS", .rc, 0x0⟩]⟩,
    ⟨"CMP_SKIP_CNT", 0x74, 0x0, 1, 254, [⟨15, 0, "SKIPPED", .rc, 0x0⟩]⟩,
    ⟨"CMP_LAST_BAD", 0x78, 0x0, 1, 254, [⟨31, 24, "CODE", .ro, 0x0⟩, ⟨23, 0, "SEGMENT", .ro, 0x0⟩]⟩,
    ⟨"CMP_LAST_BAD_PAGE", 0x7c, 0x0, 1, 254, [⟨31, 0, "PAGE_ID", .ro, 0x0⟩]⟩,
    ⟨"CMP_CFG", 0x80, 0x0, 1, 246, [⟨29, 24, "LINES", .rw, 0x20⟩, ⟨20, 8, "LINE_BYTES", .rw, 0xa00⟩, ⟨7, 6, "FILTER", .rw, 0x0⟩, ⟨5, 4, "BLOCK_LOG2", .rw, 0x3⟩, ⟨2, 0, "EFFORT", .rw, 0x2⟩]⟩,
    ⟨"CMP_PAGE", 0x84, 0x0, 1, 247, [⟨31, 0, "PAGE_ID", .rw, 0x0⟩]⟩,
    ⟨"CMP_STREAM", 0x88, 0x0, 1, 247, [⟨15, 0, "STREAM_ID", .rw, 0x0⟩]⟩,
    ⟨"CMP_SEG", 0x8c, 0x0, 1, 247, [⟨23, 0, "SEGMENT", .rw, 0x0⟩]⟩ ]

def cmpTable2 : List RegRow :=
  [ ⟨"CMP_REDO", 0x90, 0x0, 1, 249, [⟨15, 0, "VERIFY_REDO", .rc, 0x0⟩]⟩ ]

/-- The registers of unit CMP. -/
def cmpTable : List RegRow := cmpTable0 ++ cmpTable1 ++ cmpTable2

def dmaTable0 : List RegRow :=
  [ ⟨"DMA_CH_CTRL", 0x1000, 0x40, 32, 348, [⟨31, 31, "OWN", .w1s, 0x0⟩, ⟨30, 30, "BARRIER", .rw, 0x0⟩, ⟨29, 29, "IRQ", .rw, 0x0⟩, ⟨27, 27, "ERR_AFTER_LAST", .ro, 0x0⟩, ⟨26, 24, "RESP", .ro, 0x0⟩, ⟨20, 20, "CV", .rw, 0x0⟩, ⟨19, 16, "OP", .rw, 0x0⟩, ⟨15, 8, "STATUS", .ro, 0x0⟩, ⟨0, 0, "SIDE", .ro, 0x0⟩]⟩,
    ⟨"DMA_CH_SRC_LO", 0x1004, 0x40, 32, 367, [⟨31, 0, "ADDR_L", .rw, 0x0⟩]⟩,
    ⟨"DMA_CH_SRC_HI", 0x1008, 0x40, 32, 367, [⟨7, 0, "ADDR_H", .rw, 0x0⟩]⟩,
    ⟨"DMA_CH_DST_LO", 0x100c, 0x40, 32, 367, [⟨31, 0, "ADDR_L", .rw, 0x0⟩]⟩,
    ⟨"DMA_CH_DST_HI", 0x1010, 0x40, 32, 367, [⟨7, 0, "ADDR_H", .rw, 0x0⟩]⟩,
    ⟨"DMA_CH_COUNT", 0x1014, 0x40, 32, 367, [⟨31, 0, "COUNT", .rw, 0x0⟩]⟩,
    ⟨"DMA_CH_VALUE", 0x1018, 0x40, 32, 367, [⟨31, 0, "VALUE", .rw, 0x0⟩]⟩,
    ⟨"DMA_CH_PARAM", 0x101c, 0x40, 32, 354, [⟨31, 0, "PARAM", .rw, 0x0⟩]⟩,
    ⟨"DMA_CH_RESULT", 0x1020, 0x40, 32, 348, [⟨31, 0, "RESULT", .ro, 0x0⟩]⟩,
    ⟨"DMA_CH_CMD", 0x1024, 0x40, 32, 360, [⟨0, 0, "ABORT", .w1s, 0x0⟩]⟩,
    ⟨"DMA_CH_STAT", 0x1028, 0x40, 32, 356, [⟨10, 8, "LATE_RESP", .ro, 0x0⟩, ⟨2, 2, "LATE_ERR", .w1c, 0x0⟩, ⟨1, 1, "ABORT_LATE", .w1c, 0x0⟩, ⟨0, 0, "DONE", .w1c, 0x0⟩]⟩,
    ⟨"DMA_CH_LATE_OFS", 0x102c, 0x40, 32, 356, [⟨31, 0, "LATE_OFS", .ro, 0x0⟩]⟩ ]

def dmaTable1 : List RegRow :=
  [ ⟨"RING_BASE_LO", 0x2000, 0x40, 5, 350, [⟨31, 5, "BASE_L", .rw, 0x0⟩]⟩,
    ⟨"RING_BASE_HI", 0x2004, 0x40, 5, 350, [⟨7, 0, "BASE_H", .rw, 0x0⟩]⟩,
    ⟨"RING_CFG", 0x2008, 0x40, 5, 360, [⟨31, 31, "EN", .rw, 0x0⟩, ⟨30, 30, "ABORT", .w1s, 0x0⟩, ⟨23, 8, "FLUSH", .rw, 0x0⟩, ⟨2, 0, "SIZE", .rw, 0x0⟩]⟩,
    ⟨"RING_IDX", 0x200c, 0x40, 5, 350, [⟨15, 0, "IDX", .rw, 0x0⟩]⟩,
    ⟨"RING_DB", 0x2010, 0x40, 5, 350, [⟨31, 0, "DB", .wo, 0x0⟩]⟩,
    ⟨"RING_CNT", 0x2014, 0x40, 5, 367, [⟨31, 16, "DROP", .rc, 0x0⟩, ⟨15, 0, "ERRS", .rc, 0x0⟩]⟩ ]

/-- The registers of unit DMA. -/
def dmaTable : List RegRow := dmaTable0 ++ dmaTable1

def ddrTable0 : List RegRow :=
  [ ⟨"DDR_CTRL", 0x0, 0x0, 1, 342, [⟨2, 0, "MODE", .rw, 0x0⟩]⟩,
    ⟨"DDR_STAT", 0x4, 0x0, 1, 340, [⟨11, 8, "RESULT", .ro, 0x0⟩, ⟨5, 5, "DDR_HOT", .w1c, 0x0⟩, ⟨4, 4, "LOG_VALID", .w1c, 0x0⟩, ⟨2, 0, "STATE", .ro, 0x0⟩]⟩,
    ⟨"DDR_CFG", 0x8, 0x0, 1, 326, [⟨5, 4, "RATE", .rw, 0x2⟩, ⟨3, 3, "RANKS", .rw, 0x0⟩, ⟨1, 0, "DENSITY", .rw, 0x0⟩]⟩,
    ⟨"DDR_SCHED", 0xc, 0x0, 1, 329, [⟨31, 16, "AGE_MAX", .rw, 0x200⟩, ⟨12, 8, "WR_HI", .rw, 0x10⟩, ⟨4, 0, "WR_LO", .rw, 0x8⟩]⟩,
    ⟨"DDR_REF", 0x10, 0x0, 1, 336, [⟨31, 16, "PD_IDLE", .rw, 0x100⟩, ⟨15, 8, "TEMP_POLL", .rw, 0x10⟩, ⟨7, 6, "TRACK_MS", .rw, 0x1⟩, ⟨2, 0, "REF_POSTPONE", .rw, 0x4⟩]⟩,
    ⟨"DDR_SCRUB", 0x14, 0x0, 1, 335, [⟨31, 31, "EN", .rw, 0x0⟩, ⟨23, 16, "PERIOD", .rw, 0x18⟩, ⟨15, 0, "SCRUB_PWR", .rw, 0x12c⟩]⟩,
    ⟨"DDR_SCRUB_STAT", 0x18, 0x0, 1, 335, [⟨31, 16, "SCRUB_SKIP", .rc, 0x0⟩, ⟨15, 0, "BURST", .ro, 0x0⟩]⟩,
    ⟨"DDR_ECC_CNT", 0x1c, 0x0, 1, 333, [⟨31, 16, "UE", .rc, 0x0⟩, ⟨15, 0, "CE", .rc, 0x0⟩]⟩,
    ⟨"DDR_REF_CNT", 0x20, 0x0, 1, 336, [⟨15, 0, "REF_FB", .rc, 0x0⟩]⟩,
    ⟨"DDR_ECC_LOG_LO", 0x24, 0x0, 1, 334, [⟨31, 6, "ADDR_L", .ro, 0x0⟩]⟩,
    ⟨"DDR_ECC_LOG_HI", 0x28, 0x0, 1, 334, [⟨7, 0, "ADDR_H", .ro, 0x0⟩]⟩,
    ⟨"DDR_ECC_LOG_INFO", 0x2c, 0x0, 1, 334, [⟨31, 31, "UE", .ro, 0x0⟩, ⟨30, 30, "SCRUB", .ro, 0x0⟩, ⟨23, 16, "SYNDROME", .ro, 0x0⟩, ⟨5, 5, "RANK", .ro, 0x0⟩, ⟨4, 4, "SUBCH", .ro, 0x0⟩, ⟨2, 0, "WORD", .ro, 0x0⟩]⟩ ]

def ddrTable1 : List RegRow :=
  [ ⟨"DDR_INJ", 0x30, 0x0, 1, 342, [⟨1, 0, "INJ", .rw, 0x0⟩]⟩,
    ⟨"DDR_WEIR", 0x34, 0x0, 1, 340, [⟨15, 0, "TRAIN_PWR", .rw, 0x3e8⟩]⟩,
    ⟨"DDR_TRAIN", 0x38, 0x0, 1, 340, [⟨31, 31, "BUSY", .ro, 0x0⟩, ⟨30, 30, "DONE", .w1c, 0x0⟩, ⟨29, 29, "ORDER", .w1c, 0x0⟩, ⟨25, 24, "RESULT", .ro, 0x0⟩, ⟨8, 8, "RANK", .rw, 0x0⟩, ⟨2, 0, "STEP", .rw, 0x0⟩]⟩,
    ⟨"DDR_TP", 0x100, 0x4, 24, 340, [⟨15, 0, "VALUE", .rw, 0x0⟩]⟩ ]

/-- The registers of unit DDR. -/
def ddrTable : List RegRow := ddrTable0 ++ ddrTable1

def lnTable0 : List RegRow :=
  [ ⟨"LN_CTRL", 0x0, 0x0, 1, 295, [⟨27, 24, "CTLE", .rw, 0x8⟩, ⟨23, 23, "CTLE_AUTO", .rw, 0x1⟩, ⟨19, 18, "PRBS_RX", .rw, 0x0⟩, ⟨17, 16, "PRBS_TX", .rw, 0x0⟩, ⟨9, 8, "LOOP", .rw, 0x0⟩, ⟨1, 1, "POL_RX", .rw, 0x0⟩, ⟨0, 0, "POL_TX", .rw, 0x0⟩]⟩,
    ⟨"LN_STAT", 0x4, 0x0, 1, 293, [⟨31, 28, "CTLE_SEL", .ro, 0x0⟩, ⟨7, 7, "CTLE_FAIL", .w1c, 0x0⟩, ⟨6, 6, "LOS", .w1c, 0x0⟩, ⟨5, 5, "LOS_NOW", .ro, 0x1⟩, ⟨4, 4, "PRBS_LOCK", .ro, 0x0⟩, ⟨3, 3, "DESKEWED", .ro, 0x0⟩, ⟨2, 2, "ALIGNED", .ro, 0x0⟩]⟩,
    ⟨"LN_ERR", 0x8, 0x0, 1, 291, [⟨31, 16, "CODE_ERR", .rc, 0x0⟩, ⟨15, 0, "DISP_ERR", .rc, 0x0⟩]⟩,
    ⟨"LN_PRBS_ERR", 0xc, 0x0, 1, 296, [⟨31, 0, "PRBS_ERR", .rc, 0x0⟩]⟩,
    ⟨"LN_MARGIN", 0x10, 0x0, 1, 324, [⟨6, 0, "MARGIN", .ro, 0x0⟩]⟩ ]

/-- The registers of unit LN. -/
def lnTable : List RegRow := lnTable0

def pxTable0 : List RegRow :=
  [ ⟨"PX_CTRL", 0x0, 0x0, 1, 324, [⟨31, 31, "EN", .rw, 0x0⟩, ⟨30, 30, "RETRAIN", .w1s, 0x0⟩, ⟨29, 28, "RATE", .rw, 0x3⟩, ⟨27, 24, "REPLAY_MAX", .rw, 0x8⟩, ⟨23, 16, "REPLAY_TO", .rw, 0x14⟩]⟩,
    ⟨"PX_STAT", 0x4, 0x0, 1, 312, [⟨8, 8, "RING_BREAK", .ro, 0x0⟩, ⟨2, 0, "STATE", .ro, 0x0⟩]⟩,
    ⟨"PX_SEQ", 0x8, 0x4, 2, 302, [⟨27, 16, "TX_NEXT", .ro, 0x0⟩, ⟨11, 0, "RX_EXP", .ro, 0x0⟩]⟩,
    ⟨"PX_CREDIT", 0x10, 0x0, 1, 301, [⟨31, 16, "VC0", .ro, 0x0⟩, ⟨15, 0, "VC1", .ro, 0x0⟩]⟩,
    ⟨"PX_VIOL", 0x14, 0x0, 1, 304, [⟨7, 0, "SEEN", .w1c, 0x0⟩]⟩,
    ⟨"PX_CNT", 0x20, 0x4, 6, 304, [⟨31, 16, "HIGH", .rc, 0x0⟩, ⟨15, 0, "LOW", .rc, 0x0⟩]⟩,
    ⟨"PX_HEALTH", 0x40, 0x4, 4, 315, [⟨31, 16, "ERRORS", .ro, 0x0⟩, ⟨15, 12, "CTLE", .ro, 0x0⟩, ⟨11, 10, "CLASS", .ro, 0x3⟩, ⟨6, 0, "MARGIN", .ro, 0x0⟩]⟩,
    ⟨"PX_HEALTH_INFO", 0x50, 0x0, 1, 315, [⟨31, 8, "TESTS", .ro, 0x0⟩, ⟨3, 3, "SKIPPED", .w1c, 0x0⟩, ⟨2, 2, "FE_DONE", .ro, 0x0⟩, ⟨1, 0, "CLASS", .ro, 0x3⟩]⟩,
    ⟨"MR_ID", 0x800, 0x0, 1, 311, [⟨13, 12, "SRC", .ro, 0x0⟩, ⟨11, 0, "CHIP_ID", .ro, 0x0⟩]⟩,
    ⟨"MR_DISC", 0x804, 0x0, 1, 311, [⟨31, 31, "START", .w1s, 0x0⟩, ⟨18, 16, "STATE", .ro, 0x0⟩, ⟨11, 0, "LAST_ID", .ro, 0x0⟩]⟩,
    ⟨"MR_CFG", 0x808, 0x0, 1, 324, [⟨31, 24, "RESUME_TO", .rw, 0x50⟩, ⟨23, 16, "DISC_WAIT", .rw, 0xa⟩, ⟨15, 8, "MARGIN_GOOD", .rw, 0x14⟩, ⟨7, 0, "MARGIN_MIN", .rw, 0x8⟩]⟩,
    ⟨"MR_PATH_CTRL", 0x810, 0x0, 1, 317, [⟨31, 31, "FAILOVER", .w1s, 0x0⟩, ⟨30, 30, "AUTO", .rw, 0x1⟩, ⟨29, 29, "MAKE_STANDBY", .w1s, 0x0⟩, ⟨23, 16, "HEALTH_PERIOD", .rw, 0x5⟩, ⟨15, 8, "LOS_TIME", .rw, 0x14⟩, ⟨7, 0, "CRC_LIM", .rw, 0x10⟩]⟩ ]

def pxTable1 : List RegRow :=
  [ ⟨"MR_PATH_STAT", 0x814, 0x0, 1, 318, [⟨31, 31, "ACTIVE", .ro, 0x0⟩, ⟨30, 30, "STANDBY_OK", .ro, 0x0⟩, ⟨29, 29, "IN_PROGRESS", .ro, 0x0⟩, ⟨19, 16, "RESULT", .ro, 0x0⟩, ⟨15, 0, "FO_CNT", .ro, 0x0⟩]⟩,
    ⟨"MR_SAVE", 0x818, 0x0, 1, 316, [⟨31, 0, "CKPTS", .ro, 0x0⟩]⟩ ]

/-- The registers of port block `p`: the MR_* stand in port A's block alone, Px_HEALTH* in those of A and B (R324). -/
def pxTable (p : Nat) : List RegRow :=
  (pxTable0 ++ pxTable1).filter (fun r => decide (r.off < 0x40 ∨ (r.off < 0x800 ∧ p < 2) ∨ p = 0))

def camTable0 : List RegRow :=
  [ ⟨"CAM_CTRL", 0x0, 0x0, 1, 256, [⟨31, 31, "EN", .rw, 0x0⟩, ⟨30, 30, "CAPTURE", .w1s, 0x0⟩, ⟨29, 29, "CAP_RAW", .rw, 0x0⟩, ⟨25, 24, "VC", .rw, 0x0⟩, ⟨21, 20, "DT", .rw, 0x1⟩, ⟨15, 12, "SKIP", .rw, 0x0⟩, ⟨11, 8, "PHASE", .rw, 0x0⟩]⟩,
    ⟨"CAM_SIZE", 0x4, 0x0, 1, 256, [⟨28, 16, "HEIGHT", .rw, 0x400⟩, ⟨13, 0, "WIDTH", .rw, 0x1000⟩]⟩,
    ⟨"CAM_TRIG_WIN", 0x8, 0x0, 1, 257, [⟨19, 0, "WIN", .rw, 0x9c40⟩]⟩,
    ⟨"CAM_DIST_LO", 0xc, 0x0, 1, 258, [⟨31, 0, "DIST_L", .rw, 0x0⟩]⟩,
    ⟨"CAM_DIST_HI", 0x10, 0x0, 1, 258, [⟨31, 16, "DIST_SX", .ro, 0x0⟩, ⟨15, 0, "DIST_H", .rw, 0x0⟩]⟩,
    ⟨"CAM_ROWP", 0x14, 0x0, 1, 258, [⟨31, 0, "ROW_PITCH", .rw, 0x0⟩]⟩,
    ⟨"CAM_STAT", 0x18, 0x0, 1, 260, [⟨27, 24, "STATE", .ro, 0x0⟩, ⟨9, 9, "CAP_LOST", .w1c, 0x0⟩, ⟨8, 8, "DT_IGN", .w1c, 0x0⟩, ⟨7, 7, "UNTRIG", .w1c, 0x0⟩, ⟨6, 6, "CSI_ERR", .w1c, 0x0⟩, ⟨5, 5, "OVERFLOW", .w1c, 0x0⟩, ⟨4, 4, "LONG", .w1c, 0x0⟩, ⟨3, 3, "SHORT", .w1c, 0x0⟩]⟩,
    ⟨"CAM_CNT", 0x1c, 0x0, 1, 259, [⟨31, 16, "FRAMES", .rc, 0x0⟩, ⟨15, 0, "DROPPED", .rc, 0x0⟩]⟩,
    ⟨"CAM_ERR", 0x20, 0x0, 1, 260, [⟨31, 16, "ECC_CORR", .rc, 0x0⟩, ⟨15, 0, "CSI_ERR", .rc, 0x0⟩]⟩ ]

/-- The registers of unit CAM. -/
def camTable : List RegRow := camTable0

def ispTable0 : List RegRow :=
  [ ⟨"ISP_CTRL", 0x0, 0x0, 1, 289, [⟨31, 31, "EN", .rw, 0x0⟩]⟩,
    ⟨"ISP_STAT", 0x4, 0x0, 1, 262, [⟨7, 7, "DPC_ORDER", .w1c, 0x0⟩, ⟨3, 3, "BUSY", .ro, 0x0⟩, ⟨2, 0, "CAM", .ro, 0x0⟩]⟩,
    ⟨"ISP_SWITCH", 0x8, 0x0, 1, 266, [⟨31, 0, "SWITCHES", .rc, 0x0⟩]⟩,
    ⟨"ISP_C_BL01", 0x100, 0x40, 8, 262, [⟨27, 16, "BL_ODD", .rw, 0x0⟩, ⟨11, 0, "BL_EVEN", .rw, 0x0⟩]⟩,
    ⟨"ISP_C_BL23", 0x104, 0x40, 8, 262, [⟨27, 16, "BL_ODD", .rw, 0x0⟩, ⟨11, 0, "BL_EVEN", .rw, 0x0⟩]⟩,
    ⟨"ISP_C_CFA", 0x108, 0x40, 8, 261, [⟨1, 0, "CFA", .rw, 0x0⟩]⟩,
    ⟨"ISP_C_WB0", 0x10c, 0x40, 8, 263, [⟨31, 16, "WB_G", .rw, 0x1000⟩, ⟨15, 0, "WB_R", .rw, 0x1000⟩]⟩,
    ⟨"ISP_C_WB1", 0x110, 0x40, 8, 263, [⟨15, 0, "WB_B", .rw, 0x1000⟩]⟩,
    ⟨"ISP_C_CCM0", 0x114, 0x40, 8, 265, [⟨31, 16, "M_HI", .rw, 0x0⟩, ⟨15, 0, "M_LO", .rw, 0x1000⟩]⟩,
    ⟨"ISP_C_CCM1", 0x118, 0x40, 8, 265, [⟨31, 16, "M_HI", .rw, 0x0⟩, ⟨15, 0, "M_LO", .rw, 0x0⟩]⟩,
    ⟨"ISP_C_CCM2", 0x11c, 0x40, 8, 265, [⟨31, 16, "M_HI", .rw, 0x0⟩, ⟨15, 0, "M_LO", .rw, 0x1000⟩]⟩,
    ⟨"ISP_C_CCM3", 0x120, 0x40, 8, 265, [⟨31, 16, "M_HI", .rw, 0x0⟩, ⟨15, 0, "M_LO", .rw, 0x0⟩]⟩ ]

def ispTable1 : List RegRow :=
  [ ⟨"ISP_C_CCM4", 0x124, 0x40, 8, 265, [⟨15, 0, "M_LO", .rw, 0x1000⟩]⟩,
    ⟨"ISP_DPC", 0x4000, 0x4, 4096, 262, [⟨31, 31, "VALID", .rw, 0x0⟩, ⟨27, 16, "ROW", .rw, 0x0⟩, ⟨12, 0, "COL", .rw, 0x0⟩]⟩,
    ⟨"ISP_DLUT", 0x8000, 0x4, 6144, 265, [⟨31, 16, "D_ODD", .rw, 0x0⟩, ⟨15, 0, "D_EVEN", .rw, 0x0⟩]⟩ ]

/-- The shading knots of camera n: words m = 0 to 63 of two knots and the word m = 64 of one (R263). -/
def ispShade (n : Nat) : List RegRow :=
  [ ⟨"ISP_SHADE", 0x1000 + 0x400 * n, 0x4, 64, 263, [⟨31, 16, "K_ODD", .rw, 0x4000⟩, ⟨15, 0, "K_EVEN", .rw, 0x4000⟩]⟩,
    ⟨"ISP_SHADE_LAST", 0x1100 + 0x400 * n, 0x4, 1, 263, [⟨15, 0, "K_EVEN", .rw, 0x4000⟩]⟩ ]

/-- The registers of unit ISP. -/
def ispTable : List RegRow := ispTable0 ++ ispTable1 ++ (List.range 8).flatMap ispShade

def boltTable0 : List RegRow :=
  [ ⟨"BOLT_CTRL", 0x0, 0x0, 1, 285, [⟨31, 31, "EN", .rw, 0x0⟩, ⟨30, 30, "PROPOSE", .rw, 0x0⟩, ⟨29, 29, "AUTO", .rw, 0x0⟩]⟩,
    ⟨"BOLT_STAT", 0x4, 0x0, 1, 286, [⟨5, 5, "PLAN_FULL", .w1c, 0x0⟩, ⟨4, 4, "PROP_TRUNC", .w1c, 0x0⟩, ⟨3, 3, "AUTO_DONE", .w1c, 0x0⟩, ⟨1, 0, "PROP", .ro, 0x0⟩]⟩,
    ⟨"BOLT_CLS0", 0x8, 0x0, 1, 274, [⟨31, 24, "HOT_TH", .rw, 0x28⟩, ⟨23, 16, "WEAK_TH", .rw, 0x18⟩, ⟨15, 8, "MISS_TH", .rw, 0x8⟩, ⟨7, 0, "DEV_TH", .rw, 0x3⟩]⟩,
    ⟨"BOLT_CLS1", 0xc, 0x0, 1, 274, [⟨31, 24, "SPRAY_TH", .rw, 0x8⟩, ⟨23, 16, "DOM_TH", .rw, 0x60⟩, ⟨15, 4, "REG_MAX", .rw, 0x200⟩, ⟨3, 2, "CONF_MAX", .rw, 0x3⟩, ⟨1, 0, "PROP_CONF", .rw, 0x2⟩]⟩,
    ⟨"BOLT_LIM", 0x10, 0x0, 1, 286, [⟨31, 16, "MAX_CHANGE", .rw, 0x40⟩, ⟨6, 0, "TRIM_MAX", .rw, 0x7f⟩]⟩,
    ⟨"BOLT_UNMIX_A", 0x20, 0x8, 2, 272, [⟨31, 16, "U1", .rw, 0x0⟩, ⟨15, 0, "U0", .rw, 0x1000⟩]⟩,
    ⟨"BOLT_UNMIX_B", 0x24, 0x8, 2, 272, [⟨15, 0, "U2", .rw, 0x0⟩]⟩,
    ⟨"BOLT_SMAP", 0x40, 0x4, 16, 270, [⟨31, 31, "VALID", .rw, 0x0⟩, ⟨28, 28, "CH", .rw, 0x0⟩, ⟨27, 24, "SQ", .rw, 0x0⟩, ⟨15, 0, "STREAM_ID", .rw, 0x0⟩]⟩,
    ⟨"BOLT_P_MAP0", 0x100, 0x8, 48, 271, [⟨31, 31, "EN", .rw, 0x0⟩, ⟨30, 28, "CAM", .rw, 0x0⟩, ⟨27, 27, "CH", .rw, 0x0⟩, ⟨23, 0, "COL0", .rw, 0x0⟩]⟩,
    ⟨"BOLT_P_MAP1", 0x104, 0x8, 48, 271, [⟨15, 0, "NPITCH", .rw, 0x0⟩]⟩,
    ⟨"BOLT_RPT_BASE_LO", 0xf00, 0x0, 1, 277, [⟨31, 6, "BASE_L", .rw, 0x0⟩]⟩,
    ⟨"BOLT_RPT_BASE_HI", 0xf04, 0x0, 1, 277, [⟨7, 0, "BASE_H", .rw, 0x0⟩]⟩ ]

def boltTable1 : List RegRow :=
  [ ⟨"BOLT_RPT_CTRL", 0xf08, 0x0, 1, 277, [⟨31, 31, "EN", .rw, 0x0⟩, ⟨18, 16, "PENDING", .ro, 0x0⟩, ⟨9, 9, "LOST", .w1c, 0x0⟩, ⟨8, 8, "BUS_ERR", .w1c, 0x0⟩, ⟨2, 0, "SIZE", .rw, 0x0⟩]⟩,
    ⟨"BOLT_RPT_IDX", 0xf0c, 0x0, 1, 277, [⟨31, 16, "WIDX", .ro, 0x0⟩, ⟨15, 0, "RIDX", .rw, 0x0⟩]⟩,
    ⟨"BOLT_KERNEL", 0x1000, 0x8, 15, 271, [⟨31, 16, "KE", .rw, 0x0⟩, ⟨15, 0, "KC", .rw, 0x0⟩]⟩,
    ⟨"BOLT_KERNEL_KD", 0x1004, 0x8, 15, 271, [⟨15, 0, "KD", .rw, 0x0⟩]⟩,
    ⟨"BOLT_KERNEL", 0x1080, 0x8, 15, 271, [⟨31, 16, "KE", .rw, 0x0⟩, ⟨15, 0, "KC", .rw, 0x0⟩]⟩,
    ⟨"BOLT_KERNEL_KD", 0x1084, 0x8, 15, 271, [⟨15, 0, "KD", .rw, 0x0⟩]⟩ ]

/-- The registers of unit BOLT. -/
def boltTable : List RegRow := boltTable0 ++ boltTable1

def csTable0 : List RegRow :=
  [ ⟨"CS_CMD", 0x0, 0x0, 1, 282, [⟨2, 0, "OP", .wo, 0x0⟩]⟩,
    ⟨"CS_STAT", 0x4, 0x0, 1, 282, [⟨27, 24, "RESULT", .ro, 0x0⟩, ⟨10, 10, "EPOCH_LATE", .w1c, 0x0⟩, ⟨2, 0, "SHADOW", .ro, 0x0⟩]⟩,
    ⟨"CS_EPOCH", 0x8, 0x0, 1, 283, [⟨31, 0, "EPOCH", .ro, 0x0⟩]⟩,
    ⟨"CS_EP_PAGE", 0xc, 0x0, 1, 283, [⟨31, 0, "PAGE_ID", .rw, 0x0⟩]⟩,
    ⟨"CS_EP_LINE", 0x10, 0x0, 1, 283, [⟨31, 0, "LINE", .rw, 0x0⟩]⟩,
    ⟨"CS_SH_KEY", 0x14, 0x0, 1, 280, [⟨31, 0, "KEY", .rw, 0x0⟩]⟩,
    ⟨"CS_ACT_KEY", 0x18, 0x0, 1, 280, [⟨31, 0, "KEY", .ro, 0x0⟩]⟩,
    ⟨"CS_SH_BOOST", 0x100, 0x4, 24, 280, [⟨31, 0, "BOOST", .rw, 0x0⟩]⟩,
    ⟨"CS_ACT_BOOST", 0x180, 0x4, 24, 280, [⟨31, 0, "BOOST", .ro, 0x0⟩]⟩,
    ⟨"CS_PBASE", 0x200, 0x4, 48, 278, [⟨16, 0, "PBASE", .rw, 0x0⟩]⟩,
    ⟨"CS_LOG", 0x400, 0x4, 64, 283, [⟨31, 0, "LOG", .ro, 0x0⟩]⟩ ]

/-- The registers of unit CS. -/
def csTable : List RegRow := csTable0

def secTable0 : List RegRow :=
  [ ⟨"SEC_STAT", 0x0, 0x0, 1, 427, [⟨31, 31, "SECURE", .ro, 0x0⟩, ⟨30, 30, "DBG_UNLOCKED", .ro, 0x0⟩, ⟨29, 28, "SLOT", .ro, 0x0⟩, ⟨27, 26, "KEY_INDEX", .ro, 0x0⟩, ⟨19, 16, "REVOKED", .ro, 0x0⟩, ⟨11, 8, "FAIL", .ro, 0x0⟩, ⟨5, 0, "BOOT_VER", .ro, 0x0⟩]⟩,
    ⟨"SEC_ROLLBACK", 0x4, 0x0, 1, 427, [⟨31, 31, "BUSY", .ro, 0x0⟩, ⟨30, 30, "REFUSED", .w1c, 0x0⟩, ⟨5, 0, "COUNT", .ro, 0x0⟩]⟩,
    ⟨"SEC_ROLLBACK_SET", 0x8, 0x0, 1, 427, [⟨5, 0, "N", .wo, 0x0⟩]⟩,
    ⟨"SEC_REVOKE", 0xc, 0x0, 1, 427, [⟨3, 0, "KEYS", .wo, 0x0⟩]⟩,
    ⟨"SEC_UID_LO", 0x10, 0x0, 1, 427, [⟨31, 0, "UID", .ro, 0x0⟩]⟩,
    ⟨"SEC_UID_HI", 0x14, 0x0, 1, 427, [⟨31, 0, "UID", .ro, 0x0⟩]⟩,
    ⟨"SEC_VER_LO", 0x20, 0x0, 1, 438, [⟨31, 0, "ADDR_L", .rw, 0x0⟩]⟩,
    ⟨"SEC_VER_HI", 0x24, 0x0, 1, 438, [⟨7, 0, "ADDR_H", .rw, 0x0⟩]⟩,
    ⟨"SEC_VER_CMD", 0x28, 0x0, 1, 438, [⟨0, 0, "GO", .w1s, 0x0⟩]⟩,
    ⟨"SEC_VER_STAT", 0x2c, 0x0, 1, 438, [⟨31, 31, "BUSY", .ro, 0x0⟩, ⟨30, 30, "DONE", .w1c, 0x0⟩, ⟨3, 0, "RESULT", .ro, 0x0⟩]⟩ ]

/-- The registers of unit SEC. -/
def secTable : List RegRow := secTable0

def mbxTable0 : List RegRow :=
  [ ⟨"MBX_CMD", 0x0, 0x0, 1, 417, [⟨7, 0, "OP", .wo, 0x0⟩]⟩,
    ⟨"MBX_STAT", 0x4, 0x0, 1, 417, [⟨31, 31, "BUSY", .ro, 0x0⟩, ⟨28, 28, "OWNER", .ro, 0x0⟩, ⟨15, 8, "RESULT", .ro, 0x0⟩, ⟨7, 0, "LAST_OP", .ro, 0x0⟩]⟩,
    ⟨"MBX_ARG", 0x10, 0x4, 4, 418, [⟨31, 0, "ARG", .rw, 0x0⟩]⟩,
    ⟨"MBX_RES", 0x20, 0x4, 4, 418, [⟨31, 0, "RES", .ro, 0x0⟩]⟩ ]

/-- The registers of unit MBX. -/
def mbxTable : List RegRow := mbxTable0

end Sys2Proof.Machine
end

