-- ==== Sys2Proof/Machine/Blocks.lean ====
section
/-!
DEFINITION. The address map of R35: the register blocks with their bases, the table of each block's registers, the
reset value of every register, and what each access code (R14) does to a stored word.
-/
namespace Sys2Proof.Machine

/-- A register block or window of R35; a numbered unit carries its instance number. -/
inductive Block where
  | sys | clk | pwr | thm | cal | nves | evt | time | pos | gov | fsch
  | hp (n : Nat) | sq (k : Nat) | dce (k : Nat) | cmp (k : Nat)
  | dma | ddr (c : Nat) | phy (c : Nat) | ln (i : Nat) | px (p : Nat)
  | cam (n : Nat) | isp | bolt | hmap | csShadow | csActive | cs
  | qspi | uart | gpio | sec | mbx
deriving DecidableEq, Repr

/-- The base address of a block (R35). -/
def Block.base : Block → Nat
  | .sys => 0x40000000 | .clk => 0x40010000 | .pwr => 0x40020000 | .thm => 0x40030000 | .cal => 0x40040000
  | .nves => 0x40050000 | .evt => 0x40060000 | .time => 0x40070000 | .pos => 0x40080000 | .gov => 0x40090000
  | .fsch => 0x400A0000
  | .hp n => 0x41000000 + 0x10000 * n | .sq k => 0x42000000 + 0x10000 * k
  | .dce k => 0x43000000 + 0x10000 * k | .cmp k => 0x43100000 + 0x10000 * k
  | .dma => 0x44000000 | .ddr c => 0x45000000 + 0x10000 * c | .phy c => 0x45080000 + 0x10000 * c
  | .ln i => 0x46000000 + 0x10000 * i | .px p => 0x46100000 + 0x10000 * p
  | .cam n => 0x47000000 + 0x10000 * n | .isp => 0x47080000 | .bolt => 0x47090000
  | .hmap => 0x47100000 | .csShadow => 0x47180000 | .csActive => 0x47200000 | .cs => 0x47280000
  | .qspi => 0x48000000 | .uart => 0x48010000 | .gpio => 0x48020000 | .sec => 0x48030000 | .mbx => 0x48040000

/-- The block and the offset in it of a 64 KiB unit slot: `hi` is the address without its low 16 bits (R35). -/
def slotBlock (hi : Nat) : Option Block :=
  if hi < 0x400B then
    match hi - 0x4000 with
    | 0 => if hi = 0x4000 then some .sys else none
    | 1 => some .clk | 2 => some .pwr | 3 => some .thm | 4 => some .cal | 5 => some .nves
    | 6 => some .evt | 7 => some .time | 8 => some .pos | 9 => some .gov | _ => some .fsch
  else if 0x4100 ≤ hi ∧ hi < 0x4130 then some (.hp (hi - 0x4100))
  else if 0x4200 ≤ hi ∧ hi < 0x420C then some (.sq (hi - 0x4200))
  else if 0x4300 ≤ hi ∧ hi < 0x4310 then some (.dce (hi - 0x4300))
  else if 0x4310 ≤ hi ∧ hi < 0x4312 then some (.cmp (hi - 0x4310))
  else if hi = 0x4400 then some .dma
  else if 0x4500 ≤ hi ∧ hi < 0x4502 then some (.ddr (hi - 0x4500))
  else if 0x4508 ≤ hi ∧ hi < 0x450A then some (.phy (hi - 0x4508))
  else if 0x4600 ≤ hi ∧ hi < 0x4610 then some (.ln (hi - 0x4600))
  else if 0x4610 ≤ hi ∧ hi < 0x4614 then some (.px (hi - 0x4610))
  else if 0x4700 ≤ hi ∧ hi < 0x4708 then some (.cam (hi - 0x4700))
  else if hi = 0x4708 then some .isp
  else if hi = 0x4709 then some .bolt
  else if 0x4710 ≤ hi ∧ hi < 0x4714 then some .hmap
  else if 0x4718 ≤ hi ∧ hi < 0x4720 then some .csShadow
  else if 0x4720 ≤ hi ∧ hi < 0x4728 then some .csActive
  else if hi = 0x4728 then some .cs
  else match hi with
    | 0x4800 => some .qspi | 0x4801 => some .uart | 0x4802 => some .gpio
    | 0x4803 => some .sec | 0x4804 => some .mbx
    | _ => none

/-- The register block at an address, with the offset in it (R35). -/
def blockAt (a : Nat) : Option (Block × Nat) :=
  match slotBlock (a / 0x10000) with
  | some b => some (b, a - b.base)
  | none => none

/-- The register table of a block; the windows and the units without registers in the manual have none. -/
def Block.table : Block → List RegRow
  | .sys => sysTable | .clk => clkTable | .pwr => pwrTable | .thm => thmTable | .cal => calTable
  | .nves => nvesTable | .evt => evtTable | .time => timeTable | .pos => posTable | .gov => govTable
  | .fsch => fschTable | .hp _ => hpTable | .sq _ => sqTable | .dce _ => dceTable | .cmp _ => cmpTable
  | .dma => dmaTable | .ddr _ => ddrTable | .phy _ => [] | .ln _ => lnTable | .px p => pxTable p
  | .cam _ => camTable | .isp => ispTable | .bolt => boltTable | .hmap => [] | .csShadow => []
  | .csActive => [] | .cs => csTable | .qspi => [] | .uart => [] | .gpio => [] | .sec => secTable
  | .mbx => mbxTable

/-- Whether a row's array covers an offset. -/
def RegRow.covers (r : RegRow) (off : Nat) : Bool :=
  decide (r.off ≤ off) &&
    (if r.count = 1 then decide (off = r.off)
     else decide ((off - r.off) % r.stride = 0 ∧ (off - r.off) / r.stride < r.count))

/-- The row of a register table that an offset names, if one does (R13). -/
def rowAt (t : List RegRow) (off : Nat) : Option RegRow := t.find? (fun r => r.covers off)

/-- The bits of a register that have one access code (R14). -/
def RegRow.mask (r : RegRow) (a : Access) : Word :=
  r.fields.foldl (fun m f => if f.acc = a then m ||| fieldMask f.hi f.lo else m) 0

/-- The reset word of a register row, from its Reset column. -/
def RegRow.resetWord (r : RegRow) : Word :=
  r.fields.foldl (fun w f => withField w f.hi f.lo f.reset) 0

/-- The reset words that depend on the instance or the index: the fixed Fantail mask (R434), SQk_ENTRY and SQk_SYNC
(R133), DCEk_CTRL (R254), FLUSH on RING3 (R366), PLL rates (R390), CAL_P_TAB by R407 and the SSI settings (R143). -/
def indexedReset (b : Block) (off : Nat) : Option Word :=
  match b with
  | .evt =>
    if off = 0xC0 then some 0x0000000B else if off = 0xC4 then some 0x00000080
    else if off = 0xE8 then some 0x00000013 else if off = 0xEC then some 0x00000070 else none
  | .sq k =>
    if off = 0x0008 then some (BitVec.ofNat 32 (0x08000000 + 0x40000 * k))
    else if off = 0x0034 then some (BitVec.ofNat 32 (2 ^ k)) else none
  | .dce k =>
    if off = 0 then
      some (BitVec.ofNat 32 ((if k < 12 then k else 0) * 2 ^ 24 +
        (if k < 12 then 1 else if k < 14 then 2 else 0) * 2 ^ 20))
    else none
  | .dma => if off = 0x20C8 then some 0x0003E800 else none
  | .clk =>
    if off = 0x0110 ∨ off = 0x0120 ∨ off = 0x0130 ∨ off = 0x0150 then some 0x001E0000
    else if off = 0x0140 then some 0x02000000
    else if off = 0x0100 then some 0 else none
  | .pos =>
    if 0x1000 ≤ off ∧ off < 0x2400 ∧ (off - 0x1000) % 0x200 = 0x20 then
      (if (off - 0x1000) / 0x200 = 4 ∨ (off - 0x1000) / 0x200 = 5 then some 0x00027019 else some 0)
    else none
  | _ => none

/-- What a register reads as before anything has changed it: its value after power-on reset. -/
def resetAt (b : Block) (off : Nat) : Word :=
  match indexedReset b off with
  | some w => w
  | none => match rowAt b.table off with
    | some r => r.resetWord
    | none => 0

/-- The reset value of the register at an address; zero outside every register. -/
def resetWord (a : Nat) : Word :=
  match blockAt a with
  | some (b, off) => resetAt b off
  | none => 0

end Sys2Proof.Machine
end

