-- ==== Sys2Proof/Machine/Inflate.lean ====
section
/-!
DEFINITION. The decoder of R229: DEFLATE in zlib framing, one element at a time, with the status codes of R230 and the
resume points of R242 and R243; the pre-filter of R228.
-/
namespace Sys2Proof.Machine

/-! ## Bits of the input -/

/-- The input seen so far: its bytes as one little-endian number and its length in bits. Bit 0 of a byte comes first. -/
structure Bits where
  val : Nat
  len : Nat
deriving DecidableEq, Repr

/-- The bits of a list of bytes. -/
def bitsOf (bs : List Byte) : Bits := { val := leNat bs, len := 8 * bs.length }

/-- `n` bits at a position, least significant first; none past the end. -/
def Bits.take (b : Bits) (pos n : Nat) : Option Nat := if pos + n ≤ b.len then some (b.val / 2 ^ pos % 2 ^ n) else none

/-! ## Huffman codes (RFC 1951) -/

/-- How many of the lengths equal `n`. -/
def lenCount (ls : List Nat) (n : Nat) : Nat := (ls.filter (fun l => l = n)).length

/-- The symbols of length `n` in order. -/
def symsOf (ls : List Nat) (n : Nat) : List Nat := (ls.zipIdx.filter (fun p => p.1 = n)).map (fun p => p.2)

/-- The code space left over by a set of lengths, in units of 2^-15: negative when over-subscribed, 0 when complete. -/
def codeLeft (ls : List Nat) : Int :=
  (List.range 15).foldl (fun left i => left - (lenCount ls (i + 1) : Int) * 2 ^ (14 - i)) (2 ^ 15)

/-- The outcome of decoding one symbol. -/
inductive SymRes where
  | sym (s pos : Nat)
  | need
  | bad
deriving DecidableEq, Repr

/-- Canonical decoding from length `15 - n + 1` on: the code so far, the first code and the symbols of each length. -/
def symLoop (ls : List Nat) (b : Bits) : Nat → Nat → Nat → Nat → SymRes
  | 0, _, _, _ => .bad
  | n + 1, code, first, pos =>
    match b.take pos 1 with
    | none => .need
    | some x =>
      let code := code + x
      let count := lenCount ls (15 - n)
      if code < first + count then
        match (symsOf ls (15 - n))[code - first]? with
        | some s => .sym s (pos + 1)
        | none => .bad
      else if ls.all (fun l => decide (l ≤ 15 - n)) then .bad
      else symLoop ls b n (code * 2) ((first + count) * 2) (pos + 1)

/-- The symbol whose code stands at a position. -/
def symAt (ls : List Nat) (b : Bits) (pos : Nat) : SymRes := symLoop ls b 15 0 0 pos

/-- The code lengths of a static block. -/
def staticLit : List Nat :=
  List.replicate 144 8 ++ List.replicate 112 9 ++ List.replicate 24 7 ++ List.replicate 8 8

/-- The distance code of a static block. -/
def staticDist : List Nat := List.replicate 32 5

/-- The order of the code lengths of a dynamic header. -/
def clOrder : List Nat := [16, 17, 18, 0, 8, 7, 9, 6, 10, 5, 11, 4, 12, 3, 13, 2, 14, 1, 15]

/-- The outcome of reading a dynamic header. -/
inductive DynRes where
  | ok (lit dist : List Nat) (pos : Nat)
  | need
  | bad
deriving DecidableEq, Repr

/-- The HLIT + HDIST code lengths, `n` steps at most; `acc` holds them in reverse. -/
def dynLens (cl : List Nat) (b : Bits) (total : Nat) : Nat → List Nat → Nat → Option (Option (List Nat × Nat))
  | 0, _, _ => some none
  | n + 1, acc, pos =>
    if total ≤ acc.length then (if acc.length = total then some (some (acc.reverse, pos)) else some none)
    else
      match symAt cl b pos with
      | .need => none
      | .bad => some none
      | .sym s p =>
        if s < 16 then dynLens cl b total n (s :: acc) p
        else if s = 16 then
          match acc, b.take p 2 with
          | [], _ => some none
          | _, none => none
          | h :: _, some x => dynLens cl b total n (List.replicate (3 + x) h ++ acc) (p + 2)
        else if s = 17 then
          match b.take p 3 with
          | none => none
          | some x => dynLens cl b total n (List.replicate (3 + x) 0 ++ acc) (p + 3)
        else
          match b.take p 7 with
          | none => none
          | some x => dynLens cl b total n (List.replicate (11 + x) 0 ++ acc) (p + 7)

/-- The code-length code lengths: `n` of them from a position, in clOrder. -/
def clLens (b : Bits) (pos n : Nat) : List Nat :=
  (List.range 19).map (fun s => match clOrder.findIdx? (fun k => k = s) with
    | some i => if i < n then b.val / 2 ^ (pos + 3 * i) % 8 else 0
    | none => 0)

/-- CODE_SET of R230 for a code: over-subscribed or incomplete. -/
def codeSetOk (ls : List Nat) : Bool := decide (codeLeft ls = 0)

/-- A distance code is accepted when complete, when it is one code of length 1, or when it has no codes (R230). -/
def distSetOk (ls : List Nat) : Bool :=
  codeSetOk ls || ls.all (fun l => l = 0) ||
    (decide (lenCount ls 1 = 1) && ls.all (fun l => decide (l ≤ 1)))

/-- A dynamic header at a position, after the block type (R230, CODE_SET). -/
def dynHeader (b : Bits) (pos : Nat) : DynRes :=
  match b.take pos 14 with
  | none => .need
  | some h =>
    let hlit := h % 32 + 257
    let hdist := h / 32 % 32 + 1
    let hclen := h / 1024 % 16 + 4
    if 286 < hlit ∨ 30 < hdist then .bad
    else if b.len < pos + 14 + 3 * hclen then .need
    else
      let cl := clLens b (pos + 14) hclen
      if !codeSetOk cl then .bad
      else
        match dynLens cl b (hlit + hdist) (hlit + hdist + 1) [] (pos + 14 + 3 * hclen) with
        | none => .need
        | some none => .bad
        | some (some (ls, p)) =>
          let lit := ls.take hlit
          let dist := ls.drop hlit
          if lit.getD 256 0 = 0 ∨ !codeSetOk lit ∨ !distSetOk dist then .bad else .ok lit dist p

/-! ## Length and distance codes -/

/-- Base and extra bits of length symbols 257 to 285. -/
def lenTable : List (Nat × Nat) :=
  [(3,0),(4,0),(5,0),(6,0),(7,0),(8,0),(9,0),(10,0),(11,1),(13,1),(15,1),(17,1),(19,2),(23,2),(27,2),(31,2),(35,3),(43,3),
   (51,3),(59,3),(67,4),(83,4),(99,4),(115,4),(131,5),(163,5),(195,5),(227,5),(258,0)]

/-- Base and extra bits of distance symbols 0 to 29. -/
def distTable : List (Nat × Nat) :=
  [(1,0),(2,0),(3,0),(4,0),(5,1),(7,1),(9,2),(13,2),(17,3),(25,3),(33,4),(49,4),(65,5),(97,5),(129,6),(193,6),(257,7),
   (385,7),(513,8),(769,8),(1025,9),(1537,9),(2049,10),(3073,10),(4097,11),(6145,11),(8193,12),(12289,12),(16385,13),
   (24577,13)]

/-! ## The decoder -/

/-- Where the decoder stands. -/
inductive InfPhase where
  | zlib
  | block
  | stored (rem : Nat)
  | codes (lit dist : List Nat)
  | trailer
  | done
deriving DecidableEq, Repr

/-- The decoder: next unread bit (IN_BITS), BFINAL bit of the current block (BLOCK_BITS), window, block kind, the part of
a match still to write, bytes produced, running Adler-32 and the history, newest byte first. `limit` is OUT_LEN. -/
structure Inf where
  pos : Nat
  blockBits : Nat
  phase : InfPhase
  window : Nat
  bfinal : Bool
  btype : Nat
  matchLen : Nat
  matchDist : Nat
  total : Nat
  adlerA : Nat
  adlerB : Nat
  hist : List Byte
  limit : Option Nat
deriving DecidableEq, Repr

/-- The decoder at the start of a zlib stream at a bit position. -/
def Inf.start (pos : Nat) (limit : Option Nat) : Inf :=
  { pos := pos, blockBits := 0, phase := .zlib, window := 32768, bfinal := false, btype := 0, matchLen := 0, matchDist := 0,
    total := 0, adlerA := 1, adlerB := 0, hist := [], limit := limit }

/-- The outcome of one step: a byte, progress without one, more input needed, a fault with its code, or the end. -/
inductive InfRes where
  | emit (b : Byte) (i : Inf)
  | go (i : Inf)
  | need
  | fail (code : Nat)
  | done
deriving DecidableEq, Repr

/-- A byte produced: OVERRUN where output would exceed OUT_LEN (R230). -/
def Inf.put (i : Inf) (b : Byte) : InfRes :=
  if i.limit = some i.total then .fail 0x0A
  else
    let a := (i.adlerA + b.toNat) % 65521
    .emit b { i with total := i.total + 1, adlerA := a, adlerB := (i.adlerB + a) % 65521, hist := b :: i.hist }

/-- A block ended: the next block, or the trailer after the final one, with UNDERRUN where output is short (R230). -/
def Inf.blockEnd (i : Inf) : InfRes :=
  if i.bfinal then
    match i.limit with
    | some n => if i.total < n then .fail 0x0B else .go { i with phase := .trailer }
    | none => .go { i with phase := .trailer }
  else .go { i with phase := .block }

/-- A length symbol with its distance: the match begins (R230, SYMBOL and DISTANCE). -/
def Inf.startMatch (i : Inf) (inp : Bits) (dist : List Nat) (sym p : Nat) : InfRes :=
  match lenTable[sym - 257]? with
  | none => .fail 0x07
  | some (lb, le) =>
    match inp.take p le with
    | none => .need
    | some lx =>
      if dist.all (fun l => l = 0) then .fail 0x07
      else
        match symAt dist inp (p + le) with
        | .need => .need
        | .bad => .fail 0x07
        | .sym ds q =>
          match distTable[ds]? with
          | none => .fail 0x07
          | some (db, de) =>
            match inp.take q de with
            | none => .need
            | some dx =>
              let d := db + dx
              if i.total < d ∨ i.window < d then .fail 0x08
              else
                match i.hist[d - 1]? with
                | none => .fail 0x08
                | some b => { i with pos := q + de, matchLen := lb + lx - 1, matchDist := d }.put b

/-- One step of the decoder (R229, R230). -/
def Inf.step (i : Inf) (inp : Bits) : InfRes :=
  match i.phase with
  | .zlib =>
    match inp.take i.pos 16 with
    | none => .need
    | some h =>
      let cmf := h % 256
      let flg := h / 256
      if cmf % 16 ≠ 8 ∨ 7 < cmf / 16 ∨ (cmf * 256 + flg) % 31 ≠ 0 ∨ flg / 32 % 2 = 1 then .fail 0x03
      else .go { i with pos := i.pos + 16, phase := .block, window := 2 ^ (cmf / 16 + 8) }
  | .block =>
    match inp.take i.pos 3 with
    | none => .need
    | some h =>
      let j := { i with blockBits := i.pos, bfinal := decide (h % 2 = 1), btype := h / 2, matchLen := 0, matchDist := 0 }
      if h / 2 = 3 then .fail 0x04
      else if h / 2 = 0 then
        let p := (i.pos + 3 + 7) / 8 * 8
        match inp.take p 32 with
        | none => .need
        | some w =>
          if w % 65536 + w / 65536 ≠ 65535 then .fail 0x05
          else .go { j with pos := p + 32, phase := .stored (w % 65536) }
      else if h / 2 = 1 then .go { j with pos := i.pos + 3, phase := .codes staticLit staticDist }
      else
        match dynHeader inp (i.pos + 3) with
        | .need => .need
        | .bad => .fail 0x06
        | .ok lit dist p => .go { j with pos := p, phase := .codes lit dist }
  | .stored 0 => i.blockEnd
  | .stored (r + 1) =>
    match inp.take i.pos 8 with
    | none => .need
    | some b => { i with pos := i.pos + 8, phase := .stored r }.put (BitVec.ofNat 8 b)
  | .codes lit dist =>
    if 0 < i.matchLen then
      match i.hist[i.matchDist - 1]? with
      | none => .fail 0x08
      | some b => { i with matchLen := i.matchLen - 1 }.put b
    else
      match symAt lit inp i.pos with
      | .need => .need
      | .bad => .fail 0x07
      | .sym s p =>
        if s < 256 then { i with pos := p, matchDist := 0 }.put (BitVec.ofNat 8 s)
        else if s = 256 then { i with pos := p, matchDist := 0 }.blockEnd
        else i.startMatch inp dist s p
  | .trailer =>
    let p := (i.pos + 7) / 8 * 8
    match inp.take p 32 with
    | none => .need
    | some w =>
      if beNat (leBytes 4 w) = i.adlerB * 65536 + i.adlerA then .go { i with pos := p + 32, phase := .done }
      else .fail 0x0D
  | .done => .done

/-- The decoder run on a whole input with a number of steps: the bytes produced, newest first, and the status. -/
def Inf.run (inp : Bits) : Nat → Inf → Inf × Nat
  | 0, i => (i, 0x09)
  | n + 1, i =>
    match i.step inp with
    | .emit _ j => Inf.run inp n j
    | .go j => Inf.run inp n j
    | .need => (i, 0x09)
    | .fail c => (i, c)
    | .done => (i, if i.pos < inp.len then 0x0C else 0)

/-- Steps that are enough for an input: every step takes a bit or writes one of at most 258 bytes of a match. -/
def infFuel (inp : Bits) : Nat := (inp.len + 8) * 260

/-- A whole zlib stream decoded: its bytes in order and its status (R229, R230). -/
def inflate (payload : List Byte) (limit : Option Nat) : List Byte × Nat :=
  let inp := bitsOf payload
  let r := Inf.run inp (infFuel inp) (Inf.start 0 limit)
  (r.1.hist.reverse, r.2)

/-! ## The pre-filter (R228) -/

/-- One line unfiltered: `prev` is the line delivered before it. -/
def unfilterLine (filter : Nat) (prev f : List Byte) : List Byte :=
  if filter = 1 then f.zipWith (fun a b => a ^^^ b) (prev ++ List.replicate (f.length - prev.length) 0)
  else if filter = 2 then
    let h := (f.length + 1) / 2
    (List.range f.length).map (fun i => f.getD (if i % 2 = 1 then h + i / 2 else i / 2) 0)
  else f

/-- The lines of a segment unfiltered, `k` of them with `n` bytes each. -/
def unfilterLines (filter n : Nat) : Nat → List Byte → List Byte → List Byte
  | 0, _, _ => []
  | k + 1, prev, f =>
    let l := unfilterLine filter prev (f.take n)
    l ++ unfilterLines filter n k l (f.drop n)

/-- The bytes delivered for decoded bytes that may end early at a fault: whole lines of a pair-interleaved segment, every
byte otherwise (R228, R238). -/
def deliver (filter lines n : Nat) (f : List Byte) : List Byte :=
  if filter = 0 ∨ n = 0 then f
  else if filter = 2 then unfilterLines filter n (min lines (f.length / n)) [] f
  else unfilterLines filter n (f.length / n + 1) [] f

/-- The inverse of one line: what the compressor makes of line `l` after `prev` (R228, R245). -/
def filterLine (filter : Nat) (prev l : List Byte) : List Byte :=
  if filter = 1 then l.zipWith (fun a b => a ^^^ b) (prev ++ List.replicate (l.length - prev.length) 0)
  else if filter = 2 then
    (l.zipIdx.filter (fun p => p.2 % 2 = 0)).map (fun p => p.1) ++ (l.zipIdx.filter (fun p => p.2 % 2 = 1)).map (fun p => p.1)
  else l

/-- The lines of a segment filtered. -/
def filterLines (filter n : Nat) : Nat → List Byte → List Byte → List Byte
  | 0, _, _ => []
  | k + 1, prev, f => filterLine filter prev (f.take n) ++ filterLines filter n k (f.take n) (f.drop n)

end Sys2Proof.Machine
end

