-- ==== Sys2Proof/Machine/Maps.lean ====
section
/-!
DEFINITION. Sparse tables keyed by Nat in one canonical form: keys strictly rising, and no entry equal to what an
unlisted key reads as. Registers, memory bytes and the large windows are held this way.
-/
namespace Sys2Proof.Machine

/-- A sparse table; what an unlisted key reads as is the reader's default `d`. -/
abbrev Table (α : Type) := List (Nat × α)

/-- The value at a key. -/
def Table.get {α : Type} (d : Nat → α) : Table α → Nat → α
  | [], k => d k
  | (j, x) :: t, k => if k < j then d k else if k = j then x else Table.get d t k

/-- The table without entries at keys up to `k`. -/
def Table.dropTo {α : Type} (k : Nat) : Table α → Table α
  | [] => []
  | (j, x) :: t => if j ≤ k then Table.dropTo k t else (j, x) :: t

/-- The table with key `k` reading as `v`: the entry is removed when `v` is what the unlisted key reads as. -/
def Table.set {α : Type} [DecidableEq α] (d : Nat → α) : Table α → Nat → α → Table α
  | [], k, v => if v = d k then [] else [(k, v)]
  | (j, x) :: t, k, v =>
    if k < j then (if v = d k then (j, x) :: t else (k, v) :: (j, x) :: t)
    else if k = j then (if v = d k then Table.dropTo k t else (k, v) :: t)
    else (j, x) :: Table.set d t k v

/-- Every key of the table is above `k`, keys rise strictly, and no entry equals the default. -/
def Table.wfFrom {α : Type} [DecidableEq α] (d : Nat → α) : Nat → Table α → Bool
  | _, [] => true
  | k, (j, x) :: t => decide (k ≤ j) && decide (x ≠ d j) && Table.wfFrom d (j + 1) t

/-- The canonical form. -/
def Table.wf {α : Type} [DecidableEq α] (d : Nat → α) (t : Table α) : Bool := Table.wfFrom d 0 t

end Sys2Proof.Machine
end

