-- ==== Sys2Proof/Machine/State.lean ====
section
/-!
DEFINITION. The state of the device as plain data: every register by address, the memories, and the structured state
of each unit the manual describes, with the queue of waiting commands. State.reset is the device right after a
power-on reset has been applied and before POR_N rises (R411, R414).
-/
namespace Sys2Proof.Machine

/-- The bus responses of R18. -/
inductive Resp where
  | ok | errUnit | errDecode | errGated | errEcc
deriving DecidableEq, Repr

/-- No command of this block stops with a fault: every failure the manual names is a bus response, a trap, a flag or an
event, and is a next state. So there is no reason to fault (safe: nothing is cut short). -/
inductive Fault where
deriving DecidableEq, Repr

/-- Refusals. `notModelled` is raised by an arm of exec that has no meaning yet (safe: nothing can be proved of it). -/
inductive Refusal where
  | notModelled (mnemonic : String)
deriving DecidableEq, Repr

/-! ## Nolre processors (R56 to R91) -/

/-- What every Nolre processor holds: g0..g31 (R57), the pc, and its cycle count (R69, R73 CYCLE). -/
structure Core where
  g : Vector Word 32
  pc : Word
  cycle : Dword
deriving DecidableEq, Repr

/-- A 64-byte data-cache line (R88): its physical line number, whether it is dirty, and its 512 bits. -/
structure CacheLine where
  line : Nat
  dirty : Bool
  data : BitVec 512
deriving DecidableEq, Repr

/-- A store waiting in the uncached write buffer (R90): physical address, bytes, value. -/
structure BufStore where
  addr : Nat
  size : Nat
  data : Word
deriving DecidableEq, Repr

/-- The first asynchronous bus error since the last FENCE.IO, with MULTI (R91). -/
structure AsyncErr where
  addr : Nat
  resp : Resp
  multi : Bool
deriving DecidableEq, Repr

/-- A supervisor core SC0 or SC1: CSRs (R73), region table (R85), caches and buffers (R88, R89, R90), watchdog (R83). -/
structure Sup where
  core : Core
  running : Bool
  halted : Bool
  wfe : Bool
  evl : Bool
  inTrap : Bool
  ptie : Bool
  tie : Bool
  epc : Word
  cause : Word
  tval : Word
  tvec : Word
  scratch : Word
  tpa : Word
  wdtEn : Bool
  wdtLoad : Nat
  wdtCount : Nat
  wdtFirst : Bool
  rtEn : Bool
  icEn : Bool
  dcEn : Bool
  capCycle : Option Word
  capTbc : Option Word
  rt : Vector (Vector Word 4) 16
  icache : List Nat
  dcache : List CacheLine
  wbuf : List BufStore
  wback : List CacheLine
  asyncErr : Option AsyncErr
deriving DecidableEq, Repr

/-- Fantail (R32, R417): its Nolre core, its RAM, and whether a trap record is still to be written (R82). -/
structure Fantail where
  core : Core
  running : Bool
  ram : Table Byte
  trapRecord : Bool
deriving DecidableEq, Repr

/-! ## Sequencers (R97 to R133) -/

/-- SQk_STATUS.STATE (R97). -/
inductive SqState where
  | reset | run | parked | halted
deriving DecidableEq, Repr

/-- The kinds of FIFO entry (R114). -/
inductive LineKind where
  | stream | fill | patt
deriving DecidableEq, Repr

/-- A line-FIFO entry (R114): its tag, its LDPROF values (R108), the levels of R127, and its state. `never` says that
it can never be released (R129, R252), `tbKnown` that
its commit has reached the TB island (R29, R116); `tbReleased` the same of its release. -/
structure Entry where
  page : Word
  line : Nat
  kind : LineKind
  segment : Nat
  epoch : Nat
  wsel : Nat
  sw : Nat
  bpn : Nat
  levels : List Nat
  raw : Option (List Byte)
  fbPending : Bool
  never : Bool
  committed : Bool
  expired : Bool
  released : Bool
  bad : Bool
  handed : Bool
  tbKnown : Bool
  tbReleased : Bool
deriving DecidableEq, Repr

/-- A verdict of a segment (R104): PASS, or BAD with the status code of R230. -/
inductive Verdict where
  | pass
  | bad (code : Nat)
deriving DecidableEq, Repr

/-- The segment open on a sequencer (R104, R105, R109): the engine and ring index of its container, the decoded bytes not
yet pulled, the verdict once delivered, whether the builder treats it as BAD, and whether it has set SEG_BAD. -/
structure OpenSeg where
  eng : Nat
  index : Nat
  page : Word
  number : Nat
  data : List Byte
  verdict : Option Verdict
  bad : Bool
  seen : Bool
deriving DecidableEq, Repr

/-- A port-line that the builder has computed and not yet placed: its lane, the levels, whether it is a BAD entry. -/
structure BuiltLine where
  lane : Fin 4
  levels : List Nat
  bad : Bool
deriving DecidableEq, Repr

/-- A build in the 4-deep queue of the line builder (R109 to R113, R123): its lines, the AM it was issued with, FILL and
PATT parameters, lines built, and what remains of the line in work. -/
structure BuildOp where
  kind : LineKind
  rd : Fin 32
  first : Nat
  count : Nat
  am : BitVec 4
  level : Nat
  phase : Nat
  period : Nat
  checked : Bool
  done : Nat
  rest : List BuiltLine
deriving DecidableEq, Repr

/-- A port-line of the fall-back path (R129): its lane, page and line, its staging slot, and whether its DMA channel has been
started. -/
structure FbLine where
  lane : Fin 4
  page : Word
  line : Nat
  slot : Nat
  bytes : Nat
  started : Bool
deriving DecidableEq, Repr

/-- What a sequencer waits for inside an instruction that it has started (R133 WAIT), with the instruction's operands: the
verdict of the open segment for STREAM (with its target register and stream ID) or ENDPG, the next container header,
WAITQ or SYNCL. `timed` says that a timeout runs. -/
inductive SqWait where
  | none
  | verdict (stream : Option (Fin 32 × Word))
  | header (rd : Fin 32) (id : Word)
  | waitq (need : Nat) (cond : Nat) (timed : Bool)
  | syncl (timed : Bool)
deriving DecidableEq, Repr

/-- A sequencer SQk: its core and the fire state of R99, its FIFOs (R114), job queue (R130) and builder (R123, R124, R129).
`stall` is the WAIT code of an instruction that cannot issue yet: 4 on the builder queue, 5 on the builder (R133), and `stallExt` says
that it is one of the fire extension, whose wait an abort ends (R131). `serial` is the place of the open page in page order (R284).
`resumed` is the pc of a PAGE that a GO with FRESH = 0 is to execute although PARK_REQ may be set (R132). -/
structure Seq where
  core : Core
  st : SqState
  wait : SqWait
  pageOpen : Bool
  page : Word
  serial : Nat
  lines : Word
  pmask : BitVec 4
  am : BitVec 4
  streamId : BitVec 16
  nextSeg : BitVec 24
  nb : Vector Nat 4
  xstat : BitVec 16
  lastAborted : Option Word
  lastCommitted : Nat
  seg : Option OpenSeg
  stall : Nat
  stallExt : Bool
  builds : List BuildOp
  fifo : Vector (List Entry) 4
  ldWsel : Vector (List (Nat × Nat)) 4
  ldSw : Vector (List (Nat × Nat)) 4
  arrival : Option (Word × Word)
  jobs : List (Vector Word 4)
  fbSlot : Nat
  fbWait : List FbLine
  resumed : Option Word
deriving DecidableEq, Repr

/-! ## Position and time (R134 to R168) -/

/-- A latched pair: 48-bit position and stamp in fine steps (R135). -/
structure Pair where
  p : BitVec 48
  t : Dword
deriving DecidableEq, Repr

/-- A candidate edge of the capture logic (R137): input 0 A, 1 B, 2 Z; its stamp and the level it went to. -/
structure Candidate where
  input : Fin 3
  stamp : Dword
  level : Bool
deriving DecidableEq, Repr

/-- One channel of POS (R135 to R143, R160 to R166): counts, history (newest first), the capture logic of an ENC
channel, the frame of an SSI channel, and the relay state. -/
structure PosChan where
  pos : BitVec 48
  rev : Word
  hist : List Pair
  snap : List Pair
  balls : Vector Bool 3
  levels : Vector Bool 3
  cands : List Candidate
  armed : Bool
  armAt : Option Dword
  startAt : Option Nat
  ssiLast : Option Nat
  ssiPrev : Option Nat
  ssiFrame : Option Dword
  vencSeq : Option (BitVec 16)
  vencTstep : Option (BitVec 8)
  vencWait : List Pair
  relay : List (Nat × Pair)
  relaySeq : BitVec 16
  relayIllegal : Bool
deriving DecidableEq, Repr

/-- The outputs of an axis and the tick from which they are in force (R145, R146). -/
structure AxisOut where
  tick : Nat
  stall : Bool
  vel : Dword
  ap : Dword
  at_ : Dword
deriving DecidableEq, Repr

/-- The α-β state (x, v, tl) of R145; `more` once the second pair has been taken. -/
structure AlphaBeta where
  x : Dword
  v : Dword
  tl : Dword
  more : Bool
deriving DecidableEq, Repr

/-- A fire axis: its outputs, newest first, and the α-β state of R145. -/
structure Axis where
  outs : List AxisOut
  ab : Option AlphaBeta
deriving DecidableEq, Repr

/-- A position trigger (R148, R149): next k, the frozen time of that k, and the tick at which a running pulse ends. -/
structure Trig where
  k : Nat
  frozen : Option Dword
  pulseEnd : Option Nat
deriving DecidableEq, Repr

/-- A stamp of the stamp FIFO (R157). -/
structure TsEntry where
  port : Nat
  ingress : Bool
  msg : Nat
  seq : Nat
  stamp : Dword
deriving DecidableEq, Repr

/-! ## Fire scheduling (R38 to R55, R169 to R198) -/

/-- The outcomes of a port-line (R44). -/
inductive Outc where
  | fired | cutBrake | cutCrit | cutInhibit
  | voidCheck | voidLate | voidThermal | voidCrit | voidInhibit | voidFault | voidRetired | voidAbort | voidProgram
  | skipOverspeed
deriving DecidableEq, Repr

/-- A page plan (R169). -/
structure Plan where
  page : Word
  origin : Dword
  pitch : Word
deriving DecidableEq, Repr

/-- Where a line's load stands in the formatter (R177, R200). -/
inductive Load where
  | none
  | waiting
  | shifting
  | done
deriving DecidableEq, Repr

/-- Where a line's strobe stands (R180, R184, R185); `cut` is a strobe that a cut has ended in this tick, with the outcome that it has as
yet (R45). -/
inductive Strobe where
  | none
  | placed
  | high
  | cut (o : Outc)
deriving DecidableEq, Repr

/-- A line the scheduler holds for a port from its deadline until its record is written in line order (R175). -/
structure Tracked where
  page : Word
  line : Nat
  thermal : Bool
  late : Bool
  handed : Bool
  voided : Bool
  tf : Option Dword
  missed : Bool
  guarded : Bool
  waitVerdict : Bool
  tg : Option Dword
  strobe : Strobe
  load : Load
  handTick : Nat
  caughtInh : Bool
  caughtCrit : Bool
  outcome : Option Outc
  entry : Option Entry
deriving DecidableEq, Repr

/-- A page on a port, in the order of opening (R26, R175), with the next line to reach its deadline.
`abortFrom` is the first line that an abort resolved before its deadline (R196), `top` the highest line with an outcome (R40). -/
structure PortPage where
  page : Word
  lines : Nat
  next : Nat
  abortFrom : Option Nat
  top : Option Nat
deriving DecidableEq, Repr

/-- A run in progress (R47). -/
structure Run where
  page : Word
  first : Nat
  count : Nat
  outcome : Outc
deriving DecidableEq, Repr

/-- A line voided by its program (R117), or one whose entry left the FIFO undelivered (R106, R196): `entry` is that entry,
whose kind, segment and verdict the line keeps (R45, R270). -/
structure VoidMark where
  page : Word
  line : Nat
  program : Bool
  entry : Option Entry
deriving DecidableEq, Repr

/-- What the scheduler holds per port: its pages, its tracked lines in line order, the marks of voided and discarded lines,
the line being shifted with the tick its shift began, the fine step at which its previous handed-over line ends (R177), the TG of its
previous strobe (R181), the run in progress, the page for which NOPLAN was raised (R169), and the page that left the port last with its
highest line (R40). -/
structure PortFire where
  pages : List PortPage
  tracked : List Tracked
  voids : List VoidMark
  shifting : Option (Word × Nat × Nat)
  prevEnd : Nat
  lastTg : Option Dword
  run : Option Run
  noplan : Option Word
  last : Option (Word × Nat)
deriving DecidableEq, Repr

/-- An open page report (R49, R50, R51, R54, R55): its place in the order in which pages were
opened (R284), counts by outcome and the running CRC-64 of each port. -/
structure Report where
  page : Word
  serial : Nat
  lines : Nat
  portSet : BitVec 48
  first : Option Dword
  last : Dword
  resolved : Nat
  reprint : Bool
  runsIncomplete : Bool
  aborted : Bool
  epochRefused : Bool
  staleCal : Bool
  epochs : Nat
  counts : Vector Nat 14
  marks : Nat
  crc : Vector Dword 48
deriving DecidableEq, Repr

/-- A closed report held for the ring (R53), with the chip ID of its closing. -/
structure HeldReport where
  report : Report
  chip : Nat
deriving DecidableEq, Repr

/-- The fire scheduler FSCH: `inhBall` says that INHIBIT_N is low, `blank` that every HPn_LT is forced inactive by the
path of R187. -/
structure Fsch where
  serial : Nat
  plans : Vector (Option Plan) 16
  reports : List Report
  held : List HeldReport
  ports : Vector PortFire 48
  groupTg : Vector (Option Dword) 8
  inhBall : Bool
  blank : Bool
deriving DecidableEq, Repr

/-! ## Events (R432 to R436) and clock crossings (R29) -/

/-- An event record (R433). `only` is the issuing core of MBX_DONE (R417). -/
structure EventRec where
  event : Nat
  source : Nat
  value : Word
  page : Word
  line : Word
  tbc : Dword
  nt : Dword
  only : Option (Fin 2)
deriving DecidableEq, Repr

/-- The event fabric: records raised and not yet delivered, and the two core queues (R434, R435). -/
structure Evt where
  flight : List EventRec
  queues : Vector (List EventRec) 2
deriving DecidableEq, Repr

/-- A fired-line record from TB to the DSP island (R186). -/
structure FiredRec where
  port : Nat
  page : Word
  line : Nat
  outcome : Outc
  kind : Option LineKind
  segment : Nat
  epoch : Nat
  tg : Dword
deriving DecidableEq, Repr

/-- The words that wait in the crossings of R29 that carry an effect: commits, voids and releases into TB, fired-line
records into DSP. -/
inductive XWord where
  | commit (port : Nat) (page : Word) (line : Nat)
  | void (port : Nat) (m : VoidMark)
  | release (sq : Nat) (page : Word) (segment : Nat)
  | fired (r : FiredRec)
deriving DecidableEq, Repr

/-- A crossing word with the tick at which it was written. -/
structure XItem where
  tick : Nat
  word : XWord
deriving DecidableEq, Repr

/-! ## Head ports (R199 to R224) -/

/-- A pending service command (R221, R224): a retirement or a return at (page, line), or a retirement at once. `seen`
says that the page has been opened on the port, so that the port's line order can place it. -/
structure SvcPending where
  ret : Bool
  now : Bool
  page : Word
  line : Nat
  seen : Bool
deriving DecidableEq, Repr

/-- The I2C command in progress (R214, R218), with the section a WRITE_CAL writes. -/
inductive I2cCmd where
  | read
  | write (section_ : List Byte)
deriving DecidableEq, Repr

/-- What a head port holds beside its registers: why permission is absent (R194), the fault inputs (R208, R210), the
HIR window (R214), the I2C command, the deskew since presence (R224), the pending service command, the bits that the formatter shifted
last on each pair (R125, R200, R202) with the edges of HPn_CK in half bit periods from its start (R200), and while HPn_LT is active the
fine tap of its edges (R184). -/
structure HeadPort where
  permThermal : Bool
  fltPin : Bool
  stFault : Bool
  hir : Table Byte
  i2c : Option I2cCmd
  deskewed : Bool
  svc : Option SvcPending
  shift : List (List Bool)
  ck : List (Nat × Bool)
  lt : Option Nat
deriving DecidableEq, Repr

/-! ## Governor, Weir and Toll (R368 to R387) -/

/-- A slow cause (R372): whether it lasts, its cap, the 10 µs step of the last lowering, and of its end. -/
structure SlowCause where
  active : Bool
  cap : Option Nat
  lowered : Nat
  ended : Option Nat
deriving DecidableEq, Repr

/-- The Governor beside its registers: 10 µs steps done, the envelope E and the history of REQ (R377), the slow causes
SKIP, HEAD_POWER and THERMAL (R372), the noncompliance episode, the SPDREQ count (R373) and the PWM code (R374). -/
structure Gov where
  steps : Nat
  env : Nat
  reqs : List Nat
  causes : Vector SlowCause 3
  overSince : Option Nat
  reported : Bool
  spdSeq : BitVec 16
  pwmCode : Nat
deriving DecidableEq, Repr

/-- A request waiting at Weir (R380, R381). -/
structure WeirReq where
  power : Nat
  cls : Nat
  arrival : Nat
  maxWait : Nat
deriving DecidableEq, Repr

/-- Weir: the AON clock count, the waiting requests, the power of each grant in force, and the clock at which each was made
(R379 to R382). -/
structure Weir where
  clk : Nat
  waiting : Vector (Option WeirReq) 32
  granted : Vector (Option Nat) 32
  since : Vector Nat 32
deriving DecidableEq, Repr

/-- Toll: consecutive windows over TOL (R384), and the energy of the running window per supply group (R386). -/
structure Toll where
  streak : Nat
  window : Vector Nat 8
deriving DecidableEq, Repr

/-! ## Service: NVES, mailbox, OTP, SEC, resets (R411 to R438) -/

/-- A record waiting for Fantail to write it to NVES (R420, R421), with TBC and NT_NS of its cause. `mbx` says that a mailbox
command waits for it. -/
structure NvesRec where
  type : Nat
  source : Nat
  ackReq : Bool
  slope : Int
  value : Word
  page : Word
  line : Word
  tbc : Dword
  nt : Dword
  mbx : Bool
deriving DecidableEq, Repr

/-- The non-volatile event store beside its registers: its 16 KiB (R420), and the records to be written. -/
structure Nves where
  store : Table Byte
  queue : List NvesRec
deriving DecidableEq, Repr

/-- Where start-up stands (R388, R414, R447): held by POR_N or by a brown-out; whether OSC_DLY has ended, NVES has been scanned
and SC0 released; a warm reset in progress (R412); a die shutdown decided, its islands gated, its record written (R404), and
THERM_TRIP_N asserted; REF_OE; whether the last judged count of the Brake oscillator lay out of range
(R190); whether the boot ROM has entered an image (R424); and the GPIO balls of the straps (R415). -/
structure Boot where
  porLow : Bool
  brownOut : Bool
  oscDone : Bool
  scanDone : Bool
  scReleased : Bool
  warm : Bool
  dieShut : Bool
  shutdown : Bool
  recorded : Bool
  thermTrip : Bool
  refOe : Bool
  oscBad : Bool
  booted : Bool
  gpioBalls : BitVec 18
deriving DecidableEq, Repr

/-- What Fantail has ready for the mailbox: RESULT and RES0 to RES3 (R417). -/
structure MbxAns where
  result : Nat
  res : Vector Word 4
deriving DecidableEq, Repr

/-- The mailbox beside its registers: the answer that MBX_DONE will give, once it is known. -/
structure Mbx where
  ans : Option MbxAns
deriving DecidableEq, Repr

/-! ## Clocks, temperature, calibration (R388 to R410) -/

/-- The clock unit beside its registers: the islands SUP, SEQ, DSP, MEM and HPX that run on their PLL (R393), and whether
REFCLK acceptance is running (R388). -/
structure Clk where
  onPll : BitVec 5
  accepting : Bool
deriving DecidableEq, Repr

/-- A thermal sensor beside its register (R397 to R401): a head sensor's current reading, the time since it began to be
evaluated in 1/32 ms, its three rings, newest first, the samples in a row without a cause to be fast, and whether it was at
LIMIT by its own reading when ST_LOST was set. -/
structure ThmSensor where
  reading : Option Int
  phase : Nat
  h10 : List Int
  h100 : List Int
  h1000 : List Int
  calm : Nat
  ownLimit : Bool
deriving DecidableEq, Repr

/-- Where a Tentering run stands: none, waiting for leave, measuring, or its tables waiting for the commit line (R406 to
R409). -/
inductive CalPhase where
  | idle | weir | measuring | committing
deriving DecidableEq, Repr

/-- Tentering beside its registers: the tick of the grant, the readings of the die sensors at the start of this run and of the
last completed one, the new deskew taps, the page order of the commit page, and the ports that have switched. -/
structure Cal where
  phase : CalPhase
  granted : Nat
  start : Vector Int 16
  base : Option (Vector Int 16)
  deskew : Vector (BitVec 25) 48
  serial : Nat
  switched : BitVec 48
deriving DecidableEq, Repr

/-- The one-time-programmable store of R427. -/
structure Otp where
  secure : Bool
  keyHash : Vector (BitVec 256) 4
  revoked : BitVec 4
  debugHash : BitVec 256
  rollback : BitVec 6
  uid : Dword
deriving DecidableEq, Repr

/-- SEC beside its registers: the OTP write in progress, the debug nonce (R431), and whether EXTEST is loaded (R430). -/
structure Sec where
  otpWrite : Option (Bool × Nat)
  nonce : Option (BitVec 256)
  extest : Bool
deriving DecidableEq, Repr

/-! ## DRAM (R325 to R342) -/

/-- A transaction of one line (R328): the bytes of the line that it names, from `addr` on, and the line's data (a write's bytes stand at
their places, a read's line as it entered its slot), the ECC state that a read met as it entered, when it entered its slot, its place
among the reads whose read command has been issued (R329), whether a read that it holds up has moved it to the front of its bank (R331),
and whether a write to the line has been accepted since (R333). -/
structure DramTxn where
  write : Bool
  addr : Nat
  len : Nat
  data : BitVec 512
  err : EccErr
  entered : Nat
  issued : Option Nat
  urgent : Bool
  rewritten : Bool
deriving DecidableEq, Repr

/-- What a DRAM channel holds beside its registers: the slots of its two subchannels and the requests that wait for one; per subchannel
the open rows by bank, the bank that the picker's pointer shows (R329), and whether writes go ahead of reads (R331); the training steps
passed per rank, the training in progress and whether it has its leave (R340); the PHY image, whether it stands in for a training, and
the channel's complete trainings, newest first, with the configuration that each had (R341); refresh debts and the bank indices
refreshed in the current round (R336); halved refresh and power-down per rank (R337, R338); the oscillator count that each subchannel's
write timing follows (R341); the scrub walk, its count of errors, whether a burst waits for leave (R335) or, with leave, for slots
(R331). -/
structure DramCh where
  slots : Vector (List DramTxn) 2
  front : List DramTxn
  rows : Vector (List (Nat × Nat)) 2
  pointer : Vector Nat 2
  draining : Vector Bool 2
  passed : Vector Nat 2
  imageOk : Bool
  training : Option (Nat × Nat)
  trainLeave : Bool
  image : Table (Option Word)
  trained : Nat
  complete : List (Nat × Word)
  debt : Vector (Vector Nat 4) 2
  round : Vector (List Nat) 2
  halfRef : Vector Bool 2
  pdown : Vector Bool 2
  osc : Vector (BitVec 16) 2
  scrubLine : Nat
  scrubFound : Nat
  scrubWait : Bool
  scrubHeld : Bool
deriving DecidableEq, Repr

/-- The DRAM: the installed size in GiB (R326), the lines that hold an ECC error (R333), the two channels, and the data and
response that the last read returned. -/
structure Dram where
  size : Nat
  err : Table EccErr
  chs : Vector DramCh 2
  readData : BitVec 512
  readResp : Resp
deriving DecidableEq, Repr

/-! ## Correction sets (R278 to R287) -/

/-- A correction set: entries by nozzle number (R279), PRN key and boost tables per port group (R280). -/
structure CorrSet where
  entries : Table Word
  key : Word
  boost : Vector Dword 12
deriving DecidableEq, Repr

/-- An accepted commit (R283): epoch number, page ID, the page's place in page order (R284), line and key. -/
structure EpochRec where
  epoch : Word
  page : Word
  serial : Nat
  line : Nat
  key : Word
deriving DecidableEq, Repr

/-- The correction store beside its registers: the two banks, whether the copy in progress is for a proposal, the log of
commits, newest first, the farthest port-line built in page order (R283), and whether a FRAME record has asked for a
proposal pass (R285). -/
structure Corr where
  active : CorrSet
  shadow : CorrSet
  byBolter : Bool
  log : List EpochRec
  maxBuilt : Option (Nat × Nat)
  wanted : Bool
deriving DecidableEq, Repr

/-! ## Codec (R225 to R254) -/

/-- A container that a stream-mode engine has taken (R237): its descriptor's ring index, address and word 3, the header's
fields with PAYLOAD_LEN, whether the sink gets HDR_CRC for it, its status code, the bytes delivered, whether the sink has opened it or
skips it, and whether its verdict has been given. -/
structure Cont where
  index : Nat
  desc : Nat
  ctrl : Word
  page : Word
  stream : BitVec 16
  segment : Nat
  lines : Nat
  payload : Nat
  hdrBad : Bool
  code : Nat
  data : List Byte
  opened : Bool
  skip : Bool
  judged : Bool
deriving DecidableEq, Repr

/-- An output buffer in use: descriptor address and word 3, buffer address and length, bytes written. -/
structure OutBuf where
  desc : Nat
  ctrl : Word
  addr : Nat
  len : Nat
  used : Nat
deriving DecidableEq, Repr

/-- An input buffer of a job not yet written back: descriptor address and word 3, first byte in the job's input, length. -/
structure InBuf where
  desc : Nat
  ctrl : Word
  start : Nat
  len : Nat
deriving DecidableEq, Repr

/-- The input of a memory job (R241): the bytes read so far, whether LAST or a bus error ended it, and the buffers not yet
written back. -/
structure JobIn where
  bytes : List Byte
  ended : Bool
  failed : Bool
  bufs : List InBuf
deriving DecidableEq, Repr

/-- A memory-mode decode job (R241 to R244): its input, the container header (LINES, FILTER, OUT_LEN), whether a RESTORE has
still to rebuild its tables, the decoder, the decoded bytes already delivered, the output buffer and total, and the end or
stop that waits for its write-back. -/
structure Job where
  inp : JobIn
  header : Option (Nat × Nat × Nat)
  rebuild : Bool
  inf : Inf
  delivered : Nat
  out : Option OutBuf
  outBytes : Nat
  ending : Option Nat
  stopping : Bool
deriving DecidableEq, Repr

/-- A compressor job (R245 to R250): its input, input bytes in verified blocks, the bits not yet a whole byte, bytes staged
for output, the buffer that keeps the container header's place, the output buffer and total, whether the zlib header and
the final block are out, and the end or stop that waits. -/
structure CJob where
  inp : JobIn
  done : Nat
  bitVal : Nat
  bitLen : Nat
  staged : List Byte
  first : Option OutBuf
  out : Option OutBuf
  outBytes : Nat
  started : Bool
  final : Bool
  ending : Option Nat
  stopping : Bool
deriving DecidableEq, Repr

/-- Where an engine stands (DCEk_STAT.STATE); SINK_WAIT and ABORTING show only in between. -/
inductive EngState where
  | idle | weir | inWait | run | outWait | stopped
deriving DecidableEq, Repr

/-- A decode engine beside its registers. `committed` says that its last job passed its commit point (R251). -/
structure Engine where
  st : EngState
  conts : List Cont
  job : Option Job
  committed : Bool
deriving DecidableEq, Repr

/-- A compressor beside its registers. -/
structure Cmp where
  st : EngState
  job : Option CJob
  committed : Bool
deriving DecidableEq, Repr

/-! ## Inspection (R255 to R288) -/

/-- A trigger record of a camera (R149, R257): index k, position TP_k and start tick. -/
structure TrigRec where
  k : Nat
  tp : Dword
  tick : Nat
deriving DecidableEq, Repr

/-- A frame of a camera port (R257 to R260): stamp, data type and size in force at its start, trigger, tags (bits of the FRAME record),
rows received, the rows of the stripe that is filling, the complete stripes that wait for the ISP, whether one is in the ISP, the rows
analysed, and whether the frame is open or rotated out. `dens` is the ISP's output, three density planes row by row (R265, R268). -/
structure Frame where
  fsTbc : Nat
  dt : Nat
  width : Nat
  height : Nat
  trig : Option (Nat × Dword)
  tags : Nat
  rows : Nat
  cur : List (List (BitVec 12))
  ready : List (List (List (BitVec 12)))
  inIsp : Option (List (List (BitVec 12)))
  analysed : List (List (BitVec 12))
  dens : List (List (List Int))
  open_ : Bool
  rotated : Bool
deriving DecidableEq, Repr

/-- A capture in progress (R269): the frame's stamp, whether it takes raw samples, and its next stripe. -/
structure Capture where
  fsTbc : Nat
  raw : Bool
  next : Nat
deriving DecidableEq, Repr

/-- A camera port beside its registers: trigger records not yet paired, its frames, oldest first, the newest trigger
position, the captures in progress, and whether it drops rows until the next Frame Start. -/
structure Cam where
  trigs : List TrigRec
  frames : List Frame
  lastTp : Option Dword
  captures : List Capture
  dropping : Bool
deriving DecidableEq, Repr

/-- The Bolter's copy of a page plan (R258), with the page's place in page order once it has opened, its lines seen on each channel,
those counted as not inspected because the Bolter lost their container (R276), and its epoch lines. -/
structure PlanCopy where
  page : Word
  origin : Dword
  pitch : Word
  lines : Option Nat
  serial : Option Nat
  seen : Vector (List Nat) 2
  lost : Vector (List Nat) 2
  epochs : Nat
deriving DecidableEq, Repr

/-- The Bolter beside its registers: plan copies, the page IDs whose page is done with and has no copy, fired-line records (R270),
records held for the ring (R277) and the health map (R275). -/
structure Bolt where
  plans : List PlanCopy
  past : List Word
  fired : List FiredRec
  held : List (List Byte)
  hmap : Table (BitVec 16)
deriving DecidableEq, Repr

/-! ## DMA (R343 to R367) -/

/-- A register channel beside its registers: the sequencer whose builder started its descriptor (R349), whether its last
descriptor passed the commit point (R360), and a write error that has not yet arrived (R356). -/
structure DmaCh where
  fb : Option (Fin 12)
  committed : Bool
  late : Option (Nat × Resp)
deriving DecidableEq, Repr

/-- A ring descriptor in progress: its ring index, address, CTRL word, buffer and its length. -/
structure RingDesc where
  index : Nat
  addr : Nat
  ctrl : Word
  src : Nat
  dst : Nat
  count : Nat
  param : Word
deriving DecidableEq, Repr

/-- A container open on RING0 (R361): sender, tag, descriptor and the bytes received. -/
structure RxCont where
  src : Nat
  tag : Word
  desc : RingDesc
  got : Nat
deriving DecidableEq, Repr

/-- The buffer that RING3 fills (R366): descriptor, bytes filled, tick of the first record. -/
structure EvBuf where
  desc : RingDesc
  fill : Nat
  tick : Nat
deriving DecidableEq, Repr

/-- The DMA unit beside its registers. `txBusy` says that a RING1
frame waits for its port (R364). A ring that has found a descriptor it does not own sleeps until a doorbell (R350). -/
structure Dma where
  chs : Vector DmaCh 32
  rx : List RxCont
  ring3 : Option EvBuf
  txBusy : Bool
  asleep : Vector Bool 5
deriving DecidableEq, Repr

/-! ## Millrace (R290 to R324) -/

/-- A Millrace frame without its link sequence number and CRC (R298). -/
structure MFrame where
  type : Nat
  flags : Nat
  dst : Nat
  src : Nat
  hops : Nat
  payload : List Byte
deriving DecidableEq, Repr

/-- A frame that waits to be sent: the virtual channel whose receive buffer it still occupies, as port and VC (R309), and the
RING1 descriptor that it came from (R364). -/
structure QItem where
  frame : MFrame
  from_ : Option (Fin 4 × Fin 2)
  desc : Option RingDesc
deriving DecidableEq, Repr

/-- One virtual channel of a session (R299 to R303): sequence numbers, frames not yet sent, the replay buffer with the number
of its newest frames still to be sent again, credits, accepted local frames in the receive buffer with the credits each
occupies, frames sent, replays without progress, the tick of the last progress, and the last NAK. -/
structure VcSess where
  txNext : Nat
  rxExp : Nat
  queue : List QItem
  replay : List (Nat × MFrame)
  resend : Nat
  granted : Nat
  consumed : Nat
  rxGranted : Nat
  rxUsed : Nat
  held : List (Nat × MFrame)
  sent : Nat
  tries : Nat
  progress : Nat
  nak : Option (Nat × Nat)
deriving DecidableEq, Repr

/-- A session: whether it is running, and whether it waits for the partner's INIT (R305). -/
structure Session where
  live : Bool
  waitInit : Bool
  vcs : Vector VcSess 2
deriving DecidableEq, Repr

/-- What a lane sends in one symbol time (R297, R300): a data byte or a control symbol; K28.5 idle, the partner's stream or PRBS where a
loopback or the generator has the lane (R295, R296). -/
inductive Symbol where
  | data (b : Byte)
  | k27_7 | k29_7 | k30_7 | k28_1 | idle | looped | prbs
deriving DecidableEq, Repr

/-- The PRBS checker of a lane (R296): the last 31 bits, error-free bytes in a row up to its lock at 32, and the errors since. -/
structure PrbsCheck where
  hist : BitVec 31
  good : Nat
  errs : Nat
deriving DecidableEq, Repr

/-- A port beside its registers: lanes in far-end loopback at the partner's request, the tick at which each lane lost sync,
the ticks of CRC errors, the self-tests run since reset (R315), the checkers of its lanes, and what the port has sent, one entry a
symbol time. -/
structure LinkPort where
  farEnd : BitVec 4
  losAt : Vector Nat 4
  crcAt : List Nat
  tests : Nat
  prbs : Vector PrbsCheck 4
  sent : List (Vector Symbol 4)
deriving DecidableEq, Repr

/-- A checkpoint of the session engine (R316). -/
structure Ckpt where
  id : Nat
  ringBreak : Bool
  rate : Nat
  init : Bool
  credits : List Nat
  slavePort : Nat
  master : Dword
  syncSeq : Nat
  ctle : Vector Nat 4
deriving DecidableEq, Repr

/-- The links: ports A, B, U, D; the sessions of the network path, U and D; the checkpoint; the fail-over in progress
(R319, R320); when the standby's next self-test is due and its CTLE settings (R314); the last SYNC (R155, R316). -/
structure Links where
  ports : Vector LinkPort 4
  sess : Vector Session 3
  ckpt : Ckpt
  failAt : Nat
  resumeAt : Nat
  resumed : Vector Bool 2
  testDue : Option Nat
  ctle : Vector Nat 4
  syncAt : Nat
  syncSeq : Nat
deriving DecidableEq, Repr

/-! ## The whole device -/

/-- The state of the device. -/
structure State where
  pending : List Instr
  free : Nat
  tbc : Dword
  tbRuns : Bool
  busResp : Resp
  busData : Word
  regs : Table Word
  stage : Table Word
  cap : Table (Option Word)
  mem : Table Byte
  scs : Vector Sup 2
  fan : Fantail
  sqs : Vector Seq 12
  pos : Vector PosChan 10
  axes : Vector Axis 4
  trigs : Vector Trig 16
  offset : BitVec 80
  ts : List TsEntry
  fsch : Fsch
  evt : Evt
  seqTb : List XItem
  tbDsp : List XItem
  hps : Vector HeadPort 48
  gov : Gov
  weir : Weir
  toll : Toll
  nves : Nves
  mbx : Mbx
  clk : Clk
  thm : Vector ThmSensor 64
  cal : Cal
  boot : Boot
  otp : Otp
  sec : Sec
  dram : Dram
  corr : Corr
  engines : Vector Engine 16
  cmps : Vector Cmp 2
  cams : Vector Cam 8
  ispCam : Option (Fin 8)
  bolt : Bolt
  dma : Dma
  links : Links
deriving DecidableEq, Repr

/-! ## Reset -/

/-- A Nolre core at power-on reset: g0..g31 zero (R57). The pc has no stated value before a start: 0 (log 4). -/
def Core.reset : Core := { g := Vector.replicate 32 0, pc := 0, cycle := 0 }

/-- A supervisor core at reset (R84, R85, R413): caches and translation off and empty, no watchdog
(R73, R83). WDT_COUNT, whose reset the spec does not give, stands at LOAD's (log 4). -/
def Sup.reset : Sup := {
  core := Core.reset, running := false, halted := false, wfe := false, evl := false, inTrap := false, ptie := false,
  tie := false, epc := 0, cause := 0, tval := 0, tvec := 0x40, scratch := 0, tpa := 0, wdtEn := false, wdtLoad := 1000000,
  wdtCount := 1000000, wdtFirst := false, rtEn := false, icEn := false, dcEn := false, capCycle := none, capTbc := none,
  rt := Vector.replicate 16 (Vector.replicate 4 0), icache := [], dcache := [], wbuf := [], wback := [], asyncErr := none }

/-- A sequencer at reset: RESET state, nothing held (R97). -/
def Seq.reset : Seq := {
  core := Core.reset, st := .reset, wait := .none, pageOpen := false, page := 0, serial := 0, lines := 0, pmask := 0, am := 0,
  streamId := 0, nextSeg := 0, nb := Vector.replicate 4 0, xstat := 0, lastAborted := none, lastCommitted := 0, seg := none,
  stall := 0, stallExt := false, builds := [], fifo := Vector.replicate 4 [], ldWsel := Vector.replicate 4 [], ldSw := Vector.replicate 4 [],
  arrival := none, jobs := [], fbSlot := 0, fbWait := [], resumed := none }

/-- A position channel at reset: cleared, its inputs low (R135, R144). -/
def PosChan.reset : PosChan := {
  pos := 0, rev := 0, hist := [], snap := [], balls := Vector.replicate 3 false, levels := Vector.replicate 3 false,
  cands := [], armed := false, armAt := none, startAt := none, ssiLast := none, ssiPrev := none, ssiFrame := none, vencSeq := none, vencTstep := none,
  vencWait := [], relay := [], relaySeq := 0, relayIllegal := false }

/-- The fire scheduler at reset: no plan, report or page; INHIBIT_N held low by its pull-down (R187, R188, R456). -/
def Fsch.reset : Fsch := {
  serial := 0, plans := Vector.replicate 16 none, reports := [], held := [],
  ports := Vector.replicate 48 {
    pages := [], tracked := [], voids := [], shifting := none, prevEnd := 0, lastTg := none, run := none, noplan := none,
    last := none },
  groupTg := Vector.replicate 8 none, inhBall := true, blank := true }

/-- A head port at reset: its HIR window zero (log 4). -/
def HeadPort.reset : HeadPort := {
  permThermal := false, fltPin := false, stFault := false, hir := [], i2c := none, deskewed := false, svc := none, shift := [],
  ck := [], lt := none }

/-- A DRAM channel at reset: OFF, untrained (R340). -/
def DramCh.reset : DramCh := {
  slots := Vector.replicate 2 [], front := [], rows := Vector.replicate 2 [], pointer := Vector.replicate 2 0,
  draining := Vector.replicate 2 false, passed := Vector.replicate 2 0, imageOk := false, training := none,
  trainLeave := false, image := [], trained := 0, complete := [], debt := Vector.replicate 2 (Vector.replicate 4 0),
  round := Vector.replicate 2 [],
  halfRef := Vector.replicate 2 false, pdown := Vector.replicate 2 false, osc := Vector.replicate 2 0,
  scrubLine := 0, scrubFound := 0, scrubWait := false, scrubHeld := false }

/-- A correction set of zeros. -/
def CorrSet.reset : CorrSet := { entries := [], key := 0, boost := Vector.replicate 12 0 }

/-- A virtual channel of a session that is not running. -/
def VcSess.reset : VcSess := {
  txNext := 0, rxExp := 0, queue := [], replay := [], resend := 0, granted := 0, consumed := 0, rxGranted := 0, rxUsed := 0,
  held := [], sent := 0, tries := 0, progress := 0, nak := none }

/-- The links at reset: no session, port A active (R313). -/
def Links.reset : Links := {
  ports := Vector.replicate 4 {
    farEnd := 0, losAt := Vector.replicate 4 0, crcAt := [], tests := 0, prbs := Vector.replicate 4 { hist := 0, good := 0, errs := 0 },
    sent := [] },
  sess := Vector.replicate 3 { live := false, waitInit := false, vcs := Vector.replicate 2 VcSess.reset },
  ckpt := {
    id := 0, ringBreak := false, rate := 0, init := false, credits := List.replicate 8 0, slavePort := 0, master := 0,
    syncSeq := 0, ctle := Vector.replicate 4 0 },
  failAt := 0, resumeAt := 0, resumed := Vector.replicate 2 false, testDue := none, ctle := Vector.replicate 4 0, syncAt := 0,
  syncSeq := 0 }

/-- The device right after a power-on reset has been applied, held by POR_N (R411, R414): every register at the value of its
table, nothing in any queue, FIFO or buffer, a blank OTP and an empty NVES (log 7). -/
def State.reset : State := {
  pending := [], free := 0, tbc := 0, tbRuns := false, busResp := .ok, busData := 0, regs := [], stage := [], cap := [],
  mem := [], scs := Vector.replicate 2 Sup.reset,
  fan := { core := Core.reset, running := false, ram := [], trapRecord := false }, sqs := Vector.replicate 12 Seq.reset,
  pos := Vector.replicate 10 PosChan.reset, axes := Vector.replicate 4 { outs := [], ab := none },
  trigs := Vector.replicate 16 { k := 0, frozen := none, pulseEnd := none }, offset := 0, ts := [], fsch := Fsch.reset,
  evt := { flight := [], queues := Vector.replicate 2 [] }, seqTb := [], tbDsp := [], hps := Vector.replicate 48 HeadPort.reset,
  gov := {
    steps := 0, env := 0, reqs := [],
    causes := Vector.replicate 3 { active := false, cap := none, lowered := 0, ended := none }, overSince := none,
    reported := false, spdSeq := 0, pwmCode := 0 },
  weir := {
    clk := 0, waiting := Vector.replicate 32 none, granted := Vector.replicate 32 none, since := Vector.replicate 32 0 },
  toll := { streak := 0, window := Vector.replicate 8 0 }, nves := { store := [], queue := [] }, mbx := { ans := none },
  clk := { onPll := 0, accepting := false },
  thm := Vector.replicate 64 { reading := none, phase := 0, h10 := [], h100 := [], h1000 := [], calm := 0, ownLimit := false },
  cal := {
    phase := .idle, granted := 0, start := Vector.replicate 16 0, base := none, deskew := Vector.replicate 48 0,
    serial := 0, switched := 0 },
  boot := {
    porLow := true, brownOut := false, oscDone := false, scanDone := false, scReleased := false, warm := false,
    dieShut := false, shutdown := false, recorded := false, thermTrip := false, refOe := false, oscBad := false, booted := false,
    gpioBalls := 0 },
  otp := { secure := false, keyHash := Vector.replicate 4 0, revoked := 0, debugHash := 0, rollback := 0, uid := 0 },
  sec := { otpWrite := none, nonce := none, extest := false },
  dram := { size := 0, err := [], chs := Vector.replicate 2 DramCh.reset, readData := 0, readResp := .ok },
  corr := { active := CorrSet.reset, shadow := CorrSet.reset, byBolter := false, log := [], maxBuilt := none, wanted := false },
  engines := Vector.replicate 16 { st := .idle, conts := [], job := none, committed := false },
  cmps := Vector.replicate 2 { st := .idle, job := none, committed := false },
  cams := Vector.replicate 8 { trigs := [], frames := [], lastTp := none, captures := [], dropping := false }, ispCam := none,
  bolt := { plans := [], past := [], fired := [], held := [], hmap := [] },
  dma := {
    chs := Vector.replicate 32 { fb := none, committed := false, late := none }, rx := [], ring3 := none, txBusy := false,
    asleep := Vector.replicate 5 false },
  links := Links.reset }

end Sys2Proof.Machine
end

