-- ==== Sys2Proof/Machine/Ops.lean ====
section
/-!
DEFINITION. The named operations over registers, memory and free values that every meaning uses. A register is read
and written by its address; a field by its name (Machine/Regs.lean).
-/
namespace Sys2Proof.Machine

/-! ## Registers -/

/-- The stored word of the register at an address. -/
def State.rd (s : State) (a : Nat) : Word := s.regs.get resetWord a

/-- The stored word of a register replaced. -/
def State.wr (s : State) (a : Nat) (v : Word) : State := { s with regs := s.regs.set resetWord a v }

/-- The value of a field. -/
def State.get (s : State) (f : RegField) : Nat := field (s.rd f.addr) f.hi f.lo

/-- A field replaced by the low bits of a value. -/
def State.put (s : State) (f : RegField) (v : Nat) : State := s.wr f.addr (withField (s.rd f.addr) f.hi f.lo v)

/-- Whether a field is not zero. -/
def State.flag (s : State) (f : RegField) : Bool := decide (s.get f ≠ 0)

/-- A one-bit field set. -/
def State.set1 (s : State) (f : RegField) : State := s.put f 1

/-- A field cleared. -/
def State.clr (s : State) (f : RegField) : State := s.put f 0

/-- A field set to a truth value. -/
def State.putB (s : State) (f : RegField) (b : Bool) : State := s.put f (b2n b)

/-- A counter field increased by `k`, saturating at all ones (R16). -/
def State.bump (s : State) (f : RegField) (k : Nat := 1) : State :=
  s.put f (satAdd (f.hi + 1 - f.lo) (s.get f) k)

/-- Bit `i` of the register at an address. -/
def State.bit (s : State) (a i : Nat) : Bool := (s.rd a).getLsbD i

/-- Bit `i` of the register at an address set to `b`. -/
def State.putBit (s : State) (a i : Nat) (b : Bool) : State := s.wr a (setBit (s.rd a) i b)

/-- A 64-bit pair as one number (R17): its _LO register at `lo`, its _HI register at `hi`. -/
def State.rd64 (s : State) (lo hi : Nat) : Dword := (s.rd hi) ++ (s.rd lo)

/-- A 64-bit pair written. -/
def State.wr64 (s : State) (lo hi : Nat) (v : Dword) : State :=
  (s.wr lo (v.extractLsb' 0 32)).wr hi (v.extractLsb' 32 32)

/-! ## Memory, by 40-bit physical address (R35) -/

/-- What a memory byte that nothing has written reads as (log 2). -/
def memDefault : Nat → Byte := fun _ => 0

/-- The canonical form of memory: addresses rise strictly, and no byte is listed that reads as an unlisted one does. -/
def Memory.wf (m : Table Byte) : Bool := Table.wf memDefault m

/-- One byte of SRAM, sequencer local memory or DRAM. -/
def State.byte (s : State) (a : Nat) : Byte := s.mem.get memDefault a

/-- One byte written. -/
def State.putByte (s : State) (a : Nat) (b : Byte) : State := { s with mem := s.mem.set memDefault a b }

/-- Consecutive bytes from an address. -/
def State.bytes (s : State) (a : Nat) : Nat → List Byte
  | 0 => []
  | n + 1 => s.byte a :: State.bytes s (a + 1) n

/-- Consecutive bytes written from an address. -/
def State.putBytes (s : State) (a : Nat) : List Byte → State
  | [] => s
  | b :: t => State.putBytes (s.putByte a b) (a + 1) t

/-! ## Free values (log 1) -/

/-- The state after a free value has been taken. -/
def State.advance (s : State) : State := { s with free := s.free + 1 }

/-- A free word. -/
def State.freeWord (s : State) : Word := Config.freeWord s.free

/-- A free number below `n`. -/
def State.freeBelow (s : State) (n : Nat) : Nat := Config.freeNat s.free % n

/-- A list of `n` free bytes for the free count `k`. -/
def freeBytes (k : Nat) : Nat → List Byte
  | 0 => []
  | n + 1 => Config.freeByte (k + n) :: freeBytes k n

/-! ## Processors, sequencers and other instances -/

/-- A supervisor core changed. -/
def State.modSup (s : State) (x : Fin 2) (f : Sup → Sup) : State := { s with scs := vset s.scs x (f s.scs[x]) }

/-- A sequencer changed. -/
def State.modSq (s : State) (k : Fin 12) (f : Seq → Seq) : State := { s with sqs := vset s.sqs k (f s.sqs[k]) }

/-- The Nolre core a core name stands for. -/
def State.core (s : State) : CoreId → Core
  | .sc x => s.scs[x].core
  | .sq k => s.sqs[k].core
  | .fantail => s.fan.core

/-- A Nolre core changed. -/
def State.modCore (s : State) (c : CoreId) (f : Core → Core) : State :=
  match c with
  | .sc x => s.modSup x (fun u => { u with core := f u.core })
  | .sq k => s.modSq k (fun q => { q with core := f q.core })
  | .fantail => { s with fan := { s.fan with core := f s.fan.core } }

/-- A position channel changed. -/
def State.modPos (s : State) (c : Fin 10) (f : PosChan → PosChan) : State := { s with pos := vset s.pos c (f s.pos[c]) }

/-- The fire scheduler's part of a port changed. -/
def State.modPort (s : State) (p : Fin 48) (f : PortFire → PortFire) : State :=
  { s with fsch := { s.fsch with ports := vset s.fsch.ports p (f s.fsch.ports[p]) } }

/-- The sequencer that feeds a head port (R30 table: SQk feeds HP(4k) to HP(4k+3)). -/
def sqOf (p : Fin 48) : Fin 12 := ⟨p.val / 4, by omega⟩

/-- The place of a head port in its sequencer's port masks (R100). -/
def laneOf (p : Fin 48) : Fin 4 := ⟨p.val % 4, by omega⟩

/-- The head port at a place of a sequencer's port mask (R100). -/
def portOf (k : Fin 12) (j : Fin 4) : Fin 48 := ⟨4 * k.val + j.val, by omega⟩

/-- The timebase counter as a number of ticks. -/
def State.now (s : State) : Nat := s.tbc.toNat

/-- The record of the last bus access: its response and its data (log 5). -/
def State.bus (s : State) (r : Resp) (v : Word) : State := { s with busResp := r, busData := v }

/-- The core whose response code is stored for a bus response: CAUSE.RESP of R73. -/
def Resp.code : Resp → Nat
  | .ok => 0 | .errUnit => 1 | .errDecode => 2 | .errGated => 3 | .errEcc => 4

/-- Neither power-on reset nor a warm reset holds the device (R411, R412). The SSIn_CK pairs, whose unit is always clocked, are driven from
then on (R448). -/
def State.outOfReset (s : State) : Bool := !s.boot.porLow && !s.boot.brownOut && !s.boot.warm

/-! ## Register pairs (R17) -/

/-- The value last written to the _HI register of a pair. -/
def State.staged (s : State) (hi : Nat) : Word := s.stage.get resetWord hi

/-- A value written to the _HI register of a pair. -/
def State.stageHi (s : State) (hi : Nat) (v : Word) : State := { s with stage := s.stage.set resetWord hi v }

/-- Nothing captured. -/
def noCap : Nat → Option Word := fun _ => none

/-- A value captured for the next read of a register. -/
def State.capture (s : State) (a : Nat) (v : Word) : State := { s with cap := s.cap.set noCap a (some v) }

/-- A read of a register that may have been captured: the captured value, once, or the live one. -/
def State.captured (s : State) (a : Nat) (live : Word) : Word × State :=
  match s.cap.get noCap a with
  | some v => (v, { s with cap := s.cap.set noCap a none })
  | none => (live, s)

/-! ## Taking a trap and returning from one (R75 to R82) -/

/-- A trap: its cause code, KIND and RESP, whether it is ASYNC with MULTI, TVAL and TPA. -/
structure TrapInfo where
  code : Nat
  kind : Nat
  resp : Nat
  async : Bool
  multi : Bool
  tval : Word
  tpa : Word
deriving DecidableEq, Repr

/-- A trap with a code and TVAL alone. -/
def trapOf (code : Nat) (tval : Word) : TrapInfo :=
  { code := code, kind := 0, resp := 0, async := false, multi := false, tval := tval, tpa := 0 }

abbrev tILLEGAL : Nat := 1
abbrev tMISALIGN : Nat := 2
abbrev tBUS_ERROR : Nat := 3
abbrev tREGION_FAULT : Nat := 4
abbrev tDIV_ZERO : Nat := 5
abbrev tEVENT : Nat := 6
abbrev tWATCHDOG : Nat := 7
abbrev tSOFTWARE : Nat := 8

abbrev kFETCH : Nat := 1
abbrev kLOAD : Nat := 2
abbrev kSTORE : Nat := 3
abbrev kMAINT : Nat := 4

/-- CAUSE of a trap (R73). -/
def TrapInfo.cause (t : TrapInfo) (dbl : Bool) : Word :=
  BitVec.ofNat 32 (b2n dbl * 2 ^ 31 + b2n t.async * 2 ^ 30 + b2n t.multi * 2 ^ 29 + t.kind * 2 ^ 12 + t.resp * 2 ^ 8 + t.code)

/-- Trap entry on a supervisor core at its pc (R76). TPA is written for ASYNC errors only. The manual does not give the cycles of
an entry: CYCLE counts an unknown constant for it (log 80). -/
def Sup.enter (u : Sup) (t : TrapInfo) : Sup :=
  { u with epc := u.core.pc, cause := t.cause false, tval := t.tval, tpa := if t.async then t.tpa else u.tpa, ptie := u.tie,
           tie := false, inTrap := true, wfe := false,
           core := { u.core with pc := u.tvec, cycle := u.core.cycle + BitVec.ofNat 64 Config.trapCycles } }

/-- The EVENT trap at an instruction boundary: EPC is the next instruction to execute (R76, R77). -/
def Sup.enterEvent (u : Sup) : Sup := u.enter (trapOf tEVENT 0)

/-- A double trap: CAUSE and TVAL are new, EPC is kept, and the core halts (R80). An ASYNC error writes TPA here too, as at an entry
(log 89). -/
def Sup.double (u : Sup) (t : TrapInfo) : Sup :=
  { u with cause := t.cause true, tval := t.tval, tpa := if t.async then t.tpa else u.tpa, halted := true }

/-- Return from a trap (R79). The pc stays a multiple of 4 (R57). -/
def Sup.rft (u : Sup) : Sup :=
  { u with tie := u.ptie, inTrap := false, core := { u.core with pc := u.epc &&& 0xFFFFFFFC#32 } }

end Sys2Proof.Machine
end

