-- ==== Sys2Proof/Machine/Events.lean ====
section
/-!
DEFINITION. Network time (R151, R162), the event numbers (R432), the reference line (R40), and the raising of an event
(R433, R434).
-/
namespace Sys2Proof.Machine

/-! ## Event numbers (R432); TIME_CMPn and SWn count on from the first -/

abbrev evCORE_HALT : Nat := 0x0
abbrev evWDT_BITE : Nat := 0x1
abbrev evDC_WB_ERR : Nat := 0x2
abbrev evOSC_FAIL : Nat := 0x3
abbrev evPAGE_REPORT : Nat := 0x20
abbrev evRPT_LOST : Nat := 0x21
abbrev evRUN : Nat := 0x22
abbrev evFSCH_NOPLAN : Nat := 0x23
abbrev evFSCH_MISSED : Nat := 0x24
abbrev evINHIBIT_ON : Nat := 0x25
abbrev evINHIBIT_OFF : Nat := 0x26
abbrev evBRAKE_CUT : Nat := 0x27
abbrev evCRIT_CUT : Nat := 0x28
abbrev evSQ_TRAP : Nat := 0x40
abbrev evSQ_COND : Nat := 0x41
abbrev evSQ_MARK : Nat := 0x42
abbrev evSQ_PARKED : Nat := 0x43
abbrev evSQ_FB_ERR : Nat := 0x44
abbrev evENC_ILLEGAL : Nat := 0x60
abbrev evIDX_MISMATCH : Nat := 0x61
abbrev evTRG_SKIP : Nat := 0x62
abbrev evVENC_LATE : Nat := 0x63
abbrev evTIME_JUMP_REFUSED : Nat := 0x64
abbrev evTIME_STEP : Nat := 0x65
abbrev evTIME_HOLDOVER : Nat := 0x66
abbrev evTIME_CMP0 : Nat := 0x68
abbrev evHEAD_REFUSED : Nat := 0x80
abbrev evHEAD_ST_LOST : Nat := 0x81
abbrev evHEAD_FAULT : Nat := 0x82
abbrev evHEAD_PRESENT : Nat := 0x83
abbrev evHEAD_LOST : Nat := 0x84
abbrev evHIR_DONE : Nat := 0x85
abbrev evI2C_DONE : Nat := 0x86
abbrev evHEAD_RETIRED : Nat := 0x87
abbrev evHEAD_RETURN_DROPPED : Nat := 0x88
abbrev evHEAD_RETURNED : Nat := 0x89
abbrev evDCE_SEG_BAD : Nat := 0xa0
abbrev evDCE_STOPPED : Nat := 0xa1
abbrev evDCE_JOB_DONE : Nat := 0xa2
abbrev evDCE_DESC : Nat := 0xa3
abbrev evCMP_JOB_DONE : Nat := 0xa4
abbrev evCMP_DESC : Nat := 0xa5
abbrev evCMP_VERIFY_REDO : Nat := 0xa6
abbrev evBOLT_RECORD : Nat := 0xc0
abbrev evBOLT_RPT_LOST : Nat := 0xc1
abbrev evBOLT_PROPOSAL : Nat := 0xc2
abbrev evEPOCH_LATE : Nat := 0xc3
abbrev evMR_VIOLATION : Nat := 0xe0
abbrev evMR_SESSION_RESET : Nat := 0xe1
abbrev evMR_ID_SET : Nat := 0xe2
abbrev evMR_PATH_FAIL : Nat := 0xe3
abbrev evMR_FAILOVER_REFUSED : Nat := 0xe4
abbrev evMR_FAILOVER_MARGINAL : Nat := 0xe5
abbrev evMR_FAILOVER_DONE : Nat := 0xe6
abbrev evDDR_CE : Nat := 0x100
abbrev evDDR_UE : Nat := 0x101
abbrev evDDR_SCRUB_DONE : Nat := 0x102
abbrev evDDR_REF_FALLBACK : Nat := 0x103
abbrev evDDR_TEMP : Nat := 0x104
abbrev evDMA_DONE : Nat := 0x108
abbrev evDMA_LATE_ERR : Nat := 0x109
abbrev evDMA_BAD : Nat := 0x10a
abbrev evDMA_RX_BAD : Nat := 0x10b
abbrev evDMA_RX_DROP : Nat := 0x10c
abbrev evDRIVE_NONCOMPLIANT : Nat := 0x120
abbrev evWEIR_TIMEOUT : Nat := 0x121
abbrev evWEIR_OVER : Nat := 0x122
abbrev evTOLL_EXCESS : Nat := 0x123
abbrev evHEAD_POWER : Nat := 0x124
abbrev evCLK_REF_FAIL : Nat := 0x140
abbrev evCLK_TB_FAIL : Nat := 0x141
abbrev evCLK_SW_FORCED : Nat := 0x142
abbrev evCLK_MON_ERR : Nat := 0x143
abbrev evTHM_LEVEL : Nat := 0x144
abbrev evTENTER_SKIP : Nat := 0x148
abbrev evTENTER_DISCARD : Nat := 0x149
abbrev evTENTER_DONE : Nat := 0x14a
abbrev evMBX_DONE : Nat := 0x160
abbrev evNVES_SHUTDOWN : Nat := 0x161
abbrev evNVES_ACK : Nat := 0x162
abbrev evFANTAIL_TRAP : Nat := 0x163
abbrev evBOOT_FAIL : Nat := 0x164
abbrev evDEBUG_UNLOCK : Nat := 0x165
abbrev evROLLBACK_SET : Nat := 0x166
abbrev evNVES_FULL : Nat := 0x167

/-! ## Network time -/

/-- nt_q16 of R151: NT in units of 2^-16 ns, before the reduction modulo 2^80. -/
def ntQ16 (tbc : Nat) (rate off : Int) : Int :=
  let base : Int := (tbc : Int) * 81920
  base + floorDiv (base * rate) (2 ^ 40) + off

/-- tbc16_of of R162: local fine steps of a network time. -/
def tbc16Of (nt rate off : Int) : Dword :=
  let num := (nt - off) * 2 ^ 40
  let den := 5120 * ((2 ^ 40 : Int) + rate)
  BitVec.ofInt 64 (floorDiv (2 * num + den) (2 * den))

/-- The rate in force (R152). -/
def State.rate (s : State) : Int := (s.rd TIME_RATE).toInt

/-- NT now, 80 bits (R151). -/
def State.nt (s : State) : BitVec 80 := BitVec.ofInt 80 (ntQ16 s.now s.rate s.offset.toInt)

/-! ## The reference line (R40) -/

/-- The page a port is working on and its next line: its oldest unresolved port-line (R175), tracked or still to come. -/
def PortFire.oldest (f : PortFire) : Option (Word × Nat) :=
  match f.tracked.find? (fun t => t.outcome.isNone) with
  | some t => some (t.page, t.line)
  | none => match f.pages.find? (fun q => q.abortFrom.isNone && decide (q.next < q.lines)) with
    | some q => some (q.page, q.next)
    | none => none

/-- The highest line of a page that has an outcome on a port, or line 0: while the port holds the page, and after it has left (R40). -/
def PortFire.topLine (f : PortFire) (page : Word) : Nat :=
  match f.pages.find? (fun q => decide (q.page = page)) with
  | some q => q.top.getD 0
  | none => match f.last with
    | some (g, l) => if g = page then l else 0
    | none => 0

/-- Whether a page is open on a port: its sequencer holds it open, or a port-line of an open report is unresolved
(R40). -/
def State.portPageOpen (s : State) (p : Fin 48) : Bool :=
  let q := s.sqs[sqOf p]
  (q.pageOpen && q.pmask.getLsbD (laneOf p).val) || (s.fsch.ports[p].oldest).isSome

/-- A port in service has a page open and is not retired (R40). -/
def State.inService (s : State) (p : Fin 48) : Bool := s.portPageOpen p && !s.flag (HP_SVC_STAT_RETIRED p)

/-- The reference line: on the lowest port in service, the page it works on, or with none of its lines unresolved the page open on its
sequencer, and the highest line of that page with an outcome. -/
def State.refLine (s : State) : Word × Word :=
  match (fins 48).find? (fun p => s.inService p) with
  | none => (0, 0)
  | some p =>
    let f := s.fsch.ports[p]
    let page := match f.oldest with
      | none => s.sqs[sqOf p].page
      | some (g, _) => g
    (page, BitVec.ofNat 32 (f.topLine page))

/-! ## Raising events -/

/-- Whether record `a` comes before `b` at a target: by TBC, then event number, then SOURCE (R434). -/
def EventRec.before (a b : EventRec) : Bool :=
  decide (a.tbc.toNat < b.tbc.toNat ∨ (a.tbc = b.tbc ∧ (a.event < b.event ∨ (a.event = b.event ∧ a.source < b.source))))

/-- A record put in its place among the records in flight. -/
def insertEvent (r : EventRec) : List EventRec → List EventRec
  | [] => [r]
  | h :: t => if r.before h then r :: h :: t else h :: insertEvent r t

/-- The record an event makes now (R433). -/
def State.eventRec (s : State) (ev src : Nat) (value page line : Word) (only : Option (Fin 2)) : EventRec :=
  { event := ev, source := src % 4096, value := value, page := page, line := line, tbc := s.tbc,
    nt := s.nt.extractLsb' 16 64, only := only }

/-- An event with its page and line raised: its record goes to the fabric. -/
def State.raiseAt (s : State) (ev src : Nat) (value page line : Word) (only : Option (Fin 2) := none) : State :=
  { s with evt := { s.evt with flight := insertEvent (s.eventRec ev src value page line only) s.evt.flight } }

/-- An event that names no page and line of its own: it carries those of the reference line (R40, log 12). -/
def State.raise (s : State) (ev src : Nat) (value : Word) : State :=
  s.raiseAt ev src value s.refLine.1 s.refLine.2

/-- VALUE with two remaining quantities, each saturated to 16 bits (R433). -/
def value2 (a b : Nat) : Word := BitVec.ofNat 32 (satNat 16 a + satNat 16 b * 65536)

/-- VALUE with one remaining quantity, saturated to 32 bits (R433). -/
def value1 (a : Nat) : Word := BitVec.ofNat 32 (satNat 32 a)

/-- VALUE with one signed remaining quantity (R433). -/
def valueSigned (i : Int) : Word := BitVec.ofNat 32 (satSigned 32 i)

end Sys2Proof.Machine
end

