-- ==== Sys2Proof/Machine/PosOps.lean ====
section
/-!
DEFINITION. The position unit: estimators and axes (R144 to R147), the history of a channel (R135, R144), edge decoding
(R137 to R142), fire-time arithmetic (R172, R173), triggers (R148, R149) and the relay conversions (R160 to R166).
-/
namespace Sys2Proof.Machine

/-! ## Valid entries and estimators (R144, R145) -/

/-- The newest entries whose stamps lie within 2^36 fine steps of the newest (R144). -/
def validPairs : List Pair → List Pair
  | [] => []
  | h :: t => h :: t.takeWhile (fun e => decide ((h.t - e.t).toNat ≤ 2 ^ 36))

/-- A position as Q48.16 (R145). -/
def posQ16 (p : BitVec 48) : Dword := BitVec.ofInt 64 (p.toInt * 65536)

/-- vel_2p of R145 on the two newest entries. -/
def vel2p (a b : Pair) : Dword :=
  BitVec.ofInt 64 (truncDiv ((a.p.toInt - b.p.toInt) * 2 ^ 52) (a.t - b.t).toInt)

/-- The four sums of vel_ls over the entries (R145). -/
def lsSums (h : Pair) (es : List Pair) : Int × Int × Int × Int :=
  es.foldl (fun s e =>
    let t := (e.t - h.t).toInt
    let p := e.p.toInt - h.p.toInt
    (s.1 + t, s.2.1 + p, s.2.2.1 + t * t, s.2.2.2 + t * p)) (0, 0, 0, 0)

/-- vel_ls of R145 over the first n entries. -/
def velLs (n : Nat) (h : Pair) (es : List Pair) : Dword :=
  let s := lsSums h (es.take n)
  let num := (n : Int) * s.2.2.2 - s.1 * s.2.1
  let den := (n : Int) * s.2.2.1 - s.1 * s.1
  BitVec.ofInt 64 (truncDiv (num * 2 ^ 52) den)

/-- ab_update of R145 with gains ALPHA and BETA. -/
def abUpdate (alpha beta : Nat) (st : AlphaBeta) (e : Pair) : AlphaBeta :=
  let dt := (e.t - st.tl).toInt
  let xp := st.x + BitVec.ofInt 64 (floorDiv (st.v.toInt * dt) (2 ^ 36))
  let r := (posQ16 e.p - xp).toInt
  { x := xp + BitVec.ofInt 64 (floorDiv ((alpha : Int) * r) (2 ^ 16))
    v := st.v + BitVec.ofInt 64 (truncDiv ((beta : Int) * r * 2 ^ 20) dt), tl := e.t, more := true }

/-- The estimator an axis uses: 0 two-point, 1 least squares, 2 α-β (AXa_CFG.EST, 3 acts as 0). -/
def State.axEst (s : State) (a : Nat) : Nat := if s.get (AX_CFG_EST a) = 3 then 0 else s.get (AX_CFG_EST a)

/-- The latency of R146. -/
def State.axLatency (s : State) (a : Nat) : Nat :=
  if s.axEst a = 0 then 4 else if s.axEst a = 1 then 16 else 8

/-- The channel an axis uses (AXa_CFG.SRC: 10 to 15 act as 0). -/
def State.axSrc (s : State) (a : Nat) : Fin 10 :=
  if h : s.get (AX_CFG_SRC a) < 10 then ⟨s.get (AX_CFG_SRC a), h⟩ else 0

/-- An output with STALL, VEL = 0 and a given anchor. -/
def stalled (tick : Nat) (ap at_ : Dword) : AxisOut := { tick := tick, stall := true, vel := 0, ap := ap, at_ := at_ }

/-- The outputs of the two-point and least-squares estimators from the valid entries (R144, R145). -/
def State.axCompute (s : State) (a tick : Nat) (v : List Pair) : AxisOut :=
  match v with
  | [] => stalled tick 0 0
  | [h] => stalled tick (posQ16 h.p) h.t
  | h :: g :: t =>
    let vel := if s.axEst a = 1 then velLs (min (4 * 2 ^ min (s.get (AX_CFG_LS_N a)) 2) (t.length + 2)) h (h :: g :: t)
      else vel2p h g
    { tick := tick, stall := false, vel := vel, ap := posQ16 h.p, at_ := h.t }

/-- The α-β state and output when the entry `e` has arrived on top of the entries `v` (R144, R145). -/
def State.axAlphaBeta (s : State) (a tick : Nat) (old : Option AlphaBeta) (v : List Pair) :
    Option AlphaBeta × AxisOut :=
  match v with
  | [] => (none, stalled tick 0 0)
  | [h] => (some { x := posQ16 h.p, v := 0, tl := h.t, more := false }, stalled tick (posQ16 h.p) h.t)
  | h :: g :: _ =>
    let second : AlphaBeta := { x := posQ16 h.p, v := vel2p h g, tl := h.t, more := true }
    let st := match old with
      | none => second
      | some o => if o.more then abUpdate (s.get (AX_GAIN_ALPHA a)) (s.get (AX_GAIN_BETA a)) o h else second
    (some st, { tick := tick, stall := false, vel := st.v, ap := st.x, at_ := st.tl })

/-- Outputs no decision can use any more are dropped: one that was in force 6 ticks ago is kept (R174). -/
def trimOuts (now : Nat) (os : List AxisOut) : List AxisOut :=
  os.takeWhile (fun o => decide (now < o.tick + 6)) ++ (os.dropWhile (fun o => decide (now < o.tick + 6))).take 1

/-- An axis replaced. -/
def State.setAxis (s : State) (a : Fin 4) (x : Axis) : State := { s with axes := vset s.axes a x }

/-- The outputs recomputed for a new entry of the axis's channel, in force after the latency (R146). -/
def State.axUpdate (s : State) (a : Fin 4) : State :=
  if s.flag (AX_CFG_EN a) then
    let v := validPairs s.pos[s.axSrc a].hist
    let tick := s.now + s.axLatency a
    let x := s.axes[a]
    if s.axEst a = 2 then
      let r := s.axAlphaBeta a tick x.ab v
      s.setAxis a { outs := trimOuts s.now (r.2 :: x.outs), ab := r.1 }
    else s.setAxis a { outs := trimOuts s.now (s.axCompute a tick v :: x.outs), ab := none }
  else s

/-- The estimator restarted by a write of AXa_CFG (R144): with the history already held, or with no outputs while EN = 0, those
held before not being kept. -/
def State.axRestart (s : State) (a : Fin 4) : State :=
  let x := s.axes[a]
  let kept := x.outs.filter (fun o => decide (o.tick ≤ s.now))
  if s.flag (AX_CFG_EN a) then
    let v := validPairs s.pos[s.axSrc a].hist
    let tick := s.now + s.axLatency a
    if s.axEst a = 2 then
      let r := s.axAlphaBeta a tick none (v.take 2)
      s.setAxis a { outs := trimOuts s.now (r.2 :: kept), ab := r.1 }
    else s.setAxis a { outs := trimOuts s.now (s.axCompute a tick v :: kept), ab := none }
  else s.setAxis a { outs := [stalled s.now 0 0], ab := none }

/-- The outputs in force at a tick; STALL before any (R146, R174). -/
def Axis.at (x : Axis) (n : Nat) : AxisOut :=
  (x.outs.find? (fun o => decide (o.tick ≤ n))).getD (stalled 0 0 0)

/-- |VEL| of an output. -/
def AxisOut.absVel (o : AxisOut) : Nat := o.vel.toInt.natAbs

/-- SPEED of R147. -/
def AxisOut.speed (o : AxisOut) : Nat := min (o.absVel / 65536) 0xFFFFFFFF

/-- SPEED_MMS of R147 for an encoder pitch in Q16.16 µm. -/
def AxisOut.speedMms (o : AxisOut) (pitch : Nat) : Nat := min ((o.absVel * pitch * 800000) / 2 ^ 48) 0xFFFFFFFF

/-- The measured speed of an axis now, Q16.16 mm/s (R147). -/
def State.axSpeedMms (s : State) (a : Fin 4) : Nat := (s.axes[a].at s.now).speedMms (s.rd (AX_PITCH a)).toNat

/-! ## Histories -/

/-- Every axis that uses a channel recomputes (R146). -/
def State.axesOf (s : State) (c : Fin 10) (f : State → Fin 4 → State) : State :=
  (fins 4).foldl (fun s (a : Fin 4) => if s.axSrc a = c then f s a else s) s

/-- A channel's history cleared: its axes show STALL with no anchor from this tick, without latency, and no decision uses an older output
(R144). -/
def State.histClear (s : State) (c : Fin 10) : State :=
  let s := s.modPos c (fun q => { q with hist := [] })
  s.axesOf c (fun s a =>
    if s.flag (AX_CFG_EN a) then
      s.setAxis a { outs := [stalled s.now 0 0], ab := none }
    else s)

/-- Whether the channel relays its pairs (R160: ENC and SSI channels only). -/
def State.relays (s : State) (c : Fin 10) : Bool :=
  decide (c.val < 6) && (s.get POS_CTRL_RELAY_EN).testBit c.val

/-- A latched pair becomes the newest of 16 entries, and joins the pairs to be relayed (R140, R160). -/
def State.latch (s : State) (c : Fin 10) (e : Pair) : State :=
  let s := s.modPos c (fun q => { q with
    hist := (e :: q.hist).take 16, relay := if s.relays c then q.relay ++ [(s.now, e)] else q.relay })
  s.axesOf c (fun s a => s.axUpdate a)

/-- Every stamp of a channel's history moved by a number of fine steps (R165, R166). -/
def State.histShift (s : State) (c : Fin 10) (d : Int) : State :=
  s.modPos c (fun q => { q with hist := q.hist.map (fun e => { e with t := e.t + BitVec.ofInt 64 d }) })

/-- Rounding to nearest, ties away from zero (R166). -/
def roundDiv (a b : Int) : Int :=
  if 0 ≤ a then (2 * a + b) / (2 * b) else - ((2 * (-a) + b) / (2 * b))

/-! ## Quadrature decoding (R138 to R142) -/

/-- The step of the quadrature sequence (A, B): with A leading B the count goes up (DEDUCED: R138 names no sense). -/
def quadStep (a b a' b' : Bool) : Int :=
  let g := fun (x y : Bool) => if x then (if y then 2 else 1) else (if y then 3 else (0 : Int))
  let d := (g a' b' - g a b) % 4
  if d = 1 then 1 else if d = 3 then -1 else 0

/-- One count of a channel, latched when POS becomes a multiple of 2^LATCH_LOG2 (R138, R140). -/
def State.count (s : State) (c : Fin 10) (d : Int) (stamp : Dword) : State :=
  let d := if s.flag (CH_CFG_DIR_INV c) then -d else d
  let q := s.pos[c]
  let p := q.pos + BitVec.ofInt 48 d
  let s := s.modPos c (fun q => { q with pos := p, rev := q.rev + BitVec.ofInt 32 d })
  let s := s.putB (CH_STAT_DIR c) (decide (d < 0))
  if p.toNat % 2 ^ min (s.get (CH_CFG_LATCH_LOG2 c)) 8 = 0 then s.latch c { p := p, t := stamp * 16 } else s

/-- ARMED at a tick: as it stands, or by a write of ARM in an earlier tick (R141). -/
def PosChan.isArmed (q : PosChan) (now : Nat) : Bool := q.armed || q.armAt.any (fun a => decide (a.toNat < now))

/-- The index edge: the check of R142 on REV_POS, then the reset of R141. -/
def State.indexEdge (s : State) (c : Fin 10) : State :=
  let q := s.pos[c]
  let diff := (q.rev.toInt - (s.rd (CH_INDEX_EXPECT c)).toInt).natAbs
  let s := if s.get (CH_CFG_INDEX_TOL c) < diff then
      ((s.set1 (CH_STAT_IDX_MISMATCH c)).wr (CH_IDX_SEEN c) q.rev).raise evIDX_MISMATCH c
        (BitVec.ofNat 32 (satSigned 16 q.rev.toInt + 65536 * satSigned 16 q.pos.toInt))
    else s
  let mode := s.get (CH_CFG_IDX_MODE c)
  let armed := q.isArmed s.now
  if mode = 1 then s.modPos c (fun q => { q with rev := 0 })
  else if mode = 2 && armed then s.modPos c (fun q => { q with rev := 0, armed := false, armAt := q.armAt.filter (fun a => decide (s.now ≤ a.toNat)) })
  else s

/-! ## Fire-time arithmetic (R172, R173) -/

/-- fire_pos of R172. -/
def firePos (origin ofs : Dword) (line : Nat) (pitch : Word) : Dword :=
  origin + ofs + BitVec.ofNat 64 ((line * pitch.toNat + 8) % 2 ^ 64 / 16)

/-- fire_time of R173: the strobe time in fine steps, if there is an estimate within the horizon. -/
def fireTime (fp : Dword) (o : AxisOut) (adv : Int) (horizon : Nat) : Option Dword :=
  if o.stall ∨ o.vel.toInt ≤ 0 then none
  else
    let d := (fp - o.ap).toInt
    let dt := floorDiv (2 * (d * 2 ^ 36) + o.vel.toInt) (2 * o.vel.toInt)
    if (horizon : Int) * 16 < dt then none
    else some (o.at_ + BitVec.ofInt 64 dt - BitVec.ofInt 64 adv)

/-- HORIZON of POS_CTRL. -/
def State.horizon (s : State) : Nat := s.get POS_CTRL_HORIZON

/-! ## Position triggers (R148, R149) -/

/-- TP_k of R148: START + k × PITCH, PITCH taken as Q48.16. -/
def State.trigPos (s : State) (t k : Nat) : Dword :=
  s.rd64 (PTRG_START_LO t) (PTRG_START_HI t) + BitVec.ofNat 64 (k * (s.rd (PTRG_PITCH t)).toNat * 16)

/-- The computed time of position k of a trigger from the outputs in force at tick n − 6 (R148, R174). -/
def State.trigTime (s : State) (t k : Nat) : Option Dword :=
  let a : Fin 4 := finOf 4 (by decide) (s.get (PTRG_CFG_AX t))
  if s.now < 6 then none
  else fireTime (s.trigPos t k) (s.axes[a].at (s.now - 6)) (sext 16 (s.get (PTRG_CFG_ADV t))) s.horizon

/-- Whether position k is one of the trigger's positions (COUNT = 0: unlimited). -/
def State.trigHas (s : State) (t k : Nat) : Bool :=
  decide ((s.rd (PTRG_COUNT t)).toNat = 0 ∨ k < (s.rd (PTRG_COUNT t)).toNat)

/-- The first pending k when EN is set: how many positions lie behind the anchor (R149); 0 with PITCH = 0 (log 104). -/
def State.trigStart (s : State) (t : Nat) : Nat :=
  let a : Fin 4 := finOf 4 (by decide) (s.get (PTRG_CFG_AX t))
  let o := s.axes[a].at s.now
  if o.stall && o.at_ = 0 && o.ap = 0 then 0
  else
    let pitch := (s.rd (PTRG_PITCH t)).toNat * 16
    let d := (o.ap - s.rd64 (PTRG_START_LO t) (PTRG_START_HI t)).toInt
    let k := if d ≤ 0 then 0 else if pitch = 0 then 0 else ceilDiv d.toNat pitch
    let cnt := (s.rd (PTRG_COUNT t)).toNat
    if cnt = 0 then k else min k cnt

end Sys2Proof.Machine
end

