-- ==== Sys2Proof/Machine/WeirOps.lean ====
section
/-!
DEFINITION. Weir's shared operations: the budget and reservation (R379), a request (R380, R383), a grant, a release and
a withdrawal (R382), and the OVER flag (R382).
-/
namespace Sys2Proof.Machine

/-- Weir's budget: min(RAIL_MW, THERM_MW) (R379). -/
def State.weirBudget (s : State) : Nat := min (s.get PWR_BUDGET_RAIL_MW) (s.get PWR_BUDGET_THERM_MW)

/-- The line rate in Hz of a speed in Q16.16 mm/s (R372); 0 while LPITCH = 0. -/
def State.lineHz (s : State) (speed : Nat) : Nat :=
  if s.get GOV_LPITCH_LPITCH = 0 then 0 else (speed * 1000000 / s.get GOV_LPITCH_LPITCH) / 65536

/-- RES of R379. -/
def State.weirRes (s : State) : Nat :=
  let f := max (s.get GOV_LINE_HZ_LINE_HZ) (s.lineHz (s.rd GOV_REQ).toNat)
  s.get PWR_RES_BASE_RES_BASE + ceilDiv (f * s.get PWR_RES_LINE_RES_LINE) 1000000

/-- The power of every grant in force. -/
def State.weirGranted (s : State) : Nat := (s.weir.granted.toList.map (fun g => g.getD 0)).sum

/-- The number of requests waiting. -/
def State.weirWaiting (s : State) : Nat := (s.weir.waiting.toList.filter (fun w => w.isSome)).length

/-- The state registers brought up to date, with OVER_SEEN and WEIR_OVER when OVER rises (R382). -/
def State.weirRefresh (s : State) : State :=
  let res := s.weirRes
  let gr := s.weirGranted
  let above := decide (s.weirBudget < res + gr)
  let was := s.flag PWR_WFLAG_OVER
  let s := ((s.put PWR_WSTAT_RES (satNat 16 res)).put PWR_WSTAT_GRANTED (satNat 16 gr)).put PWR_WFLAG_WAITING s.weirWaiting
  let s := s.putB PWR_WFLAG_OVER above
  if above && !was then (s.set1 PWR_WFLAG_OVER_SEEN).raise evWEIR_OVER 0 0 else s

/-- A grant: the requester holds its power until it releases it (R381, R382). -/
def State.weirGrant (s : State) (r : Fin 32) (q : WeirReq) : State :=
  let w := { s.weir with
    waiting := vset s.weir.waiting r none, granted := vset s.weir.granted r (some q.power), since := vset s.weir.since r s.weir.clk }
  let s := { s with weir := w }
  let s := ((s.put (PWR_RQ_STAT_STATE r) 2).put (PWR_RQ_STAT_RESULT r) 0).put (PWR_RQ_STAT_GRANT r) (satNat 16 q.power)
  s.weirRefresh

/-- VALUE of WEIR_TIMEOUT: class, result code, power (R433). -/
def weirValue (q : WeirReq) (result : Nat) : Word := BitVec.ofNat 32 (q.cls + 256 * result + 65536 * satNat 16 q.power)

/-- A refusal with TIMEOUT (1) or TOO_BIG (2) (R383). -/
def State.weirRefuse (s : State) (r : Fin 32) (q : WeirReq) (result : Nat) : State :=
  let s := { s with weir := { s.weir with waiting := vset s.weir.waiting r none } }
  let s := (s.put (PWR_RQ_STAT_STATE r) 0).put (PWR_RQ_STAT_RESULT r) result
  let s := if result = 1 then s.set1 PWR_WFLAG_TIMEOUT_SEEN else s.set1 PWR_WFLAG_TOO_BIG_SEEN
  (s.raise evWEIR_TIMEOUT r (weirValue q result)).weirRefresh

/-- Whether a request's power exceeds min(RAIL_MW, THERM_MW) − RES_BASE (R383). -/
def State.weirTooBig (s : State) (power : Nat) : Bool :=
  decide (s.weirBudget < power + s.get PWR_RES_BASE_RES_BASE)

/-- A request arrives: refused TOO_BIG, granted at once in class G1 (R381), or queued. A requester that already waits or
holds a grant makes no second request (R380). -/
def State.weirRequest (s : State) (r : Fin 32) (cls power maxWait : Nat) : State :=
  if (s.weir.waiting[r]).isSome || (s.weir.granted[r]).isSome then s
  else
    let q : WeirReq := { power := power, cls := cls, arrival := s.weir.clk, maxWait := maxWait }
    let s := s.put (PWR_RQ_STAT_CLASS r) cls
    if s.weirTooBig power then s.weirRefuse r q 2
    else if cls = 1 then s.weirGrant r q
    else
      let s := { s with weir := { s.weir with waiting := vset s.weir.waiting r (some q) } }
      (s.put (PWR_RQ_STAT_STATE r) 1).weirRefresh

/-- Whether a requester holds a grant. -/
def State.weirHolds (s : State) (r : Fin 32) : Bool := (s.weir.granted[r]).isSome

/-- Whether a requester waits. -/
def State.weirWaits (s : State) (r : Fin 32) : Bool := (s.weir.waiting[r]).isSome

/-- A requester releases its grant, or withdraws its waiting request with result WITHDRAWN and no event (R382, R383). -/
def State.weirRelease (s : State) (r : Fin 32) : State :=
  if s.weirHolds r then
    let s := { s with weir := { s.weir with granted := vset s.weir.granted r none } }
    ((s.put (PWR_RQ_STAT_STATE r) 0).put (PWR_RQ_STAT_GRANT r) 0).weirRefresh
  else if s.weirWaits r then
    let s := { s with weir := { s.weir with waiting := vset s.weir.waiting r none } }
    ((s.put (PWR_RQ_STAT_STATE r) 0).put (PWR_RQ_STAT_RESULT r) 3).weirRefresh
  else s

/-- AON clocks per microsecond: 100 on REFCLK, 32 on the RC oscillator (R28, R388). -/
def State.aonPerUs (s : State) : Nat := if s.flag CLK_STAT_ON_RC then 32 else 100

/-- Whether a waiting request has waited its MAXWAIT µs (R381, R383). -/
def State.weirExpired (s : State) (q : WeirReq) : Bool :=
  decide (q.maxWait ≠ 0 ∧ q.maxWait * s.aonPerUs ≤ s.weir.clk - q.arrival)

/-- The head of the queue: by class, then clock of arrival, then requester number (R381). -/
def State.weirHead (s : State) : Option (Fin 32 × WeirReq) :=
  (fins 32).foldl (fun best r =>
    match s.weir.waiting[r], best with
    | none, b => b
    | some q, none => some (r, q)
    | some q, some (b, bq) =>
      if q.cls < bq.cls ∨ (q.cls = bq.cls ∧ q.arrival < bq.arrival) then some (r, q) else some (b, bq)) none

/-- The grants of one AON clock: heads of the queue that fit, until one does not; none while OVER = 1 (R381, R382). The
result lists the requesters granted. -/
def State.weirGrants : Nat → State → State × List (Fin 32)
  | 0, s => (s, [])
  | n + 1, s =>
    match s.weirHead with
    | none => (s, [])
    | some (r, q) =>
      if s.flag PWR_WFLAG_OVER ∨ s.weirBudget < s.weirRes + s.weirGranted + q.power then (s, [])
      else
        let t := State.weirGrants n (s.weirGrant r q)
        (t.1, r :: t.2)

end Sys2Proof.Machine
end

