-- ==== Sys2Proof/Machine/GovOps.lean ====
section
/-!
DEFINITION. The Governor's slow causes (R372) and Toll's count of head energy (R385), which other units start.
-/
namespace Sys2Proof.Machine

/-- The measured speed: AXa_SPEED_MMS of the axis GOV_CTRL.AX (R372). -/
def State.measured (s : State) : Nat := s.axSpeedMms (finOf 4 (by decide) (s.get GOV_CTRL_AX))

/-- A slow cause replaced. -/
def State.setCause (s : State) (i : Fin 3) (c : SlowCause) : State :=
  { s with gov := { s.gov with causes := vset s.gov.causes i c } }

/-- An event of slow cause `i` (0 SKIP, 1 HEAD_POWER, 2 THERMAL): its cap is set from the measured speed, and lowered
again only LAT µs after the last lowering; a cap never rises while it is held (R372). `lasts` says whether the cause
goes on after the event. -/
def State.slowEvent (s : State) (i : Fin 3) (lasts : Bool) : State :=
  let c := s.gov.causes[i]
  let new := (s.measured * s.get GOV_SLOW_SLOW_FRAC) / 256
  let ended := if lasts then none else some s.gov.steps
  match c.cap with
  | none => s.setCause i { active := lasts, cap := some new, lowered := s.gov.steps, ended := ended }
  | some old =>
    if c.lowered * 10 + s.get GOV_LAT_LAT ≤ s.gov.steps * 10 then
      s.setCause i { active := c.active || lasts, cap := some (min old new), lowered := s.gov.steps, ended := ended }
    else s.setCause i { c with active := c.active || lasts, ended := ended }

/-- A slow cause ends: its cap is held for HOLD ms more (R372). -/
def State.slowEnd (s : State) (i : Fin 3) : State :=
  let c := s.gov.causes[i]
  if c.active then s.setCause i { c with active := false, ended := some s.gov.steps } else s

/-- Adds to a 64-bit energy pair, which wraps (R384, R385). -/
def State.addEnergy (s : State) (lo hi : Nat) (e : Nat) : State := s.wr64 lo hi (s.rd64 lo hi + BitVec.ofNat 64 e)

/-- E_v of R206 in 1/16 nJ for a level; 0 for level 0. -/
def State.dropEnergy (s : State) (p lvl : Nat) : Nat :=
  if lvl = 0 ∨ 15 < lvl then 0
  else if lvl % 2 = 1 then s.get (HP_ENERGY_E_LO p ((lvl - 1) / 2)) else s.get (HP_ENERGY_E_HI p ((lvl - 2) / 2))

/-- The energy of a line's levels on a port (R385). -/
def State.lineEnergy (s : State) (p : Nat) (levels : List Nat) : Nat := (levels.map (s.dropEnergy p)).sum

/-- A strobe rises: the line's energy goes to its supply group's total and window (R385, R386). -/
def State.tollStrobe (s : State) (p : Fin 48) (levels : List Nat) : State :=
  let g : Fin 8 := finOf 8 (by decide) (s.get (FSCH_P_CFG_GROUP p))
  let e := s.lineEnergy p levels
  let s := s.addEnergy (PWR_HE_LO g) (PWR_HE_HI g) e
  { s with toll := { s.toll with window := vset s.toll.window g (s.toll.window[g] + e) } }

end Sys2Proof.Machine
end

