-- ==== Sys2Proof/Machine/HeadProfile.lean ====
section
/-!
DEFINITION. The working figures of a head profile: geometry (R204), load time (R201), strobe width and latch set-up
(R203), minimum period (R181), and the nozzle-order maps with the shift streams of R125 and R202.
-/
namespace Sys2Proof.Machine

/-- WSEL_W in force: 9 to 15 act as 8. -/
def State.wselW (s : State) (p : Nat) : Nat := min 8 (s.get (HP_PROFILE_WSEL_W p))

/-- Nozzles of the port. -/
def State.nozzles (s : State) (p : Nat) : Nat := s.get (HP_GEOM_NOZZLES p)

/-- Bits per nozzle from a BPN code (HPn_GEOM.BPN: 3 acts as 2). -/
def bpnOf (code : Nat) : Nat := if code = 0 then 1 else if code = 1 then 2 else 4

/-- Bits per nozzle of the port. -/
def State.bpn (s : State) (p : Nat) : Nat := bpnOf (s.get (HP_GEOM_BPN p))

/-- Bytes of a port-line: B_p of R109. -/
def State.lineBytes (s : State) (p : Nat) : Nat := ceilDiv (s.nozzles p * s.bpn p) 8

/-- The highest level of the port. -/
def State.maxLevel (s : State) (p : Nat) : Nat := 2 ^ s.bpn p - 1

/-- The map SQk_NOMm that the port's profile selects. -/
def State.nomWord (s : State) (p : Fin 48) : Word := s.rd (SQ_NOM (sqOf p) (s.get (HP_GEOM_MAP p)))

/-- Shift length of R125: NOM.PAD + ceil(N × bpn / P). -/
def State.shiftLen (s : State) (p : Fin 48) : Nat :=
  field (s.nomWord p) 31 24 + ceilDiv (s.nozzles p * s.bpn p) (s.get (HP_GEOM_PAIRS p))

/-- T_load of R201, in ticks. -/
def State.tLoad (s : State) (p : Fin 48) : Nat := ceilDiv (s.shiftLen p * s.get (HP_LINK_BITPER p)) 15

/-- Nanoseconds to whole ticks, rounded up (R203). -/
def nsToTicks (ns : Nat) : Nat := ceilDiv (ns * 4) 5

/-- T_LSU in ticks (R203). -/
def State.tLsu (s : State) (p : Nat) : Nat := nsToTicks (s.get (HP_TIMING_LSU p))

/-- MINPER in fine steps at full width; none while MAXRATE = 0 (R181). -/
def State.minper (s : State) (p : Nat) : Option Nat :=
  if s.get (HP_PROFILE_MAXRATE p) = 0 then none
  else some (ceilDiv 12800000000 (s.get (HP_PROFILE_MAXRATE p)))

/-- What FSCH_Pn_MINPER shows (R181). -/
def State.minperReg (s : State) (p : Nat) : Nat :=
  match s.minper p with
  | none => 0xFFFFFFFF
  | some m => min m 0xFFFFFFFF

/-! ## Packing of levels (R55) -/

/-- The number whose base-2^bpn digits, nozzle 0 lowest, are the levels. -/
def packNat (bpn : Nat) : List Nat → Nat
  | [] => 0
  | l :: t => l % 2 ^ bpn + 2 ^ bpn * packNat bpn t

/-- The bytes of a line in the packing of R55. -/
def packLevels (bpn : Nat) (ls : List Nat) : List Byte := leBytes (ceilDiv (ls.length * bpn) 8) (packNat bpn ls)

/-- The first `n` levels of a number packed as in R55. -/
def unpackNat (bpn : Nat) : Nat → Nat → List Nat
  | 0, _ => []
  | n + 1, v => v % 2 ^ bpn :: unpackNat bpn n (v / 2 ^ bpn)

/-- The levels of `n` nozzles from packed bytes (R109). -/
def unpackLevels (bpn n : Nat) (bs : List Byte) : List Nat := unpackNat bpn n (leNat bs)

/-! ## Nozzle order and shift streams (R125) -/

/-- The nozzle order of a map: row groups, reversed if REV. -/
def nozzleOrder (nom : Word) (n : Nat) : List Nat :=
  let r := 2 ^ min (field nom 18 16) 4
  let l := (List.range r).flatMap (fun a => (List.range n).filter (fun i => i % r = a))
  if nom.getLsbD 19 then l.reverse else l

/-- The bit sequence of a line: elements (nozzle, bit). -/
def bitSeq (nom : Word) (n bpn : Nat) : List (Nat × Nat) :=
  let ord := nozzleOrder nom n
  let o := field nom 21 20
  let sig := fun s => if o % 2 = 0 then bpn - 1 - s else s
  if o < 2 then ord.flatMap (fun i => (List.range bpn).map (fun s => (i, sig s)))
  else (List.range bpn).flatMap (fun s => ord.map (fun i => (i, sig s)))

/-- The elements that pair `j` of `P` takes: BLOCK or DEAL. -/
def pairSeq (nom : Word) (bits : List Bool) (P j : Nat) : List Bool :=
  let c := ceilDiv bits.length P
  if nom.getLsbD 15 then (List.range c).filterMap (fun t => bits[t * P + j]?)
  else (bits.drop (j * c)).take c

/-- The shift streams of a line: PAD + C bits on every pair, the first bit first. A RAW entry is already in shift order
and its data bit for pair j at cycle c lies at position c × P + j. -/
def shiftStreams (nom : Word) (n bpn P : Nat) (levels : List Nat) (raw : Option (List Byte)) : List (List Bool) :=
  let pad := field nom 31 24
  let inv := nom.getLsbD 22
  let c := ceilDiv (n * bpn) P
  if nom.getLsbD 23 then
    let v := match raw with
      | some bs => leNat bs
      | none => packNat bpn levels
    (List.range P).map (fun j => List.replicate pad false ++ (List.range c).map (fun t => xor inv (v.testBit (t * P + j))))
  else
    let bits := (bitSeq nom n bpn).map (fun e => xor inv ((levels.getD e.1 0).testBit e.2))
    (List.range P).map (fun j =>
      let own := pairSeq nom bits P j
      List.replicate (pad + (c - own.length)) false ++ own)

/-- The waveform select word appended on pair 0, most significant bit first, zeros on the others (R202). -/
def withWsel (w v : Nat) (ps : List (List Bool)) : List (List Bool) :=
  ps.mapIdx (fun j p => p ++ (List.range w).map (fun i => decide (j = 0) && v.testBit (w - 1 - i)))

end Sys2Proof.Machine
end

