-- ==== Sys2Proof/Machine/HeadOps.lean ====
section
/-!
DEFINITION. Operations of a head port that other units use: permission (R32), the Brake latch (R189), fault (R210),
eligibility (R209), and retirement in the port's line order (R221 to R224).
-/
namespace Sys2Proof.Machine

/-- A head port's hidden state changed. -/
def State.modHp (s : State) (p : Fin 48) (f : HeadPort → HeadPort) : State := { s with hps := vset s.hps p (f s.hps[p]) }

/-- The register that holds a port's bit of a two-word mask, and the bit in it. -/
def maskWord (w0 w1 : Nat) (p : Nat) : Nat × Nat := if p < 32 then (w0, p) else (w1, p - 32)

/-- The port's BRAKE_STAT bit (R189). -/
def State.brakeCut (s : State) (p : Nat) : Bool :=
  let w := maskWord BRAKE_STAT0 BRAKE_STAT1 p
  s.bit w.1 w.2

/-- The port is retired (R222). -/
def State.retired (s : State) (p : Nat) : Bool := s.flag (HP_SVC_STAT_RETIRED p)

/-- The port is enabled by firmware. -/
def State.hpEn (s : State) (p : Nat) : Bool := s.flag (HP_CTRL_EN p)

/-- A port that is enabled, present and not retired is eligible (R209); its head sensor is then evaluated (R397). -/
def State.eligible (s : State) (p : Nat) : Bool := s.hpEn p && s.flag (HP_STAT_PRESENT p) && !s.retired p

/-- FAULT from the pin and, with ST_FLT, from the status word; ignored while the port is retired (R208, R210, R222). -/
def State.faultNow (s : State) (p : Fin 48) : Bool :=
  let h := s.hps[p]
  !s.retired p && (h.fltPin || (h.stFault && s.flag (HP_CTRL_ST_FLT p)))

/-- FAULT brought up to date; each assertion sets FLT_SEEN and raises HEAD_FAULT with the line whose guard entry follows
(R210). -/
def State.faultRefresh (s : State) (p : Fin 48) : State :=
  let now := s.faultNow p
  let was := s.flag (HP_STAT_FAULT p)
  let s := s.putB (HP_STAT_FAULT p) now
  if now && !was then
    let l := match s.fsch.ports[p].tracked.find? (fun t => t.outcome.isNone && !t.guarded) with
      | some t => (t.page, BitVec.ofNat 32 t.line)
      | none => match s.fsch.ports[p].pages.find? (fun (q : PortPage) => q.abortFrom.isNone && decide (q.next < q.lines)) with
        | some q => (q.page, BitVec.ofNat 32 q.next)
        | none => s.refLine
    (s.set1 (HP_STAT_FLT_SEEN p)).raiseAt evHEAD_FAULT p 0 l.1 l.2
  else s

/-- ST_LOST clears at once when a port stops being eligible (R209). -/
def State.eligRefresh (s : State) (p : Nat) : State := if s.eligible p then s else s.clr (HP_STAT_ST_LOST p)

/-! ## Output pairs (R199, R200, R448) -/

/-- The output pairs of a head port are driven: outside a reset, with the clock of its group on; else they are at high impedance (R448). -/
def State.hpDriven (s : State) (p : Fin 48) : Bool := s.outOfReset && s.bit CLK_EN1 (16 + p.val / 4)

/-- The edges of HPn_CK in a burst of `n` bits, in half bit periods from its start, with the level after each (R200). SDR: the data changes
on the falling edges and the head samples on the rising ones, up to the falling edge after the last bit. DDR: the data changes midway
between the edges and the head samples on both, up to the edge that samples the last bit. -/
def ckEdges (ddr : Bool) (n : Nat) : List (Nat × Bool) :=
  if ddr then (List.range n).map (fun i => (2 * i + 1, i % 2 = 0))
  else (List.range n).flatMap (fun i => [(2 * i + 1, true), (2 * i + 2, false)])

/-- A burst starts with the bits of each pair, and HPn_CK runs for it (R200). -/
def State.startBurst (s : State) (p : Fin 48) (pairs : List (List Bool)) : State :=
  s.modHp p (fun h => { h with shift := pairs, ck := ckEdges (s.flag (HP_LINK_CKMODE p)) ((pairs.map List.length).foldl max 0) })

/-- What the output pairs of a port carry: the clock edges and the bits of the burst that runs, and the level of HPn_LT. -/
structure HpPins where
  ck : List (Nat × Bool)
  d : List (List Bool)
  lt : Bool
deriving DecidableEq, Repr

/-- The output pairs of a port: none at high impedance (R448), low while the port shifts nothing (R199), HPn_LT while the strobe is
active and INHIBIT_N does not blank it (R187). -/
def State.hpPins (s : State) (p : Fin 48) : Option HpPins :=
  let h := s.hps[p]
  let busy := s.fsch.ports[p].shifting.isSome
  if s.hpDriven p then
    some { ck := if busy then h.ck else [], d := if busy then h.shift else [], lt := h.lt.isSome && !s.fsch.blank }
  else none

/-- The tap that the Tentering table of a port in force gives for a fine step (R184, R407). -/
def State.strobeTap (s : State) (p : Fin 48) (f : Nat) : Nat := field (s.rd (CAL_P_TAB0 p + 4 * (f / 4))) (8 * (f % 4) + 7) (8 * (f % 4))

/-! ## Permission (R32, R418) -/

/-- A pending return is dropped, with its RESULT and CHECK (R224). -/
def State.dropReturn (s : State) (p : Fin 48) (result check : Nat) : State :=
  match s.hps[p].svc with
  | some v =>
    if v.ret then
      let s := s.modHp p (fun h => { h with svc := none })
      let s := (s.clr (HP_SVC_STAT_PENDING p)).put (HP_SVC_STAT_RESULT p) result
      let s := if check = 0 then s else s.put (HP_HIR_STAT_CHECK p) check
      s.raise evHEAD_RETURN_DROPPED p 0
    else s
  | none => s

/-- Permission withdrawn. `thermal` says that it is withdrawn only for the port's thermal LIMIT (R194, R402). A
withdrawal for another reason makes an earlier thermal one an ordinary one (R419). -/
def State.withdraw (s : State) (p : Fin 48) (thermal : Bool) : State :=
  if s.flag (HP_STAT_PERMIT p) then
    let s := (s.clr (HP_STAT_PERMIT p)).modHp p (fun h => { h with permThermal := thermal })
    s.dropReturn p 6 0
  else if thermal then s else s.modHp p (fun h => { h with permThermal := false })

/-- Every port's permission withdrawn. -/
def State.withdrawAll (s : State) : State := (fins 48).foldl (fun s p => s.withdraw p false) s

/-- Permission given. -/
def State.grantPermit (s : State) (p : Fin 48) : State :=
  (s.set1 (HP_STAT_PERMIT p)).modHp p (fun h => { h with permThermal := false })

/-- HPn_STAT.STATE: the first that applies (R205). -/
def State.hpState (s : State) (p : Nat) : Nat :=
  if s.retired p then 3 else if !s.hpEn p then 0 else if !s.flag (HP_STAT_PERMIT p) then 1
  else if s.flag (HP_STAT_FAULT p) then 4 else 2

/-! ## Retirement in line order (R221, R224) -/

/-- Whether the line (page, line) of a port stands at or after the stated line of a pending command: in the stated page
from its line on, and in every page opened after it (R26, R221). -/
def SvcPending.reached (v : SvcPending) (pages : List PortPage) (page : Word) (line : Nat) : Bool :=
  if v.now then true
  else if page = v.page then decide (v.line ≤ line)
  else if v.seen then
    match pages.findIdx? (fun q => q.page = v.page), pages.findIdx? (fun q => q.page = page) with
    | none, _ => true
    | some i, some j => decide (i < j)
    | some _, none => true
  else false

/-- Whether the builder treats the port as retired in port-line (page, line): R128, R221, R224. -/
def State.coverAt (s : State) (p : Fin 48) (page : Word) (line : Nat) : Bool :=
  let at_ := match s.hps[p].svc with
    | some v => v.reached s.fsch.ports[p].pages page line && (v.ret == s.retired p)
    | none => false
  if s.retired p then !at_ else at_

/-- Retirement takes effect: RETIRED, PENDING clear, HEAD_RETIRED (R221). Outputs idle from then on (R222). -/
def State.retire (s : State) (p : Fin 48) (page line : Word) : State :=
  let s := ((s.set1 (HP_SVC_STAT_RETIRED p)).clr (HP_SVC_STAT_PENDING p)).modHp p (fun h => { h with svc := none })
  let s := (s.raiseAt evHEAD_RETIRED p 0 page line).clr (HP_STAT_ST_LOST p)
  s.faultRefresh p

/-- The return takes effect (R224). -/
def State.unretire (s : State) (p : Fin 48) (page line : Word) : State :=
  let s := ((s.clr (HP_SVC_STAT_RETIRED p)).clr (HP_SVC_STAT_PENDING p)).modHp p (fun h => { h with svc := none })
  (s.raiseAt evHEAD_RETURNED p 0 page line).faultRefresh p

/-- A pending command whose line the guard entry of (page, line) has reached takes effect (R221, R224). -/
def State.svcAtGuard (s : State) (p : Fin 48) (page : Word) (line : Nat) : State :=
  match s.hps[p].svc with
  | none => s
  | some v =>
    if v.reached s.fsch.ports[p].pages page line then
      if v.ret then s.unretire p v.page (BitVec.ofNat 32 v.line)
      else if v.now then s.retire p page (BitVec.ofNat 32 line)
      else s.retire p v.page (BitVec.ofNat 32 v.line)
    else s

end Sys2Proof.Machine
end

