-- ==== Sys2Proof/Machine/PermitOps.lean ====
section
/-!
DEFINITION. When Fantail grants a head permission: the table of R419, the regrant of R402, and the records that it copies into
NVES (R421, R422).
-/
namespace Sys2Proof.Machine

/-- The level register field of a thermal sensor: HTn is n, TSn is 48 + n (R433). -/
def thmLevel (i : Nat) : RegField := if i < 48 then HT_READ_LEVEL i else TS_READ_LEVEL (i - 48)

/-- A sensor's level: 0 NORMAL, 1 WARN, 2 LIMIT, 3 CRIT. -/
def State.level (s : State) (i : Nat) : Nat := s.get (thmLevel i)

/-- A die sensor is at a level or above it. -/
def State.dieAt (s : State) (l : Nat) : Bool := (List.range 16).any (fun n => decide (l ≤ s.level (48 + n)))

/-- The port or the die is at LIMIT or CRIT (R402). -/
def State.portLimit (s : State) (p : Fin 48) : Bool := decide (2 ≤ s.level p) || s.dieAt 2

/-- The port's THM_HCRIT bit (R403). -/
def State.hcrit (s : State) (p : Fin 48) : Bool :=
  let w := maskWord THM_HCRIT0 THM_HCRIT1 p
  s.bit w.1 w.2

/-- The first row of R419 that applies to a port; 0 where none does. Row 3 lasts until a later count lies within range (R190). -/
def State.permitReason (s : State) (p : Fin 48) : Nat :=
  if s.get (BRAKE_LIM_LIMIT p) = 0 then 1
  else if s.brakeCut p then 2
  else if s.flag BRAKE_OSC_OSC_FAIL || s.boot.oscBad then 3
  else if !s.flag CLK_STAT_REF_OK || s.flag CLK_STAT_TB_FAIL then 4
  else if s.flag THM_STAT_SHUT_PENDING || s.fan.trapRecord then 5
  else if s.portLimit p || s.hcrit p then 6
  else if !s.flag (HP_STAT_PRESENT p) then 7
  else if s.sec.extest then 8
  else 0

/-- LIMIT has ceased for a port: a permission withdrawn for thermal LIMIT alone comes back where no row of R419 applies; where
another row applies it stays withdrawn (R402, R419). -/
def State.thermalBack (s : State) (p : Fin 48) : State :=
  if s.hps[p].permThermal && !s.portLimit p then
    if s.permitReason p = 0 then s.grantPermit p else s.modHp p (fun h => { h with permThermal := false })
  else s

/-- A record put behind those that wait for NVES. -/
def State.nvesQueue (s : State) (r : NvesRec) : State := { s with nves := { s.nves with queue := s.nves.queue ++ [r] } }

/-- A record made now. -/
def State.nvesRec (s : State) (type source : Nat) (value page line : Word) : NvesRec :=
  { type := type, source := source, ackReq := false, slope := 0, value := value, page := page, line := line, tbc := s.tbc,
    nt := s.nt.extractLsb' 16 64, mbx := false }

end Sys2Proof.Machine
end

