-- ==== Sys2Proof/Machine/FireOps.lean ====
section
/-!
DEFINITION. The fire scheduler's operations: outcomes and page reports (R44 to R55), plans (R169, R170), the port-line
from deadline to strobe (R175 to R185), cuts (R188, R189, R195) and the page abort (R196).
-/
namespace Sys2Proof.Machine

/-! ## Outcomes (R44) -/

/-- The outcome code of R44. -/
def Outc.code : Outc → Nat
  | .fired => 0x00 | .cutBrake => 0x01 | .cutCrit => 0x02 | .cutInhibit => 0x03
  | .voidCheck => 0x11 | .voidLate => 0x12 | .voidThermal => 0x13 | .voidCrit => 0x14 | .voidInhibit => 0x15
  | .voidFault => 0x16 | .voidRetired => 0x17 | .voidAbort => 0x18 | .voidProgram => 0x19 | .skipOverspeed => 0x20

/-- The place of an outcome's counter in the page report (R50). -/
def Outc.idx : Outc → Fin 14
  | .fired => 0 | .cutBrake => 1 | .cutCrit => 2 | .cutInhibit => 3
  | .voidCheck => 4 | .voidLate => 5 | .voidThermal => 6 | .voidCrit => 7 | .voidInhibit => 8
  | .voidFault => 9 | .voidRetired => 10 | .voidAbort => 11 | .voidProgram => 12 | .skipOverspeed => 13

/-- Whether the strobe rose: FIRED and the cuts, whose line data joins the digest (R55). -/
def Outc.strobed : Outc → Bool
  | .fired | .cutBrake | .cutCrit | .cutInhibit => true
  | _ => false

/-! ## Plans and reports -/

/-- The plan held for a page (R169). -/
def State.planOf (s : State) (page : Word) : Option Plan := (s.fsch.plans.toList.filterMap id).find? (fun q => q.page = page)

/-- The number of plans held. -/
def State.planCount (s : State) : Nat := (s.fsch.plans.toList.filterMap id).length

/-- The plan of a page removed (R170). -/
def State.planDrop (s : State) (page : Word) : State :=
  { s with fsch := { s.fsch with plans := s.fsch.plans.map (fun o => match o with
      | some q => if q.page = page then none else some q
      | none => none) } }

/-- The open report of a page (R49). -/
def State.reportOf (s : State) (page : Word) : Option Report := s.fsch.reports.find? (fun r => r.page = page)

/-- The open report of a page changed; nothing where none is open. -/
def State.modReport (s : State) (page : Word) (f : Report → Report) : State :=
  { s with fsch := { s.fsch with reports := s.fsch.reports.map (fun r => if r.page = page then f r else r) } }

/-- The ports of a 48-bit port set, in increasing order. -/
def portsOf (m : BitVec 48) : List (Fin 48) := (fins 48).filter (fun p => m.getLsbD p.val)

/-- Every port-line of the page has an outcome (R49). -/
def Report.complete (r : Report) : Bool := decide (r.resolved = r.lines * (portsOf r.portSet).length)

/-- FLAGS of R51. -/
def Report.flags (r : Report) : Nat :=
  b2n r.reprint + 2 * b2n r.runsIncomplete + 4 * b2n r.aborted + 8 * b2n r.epochRefused + 16 * b2n r.staleCal

/-- The digest of a port, zero outside the port set (R50, R54). -/
def Report.digest (r : Report) (p : Fin 48) : Dword :=
  if r.portSet.getLsbD p.val then r.crc[p] ^^^ BitVec.allOnes 64 else 0

/-- CHIP_DIGEST of R55. -/
def Report.chipDigest (r : Report) : Dword :=
  crc64 ((portsOf r.portSet).flatMap (fun p => leBytes 8 (r.digest p).toNat))

/-- Bytes 0x000 to 0x07B of a page report (R50), without REPORT_CRC; its counters saturate (R16). -/
def Report.head (r : Report) (chip last : Nat) : List Byte :=
  leBytes 4 0x56505052 ++ leBytes 2 1 ++ leBytes 2 (chip % 4096) ++ leBytes 4 r.page.toNat ++ leBytes 4 r.lines ++
  leBytes 8 (r.first.getD 0).toNat ++ leBytes 8 last ++ leBytes 8 r.portSet.toNat ++ leBytes 4 r.flags ++
  leBytes 4 r.epochs ++ r.counts.toList.flatMap (fun c => leBytes 4 (min c 0xFFFFFFFF)) ++
  leBytes 4 (min r.marks 0xFFFFFFFF) ++ leBytes 4 0 ++
  leBytes 8 r.chipDigest.toNat ++ leBytes 4 0

/-- The 512 bytes of a page report (R50). -/
def Report.bytes (r : Report) (chip : Nat) : List Byte :=
  let h := r.head chip r.last.toNat
  let d := (fins 48).flatMap (fun p => leBytes 8 (r.digest p).toNat)
  h ++ leBytes 4 (crc32c (h ++ leBytes 4 0 ++ d)).toNat ++ d

/-- PENDING of FSCH_RPT_CTRL brought up to date (R53). -/
def State.rptPending (s : State) : State := s.put FSCH_RPT_CTRL_PENDING s.fsch.held.length

/-- A page that is done with and of which the Bolter has no copy: its containers have nothing left to inspect (R276). -/
def State.boltPast (s : State) (page : Word) : State :=
  if s.bolt.plans.any (fun c => decide (c.page = page)) || s.bolt.past.contains page then s
  else { s with bolt := { s.bolt with past := s.bolt.past ++ [page] } }

/-- A complete report closes once its records are written on every port (R186): its plan is deleted, and it is held for the ring, or
discarded as a fifth (R53, R170). -/
def State.closeReport (s : State) (page : Word) : State :=
  match s.reportOf page with
  | none => s
  | some r =>
    if r.complete && (fins 48).all (fun (p : Fin 48) => !s.fsch.ports[p].pages.any (fun q => decide (q.page = page))) then
      let s := { s with fsch := { s.fsch with reports := s.fsch.reports.filter (fun q => decide (q.page ≠ page)) } }
      let s := (s.planDrop page).boltPast page
      if s.fsch.held.length < 4 then
        let h : HeldReport := { report := r, chip := s.get (MR_ID_CHIP_ID 0) }
        ({ s with fsch := { s.fsch with held := s.fsch.held ++ [h] } }).rptPending
      else (s.set1 FSCH_RPT_CTRL_LOST).raiseAt evRPT_LOST 0 0 page 0
    else s

/-! ## Runs and records (R47, R55, R186) -/

/-- A run record raised as one event (R47, R433). -/
def State.raiseRun (s : State) (p : Fin 48) (r : Run) : State :=
  s.raiseAt evRUN p (BitVec.ofNat 32 (r.count + 65536 * r.outcome.code)) r.page (BitVec.ofNat 32 r.first)

/-- The run in progress on a port closes. -/
def State.closeRun (s : State) (p : Fin 48) : State :=
  match s.fsch.ports[p].run with
  | none => s
  | some r => (s.modPort p (fun f => { f with run := none })).raiseRun p r

/-- A port-line joins the run in progress or starts another; a run of 65,535 closes (R47). -/
def State.runStep (s : State) (p : Fin 48) (page : Word) (line : Nat) (o : Outc) : State :=
  if o = .fired then s.closeRun p
  else
    let joined := match s.fsch.ports[p].run with
      | some r => if r.page = page ∧ r.outcome = o ∧ r.first + r.count = line then some { r with count := r.count + 1 } else none
      | none => none
    match joined with
    | some r =>
      let s := s.modPort p (fun f => { f with run := some r })
      if r.count = 65535 then s.closeRun p else s
    | none =>
      let s := s.closeRun p
      s.modPort p (fun f => { f with run := some { page := page, first := line, count := 1, outcome := o } })

/-- The digest bytes of a port-line (R55). -/
def digestBytes (line bpn : Nat) (o : Outc) (levels : List Nat) : List Byte :=
  leBytes 4 line ++ [BitVec.ofNat 8 o.code, BitVec.ofNat 8 bpn, 0, 0] ++
    (if o.strobed then packLevels bpn levels else [])

/-- The record of one port-line in line order: digest, run and fired-line record (R47, R55, R186). -/
def State.record (s : State) (p : Fin 48) (page : Word) (line : Nat) (o : Outc) (e : Option Entry) (tg : Option Dword) : State :=
  let levels := match e with
    | some x => x.levels
    | none => []
  let bs := digestBytes line (s.bpn p) o levels
  let s := s.modReport page (fun r => { r with crc := vset r.crc p (crc64Bytes r.crc[p] bs) })
  let s := s.runStep p page line o
  let rec_ : FiredRec := {
    port := p, page := page, line := line, outcome := o, kind := e.map (fun x => x.kind),
    segment := (e.map (fun x => x.segment)).getD 0, epoch := (e.map (fun x => x.epoch)).getD 0,
    tg := if o.strobed then tg.getD 0 else 0 }
  { s with tbDsp := s.tbDsp ++ [{ tick := s.now, word := .fired rec_ }] }

/-- The entry a mark keeps for a port-line. -/
def State.markEntry (s : State) (p : Fin 48) (page : Word) (line : Nat) : Option Entry :=
  match s.fsch.ports[p].voids.find? (fun v => decide (v.page = page ∧ v.line = line)) with
  | some v => v.entry
  | none => none

/-- `n` consecutive port-lines recorded as VOID_ABORT (R196). -/
def State.recordAborts (p : Fin 48) (page : Word) : Nat → Nat → State → State
  | 0, _, s => s
  | n + 1, line, s =>
    State.recordAborts p page n (line + 1) (s.record p page line .voidAbort (s.markEntry p page line) none)

/-! ## Resolution -/

/-- An outcome counted in the report of its page, with the TBC of the first and last outcome and REPRINT (R50, R51). -/
def State.countOutc (s : State) (page : Word) (o : Outc) (k : Nat := 1) : State :=
  if k = 0 then s
  else s.modReport page (fun r => { r with
    counts := vset r.counts o.idx (r.counts[o.idx] + k), resolved := r.resolved + k,
    first := some (r.first.getD s.tbc), last := s.tbc,
    reprint := r.reprint || decide (o ≠ .fired ∧ o ≠ .voidProgram) })

/-- The FIFO entries of a port kept where `f` says so. -/
def State.fifoKeep (s : State) (p : Fin 48) (f : Entry → Bool) : State :=
  s.modSq (sqOf p) (fun q => { q with fifo := vset q.fifo (laneOf p) (q.fifo[laneOf p].filter f) })

/-- The FIFO entries of a port changed. -/
def State.fifoMap (s : State) (p : Fin 48) (f : Entry → Entry) : State :=
  s.modSq (sqOf p) (fun q => { q with fifo := vset q.fifo (laneOf p) (q.fifo[laneOf p].map f) })

/-- The FIFO entry of a port-line. -/
def State.fifoAt (s : State) (p : Fin 48) (page : Word) (line : Nat) : Option Entry :=
  s.sqs[sqOf p].fifo[laneOf p].find? (fun e => decide (e.page = page ∧ e.line = line))

/-- The entry of a port-line frees as its line resolves, unless it is EXPIRED or is still being shifted (R114). -/
def State.freeEntry (s : State) (p : Fin 48) (page : Word) (line : Nat) : State :=
  match s.fsch.ports[p].shifting with
  | some (g, l, _) =>
    if g = page ∧ l = line then s
    else s.fifoKeep p (fun e => !decide (e.page = page ∧ e.line = line) || e.expired)
  | none => s.fifoKeep p (fun e => !decide (e.page = page ∧ e.line = line) || e.expired)

/-- The port enters NOPLAN for a page that it has reached without a plan; the event is raised once for the page, by the first
port that reaches it (R169). -/
def State.noplanCheck (s : State) (p : Fin 48) : State :=
  match s.fsch.ports[p].pages with
  | [] => s
  | q :: _ =>
    if (s.planOf q.page).isNone ∧ q.next = 0 ∧ q.abortFrom.isNone ∧ s.fsch.ports[p].noplan ≠ some q.page then
      let told := (fins 48).any (fun r => decide (s.fsch.ports[r].noplan = some q.page))
      let s := (s.modPort p (fun f => { f with noplan := some q.page })).set1 FSCH_STAT_NOPLAN
      if told then s else s.raiseAt evFSCH_NOPLAN p 0 q.page 0
    else s

/-- A page leaves a port once its lines have resolved and their records are written: its run closes, its report with the last of its
ports, and the port reaches its next page (R47, R49, R175). -/
def State.popPage (s : State) (p : Fin 48) (page : Word) : State :=
  let top := (s.fsch.ports[p].pages.find? (fun q => decide (q.page = page))).bind (fun q => q.top)
  let s := s.modPort p (fun f => { f with
    pages := f.pages.filter (fun q => decide (q.page ≠ page)),
    voids := f.voids.filter (fun v => decide (v.page ≠ page)),
    noplan := if f.noplan = some page then none else f.noplan
    last := some (page, top.getD 0) })
  let s := match s.fsch.ports[p].run with
    | some r => if r.page = page then s.closeRun p else s
    | none => s
  (s.noplanCheck p).closeReport page

/-- Tracked lines with outcomes leave the port and their records are written. -/
def State.recordLines (s : State) (p : Fin 48) (ts : List Tracked) : State :=
  let s := s.modPort p (fun f => { f with
    tracked := f.tracked.filter (fun t => !ts.any (fun u => decide (u.page = t.page ∧ u.line = t.line))) })
  ts.foldl (fun s t => s.record p t.page t.line (t.outcome.getD .voidAbort) t.entry t.tg) s

/-- The records of a port's resolved lines written in line order, page by page, up to the first line without an outcome (R180). Of an
aborted page nothing waits for an earlier page: its report closes (R196, log 94). Its lines that an abort resolved before their deadlines
are recorded last. `free` says that every earlier page has left the port. -/
def State.flushPages (p : Fin 48) : List PortPage → Bool → State → State
  | [], _, s => s
  | q :: rest, free, s =>
    let mine := s.fsch.ports[p].tracked.filter (fun t => decide (t.page = q.page))
    let done := mine.takeWhile (fun t => t.outcome.isSome)
    let all := mine.all (fun t => t.outcome.isSome)
    match q.abortFrom with
    | some f =>
      if all then
        State.flushPages p rest free ((State.recordAborts p q.page (q.lines - f) f (s.recordLines p mine)).popPage p q.page)
      else State.flushPages p rest false (if free then s.recordLines p done else s)
    | none =>
      if !free then State.flushPages p rest false s
      else if all && decide (q.lines ≤ q.next) then State.flushPages p rest true ((s.recordLines p mine).popPage p q.page)
      else State.flushPages p rest false (s.recordLines p done)

/-- The records of a port brought up to date. -/
def State.flush (s : State) (p : Fin 48) : State := State.flushPages p s.fsch.ports[p].pages true s

/-- A line of a page has an outcome on a port (R40). -/
def State.noteOutc (s : State) (p : Fin 48) (page : Word) (line : Nat) : State :=
  s.modPort p (fun f => { f with pages := f.pages.map (fun q =>
    if q.page = page then { q with top := some (max (q.top.getD 0) line) } else q) })

/-- One tracked line of a port changed. -/
def State.modTracked (s : State) (p : Fin 48) (page : Word) (line : Nat) (f : Tracked → Tracked) : State :=
  s.modPort p (fun q => { q with tracked := q.tracked.map (fun t => if t.page = page ∧ t.line = line then f t else t) })

/-- A port-line resolves (R44): counted, its entry freed, and recorded in line order, which closes its page's report after the last. -/
def State.resolve (s : State) (p : Fin 48) (t : Tracked) (o : Outc) : State :=
  let s := s.modTracked p t.page t.line (fun t => { t with outcome := some o, strobe := .none, waitVerdict := false })
  (((s.countOutc t.page o).noteOutc p t.page t.line).freeEntry p t.page t.line).flush p

/-! ## Fire position and time (R172 to R174) -/

/-- OFFSET_p of R172, sign-extended to 64 bits. -/
def State.portOffset (s : State) (p : Nat) : Dword :=
  ((s.rd (FSCH_P_OFFSET_HI p)).extractLsb' 0 16 ++ s.rd (FSCH_P_OFFSET_LO p) : BitVec 48).signExtend 64

/-- The fire time in force now of a line: the axis outputs of tick n − 6 (R173, R174); none without a plan. -/
def State.lineTime (s : State) (p : Fin 48) (page : Word) (line : Nat) : Option Dword :=
  match s.planOf page with
  | none => none
  | some q =>
    if s.now < 6 then none
    else
      fireTime (firePos q.origin (s.portOffset p) line q.pitch)
        (s.axes[finOf 4 (by decide) (s.get (FSCH_P_CFG_AX p))].at (s.now - 6))
        (sext 20 (s.get (FSCH_P_ADV_STROBE_ADV p))) s.horizon

/-- T >> 4. -/
def tickOf (t : Dword) : Nat := t.toNat / 16

/-- The next line of the port to reach its deadline, with its page: in the first page that has one left (R26, R175). -/
def State.nextLine (s : State) (p : Fin 48) : Option (Word × Nat) :=
  (s.fsch.ports[p].pages.find? (fun q => q.abortFrom.isNone && decide (q.next < q.lines))).map (fun q => (q.page, q.next))

/-! ## Deadline (R176) -/

/-- A thermal LIMIT applies to the port, or its permission is withdrawn only for one (R176, R194). -/
def State.thermalAt (s : State) (p : Fin 48) : Bool := s.flag (FSCH_P_STAT_THERMAL p) || s.hps[p].permThermal

/-- READY as the TB island knows it at this tick (R114, R116). -/
def Entry.readyAtTb (e : Entry) : Bool :=
  e.committed && e.released && e.tbKnown && e.tbReleased && !e.fbPending && !e.never && !e.bad && !e.expired

/-- The deadline of (page, line): handed over, marked THERMAL, or marked LATE; an uncommitted entry then expires and its
data is dropped (R114, R176). -/
def State.deadline (s : State) (p : Fin 48) (page : Word) (line : Nat) : State :=
  let e := s.fifoAt p page line
  let mark := s.fsch.ports[p].voids.find? (fun v => decide (v.page = page ∧ v.line = line))
  let voided := (mark.map (fun v => v.program)).getD false
  let thermal := !voided && s.thermalAt p
  let ready := match e with
    | some x => x.readyAtTb
    | none => false
  let handed := !voided && !thermal && ready
  let late := !voided && !thermal && !ready
  let entry := match mark with
    | none => e
    | some v => v.entry
  let t : Tracked := {
    page := page, line := line, thermal := thermal, late := late, handed := handed, voided := voided,
    tf := none, missed := false, guarded := false, waitVerdict := false, tg := none, strobe := .none,
    load := if handed then .waiting else .none, handTick := s.now, caughtInh := false, caughtCrit := false,
    outcome := none, entry := entry }
  let s := s.modPort p (fun f => { f with
    tracked := f.tracked ++ [t]
    pages := f.pages.map (fun q => if q.page = page then { q with next := q.next + 1 } else q)
    voids := f.voids.filter (fun v => !decide (v.page = page ∧ v.line = line)) })
  s.fifoMap p (fun x => if x.page = page ∧ x.line = line then
    (if handed then { x with handed := true }
     else if x.committed then x else { x with expired := true, levels := [], raw := none }) else x)

/-- Whether the deadline of the port's next line has come (R176). -/
def State.deadlineDue (s : State) (p : Fin 48) : Option (Word × Nat) :=
  match s.nextLine p with
  | none => none
  | some (g, l) => match s.lineTime p g l with
    | none => none
    | some t => if tickOf t ≤ s.now + s.get FSCH_TIMING_FIRE_LEAD then some (g, l) else none

/-! ## Guard entry (R180 to R182) -/

/-- Overspeed (R181): TF lies less than MINPER after the TG of the port's previous strobe. -/
def State.overspeed (s : State) (p : Fin 48) (tf : Dword) : Bool :=
  match s.fsch.ports[p].lastTg with
  | none => false
  | some g => match s.minper p with
    | none => true
    | some m => decide (tf.toNat < g.toNat + m)

/-- The supply group of a port. -/
def State.groupOf (s : State) (p : Nat) : Fin 8 := finOf 8 (by decide) (s.get (FSCH_P_CFG_GROUP p))

/-- TG of R182. A GUARD of 0 turns the guard off. -/
def State.guardedTime (s : State) (p : Fin 48) (tf : Dword) : Dword :=
  let g := s.groupOf p
  let gd := s.get (FSCH_GRP_GUARD g)
  match s.fsch.groupTg[g] with
  | none => tf
  | some l => if gd = 0 then tf else BitVec.ofNat 64 (max tf.toNat (l.toNat + 16 * gd))

/-- The strobe width of a line in ticks (R185, R203). -/
def Tracked.swTicks (t : Tracked) : Nat := nsToTicks ((t.entry.map (fun e => e.sw)).getD 0)

/-- A strobe placed at TG: the group's DELAYED and MAX_DELAY, the port's last TG and the end of the line (R177, R182). -/
def State.place (s : State) (p : Fin 48) (t : Tracked) (tf tg : Dword) : State :=
  let g := s.groupOf p
  let delay := ceilDiv (tg.toNat - tf.toNat) 16
  let s := if tf.toNat < tg.toNat then
      (s.bump (FSCH_GRP_DELAYED g)).put (FSCH_GRP_MAX_DELAY g) (max (s.get (FSCH_GRP_MAX_DELAY g)) (min delay 255))
    else s
  let s := { s with fsch := { s.fsch with groupTg := vset s.fsch.groupTg g (some tg) } }
  let s := s.modPort p (fun f => { f with lastTg := some tg, prevEnd := tg.toNat + 16 * t.swTicks })
  let s := s.wr64 (FSCH_P_TG_LO p) (FSCH_P_TG_HI p) tg
  s.modTracked p t.page t.line (fun t => { t with guarded := true, tg := some tg, strobe := .placed })

/-- The load test of R177 at guard entry, in fine steps: the data would be complete by TG − T_LSU. -/
def State.loadFits (s : State) (p : Fin 48) (t : Tracked) (tg : Dword) : Bool :=
  decide (max (16 * (t.handTick + 8)) s.fsch.ports[p].prevEnd + 16 * (s.tLoad p + s.tLsu p) ≤ tg.toNat)

/-- What guard entry decides for a line. -/
inductive GuardVerdict where
  | void (o : Outc)
  | missed
  | short
  | await
  | strobe (tg : Dword)
deriving DecidableEq, Repr

/-- The first row of R180 that applies. A permission withdrawn only for thermal LIMIT does not stop a line already handed
over (R194). -/
def State.guardRow (s : State) (p : Fin 48) (t : Tracked) (tf : Dword) : GuardVerdict :=
  let h := s.hps[p]
  let bad := match t.entry with
    | some e => e.bad
    | none => false
  let awaits := match t.entry with
    | some e => e.kind = .stream && !e.released && !e.bad && !e.never
    | none => false
  if s.flag FSCH_STAT_INHIBIT then .void .voidInhibit
  else if s.flag (FSCH_P_STAT_CRIT p) || s.flag FSCH_STAT_CRIT_ALL then .void .voidCrit
  else if s.brakeCut p || s.faultNow p || !s.hpEn p || (!s.flag (HP_STAT_PERMIT p) && !h.permThermal) then .void .voidFault
  else if s.retired p then .void .voidRetired
  else if t.thermal || (h.permThermal && !t.handed) then .void .voidThermal
  else if s.overspeed p tf then .void .skipOverspeed
  else if bad then .void .voidCheck
  else if t.voided then .void .voidProgram
  else if t.late && awaits then .await
  else if t.late then .void .voidLate
  else if t.missed then .missed
  else
    let tg := s.guardedTime p tf
    if s.loadFits p t tg then .strobe tg else .short

/-- VOID_LATE as LOAD_SHORT (R177). -/
def State.loadShort (s : State) (p : Fin 48) (t : Tracked) : State :=
  ((s.set1 (FSCH_P_STAT_LOAD_SHORT p)).bump (FSCH_P_CNT_MISS_CNT p)).resolve p t .voidLate

/-- Guard entry of a frozen line (R180). A handed-over line that raises no strobe ends here (R177). -/
def State.guardEntry (s : State) (p : Fin 48) (t : Tracked) (tf : Dword) : State :=
  let s := s.svcAtGuard p t.page t.line
  let s := s.modTracked p t.page t.line (fun t => { t with guarded := true })
  let ended := fun (s : State) => if t.handed then s.modPort p (fun f => { f with prevEnd := 16 * s.now }) else s
  match s.guardRow p t tf with
  | .strobe tg => s.place p t tf tg
  | .await => s.modTracked p t.page t.line (fun t => { t with waitVerdict := true })
  | .short => (ended s).loadShort p t
  | .missed =>
    let s := ((ended s).set1 (FSCH_P_STAT_MISSED p)).set1 FSCH_STAT_MISSED
    ((s.bump (FSCH_P_CNT_MISS_CNT p)).raiseAt evFSCH_MISSED p 0 t.page (BitVec.ofNat 32 t.line)).resolve p t .voidLate
  | .void o =>
    let s := ended s
    let s := if o = .skipOverspeed then
        ((s.bump (FSCH_P_CNT_SKIP_CNT p)).set1 (FSCH_P_STAT_SKIPPED p)).slowEvent 0 false
      else s
    s.resolve p t o

/-- The tracked line of a port that guard entry takes next: the first frozen one not yet guarded. -/
def State.guardNext (s : State) (p : Fin 48) : Option (Tracked × Dword) :=
  match s.fsch.ports[p].tracked.find? (fun t => t.outcome.isNone && !t.guarded) with
  | some t => t.tf.map (fun tf => (t, tf))
  | none => none

/-- The line of a port whose guard entry is due, at tick (TF >> 4) − 16 (R180). -/
def State.guardDue (s : State) (p : Fin 48) : Option (Tracked × Dword) :=
  match s.guardNext p with
  | some (t, tf) => if tickOf tf ≤ s.now + 16 then some (t, tf) else none
  | none => none

/-- Whether no other port has a due guard entry before this one: increasing TF, then port number (R180). -/
def State.guardFirst (s : State) (p : Fin 48) (tf : Dword) : Bool :=
  (fins 48).all (fun q => match s.guardDue q with
    | none => true
    | some (_, u) => decide (tf.toNat < u.toNat ∨ (tf.toNat = u.toNat ∧ p.val ≤ q.val)))

/-- The freeze of a tracked line (R178); a missed line goes through guard entry at once (R179). -/
def State.freeze (s : State) (p : Fin 48) (t : Tracked) (tf : Dword) : State :=
  let missed := decide (tickOf tf < s.now + 16)
  let t := { t with tf := some tf, missed := missed }
  let s := s.modTracked p t.page t.line (fun _ => t)
  if missed then s.guardEntry p t tf else s

/-- The line of a port whose freeze is due (R178). -/
def State.freezeDue (s : State) (p : Fin 48) : Option (Tracked × Dword) :=
  match s.fsch.ports[p].tracked.find? (fun t => t.outcome.isNone && t.tf.isNone) with
  | none => none
  | some t => match s.lineTime p t.page t.line with
    | none => none
    | some tf => if tickOf tf ≤ s.now + s.get FSCH_TIMING_CUTOFF then some (t, tf) else none

/-! ## Load and strobe (R177, R184, R185) -/

/-- The handed-over line whose shift may start now: 8 ticks after its hand-over, when every earlier handed-over line of the port has ended
(R177) and the port's outputs are driven (R448). A retired port starts only the burst of a strobe placed before (R222). -/
def State.loadNext (s : State) (p : Fin 48) : Option Tracked :=
  let f := s.fsch.ports[p]
  match f.tracked.find? (fun t => t.outcome.isNone && decide (t.load = .waiting)) with
  | none => none
  | some t =>
    let before := f.tracked.takeWhile (fun u => !decide (u.page = t.page ∧ u.line = t.line))
    let busy := before.any (fun u => u.outcome.isNone && u.handed)
    if t.handTick + 8 ≤ s.now ∧ f.prevEnd ≤ 16 * s.now ∧ !busy ∧ s.hpDriven p ∧ (!s.retired p || decide (t.strobe = .placed)) then
      some t
    else none

/-- The bits the formatter shifts for an entry on its port: R125 with the waveform select word of R202. -/
def State.entryStreams (s : State) (p : Fin 48) (e : Entry) : List (List Bool) :=
  withWsel (s.wselW p) e.wsel
    (shiftStreams (s.nomWord p) (s.nozzles p) e.bpn (s.get (HP_GEOM_PAIRS p)) e.levels e.raw)

/-- The shift starts (R177); an entry whose shift it replaces frees. -/
def State.loadStart (s : State) (p : Fin 48) (t : Tracked) : State :=
  let old := s.fsch.ports[p].shifting
  let s := s.modPort p (fun f => { f with shifting := some (t.page, t.line, s.now) })
  let s := match old with
    | some (g, l, _) => s.freeEntry p g l
    | none => s
  let s := s.modTracked p t.page t.line (fun t => { t with load := .shifting })
  match t.entry with
  | some e => s.startBurst p (s.entryStreams p e)
  | none => s

/-- The shift ends: the entry returns to free (R114, R177). A load that ends after TG − T_LSU counts as incomplete: its line
does not strobe (R177). -/
def State.loadComplete (s : State) (p : Fin 48) (page : Word) (line : Nat) : State :=
  let lsu := s.tLsu p
  let inTime := fun (t : Tracked) => match t.tg with
    | some g => decide (s.now + lsu ≤ tickOf g)
    | none => true
  let s := s.modPort p (fun f => { f with shifting := none })
  let s := s.modTracked p page line (fun t => if inTime t then { t with load := .done } else t)
  s.freeEntry p page line

/-- A line not strobed after guard entry: the first cause of R45 that applies, or LOAD_SHORT (R177, R180). -/
def State.notStrobed (s : State) (p : Fin 48) (t : Tracked) : State :=
  if t.caughtInh then s.resolve p t .voidInhibit
  else if t.caughtCrit then s.resolve p t .voidCrit
  else if s.brakeCut p then s.resolve p t .voidFault
  else s.loadShort p t

/-- The placed strobe of a port, first in line order. -/
def State.placedLine (s : State) (p : Fin 48) : Option Tracked :=
  s.fsch.ports[p].tracked.find? (fun t => decide (t.strobe = .placed))

/-- The active strobe of a port. -/
def State.highLine (s : State) (p : Fin 48) : Option Tracked :=
  s.fsch.ports[p].tracked.find? (fun t => decide (t.strobe = .high))

/-- The strobe rises at TG (R184), unless INHIBIT_N or CRIT caught it or its load is incomplete. -/
def State.strobeRise (s : State) (p : Fin 48) (t : Tracked) : State :=
  if t.caughtInh || t.caughtCrit || s.brakeCut p || decide (t.load ≠ .done) then s.notStrobed p t
  else
    let s := s.modTracked p t.page t.line (fun t => { t with strobe := .high })
    let s := s.modHp p (fun h => { h with lt := some (s.strobeTap p ((t.tg.getD 0).toNat % 16)) })
    let s := if s.flag (FSCH_P_STAT_STALE p) then s.modReport t.page (fun r => { r with staleCal := true }) else s
    s.tollStrobe p ((t.entry.map (fun e => e.levels)).getD [])

/-- The tick at which the strobe of a line falls (R185). -/
def Tracked.fallTick (t : Tracked) : Nat := tickOf (t.tg.getD 0) + t.swTicks

/-- The strobe of a port is inactive from now on. -/
def State.ltOff (s : State) (p : Fin 48) : State := s.modHp p (fun h => { h with lt := none })

/-- The strobe falls by itself: FIRED. The line ends at that fall (R177, R185). -/
def State.strobeFall (s : State) (p : Fin 48) (t : Tracked) : State :=
  ((s.ltOff p).modPort p (fun f => { f with prevEnd := max f.prevEnd (16 * s.now) })).resolve p t .fired

/-- The rank of a cut among those of one tick: CUT_CRIT, then CUT_BRAKE, then CUT_INHIBIT (R45). -/
def Outc.cutRank : Outc → Nat
  | .cutCrit => 2 | .cutBrake => 1 | _ => 0

/-- The outcome of a strobe that a cut ends in this tick, with those that have cut it already (R45). -/
def Strobe.onCut (b : Strobe) (o : Outc) : Strobe :=
  match b with
  | .high => .cut o
  | .cut o' => .cut (if o'.cutRank < o.cutRank then o else o')
  | b => b

/-- A strobe that is active, or that a cut has ended in this tick. -/
def Strobe.live : Strobe → Bool
  | .high => true
  | .cut _ => true
  | _ => false

/-- The line of a port whose strobe a cut of this tick acts on. -/
def State.liveLine (s : State) (p : Fin 48) : Option Tracked := s.fsch.ports[p].tracked.find? (fun t => t.strobe.live)

/-- A cut forces the strobe of a port inactive: the line ends now (R177). Its outcome is fixed with the tick (R45). -/
def State.cutLine (s : State) (p : Fin 48) (t : Tracked) (o : Outc) : State :=
  ((s.ltOff p).modPort p (fun f => { f with prevEnd := 16 * s.now })).modTracked p t.page t.line (fun t => { t with strobe := t.strobe.onCut o })

/-- The cuts of a tick have met: the line resolves with the first of them in the order of R45. -/
def State.settleCut (s : State) (p : Fin 48) : State :=
  match s.fsch.ports[p].tracked.find? (fun t => match t.strobe with
      | .cut _ => true
      | _ => false) with
  | some t => match t.strobe with
    | .cut o => s.resolve p t o
    | _ => s
  | none => s

/-- The end of a tick for the cuts of every port. -/
def State.settleCuts (s : State) : State := (fins 48).foldl (fun s p => s.settleCut p) s

/-! ## INHIBIT_N, CRIT and the Brake (R187 to R189, R195) -/

/-- INHIBIT_N asserted, as synchronised: active strobes are cut and placed ones are caught (R188). -/
def State.inhibitPort (s : State) (p : Fin 48) : State :=
  let s := match s.liveLine p with
    | some t => s.cutLine p t .cutInhibit
    | none => s
  s.modPort p (fun f => { f with tracked := f.tracked.map (fun t =>
    if t.strobe = .placed then { t with caughtInh := true } else t) })

/-- A CRIT inhibit comes into force for a port: CUT_CRIT with CRIT_CUT, and placed strobes are caught (R195). -/
def State.critPort (s : State) (p : Fin 48) : State :=
  let s := match s.liveLine p with
    | some t =>
      (s.raiseAt evCRIT_CUT p (value1 ((16 * s.now - (t.tg.getD 0).toNat) / 16)) t.page (BitVec.ofNat 32 t.line)).cutLine p t .cutCrit
    | none => s
  s.modPort p (fun f => { f with tracked := f.tracked.map (fun t =>
    if t.strobe = .placed then { t with caughtCrit := true } else t) })

/-- A head CRIT inhibits its port (R195). -/
def State.critHead (s : State) (p : Fin 48) : State :=
  if s.flag (FSCH_P_STAT_CRIT p) then s else (s.set1 (FSCH_P_STAT_CRIT p)).critPort p

/-- A die CRIT inhibits every port (R195). -/
def State.critDie (s : State) : State :=
  if s.flag FSCH_STAT_CRIT_ALL then s
  else (fins 48).foldl (fun s p => s.critPort p) (s.set1 FSCH_STAT_CRIT_ALL)

/-- A strobe may have been active for LIMIT cycles of the Brake's oscillator, whose period is at least 1.9 ns; the Brake goes on counting
where the time base has stopped (R189). A LIMIT of 0 lets none rise (R419). -/
def State.brakeDue (s : State) (p : Fin 48) (t : Tracked) : Bool :=
  let n := s.get (BRAKE_LIM_LIMIT p)
  decide (n ≠ 0) && (!s.tbRuns || decide (608 * n ≤ 25 * (16 * (s.now + 1) - (t.tg.getD 0).toNat)))

/-- The Brake forces the strobe inactive: BRAKE_STAT, BRAKE_CUT, permission withdrawn, CUT_BRAKE (R189). -/
def State.brake (s : State) (p : Fin 48) (t : Tracked) : State :=
  let w := maskWord BRAKE_STAT0 BRAKE_STAT1 p
  let s := (s.putBit w.1 w.2 true).raiseAt evBRAKE_CUT p 0 t.page (BitVec.ofNat 32 t.line)
  (s.withdraw p false).cutLine p t .cutBrake

/-! ## Verdicts and crossing words -/

/-- Whether an entry is of a segment whose verdict it awaits. -/
def Entry.awaits (e : Entry) (page : Word) (segment : Nat) : Bool :=
  decide (e.kind = .stream ∧ e.page = page ∧ e.segment = segment) && !e.released && !e.bad && !e.never

/-- An entry after its segment's verdict: released on PASS, BAD on BAD (R114), and neither ever when the container is
abandoned (R252). -/
def Entry.verdict (e : Entry) (v : Option Verdict) : Entry :=
  match v with
  | some .pass => { e with released := true }
  | some (.bad _) => { e with bad := true }
  | none => { e with never := true }

/-- The verdict applied to an entry that awaits it. -/
def Entry.onVerdict (e : Entry) (page : Word) (segment : Nat) (v : Option Verdict) : Entry :=
  if e.awaits page segment then e.verdict v else e

/-- The verdict of a segment, or its absence, reaches the entries, marks and tracked lines of a port; lines that wait for it
after guard entry resolve VOID_CHECK on BAD and VOID_LATE otherwise (R114, R180, R252). -/
def State.verdictPort (s : State) (p : Fin 48) (page : Word) (segment : Nat) (v : Option Verdict) : State :=
  let wait := s.fsch.ports[p].tracked.filter (fun t => t.waitVerdict && (match t.entry with
    | some e => e.awaits page segment
    | none => false))
  let s := s.fifoMap p (fun e => e.onVerdict page segment v)
  let s := s.modPort p (fun f => { f with
    voids := f.voids.map (fun m => { m with entry := m.entry.map (fun e => e.onVerdict page segment v) })
    tracked := f.tracked.map (fun t => { t with entry := t.entry.map (fun e => e.onVerdict page segment v) }) })
  let o : Outc := match v with
    | some (.bad _) => .voidCheck
    | _ => .voidLate
  wait.foldl (fun s t => s.resolve p t o) s

/-- A COMMIT word reaches the TB island (R116). -/
def State.tbCommit (s : State) (p : Fin 48) (page : Word) (line : Nat) : State :=
  s.fifoMap p (fun e => if e.page = page ∧ e.line = line then { e with tbKnown := true } else e)

/-- The mark of a voided or discarded line reaches the TB island; after the line's deadline it changes nothing (R116,
R117). A mark of the program replaces one of ENDPG. -/
def State.tbVoid (s : State) (p : Fin 48) (m : VoidMark) : State :=
  let open_ := s.fsch.ports[p].pages.any (fun q => decide (q.page = m.page ∧ q.next ≤ m.line ∧ m.line < q.lines) && q.abortFrom.isNone)
  if open_ then s.modPort p (fun f => { f with voids := m :: f.voids }) else s

/-- A release word reaches the TB island: the segment's entries of every port of the sequencer (R114). -/
def State.tbRelease (s : State) (k : Fin 12) (page : Word) (segment : Nat) : State :=
  (fins 4).foldl (fun s j => s.fifoMap (portOf k j) (fun e =>
    if e.kind = .stream ∧ e.page = page ∧ e.segment = segment ∧ e.released then { e with tbReleased := true } else e)) s

/-! ## Pages and abort (R49, R196) -/

/-- A page opened with its length on a set of ports: the report's port set grows and each port takes the page (R49, R103). A port in the
port set already, which holds the page or has finished it, takes it once (R44). -/
def State.openPage (s : State) (page : Word) (lines : Nat) (m : BitVec 48) : State :=
  let had : BitVec 48 := ((s.reportOf page).map (fun r => r.portSet)).getD 0
  let s := match s.reportOf page with
    | some _ => s.modReport page (fun r => { r with portSet := r.portSet ||| m })
    | none =>
      let r : Report := {
        page := page, serial := s.fsch.serial, lines := lines, portSet := m, first := none, last := 0, resolved := 0, reprint := false,
        runsIncomplete := false, aborted := false, epochRefused := false, staleCal := false, epochs := 0,
        counts := Vector.replicate 14 0, marks := 0, crc := Vector.replicate 48 (BitVec.allOnes 64) }
      { s with fsch := { s.fsch with reports := s.fsch.reports ++ [r], serial := s.fsch.serial + 1 } }
  (portsOf m).foldl (fun s p =>
    if had.getLsbD p.val || s.fsch.ports[p].pages.any (fun q => decide (q.page = page)) then s
    else
      let s := s.modPort p (fun f => { f with pages := f.pages ++ [{ page := page, lines := lines, next := 0, abortFrom := none, top := none }] })
      let s := s.modHp p (fun h => { h with svc := h.svc.map (fun v => if v.page = page then { v with seen := true } else v) })
      s.noplanCheck p) s

/-- The entries of a page from a line on kept as marks, for their records (R270). -/
def State.keepMarks (s : State) (p : Fin 48) (page : Word) (line : Nat) : State :=
  let es := s.sqs[sqOf p].fifo[laneOf p].filter (fun e => decide (e.page = page ∧ line ≤ e.line))
  s.modPort p (fun f => { f with voids := es.map (fun e => { page := page, line := e.line, program := false, entry := some e }) ++ f.voids })

/-- The unresolved port-lines of an aborted page on one port resolve as VOID_ABORT; a strobe that has risen keeps its outcome (R196). A
page that an abort has resolved already stays as it is. -/
def State.abortPort (s : State) (p : Fin 48) (page : Word) : State :=
  match s.fsch.ports[p].pages.find? (fun q => decide (q.page = page)) with
  | none => s
  | some q =>
    if q.abortFrom.isSome then s
    else
      let gone := s.fsch.ports[p].tracked.filter (fun t => decide (t.page = page) && !t.strobe.live && t.outcome.isNone)
      let s := gone.foldl (fun s t =>
        ((s.modTracked p t.page t.line (fun t => { t with outcome := some .voidAbort, strobe := .none, waitVerdict := false })).countOutc
          page .voidAbort).freeEntry p t.page t.line) s
      let s := (s.countOutc page .voidAbort (q.lines - q.next)).noteOutc p page (q.lines - 1)
      let s := s.keepMarks p page q.next
      let s := s.fifoKeep p (fun e => !decide (e.page = page) || (match s.fsch.ports[p].shifting with
        | some (g, l, _) => decide (g = page ∧ l = e.line)
        | none => false))
      (s.modPort p (fun f => { f with pages := f.pages.map (fun r => if r.page = page then { r with abortFrom := some r.next } else r) })).flush p

/-- The scheduler's side of a page abort (R196). -/
def State.abortPage (s : State) (page : Word) : State :=
  match s.reportOf page with
  | none => s.set1 FSCH_STAT_ABORT_REFUSED
  | some r =>
    let s := s.modReport page (fun r => { r with aborted := true })
    (portsOf r.portSet).foldl (fun s p => s.abortPort p page) s

/-! ## Plan commands (R170) -/

/-- The result of a plan command; anything but OK sets PLAN_REFUSED. -/
def State.planRes (s : State) (res : Nat) : State :=
  let s := s.put FSCH_PLAN_RES_RESULT res
  if res = 0 then s else s.set1 FSCH_STAT_PLAN_REFUSED

/-- The Bolter, while it runs, takes a copy of an accepted plan, or sets PLAN_FULL with 64 copies in use (R258). The plan of a page that
is open already gives its length and place at once. -/
def State.planCopied (s : State) (q : Plan) : State :=
  let s := { s with bolt := { s.bolt with past := s.bolt.past.filter (fun p => decide (p ≠ q.page)) } }
  if s.flag BOLT_CTRL_EN then
    if s.bolt.plans.length < 64 then
      let r := s.reportOf q.page
      let c : PlanCopy := {
        page := q.page, origin := q.origin, pitch := q.pitch, lines := r.map (fun r => r.lines), serial := r.map (fun r => r.serial),
        seen := Vector.replicate 2 [], lost := Vector.replicate 2 [], epochs := (r.map (fun r => r.epochs)).getD 0 }
      { s with bolt := { s.bolt with plans := s.bolt.plans ++ [c] } }
    else s.set1 BOLT_STAT_PLAN_FULL
  else s

/-- ADD: refused FULL, DUP or PITCH0. -/
def State.planAdd (s : State) : State :=
  let q : Plan := { page := s.rd FSCH_PLAN_ID, origin := s.rd64 FSCH_PLAN_ORIGIN_LO FSCH_PLAN_ORIGIN_HI, pitch := s.rd FSCH_PLAN_PITCH }
  match s.fsch.plans.toList.findIdx? (fun o => o.isNone) with
  | none => s.planRes 1
  | some i =>
    if (s.planOf q.page).isSome then s.planRes 2
    else if q.pitch = 0 then s.planRes 3
    else
      let s := { s with fsch := { s.fsch with plans := vset s.fsch.plans (finOf 16 (by decide) i) (some q) } }
      (s.planCopied q).planRes 0

/-- DELETE: refused IN_USE or NONE. -/
def State.planDelete (s : State) : State :=
  let page := s.rd FSCH_PLAN_ID
  if (s.planOf page).isNone then s.planRes 5
  else if (s.reportOf page).isSome then s.planRes 4
  else (s.planDrop page).planRes 0

/-- READ: the entry copied into the plan registers, or NONE. -/
def State.planRead (s : State) (i : Fin 16) : State :=
  match s.fsch.plans[i] with
  | none => s.planRes 5
  | some q =>
    (((s.wr FSCH_PLAN_ID q.page).wr64 FSCH_PLAN_ORIGIN_LO FSCH_PLAN_ORIGIN_HI q.origin).wr FSCH_PLAN_PITCH q.pitch).planRes 0

/-- FSCH_PLAN_CMD (R170). -/
def State.planCmd (s : State) (v : Word) : State :=
  match field v 1 0 with
  | 1 => s.planAdd
  | 2 => s.planDelete
  | 3 => s.planRead (finOf 16 (by decide) (field v 19 16))
  | _ => s

/-! ## Record rings (R52, R53, R277): FSCH_RPT_* and BOLT_RPT_* have one layout -/

/-- The first register of the page-report ring. -/
abbrev rptFsch : Nat := FSCH_RPT_BASE_LO

/-- The first register of the Bolter's record ring. -/
abbrev rptBolt : Nat := BOLT_RPT_BASE_LO

/-- The number of entries of the ring whose registers start at `b`. -/
def State.rptEntries (s : State) (b : Nat) : Nat := 8 * 2 ^ s.get ⟨b + 8, 2, 0⟩

/-- The ring's base address, aligned to its entries' size. -/
def State.rptBase (s : State) (b size : Nat) : Nat := (s.rd64 b (b + 4)).toNat % 2 ^ 40 / size * size

/-- The ring is full (R53). -/
def State.rptFull (s : State) (b : Nat) : Bool :=
  decide ((s.get ⟨b + 12, 31, 16⟩ + 65536 - s.get ⟨b + 12, 15, 0⟩) % 65536 = s.rptEntries b)

/-- Whether the ring takes a record now. -/
def State.rptOpen (s : State) (b : Nat) : Bool := s.flag ⟨b + 8, 31, 31⟩ && !s.rptFull b

/-- Where the next record goes. -/
def State.rptSlot (s : State) (b size : Nat) : Nat :=
  s.rptBase b size + size * (s.get ⟨b + 12, 31, 16⟩ % s.rptEntries b)

/-- The record is in the ring: WIDX advances. -/
def State.rptAdvance (s : State) (b : Nat) : State := s.put ⟨b + 12, 31, 16⟩ ((s.get ⟨b + 12, 31, 16⟩ + 1) % 65536)

/-- A bus error of a record write: BUS_ERR set, EN cleared (R53). -/
def State.rptBusErr (s : State) (b : Nat) : State := (s.set1 ⟨b + 8, 8, 8⟩).clr ⟨b + 8, 31, 31⟩

/-- A write to the ring's control register (R53): one that would change SIZE while EN = 1 gets ERR_UNIT and has no effect;
setting EN resets the indices. -/
def State.rptCtrl (s : State) (b : Nat) (v : Word) : Resp × State :=
  let old := s.rd (b + 8)
  if old.getLsbD 31 ∧ field v 2 0 ≠ field old 2 0 then (.errUnit, s)
  else
    let s := s.wr (b + 8) ((old &&& 0x00070000#32) ||| (v &&& 0x80000007#32) ||| (old &&& ~~~v &&& 0x00000300#32))
    (.ok, if v.getLsbD 31 && !old.getLsbD 31 then s.wr (b + 12) 0 else s)

/-! ## Views -/

/-- FSCH_Pn_STAT.STATE of the oldest unresolved line: IDLE, NOPLAN, NO_EST, ESTIMATING, FROZEN or STROBE. -/
def State.fschState (s : State) (p : Fin 48) : Nat :=
  match s.fsch.ports[p].oldest with
  | none => 0
  | some (g, l) =>
    match s.fsch.ports[p].tracked.find? (fun t => decide (t.page = g ∧ t.line = l)) with
    | some t =>
      if t.strobe = .high then 5
      else if t.tf.isSome then 4
      else if (s.lineTime p g l).isSome then 3 else 2
    | none =>
      if (s.planOf g).isNone then 1 else if (s.lineTime p g l).isSome then 3 else 2

end Sys2Proof.Machine
end

