-- ==== Sys2Proof/Machine/CorrOps.lean ====
section
/-!
DEFINITION. Correction sets: entries and PRN (R278 to R281), banks and epochs (R282 to R284), and the corrections of the
line builder (R127, R128).
-/
namespace Sys2Proof.Machine

/-! ## Entries (R278 to R281) -/

/-- What an entry that nothing has written reads as (log 4). -/
def zeroWord : Nat → Word := fun _ => 0

/-- nozzle_number(p, i) of R278. -/
def State.nozzleNumber (s : State) (p i : Nat) : Nat := (s.get (CS_PBASE_PBASE p) + i) % 131072

/-- The entry of a nozzle of a port in a set. -/
def State.entryOf (s : State) (c : CorrSet) (p i : Nat) : Word := c.entries.get zeroWord (s.nozzleNumber p i)

/-- The twin that an entry of nozzle i of port p names: its lane and its nozzle, where nq gives the nozzles of a lane
(R279). -/
def twinOf (e : Word) (lane i : Nat) (nq : Nat → Nat) : Option (Nat × Nat) :=
  let q := lane ^^^ field e 26 25
  let t : Int := (i : Int) + sext 13 (field e 24 12)
  if 0 ≤ t ∧ t < nq q ∧ ¬(q = lane ∧ t = i) then some (q, t.toNat) else none

/-- mix of R281. -/
def mix32 (h : Word) : Word :=
  let h := (h ^^^ (h >>> 16)) * 0x2C1B3C6D#32
  let h := (h ^^^ (h >>> 12)) * 0x297A2D39#32
  h ^^^ (h >>> 15)

/-- PRN of R281. -/
def prn (key page line n : Word) : Word := mix32 (mix32 (mix32 (key ^^^ page ^^^ 0x7E3D4A91#32) ^^^ line) ^^^ n)

/-- BOOST[k][a][b] of R280. -/
def boostOf (t : Dword) (a b : Nat) : Nat := t.toNat / 2 ^ (4 * (4 * a + b)) % 16

/-! ## The corrections of a line (R127, R128) -/

/-- A port in a build: its lane, head port, nozzles, bits per nozzle, whether it is retired for this line, and levels. -/
structure BuildPort where
  lane : Nat
  port : Nat
  n : Nat
  bpn : Nat
  retired : Bool
  v : List Nat
deriving DecidableEq, Repr

/-- The port of a lane in a build. -/
def laneIn (bs : List BuildPort) (lane : Nat) : Option BuildPort := bs.find? (fun b => b.lane = lane)

/-- The twin of a nozzle for which condition 1 of R128 holds, with whether condition 2 holds too. -/
def State.twinAt (s : State) (c : CorrSet) (bs : List BuildPort) (b : BuildPort) (nq : Nat → Nat) (i : Nat) :
    Option (Nat × Nat × Bool) :=
  let e := s.entryOf c b.port i
  match twinOf e b.lane i nq with
  | none => none
  | some (q, t) =>
    if e.getLsbD 27 || b.retired then
      some (q, t, match laneIn bs q with
        | some x => decide (x.bpn = b.bpn)
        | none => false)
    else none

/-- The sources of a port: nozzle with its twin, where substitution is performed. -/
def State.twinSources (s : State) (c : CorrSet) (bs : List BuildPort) (nq : Nat → Nat) (b : BuildPort) : List (Nat × Nat × Nat) :=
  (List.range b.n).filterMap (fun i => match s.twinAt c bs b nq i with
    | some (q, t, true) => some (i, q, t)
    | _ => none)

/-- Substitutions skipped under R128 on a port. -/
def State.twinSkipped (s : State) (c : CorrSet) (bs : List BuildPort) (nq : Nat → Nat) (b : BuildPort) : Nat :=
  ((List.range b.n).filter (fun i => match s.twinAt c bs b nq i with
    | some (_, _, false) => true
    | _ => false)).length

/-- A level of a port raised to at least `x`. -/
def raiseLevel (outs : List (Nat × List Nat)) (lane t x : Nat) : List (Nat × List Nat) :=
  outs.map (fun o => if o.1 = lane then (o.1, o.2.set t (max (o.2.getD t 0) x)) else o)

/-- Step 1 of R127: twin substitution in two passes; the second component counts the drops lost. -/
def State.twinStep (s : State) (c : CorrSet) (bs : List BuildPort) (nq : Nat → Nat) : List (Nat × List Nat) × Nat :=
  let srcs := bs.map (fun b => (b, s.twinSources c bs nq b))
  let isSrc := fun (lane i : Nat) => srcs.any (fun e => decide (e.1.lane = lane) && e.2.any (fun x => decide (x.1 = i)))
  let cleared := srcs.map (fun e => (e.1.lane, e.1.v.mapIdx (fun i l => if e.2.any (fun x => decide (x.1 = i)) then 0 else l)))
  srcs.foldl (fun acc e => e.2.foldl (fun acc x =>
    let l := e.1.v.getD x.1 0
    if isSrc x.2.1 x.2.2 then (acc.1, if l = 0 then acc.2 else acc.2 + 1)
    else
      let maxq := match laneIn bs x.2.1 with
        | some q => 2 ^ q.bpn - 1
        | none => 0
      (raiseLevel acc.1 x.2.1 x.2.2 (min l maxq), acc.2)) acc) (cleared, 0)

/-- Step 2 of R127 on one port with bpn at most 2: boost around nozzles with boost enable. -/
def State.boostStep (s : State) (c : CorrSet) (table : Dword) (b : BuildPort) (srcs : List Nat) (b0 : List Nat) : List Nat :=
  let maxl := 2 ^ b.bpn - 1
  let en := fun (i : Nat) => decide (i < b.n) && (s.entryOf c b.port i).getLsbD 28
  let act := fun (i : Nat) => en i && !srcs.contains i
  let from_ := fun (i j : Nat) => if act i then min (boostOf table (b0.getD j 0) (b0.getD i 0)) maxl else 0
  b0.mapIdx (fun j l =>
    if act j then 0
    else max l (max (if j = 0 then 0 else from_ (j - 1) j) (if j + 1 < b.n then from_ (j + 1) j else 0)))

/-- Step 3 of R127 on one port: trim by keyed dither. -/
def State.trimStep (s : State) (c : CorrSet) (page line : Word) (b : BuildPort) (out : List Nat) : List Nat :=
  let maxl := 2 ^ b.bpn - 1
  out.mapIdx (fun i l =>
    if l = 0 then 0
    else
      let tr := sext 8 (field (s.entryOf c b.port i) 7 0)
      let r : Int := ((prn c.key page line (BitVec.ofNat 32 (s.nozzleNumber b.port i))).toNat % 256 : Nat)
      if tr < 0 ∧ r < -tr then l - 1
      else if 0 < tr ∧ r < tr ∧ l < maxl then l + 1
      else l)

/-- The levels each head receives for one line of a build on sequencer k (R127), with the drops lost and the substitutions
skipped. PATT lines take no correction (R113). -/
def State.correctLine (s : State) (k : Fin 12) (c : CorrSet) (patt : Bool) (page line : Word) (bs : List BuildPort) :
    List (Nat × List Nat) × Nat × Nat :=
  if patt then (bs.map (fun b => (b.lane, b.v)), 0, 0)
  else
    let nq := fun lane => match laneIn bs lane with
      | some b => b.n
      | none => s.nozzles (4 * k.val + lane)
    let t := s.twinStep c bs nq
    let skipped := (bs.map (s.twinSkipped c bs nq)).sum
    let outs := bs.map (fun b =>
      let o := ((t.1.find? (fun x => x.1 = b.lane)).map (fun x => x.2)).getD []
      let srcs := (s.twinSources c bs nq b).map (fun x => x.1)
      let o := if b.bpn ≤ 2 then s.boostStep c c.boost[k] b srcs o else o
      (b.lane, s.trimStep c page line b o))
    (outs, t.2, skipped)

/-! ## Page order and epochs (R283, R284) -/

/-- Whether the line (a, l) stands at or after (b, m) in page order; pages by their order of opening. -/
def lineGe (a l b m : Nat) : Bool := decide (b < a ∨ (b = a ∧ m ≤ l))

/-- The place of an open page in page order. -/
def State.pageSerial (s : State) (page : Word) : Nat := ((s.reportOf page).map (fun r => r.serial)).getD s.fsch.serial

/-- The newest commit whose epoch line stands at or before a line. -/
def State.epochRec (s : State) (serial line : Nat) : Option EpochRec :=
  s.corr.log.find? (fun e => lineGe serial line e.serial e.line)

/-- The epoch in force for a line (R121, R283): that of the newest commit at or before it, else the one before the oldest
commit logged. -/
def State.epochAt (s : State) (serial line : Nat) : Word :=
  match s.epochRec serial line with
  | some e => e.epoch
  | none => match s.corr.log.getLast? with
    | some e => e.epoch - 1
    | none => 0

/-- The set of an epoch: the active one, or the one held in the shadow bank after the last commit; none once released
(R282). -/
def State.setOf (s : State) (epoch : Word) : Option CorrSet :=
  if epoch = s.rd CS_EPOCH then some s.corr.active
  else if s.get CS_STAT_SHADOW = 5 ∧ epoch + 1 = s.rd CS_EPOCH then some s.corr.shadow
  else none

/-- The set in force for a line (R127, R283). -/
def State.setAt (s : State) (serial line : Nat) : CorrSet := (s.setOf (s.epochAt serial line)).getD s.corr.active

/-- A port-line of (serial, line) is built: the farthest line built in page order (R283). -/
def State.noteBuilt (s : State) (serial line : Nat) : State :=
  let new := match s.corr.maxBuilt with
    | none => (serial, line)
    | some (a, l) => if lineGe serial line a l then (serial, line) else (a, l)
  { s with corr := { s.corr with maxBuilt := some new } }

/-! ## Commands of the store (R282, R283, R287) -/

/-- SHADOW of CS_STAT. -/
abbrev shFREE : Nat := 0
abbrev shCOPYING : Nat := 1
abbrev shFW : Nat := 2
abbrev shBOLTER : Nat := 3
abbrev shREADY : Nat := 4
abbrev shHELD : Nat := 5

/-- The shadow's state. -/
def State.shadow (s : State) : Nat := s.get CS_STAT_SHADOW

/-- The result of a command: 0 OK, 1 EPOCH_LATE, 2 NO_PAGE, 3 STATE. -/
def State.csResult (s : State) (r : Nat) : State := s.put CS_STAT_RESULT r

/-- BOLT_STAT.PROP follows the shadow: BUILDING while a pass copies or writes, READY with a proposal. -/
def State.setShadow (s : State) (v : Nat) : State :=
  let s := s.put CS_STAT_SHADOW v
  s.put BOLT_STAT_PROP (if v = shREADY then 2 else if v = shBOLTER ∨ (v = shCOPYING ∧ s.corr.byBolter) then 1 else 0)

/-- CLAIM: accepted only in FREE. -/
def State.csClaim (s : State) : State :=
  if s.shadow = shFREE then
    (({ s with corr := { s.corr with byBolter := false } } : State).setShadow shCOPYING).csResult 0
  else s.csResult 3

/-- The copy of the active set, with key and boost tables, is complete. -/
def State.csCopyDone (s : State) : State :=
  if s.shadow = shCOPYING then
    let s := { s with corr := { s.corr with shadow := s.corr.active } }
    s.setShadow (if s.corr.byBolter then shBOLTER else shFW)
  else s

/-- DISCARD: FW or READY to FREE. -/
def State.csDiscard (s : State) : State :=
  if s.shadow = shFW ∨ s.shadow = shREADY then (s.setShadow shFREE).csResult 0 else s.csResult 3

/-- The shadow set becomes active at (page, line): epoch, log, EPOCHS of the page's report; the old set is held (R283). -/
def State.csAccept (s : State) (page : Word) (line : Nat) : State :=
  let e := s.rd CS_EPOCH + 1
  let old := s.corr.active
  let new := s.corr.shadow
  let r : EpochRec := { epoch := e, page := page, serial := s.pageSerial page, line := line, key := new.key }
  let s := { s with corr := { s.corr with active := new, shadow := old, log := (r :: s.corr.log).take 16 } }
  let s := (s.wr CS_EPOCH e).setShadow shHELD
  let s := { s with bolt := { s.bolt with plans := s.bolt.plans.map (fun (c : PlanCopy) =>
    if c.page = page then { c with epochs := c.epochs + 1 } else c) } }
  s.modReport page (fun q => { q with epochs := q.epochs + 1 })

/-- COMMIT at (G, E) (R283). -/
def State.csCommit (s : State) : State :=
  let g := s.rd CS_EP_PAGE
  let l := (s.rd CS_EP_LINE).toNat
  if ¬(s.shadow = shFW ∨ s.shadow = shREADY) then s.csResult 3
  else match s.reportOf g with
    | none => s.csResult 2
    | some r =>
      let late := match s.corr.maxBuilt with
        | none => false
        | some (a, b) => lineGe a b r.serial l
      if late then
        let s := ((s.csResult 1).set1 CS_STAT_EPOCH_LATE).raiseAt evEPOCH_LATE 0 0 g (BitVec.ofNat 32 l)
        s.modReport g (fun q => { q with epochRefused := true })
      else (s.csAccept g l).csResult 0

/-- The automatic commit at (page, 0) when a PAGE opens a new report (R287). -/
def State.csAuto (s : State) (page : Word) : State :=
  if s.flag BOLT_CTRL_AUTO && decide (s.shadow = shREADY) then (s.csAccept page 0).set1 BOLT_STAT_AUTO_DONE else s

/-- Conditions 1 and 2 of R282 on the epoch line of the last commit. -/
def State.heldPages (s : State) : Bool :=
  match s.corr.log with
  | [] => true
  | e :: _ =>
    !s.fsch.reports.any (fun r => decide (r.serial < e.serial)) &&
      (decide (e.line = 0) || !s.fsch.reports.any (fun r => decide (r.serial = e.serial)))

/-- The stream map's sequencer and channel of a stream (R270). -/
def State.smapOf (s : State) (stream : Nat) : Option (Nat × Nat) :=
  ((List.range 16).find? (fun i => s.flag (BOLT_SMAP_VALID i) && decide (s.get (BOLT_SMAP_STREAM_ID i) = stream))).map
    (fun i => (s.get (BOLT_SMAP_SQ i), s.get (BOLT_SMAP_CH i)))

/-- The records of the port-lines that a container holds, by its sequencer, page and segment (R270). -/
def State.contRecords (s : State) (c : Cont) : List FiredRec :=
  match s.smapOf c.stream.toNat with
  | none => []
  | some (q, _) => s.bolt.fired.filter (fun r => decide (r.page = c.page ∧ r.segment = c.segment ∧ r.kind = some .stream ∧ r.port / 4 = q))

/-- The distinct lines of a list of records. -/
def distinctLines (rs : List FiredRec) : List Nat := rs.foldl (fun ls r => if ls.contains r.line then ls else r.line :: ls) []

/-- The lines of the containers that the Bolter loses with a stream engine's EN or its own are counted as not inspected (R276). Lines whose
records have not come yet are counted when the web has carried them past. -/
def State.contsLost (s : State) (k : Fin 16) : State :=
  if s.get (DCE_CTRL_SINK k) = 2 then
    s.engines[k].conts.foldl (fun s (c : Cont) => { s with bolt := { s.bolt with plans := s.bolt.plans.map (fun q =>
      if c.opened && decide (q.page = c.page) then
        let ch : Fin 2 := finOf 2 (by decide) (s.get (DCE_CTRL_SINK_SQ k) % 2)
        { q with lost := vset q.lost ch (q.lost[ch] ++ distinctLines (s.contRecords c)) }
      else q) } }) s
  else s

/-- A line of a container stands before the epoch line of the last commit, by the page's place in page order and, on the epoch page,
by the records that carry its page ID and segment (R270). A page that has not opened yet comes after it. -/
def State.contBefore (s : State) (c : Cont) : Bool :=
  match s.corr.log with
  | [] => false
  | e :: _ =>
    match s.bolt.plans.find? (fun q => decide (q.page = c.page)) with
    | none => match s.reportOf c.page with
      | some r => decide (r.serial < e.serial)
      | none => s.bolt.past.contains c.page
    | some q => match q.serial with
      | none => false
      | some n =>
        if n = e.serial then (s.contRecords c).any (fun r => decide (r.line < e.line))
        else decide (n < e.serial)

/-- Condition 3 of R282: the Bolter has finished every container with lines before the epoch line; void with EN = 0. -/
def State.heldConts (s : State) : Bool :=
  !s.flag BOLT_CTRL_EN || (fins 16).all (fun k =>
    !(decide (s.get (DCE_CTRL_SINK k) = 2) && s.engines[k].conts.any (fun c => c.opened && s.contBefore c)))

/-- HELD returns to FREE once its conditions hold (R282). -/
def State.csHeldFree (s : State) : State :=
  if decide (s.shadow = shHELD) && s.heldPages && s.heldConts then s.setShadow shFREE else s

/-- RELEASE: HELD to FREE without condition 3 (R282). -/
def State.csRelease (s : State) : State :=
  if decide (s.shadow = shHELD) && s.heldPages then (s.setShadow shFREE).csResult 0 else s.csResult 3

/-- A write of CS_CMD. -/
def State.csCmd (s : State) (v : Word) : State :=
  match field v 2 0 with
  | 1 => s.csClaim
  | 2 => s.csCommit
  | 3 => s.csDiscard
  | 4 => s.csRelease
  | _ => s

/-! ## Registers and windows of the store (R289) -/

/-- A read of a CS register that shows a bank or the log. -/
def State.csRead (s : State) (off : Nat) : Option Word :=
  if off = 0x14 then some s.corr.shadow.key
  else if off = 0x18 then some s.corr.active.key
  else if 0x100 ≤ off ∧ off < 0x160 then
    let b := s.corr.shadow.boost[finOf 12 (by decide) ((off - 0x100) / 8)]
    some (if off % 8 = 0 then b.extractLsb' 0 32 else b.extractLsb' 32 32)
  else if 0x180 ≤ off ∧ off < 0x1E0 then
    let b := s.corr.active.boost[finOf 12 (by decide) ((off - 0x180) / 8)]
    some (if off % 8 = 0 then b.extractLsb' 0 32 else b.extractLsb' 32 32)
  else if 0x400 ≤ off ∧ off < 0x500 then
    match s.corr.log[(off - 0x400) / 16]? with
    | none => some 0
    | some e =>
      some (match (off % 16) / 4 with
        | 0 => e.epoch
        | 1 => e.page
        | 2 => BitVec.ofNat 32 e.line
        | _ => e.key)
  else none

/-- A supervisor write to a CS register; none where no rule of its own applies. A boost table takes effect with its _LO register
(R17, R280). -/
def State.csWrite (s : State) (off : Nat) (v : Word) : Option (Resp × State) :=
  if off = 0 then some (.ok, s.csCmd v)
  else if off = 0x14 then
    if s.shadow = shFW then some (.ok, { s with corr := { s.corr with shadow := { s.corr.shadow with key := v } } })
    else some (.errUnit, s)
  else if 0x100 ≤ off ∧ off < 0x160 then
    if s.shadow = shFW then
      if off % 8 ≠ 0 then some (.ok, s.stageHi (0x47280000 + off) v)
      else
        let k : Fin 12 := finOf 12 (by decide) ((off - 0x100) / 8)
        let b := s.staged (0x47280000 + off + 4) ++ v
        some (.ok, { s with corr := { s.corr with shadow := { s.corr.shadow with boost := vset s.corr.shadow.boost k b } } })
    else some (.errUnit, s)
  else if 0x200 ≤ off ∧ off < 0x2C0 then
    if s.portPageOpen (finOf 48 (by decide) ((off - 0x200) / 4)) then some (.errUnit, s) else none
  else none

/-- A word of a bank through its window. -/
def State.csWindow (s : State) (active : Bool) (off : Nat) : Word :=
  (if active then s.corr.active else s.corr.shadow).entries.get zeroWord (off / 4)

/-- A write through a window: only the shadow bank in FW takes it (R282, R289). -/
def State.csWindowWrite (s : State) (active : Bool) (off : Nat) (v : Word) : Resp × State :=
  if active = false ∧ s.shadow = shFW then
    (.ok, { s with corr := { s.corr with shadow := { s.corr.shadow with
      entries := s.corr.shadow.entries.set zeroWord (off / 4) (v &&& 0xFFFFF0FF#32) } } })
  else (.errUnit, s)

end Sys2Proof.Machine
end

