-- ==== Sys2Proof/Machine/Operands.lean ====
section
/-!
DEFINITION. The operand forms of Nolre: the registers g0 to g31, of which g0 is hard-wired to zero (R57), the immediates
and offsets of the instruction layouts (R58, R65 to R68), and the pc.
-/
namespace Sys2Proof.Machine

/-- Where Fantail starts in its ROM (R82): a multiple of 4, as every pc is (R57). -/
def fanStart : Word := BitVec.ofNat 32 Config.fantailRomBase &&& 0xFFFFFFFC#32

/-- g[r]: g0 reads as zero (R57). -/
def Core.gr (c : Core) (r : Fin 32) : Word := if r = 0 then 0 else c.g[r]

/-- g[r] written; a write of g0 is discarded (R57). -/
def Core.setG (c : Core) (r : Fin 32) (v : Word) : Core := if r = 0 then c else { c with g := vset c.g r v }

/-- The pc moved to the next instruction (R57). -/
def Core.next (c : Core) : Core := { c with pc := c.pc + 4 }

/-- g[r] of a core. -/
def State.gr (s : State) (c : CoreId) (r : Fin 32) : Word := (s.core c).gr r

/-- g[r] of a core written. -/
def State.setG (s : State) (c : CoreId) (r : Fin 32) (v : Word) : State := s.modCore c (fun x => x.setG r v)

/-- The pc of a core. -/
def State.pcOf (s : State) (c : CoreId) : Word := (s.core c).pc

/-- The pc of a core set. -/
def State.setPc (s : State) (c : CoreId) (v : Word) : State := s.modCore c (fun x => { x with pc := v })

/-- The pc of a core moved to the next instruction. -/
def State.nextPc (s : State) (c : CoreId) : State := s.modCore c Core.next

/-- The result of an instruction written to g[rd], and the pc moved on. -/
def State.result (s : State) (c : CoreId) (rd : Fin 32) (v : Word) : State := (s.setG c rd v).nextPc c

/-- A sign-extended 16-bit immediate (R65, R66). -/
def simm (i : BitVec 16) : Word := i.signExtend 32

/-- A zero-extended 16-bit immediate (R65). -/
def zimm (i : BitVec 16) : Word := i.setWidth 32

/-- The byte offset of a branch: the 16-bit field sign-extended, times 4 (R67). -/
def branchOff (i : BitVec 16) : Word := i.signExtend 32 <<< 2

/-- The byte offset of a jump: the 26-bit field sign-extended, times 4 (R68). -/
def jumpOff (i : BitVec 26) : Word := i.signExtend 32 <<< 2

end Sys2Proof.Machine
end

