-- ==== Sys2Proof/Machine/Flags.lean ====
section
/-!
DEFINITION. The condition word XSTAT of a sequencer (R101, R102): the one set of condition flags that an instruction of
this device leaves. Nolre itself has no flags.
-/
namespace Sys2Proof.Machine

/-! ## The conditions of R101 by bit number -/

abbrev xSEG_BAD : Nat := 0
abbrev xHDR : Nat := 1
abbrev xHDR_CRC : Nat := 2
abbrev xSEQ : Nat := 3
abbrev xSEG_END : Nat := 4
abbrev xRESIDUE : Nat := 5
abbrev xFULL : Nat := 6
abbrev xORDER : Nat := 7
abbrev xRANGE : Nat := 8
abbrev xPAGE_MISMATCH : Nat := 9
abbrev xPAGE_STATE : Nat := 10
abbrev xMASK : Nat := 11
abbrev xPROF : Nat := 12
abbrev xWAIT_TO : Nat := 13
abbrev xSYNC : Nat := 14
abbrev xABORT : Nat := 15

/-- NB of the lowest port in AM; zero where AM is empty (R102). -/
def Seq.lowNb (q : Seq) : Nat :=
  match (fins 4).find? (fun j => q.am.getLsbD j.val) with
  | some j => q.nb[j]
  | none => 0

/-- A condition set in XSTAT; PAGE_MISMATCH, HDR, SEQ and SYNC also raise SQ_COND with the condition, a page ID and NB of
the lowest port in AM (R102). -/
def State.condAt (s : State) (k : Fin 12) (bit : Nat) (page : Word) : State :=
  let s := s.modSq k (fun q => { q with xstat := setBit q.xstat bit true })
  if bit = xPAGE_MISMATCH ∨ bit = xHDR ∨ bit = xSEQ ∨ bit = xSYNC then
    s.raiseAt evSQ_COND k (value1 bit) page (BitVec.ofNat 32 s.sqs[k].lowNb)
  else s

/-- A condition set for the page of the sequencer. -/
def State.cond (s : State) (k : Fin 12) (bit : Nat) : State := s.condAt k bit s.sqs[k].page

/-- Several conditions set, each where it applies. -/
def State.conds (s : State) (k : Fin 12) (l : List (Bool × Nat)) : State :=
  l.foldl (fun s c => if c.1 then s.cond k c.2 else s) s

/-- The conditions of a mask cleared (XCLR, R121). -/
def State.condClear (s : State) (k : Fin 12) (m : Word) : State :=
  s.modSq k (fun q => { q with xstat := q.xstat &&& ~~~ m.setWidth 16 })

/-- Whether a condition is set (BXS and BXC, R101). -/
def State.hasCond (s : State) (k : Fin 12) (bit : Nat) : Bool := s.sqs[k].xstat.getLsbD bit

end Sys2Proof.Machine
end

