-- ==== Sys2Proof/Machine/SeqOps.lean ====
section
/-!
DEFINITION. The sequencers' fire extension (R97 to R133): pages, streams, builds, commits, barriers, jobs and the control
block. An instruction that must wait for the builder leaves the state as it is but for its WAIT code (log 10).
-/
namespace Sys2Proof.Machine

/-! ## Lanes and entries -/

/-- The lanes of a port mask in increasing order (R100, R107). -/
def lanes (m : BitVec 4) : List (Fin 4) := (fins 4).filter (fun j => m.getLsbD j.val)

/-- Free entries of a line FIFO (R114). -/
def Seq.freeAt (q : Seq) (j : Fin 4) : Nat := 64 - q.fifo[j].length

/-- An entry in state COMMITTED, which is not READY (R114). -/
def Entry.waiting (e : Entry) : Bool := e.committed && !(e.released && !e.fbPending)

/-- The oldest entry of a lane that is not yet committed (R115). -/
def Seq.oldestOpen (q : Seq) (j : Fin 4) : Option Entry := q.fifo[j].find? (fun e => !e.committed)

/-- A line FIFO replaced. -/
def Seq.setFifo (q : Seq) (j : Fin 4) (l : List Entry) : Seq := { q with fifo := vset q.fifo j l }

/-- The core name of a sequencer. -/
def sqCore (k : Fin 12) : CoreId := .sq k

/-- A fire instruction of a sequencer that must wait for the builder: its WAIT code, 4 or 5 (R133, log 10). -/
def State.stallSq (s : State) (k : Fin 12) (code : Nat) : State := s.modSq k (fun q => { q with stall := code, stallExt := true })

/-- A base instruction that must wait for the builder, which owns one of its registers: WAIT 4 (R123, log 10). -/
def State.stallBase (s : State) (k : Fin 12) : State := s.modSq k (fun q => { q with stall := 4, stallExt := false })

/-- A fire instruction is done: no wait, and the pc moves on. -/
def State.fireDone (s : State) (k : Fin 12) : State :=
  (s.modSq k (fun q => { q with wait := .none, stall := 0 })).nextPc (sqCore k)

/-- A fire instruction is done with a result in g[rd]. -/
def State.fireResult (s : State) (k : Fin 12) (rd : Fin 32) (v : Nat) : State :=
  (s.setG (sqCore k) rd (BitVec.ofNat 32 v)).fireDone k

/-! ## Page close (R97, R106, R131) -/

/-- The open segment changed. -/
def State.modSeg (s : State) (k : Fin 12) (f : OpenSeg → OpenSeg) : State := s.modSq k (fun q => { q with seg := q.seg.map f })

/-- SEG_BAD set for the open segment, at most once (R104). -/
def State.segBad (s : State) (k : Fin 12) : State :=
  match s.sqs[k].seg with
  | some g => if g.seen then s else (s.modSeg k (fun g => { g with seen := true })).cond k xSEG_BAD
  | none => s


/-- The entries that leave a lane when the page closes uncommitted, as marks (R45, R106, R270). -/
def closeMarks (page : Word) (l : List Entry) : List VoidMark :=
  (l.filter (fun e => decide (e.page = page) && !e.committed)).map (fun e =>
    { page := page, line := e.line, program := false, entry := some e })

/-- What closing the page takes from the open segment: RESIDUE for the data it discards, and its verdict where that has come (R106). -/
def State.dropSeg (s : State) (k : Fin 12) : State :=
  match s.sqs[k].seg with
  | none => s
  | some g =>
    let s := if g.data.isEmpty then s else (s.modSeg k (fun g => { g with data := [] })).cond k xRESIDUE
    match g.verdict with
    | some (.bad _) => s.segBad k
    | _ => s

/-- The page closes on the sequencer: its open segment and its uncommitted entries are discarded and its builds dropped (R106). -/
def State.closePage (s : State) (k : Fin 12) : State :=
  if s.sqs[k].pageOpen then
    let s := s.dropSeg k
    let q := s.sqs[k]
    let marks := (fins 4).map (fun j => (j, closeMarks q.page q.fifo[j]))
    let s := s.modSq k (fun q => { q with
      pageOpen := false, seg := none, builds := []
      fifo := q.fifo.map (fun l => l.filter (fun e => !decide (e.page = q.page) || e.committed)) })
    marks.foldl (fun s m => m.2.foldl (fun s v => s.tbVoid (portOf k m.1) v) s) s
  else s

/-! ## PAGE (R103, R132) -/

/-- The ports of a lane mask as a port set. -/
def portMask (k : Fin 12) (m : BitVec 4) : BitVec 48 := BitVec.ofNat 48 (m.toNat * 2 ^ (4 * k.val))

/-- The page opened on the sequencer and in the scheduler (R103, R49); an automatic commit follows a new report (R287), and
the Bolter's copy of the plan takes the page length (R258). -/
def State.pageOpenAt (s : State) (k : Fin 12) (page lines : Word) (mask : BitVec 4) : State :=
  let fresh := (s.reportOf page).isNone
  let s := s.modSq k (fun q => { q with
    pageOpen := true, page := page, lines := lines, pmask := mask, am := mask, nextSeg := 0, arrival := none
    nb := q.nb.mapFinIdx (fun j n _ => if mask.getLsbD j then 0 else n)
    ldWsel := Vector.replicate 4 [], ldSw := Vector.replicate 4 [], seg := none })
  let s := s.openPage page lines.toNat (portMask k mask)
  let s := s.modSq k (fun q => { q with serial := s.pageSerial page })
  let s := { s with bolt := { s.bolt with plans := s.bolt.plans.map (fun c =>
    if c.page = page ∧ c.lines.isNone then { c with lines := some lines.toNat, serial := some (s.pageSerial page) } else c) } }
  if fresh then s.csAuto page else s

/-- PAGE: parks where PARK_REQ asks for it, unless a GO with FRESH = 0 has just left PARKED to execute it (R103, R132). -/
def State.sqPage (s : State) (k : Fin 12) (page lines : Word) (mask : BitVec 4) : State :=
  let q := s.sqs[k]
  let s := s.modSq k (fun q => { q with resumed := none })
  if !q.pageOpen && s.flag (SQ_CTRL_PARK_REQ k) && decide (q.resumed ≠ some q.core.pc) then
    let s := (s.clr (SQ_CTRL_PARK_REQ k)).modSq k (fun q => { q with st := .parked, stall := 0 })
    s.raise evSQ_PARKED k 0
  else if q.pageOpen ∨ lines = 0 ∨ mask = 0 then
    (s.conds k [(q.pageOpen, xPAGE_STATE), (decide (lines = 0), xRANGE), (decide (mask = 0), xMASK)]).fireDone k
  else
    let mismatch := match s.reportOf page with
      | some r => decide (r.lines ≠ lines.toNat)
      | none => false
    if mismatch then (s.condAt k xPAGE_MISMATCH page).fireDone k
    else (s.pageOpenAt k page lines mask).fireDone k

/-! ## STREAM and ENDPG (R104 to R106) -/

/-- After the open segment's verdict: STREAM waits for the next header, ENDPG closes the page. -/
def State.afterVerdict (s : State) (k : Fin 12) (stream : Option (Fin 32 × Word)) : State :=
  match stream with
  | some (rd, id) => s.modSq k (fun q => { q with seg := none, wait := .header rd id, stall := 0 })
  | none => (s.closePage k).fireDone k

/-- The verdict of the open segment is taken (R104). -/
def State.takeVerdict (s : State) (k : Fin 12) (v : Verdict) (stream : Option (Fin 32 × Word)) : State :=
  let s := match v with
    | .bad _ => s.segBad k
    | .pass => s
  s.afterVerdict k stream

/-- Step 1 of R105: the open segment's unconsumed data is discarded, and its verdict awaited. -/
def State.discardSeg (s : State) (k : Fin 12) (stream : Option (Fin 32 × Word)) : State :=
  match s.sqs[k].seg with
  | none => s.afterVerdict k stream
  | some g =>
    let s := if g.data.isEmpty then s else (s.modSeg k (fun g => { g with data := [] })).cond k xRESIDUE
    match g.verdict with
    | some v => s.takeVerdict k v stream
    | none => s.modSq k (fun q => { q with wait := .verdict stream, stall := 0 })

/-- STREAM. -/
def State.sqStream (s : State) (k : Fin 12) (rd : Fin 32) (id : Word) : State :=
  if !s.sqs[k].builds.isEmpty then s.stallSq k 4
  else if !s.sqs[k].pageOpen then (s.cond k xPAGE_STATE).fireDone k
  else (s.modSq k (fun q => { q with streamId := id.setWidth 16 })).discardSeg k (some (rd, id))

/-- ENDPG. -/
def State.sqEndpg (s : State) (k : Fin 12) : State :=
  if !s.sqs[k].builds.isEmpty then s.stallSq k 4
  else if !s.sqs[k].pageOpen then (s.cond k xPAGE_STATE).fireDone k
  else s.discardSeg k none

/-- The decode engine that feeds a sequencer (R253). -/
def State.feeder (s : State) (k : Fin 12) : Option (Fin 16) :=
  (fins 16).find? (fun e => s.flag (DCE_CTRL_EN e) && decide (s.get (DCE_CTRL_SINK e) = 1 ∧ s.get (DCE_CTRL_SINK_SQ e) = k.val))

/-- An engine's container changed: the first that the sink has neither opened nor skipped. -/
def modFirst (f : Cont → Cont) : List Cont → List Cont
  | [] => []
  | c :: t => if c.opened || c.skip then c :: modFirst f t else f c :: t

/-- The first container of an engine that the sink has neither opened nor skipped. -/
def Engine.nextCont (e : Engine) : Option Cont := e.conts.find? (fun c => !c.opened && !c.skip)

/-- A decode engine changed. -/
def State.modEng (s : State) (e : Fin 16) (f : Engine → Engine) : State := { s with engines := vset s.engines e (f s.engines[e]) }

/-- The sink has opened, or skips, a container: OPEN names the first descriptor whose container the sink has not opened. -/
def State.contTaken (s : State) (e : Fin 16) (skip : Bool) : State :=
  let s := s.modEng e (fun g => { g with conts := modFirst (fun c => if skip then { c with skip := true } else { c with opened := true }) g.conts })
  match s.engines[e].nextCont with
  | some c => s.put (DCE_IRING_IDX_OPEN e) (c.index % 65536)
  | none => s.put (DCE_IRING_IDX_OPEN e) (s.get (DCE_IRING_IDX_IDX e))

/-- Step 3 of R105: the header of the next container reaches the waiting sequencer. -/
def State.sqHeader (s : State) (k : Fin 12) : State :=
  match s.sqs[k].wait, s.feeder k with
  | .header rd id, some e =>
    match s.engines[e].nextCont with
    | none => s
    | some c =>
      let q := s.sqs[k]
      if c.hdrBad then
        let g : OpenSeg := { eng := e, index := c.index, page := q.page, number := q.nextSeg.toNat, data := [], verdict := none, bad := true, seen := false }
        let s := (s.contTaken e false).modSq k (fun q => { q with seg := some g, nextSeg := q.nextSeg + 1 })
        (s.cond k xHDR_CRC).fireResult k rd 0
      else if q.lastAborted = some c.page then s.contTaken e true
      else if c.page ≠ q.page ∨ c.stream.setWidth 32 ≠ id then ((s.contTaken e true).cond k xHDR).fireResult k rd 0
      else
        let g : OpenSeg := { eng := e, index := c.index, page := c.page, number := c.segment, data := c.data, verdict := none, bad := false, seen := false }
        let s := (s.contTaken e false).modSq k (fun q => { q with seg := some g, nextSeg := BitVec.ofNat 24 (c.segment + 1) })
        let s := if q.nextSeg = BitVec.ofNat 24 c.segment then s else s.cond k xSEQ
        s.fireResult k rd (c.segment * 256 + c.lines)
  | _, _ => s

/-! ## SETPORT and LDPROF (R107, R108) -/

/-- SETPORT. -/
def State.sqSetport (s : State) (k : Fin 12) (mask : BitVec 4) : State :=
  let q := s.sqs[k]
  if !q.pageOpen then (s.cond k xPAGE_STATE).fireDone k
  else if mask = 0 ∨ mask &&& ~~~ q.pmask ≠ 0 then (s.cond k xMASK).fireDone k
  else (s.modSq k (fun q => { q with am := mask })).fireDone k

/-- Whether an LDPROF value is in range on a port (R108). -/
def State.profOk (s : State) (p : Nat) (fld v : Nat) : Bool :=
  if fld = 0 then decide (v < 2 ^ s.wselW p)
  else decide (fld = 1 ∧ s.get (HP_STROBE_SW_MIN p) ≤ v ∧ v ≤ s.get (HP_STROBE_SW_MAX p))

/-- LDPROF: it waits until the builder has met every build before it (log 10), so that NB_p is the program's. -/
def State.sqLdprof (s : State) (k : Fin 12) (line v : Word) (fld : Nat) : State :=
  let q := s.sqs[k]
  if !q.builds.isEmpty then s.stallSq k 4
  else if !q.pageOpen then (s.cond k xPAGE_STATE).fireDone k
  else if (lanes q.am).all (fun j => s.profOk (portOf k j) fld v.toNat && decide (q.nb[j] ≤ line.toNat)) then
    let add := fun (x : Vector (List (Nat × Nat)) 4) => x.mapFinIdx (fun j l _ => if q.am.getLsbD j then (line.toNat, v.toNat) :: l else l)
    (s.modSq k (fun q => if fld = 0 then { q with ldWsel := add q.ldWsel } else { q with ldSw := add q.ldSw })).fireDone k
  else (s.cond k xPROF).fireDone k

/-- The value in force for a line: the newest LDPROF at or before it, else the profile's own (R108). -/
def ldValue (l : List (Nat × Nat)) (line own : Nat) : Nat :=
  match l.find? (fun e => decide (e.1 ≤ line)) with
  | some e => e.2
  | none => own

/-! ## Builds (R109 to R113, R123, R127, R129) -/

/-- A count operand: 0 is taken as 1 (R100). -/
def countOf (v : Word) : Nat := if v = 0 then 1 else v.toNat

/-- The build at the head of the queue changed. -/
def State.modBuild (s : State) (k : Fin 12) (f : BuildOp → BuildOp) : State :=
  s.modSq k (fun q => { q with builds := match q.builds with
    | [] => []
    | b :: t => f b :: t })

/-- The build at the head of the queue is complete: g[rd] receives the lines built, and a stalled instruction may issue. -/
def State.buildDone (s : State) (k : Fin 12) : State :=
  match s.sqs[k].builds with
  | [] => s
  | b :: t => (s.modSq k (fun q => { q with builds := t, stall := 0 })).setG (sqCore k) b.rd (BitVec.ofNat 32 b.done)

/-- The checks of R110, R112 and R113 on a build: ORDER and RANGE. -/
def State.buildCheck (s : State) (k : Fin 12) (b : BuildOp) : Bool × Bool :=
  let q := s.sqs[k]
  let order := (lanes b.am).any (fun j => decide (b.first < q.nb[j]))
  let level := decide (b.kind ≠ .stream) && (lanes b.am).any (fun j => decide (s.maxLevel (portOf k j) < b.level))
  let patt := decide (b.kind = .patt ∧ (b.count = 0 ∨ b.period = 0))
  (order, decide (64 < b.count ∨ q.lines.toNat < b.first + b.count) || level || patt)

/-- What the head build can do next: end with a condition, wait, or start its next line. -/
inductive BuildNext where
  | finish (conds : List Nat)
  | wait
  | line
deriving DecidableEq, Repr

/-- Bytes of one line on the ports of a mask (R109). -/
def State.amBytes (s : State) (k : Fin 12) (am : BitVec 4) : Nat := ((lanes am).map (fun j => s.lineBytes (portOf k j))).sum

/-- What a checked build without a line in work does next (R109, R111). -/
def State.buildNext (s : State) (k : Fin 12) (b : BuildOp) : BuildNext :=
  let q := s.sqs[k]
  if b.count ≤ b.done then .finish []
  else if (lanes b.am).any (fun j => decide (64 ≤ q.fifo[j].length) && q.fifo[j].all (fun e => !e.committed)) then .finish [xFULL]
  else if (lanes b.am).any (fun j => decide (64 ≤ q.fifo[j].length)) then .wait
  else if b.kind ≠ .stream then .line
  else match q.seg with
    | none => .finish [xSEG_END]
    | some g =>
      if g.bad ∨ s.amBytes k b.am ≤ g.data.length then .line
      else match g.verdict with
        | none => .wait
        | some (.bad _) => .line
        | some .pass => if g.data.isEmpty then .finish [xSEG_END] else .finish [xSEG_END, xSEG_BAD]

/-- The segment is marked BAD: SEG_BAD once, and its remaining data counts as consumed (R104, R109). -/
def State.segFail (s : State) (k : Fin 12) : State := (s.modSeg k (fun g => { g with bad := true, data := [] })).segBad k

/-- Builds at the head of the queue that end without a further line are ended, at most four of them. -/
def State.builderSettle (k : Fin 12) : Nat → State → State
  | 0, s => s
  | n + 1, s =>
    match s.sqs[k].builds with
    | [] => s
    | b :: _ =>
      if !b.rest.isEmpty then s
      else
        let c := s.buildCheck k b
        if !b.checked && (c.1 || c.2) then
          State.builderSettle k n ((s.conds k [(c.1, xORDER), (c.2, xRANGE)]).buildDone k)
        else
          let s := s.modBuild k (fun b => { b with checked := true })
          match s.buildNext k b with
          | .finish cs =>
            let s := cs.foldl (fun s c => if c = xSEG_BAD then s.segFail k else s.cond k c) s
            State.builderSettle k n (s.buildDone k)
          | _ => s

/-- The builder brought up to date. -/
def State.settle (s : State) (k : Fin 12) : State := s.builderSettle k 5

/-- A build instruction enters the builder queue; a full queue stalls issue (R123). -/
def State.buildIssue (s : State) (k : Fin 12) (b : BuildOp) : State :=
  let q := s.sqs[k]
  if 4 ≤ q.builds.length then s.stallSq k 4
  else if !q.pageOpen then (s.cond k xPAGE_STATE).fireResult k b.rd 0
  else ((s.modSq k (fun q => { q with builds := q.builds ++ [{ b with am := q.am }], stall := 0 })).nextPc (sqCore k)).settle k

/-- BUILDN. -/
def State.sqBuildn (s : State) (k : Fin 12) (rd : Fin 32) (line count : Word) : State :=
  s.buildIssue k {
    kind := .stream, rd := rd, first := line.toNat, count := countOf count, am := 0, level := 0, phase := 0, period := 0,
    checked := false, done := 0, rest := [] }

/-- FILL. -/
def State.sqFill (s : State) (k : Fin 12) (rd : Fin 32) (line count : Word) (level : Nat) : State :=
  s.buildIssue k {
    kind := .fill, rd := rd, first := line.toNat, count := countOf count, am := 0, level := level, phase := 0, period := 0,
    checked := false, done := 0, rest := [] }

/-- PATT. -/
def State.sqPatt (s : State) (k : Fin 12) (rd : Fin 32) (line v : Word) : State :=
  s.buildIssue k {
    kind := .patt, rd := rd, first := line.toNat, count := field v 31 24, am := 0, level := field v 23 20,
    phase := field v 15 8, period := field v 7 0, checked := false, done := 0, rest := [] }

/-- The levels of a line before correction on one lane (R109, R112, R113), for a port of `n` nozzles. -/
def BuildOp.levels (b : BuildOp) (bpn n : Nat) (bs : List Byte) : List Nat :=
  match b.kind with
  | .stream => unpackLevels bpn n bs
  | .fill => List.replicate n b.level
  | .patt => (List.range n).map (fun i => if (i + b.phase) % b.period = b.done % b.period then b.level else 0)

/-- The bytes of one line dealt to the lanes in increasing order (R109). -/
def State.dealBytes (s : State) (k : Fin 12) : List (Fin 4) → List Byte → List (Fin 4 × List Byte)
  | [], _ => []
  | j :: t, bs =>
    let n := s.lineBytes (portOf k j)
    (j, bs.take n) :: State.dealBytes s k t (bs.drop n)

/-- The next line of the head build starts: BAD entries in a BAD segment, else the levels after correction (R109, R127). -/
def State.lineStart (s : State) (k : Fin 12) (b : BuildOp) : State :=
  let q := s.sqs[k]
  let line := b.first + b.done
  let ls := lanes b.am
  let need := s.amBytes k b.am
  let segBad := match q.seg with
    | some g => g.bad || decide (g.data.length < need)
    | none => false
  let serial := q.serial
  let s := s.noteBuilt serial line
  if decide (b.kind = .stream) && segBad then
    (s.segFail k).modBuild k (fun b => { b with rest := ls.map (fun j => { lane := j, levels := [], bad := true }) })
  else
    let data := match q.seg with
      | some g => g.data
      | none => []
    let s := if b.kind = .stream then s.modSeg k (fun g => { g with data := g.data.drop need }) else s
    let dealt := s.dealBytes k ls data
    let ports := dealt.map (fun d =>
      let p := portOf k d.1
      let n := s.nozzles p
      ({ lane := d.1.val, port := p.val, n := n, bpn := s.bpn p, retired := s.coverAt p q.page line,
         v := b.levels (s.bpn p) n d.2 } : BuildPort))
    let r := s.correctLine k (s.setAt serial line) (b.kind = .patt) q.page (BitVec.ofNat 32 line) ports
    let s := (s.bump (SQ_TWIN_CNT_LOST k) r.2.1).bump (SQ_TWIN_CNT_SKIPPED k) r.2.2
    s.modBuild k (fun b => { b with rest := ls.map (fun j =>
      { lane := j, levels := ((r.1.find? (fun x => x.1 = j.val)).map (fun x => x.2)).getD [], bad := false }) })

/-- Whether a lane uses the fall-back path (R129). -/
def State.fallback (s : State) (k : Fin 12) (j : Fin 4) : Bool := (s.get (SQ_FB_FB_MASK k)).testBit j.val

/-- The staging slot's address (R129). -/
def State.stageAddr (s : State) (k : Fin 12) (slot : Nat) : Nat :=
  0x8000000 + 0x40000 * k.val + 4096 * s.get (SQ_STAGE_BASE k) + 1024 * slot

/-- Whether a staging slot lies in the area that SQk_STAGE declares, inside the sequencer's local memory (R98). -/
def State.stageHolds (s : State) (k : Fin 12) (slot : Nat) : Bool :=
  decide (1024 * (slot + 1) ≤ 4096 * s.get (SQ_STAGE_SIZE k) ∧ 4096 * s.get (SQ_STAGE_BASE k) + 1024 * (slot + 1) ≤ 0x40000)

/-- The deadline of a line of the open page has passed on a port, or the port has finished the page. -/
def State.deadlinePast (s : State) (p : Fin 48) (page : Word) (line : Nat) : Bool :=
  match s.fsch.ports[p].pages.find? (fun q => decide (q.page = page)) with
  | some q => q.abortFrom.isSome || decide (line < q.next)
  | none => true

/-- A port-line of the head build is placed in its FIFO (R114), EXPIRED where its deadline has passed; on the fall-back path its line goes
to a staging slot, as far as that lies in the declared area (R98, log 95), and it waits for the DMA channel (R129). -/
def State.placeLine (s : State) (k : Fin 12) (b : BuildOp) (x : BuiltLine) : State :=
  let q := s.sqs[k]
  let p := portOf k x.lane
  let line := b.first + b.done
  let fb := s.fallback k x.lane && !x.bad
  let seg := match b.kind, q.seg with
    | .stream, some g => g.number
    | .stream, none => 0
    | .fill, _ => b.level * 2 ^ 20
    | .patt, _ => b.level * 2 ^ 20 + b.period * 256 + (b.done + b.period * 256 - b.phase) % b.period
  let passed := match q.seg with
    | some g => decide (g.verdict = some .pass)
    | none => false
  let failed := decide (b.kind = .stream) && (match q.seg with
    | some g => (match g.verdict with
      | some (.bad _) => true
      | _ => false)
    | none => false)
  let rel := decide (b.kind ≠ .stream) || (passed && !x.bad)
  let late := s.deadlinePast p q.page line
  let e : Entry := {
    page := q.page, line := line, kind := b.kind, segment := seg, epoch := (s.epochAt q.serial line).toNat,
    wsel := ldValue q.ldWsel[x.lane] line (s.get (HP_PROFILE_WSEL p)), sw := ldValue q.ldSw[x.lane] line (s.get (HP_TIMING_SW p)),
    bpn := s.bpn p, levels := if late then [] else x.levels, raw := none, fbPending := fb, never := false, committed := false, expired := late,
    released := rel, bad := x.bad || failed, handed := false, tbKnown := false, tbReleased := rel }
  let s := s.modSq k (fun q => q.setFifo x.lane (q.fifo[x.lane] ++ [e]))
  if fb then
    let bs := packLevels (s.bpn p) x.levels
    let f : FbLine := { lane := x.lane, page := q.page, line := line, slot := q.fbSlot, bytes := bs.length, started := false }
    let s := if s.stageHolds k q.fbSlot then s.putBytes (s.stageAddr k q.fbSlot) bs else s
    s.modSq k (fun q => { q with fbWait := q.fbWait ++ [f], fbSlot := (q.fbSlot + 1) % (s.get (SQ_FB_SLOTS k) + 1) })
  else s

/-- Whether the next port-line of a line in work can be placed: a fall-back line needs a free staging slot (R129). -/
def State.canPlace (s : State) (k : Fin 12) (x : BuiltLine) : Bool :=
  !(s.fallback k x.lane && !x.bad) || decide (s.sqs[k].fbWait.length < s.get (SQ_FB_SLOTS k) + 1)

/-- The builder finishes a port-line (R124): a line starts if none is in work, its next port-line is placed, and after the
last of them NB_p becomes the line plus 1 (R110). -/
def State.builderStep (s : State) (k : Fin 12) : State :=
  let s := s.settle k
  let s := match s.sqs[k].builds with
    | b :: _ => if b.rest.isEmpty && decide (s.buildNext k b = BuildNext.line) then s.lineStart k b else s
    | [] => s
  match s.sqs[k].builds with
  | b :: _ =>
    match b.rest with
    | x :: t =>
      if s.canPlace k x then
        let s := s.placeLine k b x
        let s := if t.isEmpty then
            (s.modBuild k (fun b => { b with rest := [], done := b.done + 1 })).modSq k (fun q => { q with
              nb := q.nb.mapFinIdx (fun j n _ => if b.am.getLsbD j then b.first + b.done + 1 else n) })
          else s.modBuild k (fun b => { b with rest := t })
        s.settle k
      else s
    | [] => s
  | [] => s

/-! ## COMMIT and VOID (R115 to R117) -/

/-- A word written into the crossing from SEQ to TB (R29). -/
def State.toTb (s : State) (w : XWord) : State := { s with seqTb := s.seqTb ++ [{ tick := s.now, word := w }] }

/-- Whether one of `n` lines from `line` on is still queued in a build that has not finished it (R115). -/
def Seq.queuedAt (q : Seq) (line n : Nat) : Bool :=
  q.builds.any (fun b => decide (line < b.first + b.count ∧ b.first + b.done < line + n))

/-- COMMIT of one line on every port of AM; none where the oldest uncommitted entry of a port is another (R115). -/
def State.commitLine (s : State) (k : Fin 12) (line : Nat) : Option State :=
  let q := s.sqs[k]
  let page := q.page
  if (lanes q.am).all (fun j => match q.oldestOpen j with
      | some e => decide (e.line = line)
      | none => false) then
    let s := (lanes q.am).foldl (fun (s : State) j =>
      let s := s.modSq k (fun q => q.setFifo j (q.fifo[j].filterMap (fun e =>
        if e.page = page ∧ e.line = line ∧ e.committed = false then
          (if e.expired then none else some { e with committed := true }) else some e)))
      s.toTb (.commit (portOf k j) page line)) s
    some (s.modSq k (fun q => { q with lastCommitted := line }))
  else none

/-- Lines committed one at a time up to the first that fails, which sets ORDER; the number committed. -/
def State.commitLines (k : Fin 12) : Nat → Nat → State → State × Nat
  | 0, _, s => (s, 0)
  | n + 1, line, s =>
    match s.commitLine k line with
    | none => (s.cond k xORDER, 0)
    | some s =>
      let r := State.commitLines k n (line + 1) s
      (r.1, r.2 + 1)

/-- COMMIT. A range beyond the page or above 64 lines sets RANGE and commits nothing (R101, log 96). -/
def State.sqCommit (s : State) (k : Fin 12) (rd : Fin 32) (line count : Word) : State :=
  let q := s.sqs[k]
  let n := countOf count
  if !q.pageOpen then (s.cond k xPAGE_STATE).fireResult k rd 0
  else if q.queuedAt line.toNat n then s.stallSq k 5
  else if 64 < n ∨ q.lines.toNat < line.toNat + n then (s.cond k xRANGE).fireResult k rd 0
  else
    let r := State.commitLines k n line.toNat s
    r.1.fireResult k rd r.2

/-- VOID of one line on every port of AM; none where it is out of order on a port (R117). -/
def State.voidLine (s : State) (k : Fin 12) (line : Nat) : Option State :=
  let q := s.sqs[k]
  let page := q.page
  if (lanes q.am).all (fun j => match q.oldestOpen j with
      | some e => decide (e.line ≤ line)
      | none => decide (q.nb[j] ≤ line)) then
    some ((lanes q.am).foldl (fun (s : State) j =>
      let e := s.sqs[k].fifo[j].find? (fun e => decide (e.page = page ∧ e.line = line) && !e.committed)
      let m : VoidMark := { page := page, line := line, program := true, entry := e }
      let s := s.modSq k (fun q => { q.setFifo j (q.fifo[j].filter (fun e => !decide (e.page = page ∧ e.line = line) || e.committed)) with
        nb := vset q.nb j (max q.nb[j] (line + 1)) })
      s.toTb (.void (portOf k j) m)) s)
  else none

/-- Lines voided one at a time up to the first that fails, which sets ORDER; the number voided. -/
def State.voidLines (k : Fin 12) : Nat → Nat → State → State × Nat
  | 0, _, s => (s, 0)
  | n + 1, line, s =>
    match s.voidLine k line with
    | none => (s.cond k xORDER, 0)
    | some s =>
      let r := State.voidLines k n (line + 1) s
      (r.1, r.2 + 1)

/-- VOID. A range beyond the page or above 64 lines sets RANGE and voids nothing (R101, log 96). -/
def State.sqVoid (s : State) (k : Fin 12) (rd : Fin 32) (line count : Word) : State :=
  let q := s.sqs[k]
  let n := countOf count
  if !q.pageOpen then (s.cond k xPAGE_STATE).fireResult k rd 0
  else if q.queuedAt line.toNat n then s.stallSq k 5
  else if 64 < n ∨ q.lines.toNat < line.toNat + n then (s.cond k xRANGE).fireResult k rd 0
  else
    let r := State.voidLines k n line.toNat s
    r.1.fireResult k rd r.2

/-! ## WAITQ and SYNCL (R118, R119) -/

/-- The condition of WAITQ on every port of AM (R118). -/
def Seq.waitHolds (q : Seq) (need cond : Nat) : Bool :=
  (lanes q.am).all (fun j =>
    if cond = 0 then decide (need ≤ q.freeAt j)
    else if cond = 1 then q.fifo[j].all (fun e => !e.waiting)
    else q.fifo[j].isEmpty)

/-- WAITQ with cond 0, 1 or 2 (R118); with no page open it sets PAGE_STATE (R101). -/
def State.sqWaitq (s : State) (k : Fin 12) (us need : Word) (cond : Nat) : State :=
  let n := countOf need
  if !s.sqs[k].pageOpen then (s.cond k xPAGE_STATE).fireDone k
  else if cond = 0 ∧ 64 < n then (s.cond k xRANGE).fireDone k
  else if s.sqs[k].waitHolds n cond then s.fireDone k
  else s.modSq k (fun q => { q with wait := .waitq n cond (us ≠ 0), stall := 0 })

/-- A WAITQ wait ends when its condition holds. -/
def State.pollWaitq (s : State) (k : Fin 12) : State :=
  match s.sqs[k].wait with
  | .waitq need cond _ => if s.sqs[k].waitHolds need cond then s.fireDone k else s
  | _ => s

/-- WAITQ's timeout (R118). -/
def State.waitqTimeout (s : State) (k : Fin 12) : State :=
  match s.sqs[k].wait with
  | .waitq need cond true => if s.sqs[k].waitHolds need cond then s.fireDone k else (s.cond k xWAIT_TO).fireDone k
  | _ => s

/-- The members of a sequencer's barrier group; its own bit reads as 1 (R119, SQk_SYNC). -/
def State.syncGroup (s : State) (k : Fin 12) : List (Fin 12) :=
  (fins 12).filter (fun j => decide (j = k) || (s.get (SQ_SYNC_MASK k)).testBit j.val)

/-- Whether a sequencer waits at SYNCL. -/
def Seq.atSync (q : Seq) : Bool :=
  match q.wait with
  | .syncl _ => true
  | _ => false

/-- A wait at SYNCL ends with SYNC set. -/
def State.syncFail (s : State) (k : Fin 12) : State := (s.cond k xSYNC).fireDone k

/-- A wait at SYNCL ends by the first row of R119 that applies, in the order of its table (log 97). -/
def State.pollSync (s : State) (k : Fin 12) : State :=
  if s.sqs[k].atSync then
    let g := s.syncGroup k
    if g.all (fun j => decide (s.sqs[j].arrival = s.sqs[k].arrival)) then s.fireDone k
    else if g.all (fun j => s.sqs[j].atSync) then g.foldl (fun s j => s.syncFail j) s
    else if g.any (fun j => decide (s.sqs[j].st ≠ .run)) then s.syncFail k
    else s
  else s

/-- Every wait at SYNCL is examined. -/
def State.pollSyncAll (s : State) : State := (fins 12).foldl (fun s k => s.pollSync k) s

/-- SYNCL: the arrival value is published and the wait begins. -/
def State.sqSyncl (s : State) (k : Fin 12) (line : Word) : State :=
  if !s.sqs[k].pageOpen then (s.cond k xPAGE_STATE).fireDone k
  else
    (s.modSq k (fun q => { q with
      arrival := some (q.page, line), wait := .syncl (s.get (SQ_SYNC_TIMEOUT k) ≠ 0), stall := 0 })).pollSyncAll

/-- SYNCL's timeout (R119). -/
def State.synclTimeout (s : State) (k : Fin 12) : State :=
  let s := s.pollSync k
  match s.sqs[k].wait with
  | .syncl true => s.syncFail k
  | _ => s

/-- The waits and the builder of a sequencer brought up to date. -/
def State.pollSq (s : State) (k : Fin 12) : State := ((s.settle k).pollWaitq k).pollSync k

/-! ## MARK, EPOCHQ, FREAD, XCLR (R120, R121) -/

/-- MARK. -/
def State.sqMark (s : State) (k : Fin 12) (code line : Word) : State :=
  let q := s.sqs[k]
  if !q.pageOpen then (s.cond k xPAGE_STATE).fireDone k
  else ((s.raiseAt evSQ_MARK k code q.page line).modReport q.page (fun r => { r with marks := r.marks + 1 })).fireDone k

/-- EPOCHQ. -/
def State.sqEpochq (s : State) (k : Fin 12) (rd : Fin 32) (line : Word) : State :=
  let q := s.sqs[k]
  if !q.pageOpen then (s.cond k xPAGE_STATE).fireDone k
  else s.fireResult k rd (s.epochAt q.serial line.toNat).toNat

/-- The value FREAD selects, for sel 0 to 13 (R121). -/
def State.freadValue (s : State) (k : Fin 12) (sel : Nat) : Nat :=
  let q := s.sqs[k]
  if sel = 0 then q.xstat.toNat
  else if sel = 1 then q.am.toNat + 16 * q.pmask.toNat + 256 * b2n q.pageOpen
  else if sel = 2 then q.page.toNat
  else if sel = 3 then q.lines.toNat
  else if sel = 4 then q.nextSeg.toNat
  else if sel < 9 then q.freeAt (finOf 4 (by decide) (sel - 5))
  else if sel < 13 then q.nb[finOf 4 (by decide) (sel - 9)]
  else s.now % 2 ^ 32

/-- FREAD with sel 0 to 13. What a queued build may still change, the conditions and NB, it reads after the builder has met those builds
(log 10). -/
def State.sqFread (s : State) (k : Fin 12) (rd : Fin 32) (sel : Nat) : State :=
  if decide (sel = 0 ∨ 9 ≤ sel ∧ sel < 13) && !s.sqs[k].builds.isEmpty then s.stallSq k 4 else s.fireResult k rd (s.freadValue k sel)

/-- XCLR: conditions of the builds before it are set first (log 10). -/
def State.sqXclr (s : State) (k : Fin 12) (m : Word) : State :=
  if !s.sqs[k].builds.isEmpty then s.stallSq k 4 else (s.condClear k m).fireDone k

/-- BXS (`set`) and BXC on a condition 0 to 15 (R100, R101), once the builder has met every build before it (log 10). -/
def State.sqBranch (s : State) (k : Fin 12) (set : Bool) (bit : Nat) (off : BitVec 16) : State :=
  if !s.sqs[k].builds.isEmpty then s.stallSq k 4
  else if s.hasCond k bit = set then
    (s.modSq k (fun q => { q with stall := 0 })).setPc (sqCore k) (s.pcOf (sqCore k) + branchOff off)
  else s.fireDone k

/-! ## Page abort on a sequencer (R131) -/

/-- The page is aborted on the sequencer: a wait of a fire instruction, inside it or before it issues, ends at once. The registers of the
aborted page's waits and builds stay as they are; STREAM later discards its containers. -/
def State.sqAbort (s : State) (k : Fin 12) (page : Word) : State :=
  let q := s.sqs[k]
  if q.pageOpen ∧ q.page = page then
    let waited := decide (q.wait ≠ .none) || (q.stallExt && decide (q.stall ≠ 0))
    let s := (s.cond k xABORT).closePage k
    let s := s.modSq k (fun q => { q with wait := .none, stall := 0, lastAborted := some page })
    if waited then s.nextPc (sqCore k) else s
  else s

/-! ## Run control (R97, R132) and jobs (R130) -/

/-- A start at SQk_ENTRY with g1 to g31 zero and the fire state cleared; the job queue and the FIFOs are unchanged. -/
def State.sqStart (s : State) (k : Fin 12) : State :=
  s.modSq k (fun q => { q with
    st := .run, core := { q.core with g := Vector.replicate 32 0, pc := s.rd (SQ_ENTRY k) &&& 0xFFFFFFFC#32 }
    wait := .none, stall := 0, stallExt := false, pageOpen := false, page := 0, serial := 0, lines := 0, pmask := 0, am := 0, streamId := 0, nextSeg := 0
    nb := Vector.replicate 4 0, xstat := 0, seg := none, builds := [], resumed := none })

/-- HOLD = 1: RESET, with the open page closed as ENDPG would, without a wait. -/
def State.sqHold (s : State) (k : Fin 12) : State :=
  (s.closePage k).modSq k (fun q => { q with st := .reset, wait := .none, stall := 0, builds := [], seg := none })

/-- GO: from RESET with HOLD = 0, or from PARKED as FRESH says; ignored in other states. -/
def State.sqGo (s : State) (k : Fin 12) : State :=
  match s.sqs[k].st with
  | .reset => if s.flag (SQ_CTRL_HOLD k) then s else s.sqStart k
  | .parked => if s.flag (SQ_CTRL_FRESH k) then s.sqStart k else s.modSq k (fun q => { q with st := .run, resumed := some q.core.pc })
  | _ => s

/-- A supervisor write of SQk_CTRL. -/
def State.sqCtrl (s : State) (k : Fin 12) (v : Word) : State :=
  let s := ((s.put (SQ_CTRL_HOLD k) (field v 3 3)).put (SQ_CTRL_PARK_REQ k) (field v 2 2)).put (SQ_CTRL_FRESH k) (field v 1 1)
  let s := if v.getLsbD 3 then s.sqHold k else s
  if v.getLsbD 0 then s.sqGo k else s

/-- A job pushed, or discarded with OVF (R130). -/
def State.jobPush (s : State) (k : Fin 12) : State :=
  let w := Vector.ofFn (fun i : Fin 4 => s.rd (SQ_JOB_IN k i))
  if s.sqs[k].jobs.length < 4 then
    let s := s.modSq k (fun q => { q with jobs := q.jobs ++ [w] })
    s.put (SQ_JOB_STAT_COUNT k) s.sqs[k].jobs.length
  else s.set1 (SQ_JOB_STAT_OVF k)

/-- The oldest job removed (R130). -/
def State.jobPop (s : State) (k : Fin 12) : State :=
  let s := s.modSq k (fun q => { q with jobs := q.jobs.drop 1 })
  s.put (SQ_JOB_STAT_COUNT k) s.sqs[k].jobs.length

/-! ## The control block (R133) -/

/-- The head build of a sequencer waits for FIFO space (R111). -/
def Seq.spaceWait (q : Seq) : Bool :=
  match q.builds with
  | b :: _ => b.rest.isEmpty && b.checked && decide (b.done < b.count) && (lanes b.am).any (fun j => decide (64 ≤ q.fifo[j].length))
  | [] => false

/-- The WAIT code of R133; 4 while a build waits for FIFO space and no instruction waits itself (R111). -/
def Seq.waitCode (q : Seq) : Nat :=
  match q.wait with
  | .none => if q.stall = 0 && q.spaceWait then 4 else q.stall
  | .verdict _ | .header _ _ => 1
  | .waitq _ _ _ => 2
  | .syncl _ => 3

/-- The STATE code of R97. -/
def SqState.code : SqState → Nat
  | .reset => 0 | .run => 1 | .parked => 2 | .halted => 3

/-- The counts of SQk_FIFOj: READY, WAITING, BUILT, FREE. -/
def Seq.fifoWord (q : Seq) (j : Fin 4) : Word :=
  let l := q.fifo[j]
  let ready := (l.filter (fun e => e.committed && !e.waiting)).length
  let wait := (l.filter (fun e => e.waiting)).length
  let built := (l.filter (fun e => !e.committed)).length
  BitVec.ofNat 32 (ready * 2 ^ 24 + wait * 2 ^ 16 + built * 256 + q.freeAt j)

/-- A read of a register that shows live state; PC is a free value while RUN, when it is not valid (R133). -/
def State.sqRead (s : State) (k : Fin 12) (off : Nat) : Option (Word × State) :=
  let q := s.sqs[k]
  if off = 0x04 then some (BitVec.ofNat 32 (q.waitCode * 4096 + b2n q.pageOpen * 256 + q.st.code), s)
  else if off = 0x0C then some (if q.st = .run then (s.freeWord, s.advance) else (q.core.pc, s))
  else if off = 0x20 then some (q.page, s)
  else if off = 0x24 then some (q.lines, s)
  else if off = 0x28 then some (q.xstat.setWidth 32, s)
  else if off = 0x2C then
    some (BitVec.ofNat 32 (q.streamId.toNat * 65536 + b2n q.pageOpen * 256 + q.pmask.toNat * 16 + q.am.toNat), s)
  else if off = 0x34 then some (setBit (s.rd (SQ_SYNC k)) k.val true, s)
  else if 0x40 ≤ off ∧ off < 0x50 then some (q.fifoWord (finOf 4 (by decide) ((off - 0x40) / 4)), s)
  else if off = 0x54 then some (q.nextSeg.setWidth 32, s)
  else if 0x60 ≤ off ∧ off < 0x70 then some (BitVec.ofNat 32 q.nb[finOf 4 (by decide) ((off - 0x60) / 4)], s)
  else if 0x120 ≤ off ∧ off < 0x130 then
    some (match q.jobs with
      | w :: _ => (w[finOf 4 (by decide) ((off - 0x120) / 4)], s)
      | [] => (0, s))
  else none

/-- Whether a port of the sequencer whose profile selects map m has a page open (R126). -/
def State.nomBusy (s : State) (k : Fin 12) (m : Nat) : Bool :=
  (fins 4).any (fun j => decide (s.get (HP_GEOM_MAP (portOf k j)) = m) && s.portPageOpen (portOf k j))

/-- A supervisor write; none for a register without a rule of its own. -/
def State.sqWrite (s : State) (k : Fin 12) (off : Nat) (v : Word) : Option (Resp × State) :=
  if off = 0x00 then some (.ok, s.sqCtrl k v)
  else if off = 0x08 ∨ off = 0x30 ∨ off = 0x34 ∨ off = 0x38 ∨ off = 0x3C then
    if s.sqs[k].st = .run then some (.errUnit, s) else none
  else if 0x80 ≤ off ∧ off < 0xC0 then
    if s.nomBusy k ((off - 0x80) / 4) then some (.errUnit, s) else none
  else if off = 0x104 then some (.ok, s.jobPush k)
  else if off = 0x108 then some (.errUnit, s)
  else none

/-- A write by the sequencer itself: SQk_STAGE, SQk_SYNC and SQk_JOB_POP only (R133). -/
def State.sqWriteOwn (s : State) (k : Fin 12) (off : Nat) : Option (Resp × State) :=
  if off = 0x30 ∨ off = 0x34 then none
  else if off = 0x108 then some (.ok, s.jobPop k)
  else some (.errUnit, s)

end Sys2Proof.Machine
end

