-- ==== Sys2Proof/Machine/LinkWire.lean ====
section
/-!
DEFINITION. Frames and link words as a port puts them on its four lanes (R297, R298, R300), frames as they arrive, and the PRBS
checker of a lane (R296). The 8b/10b code below the symbols is not modelled (R291, log 101).
-/
namespace Sys2Proof

open Machine

/-! ## Frames and training results as they arrive (R294, R298) -/

/-- A payload length rounded up to a multiple of 4. -/
def Machine.padded (len : Nat) : Nat := (len + 3) / 4 * 4

/-- The fields of a frame that has come, by their places in the header. -/
def RxFrame.type (f : RxFrame) : Nat := leAt f.bytes 0 1
def RxFrame.flags (f : RxFrame) : Nat := leAt f.bytes 1 1
def RxFrame.len (f : RxFrame) : Nat := leAt f.bytes 2 2
def RxFrame.dst (f : RxFrame) : Nat := leAt f.bytes 4 2 % 4096
def RxFrame.src (f : RxFrame) : Nat := leAt f.bytes 6 2 % 4096
def RxFrame.seq (f : RxFrame) : Nat := leAt f.bytes 8 2 % 4096
def RxFrame.hops (f : RxFrame) : Nat := leAt f.bytes 10 2 % 1024
def RxFrame.payload (f : RxFrame) : List Byte := (f.bytes.drop 16).take f.len

/-- Header, payload and padding of a frame that has come. -/
def RxFrame.body (f : RxFrame) : List Byte := f.bytes.take (16 + padded f.len)

/-- The virtual channel that a frame's FLAGS name. -/
def RxFrame.vc (f : RxFrame) : Fin 2 := if f.flags % 2 = 1 then 1 else 0

/-- Oversize (R304): LEN above 2,048, no end within 2,068 bytes, the end before LEN and padding, or a second K28.7. -/
def RxFrame.oversize (f : RxFrame) : Bool :=
  f.split || decide (2048 < f.len ∨ 2068 < f.bytes.length ∨ f.bytes.length < 16 + padded f.len)

/-- The CRC passes: it stands after the padding and ends the frame, and no symbol of the frame is in error (R291, R298). -/
def RxFrame.crcOk (f : RxFrame) : Bool :=
  f.errs.isEmpty && decide (f.bytes.drop (16 + padded f.len) = leBytes 4 (crc32c f.body).toNat)

/-- The setting that a search keeps: free of errors with the widest margin, the lower peaking on a tie; none where no setting is free of
errors (R294). -/
def LaneTrain.best (r : LaneTrain) : Option (Fin 16) :=
  (fins 16).foldl (fun b i =>
    if !(r.tries[i]).1 then b
    else match b with
      | none => some i
      | some k => if (r.tries[k]).2.toNat < (r.tries[i]).2.toNat then some i else b) none

end Sys2Proof

namespace Sys2Proof.Machine

/-! ## Frames (R298) -/

/-- The header of a frame with its SEQ. -/
def MFrame.header (f : MFrame) (seq : Nat) : List Byte :=
  leBytes 1 f.type ++ leBytes 1 f.flags ++ leBytes 2 f.payload.length ++ leBytes 2 f.dst ++ leBytes 2 f.src ++ leBytes 2 seq ++
    leBytes 2 f.hops ++ leBytes 4 0

/-- Header, payload and zero padding of a frame. -/
def MFrame.body (f : MFrame) (seq : Nat) : List Byte :=
  f.header seq ++ f.payload ++ List.replicate (padded f.payload.length - f.payload.length) 0

/-- The bytes of a frame, its CRC-32C at the end. -/
def MFrame.wire (f : MFrame) (seq : Nat) : List Byte := f.body seq ++ leBytes 4 (crc32c (f.body seq)).toNat

/-- The frame without its link fields. -/
def frameOf (f : RxFrame) : MFrame :=
  { type := f.type, flags := f.flags, dst := f.dst, src := f.src, hops := f.hops, payload := f.payload }

/-! ## Symbol times (R297, R300) -/

/-- Bytes dealt to the lanes: byte b travels on lane b mod 4, in the (b div 4)th symbol time. -/
def dealLanes : List Byte → List (Vector Symbol 4)
  | a :: b :: c :: d :: t => #v[.data a, .data b, .data c, .data d] :: dealLanes t
  | _ => []

/-- A frame's bytes between K27.7 and its end symbol (R297). -/
def frameSymbols (last : Symbol) (bs : List Byte) : List (Vector Symbol 4) :=
  #v[.k27_7, .k27_7, .k27_7, .k27_7] :: (dealLanes bs ++ [#v[last, last, last, last]])

/-- A link word: K28.1, then KIND and VC in B1 and VALUE in B2 and B3 (R300). -/
def wordSymbols (kind vc value : Nat) : Vector Symbol 4 :=
  #v[.k28_1, .data (BitVec.ofNat 8 (kind * 16 + vc)), .data (BitVec.ofNat 8 value), .data (BitVec.ofNat 8 (value / 256))]

/-! ## The PRBS checker (R296) -/

/-- One bit of the sequence: x⁷ + x⁶ + 1 or x³¹ + x²⁸ + 1. Bit 0 of the history is the newest. -/
def prbsBit (m : Nat) (h : BitVec 31) : BitVec 31 :=
  let b := if m = 1 then xor (h.getLsbD 6) (h.getLsbD 5) else xor (h.getLsbD 30) (h.getLsbD 27)
  (h <<< 1) ||| (if b then 1#31 else 0#31)

/-- The history eight bits on: the next byte of the sequence is its low byte, the bit first sent highest. -/
def prbsByte (m : Nat) (h : BitVec 31) : BitVec 31 := (List.range 8).foldl (fun h _ => prbsBit m h) h

/-- The history after a byte that has come, bit 0 first, the order in which 8b/10b sends a byte (R291). -/
def prbsPush (h : BitVec 31) (b : Byte) : BitVec 31 :=
  (List.range 8).foldl (fun h i => (h <<< 1) ||| (if b.getLsbD i then 1#31 else 0#31)) h

/-- One byte reaches the checker, none where its symbol is no valid code: before its lock it counts error-free bytes in a row, and takes
what has come as the sequence; once locked it runs on by itself, and each wrong byte and each code error adds one (R296, log 98). -/
def PrbsCheck.take (m : Nat) (c : PrbsCheck) (b : Option Byte) : PrbsCheck :=
  let next := prbsByte m c.hist
  if 32 ≤ c.good then
    { c with hist := next, errs := c.errs + (if b.map (prbsPush c.hist) = some next then 0 else 1) }
  else match b with
    | none => { c with good := 0 }
    | some b =>
      let got := prbsPush c.hist b
      { c with hist := got, good := if got = next then c.good + 1 else 0 }

end Sys2Proof.Machine
end

