-- ==== Sys2Proof/Machine/LinkBase.lean ====
section
/-!
DEFINITION. Sessions and ports of Millrace: which session a port carries, frames queued, and link words sent (R299, R300,
R313). Ports are 0 A, 1 B, 2 U, 3 D.
-/
namespace Sys2Proof.Machine

/-- The session a port carries: the network path's for A and B, U's or D's own (R313). -/
def sessOf (p : Fin 4) : Fin 3 := if p = 2 then 1 else if p = 3 then 2 else 0

/-- The active network port (MR_PATH_STAT.ACTIVE, R313). -/
def State.activePort (s : State) : Fin 4 := if s.flag (MR_PATH_STAT_ACTIVE 0) then 1 else 0

/-- The network port that is not active. -/
def State.otherPort (s : State) : Fin 4 := if s.flag (MR_PATH_STAT_ACTIVE 0) then 0 else 1

/-- PX_STAT.STATE. -/
abbrev pxOFF : Nat := 0
abbrev pxTRAINING : Nat := 1
abbrev pxUP : Nat := 2
abbrev pxFAILED : Nat := 3
abbrev pxCOLD : Nat := 4
abbrev pxSELFTEST : Nat := 5
abbrev pxRESUMING : Nat := 6

/-- The state of a port. -/
def State.pxState (s : State) (p : Fin 4) : Nat := s.get (PX_STAT_STATE p)

/-- The state of a port set. -/
def State.pxSet (s : State) (p : Fin 4) (v : Nat) : State := s.put (PX_STAT_STATE p) v

/-- A port's link state changed. -/
def State.modLink (s : State) (p : Fin 4) (f : LinkPort → LinkPort) : State :=
  { s with links := { s.links with ports := vset s.links.ports p (f s.links.ports[p]) } }

/-- The session of a port changed. -/
def State.modSess (s : State) (p : Fin 4) (f : Session → Session) : State :=
  { s with links := { s.links with sess := vset s.links.sess (sessOf p) (f s.links.sess[sessOf p]) } }

/-- One virtual channel of a port's session. -/
def State.vc (s : State) (p : Fin 4) (v : Fin 2) : VcSess := s.links.sess[sessOf p].vcs[v]

/-- One virtual channel of a port's session changed. -/
def State.modVc (s : State) (p : Fin 4) (v : Fin 2) (f : VcSess → VcSess) : State :=
  s.modSess p (fun q => { q with vcs := vset q.vcs v (f q.vcs[v]) })

/-- The virtual channel of a frame type: 1 for TIME and POS (R298). -/
def typeVc (t : Nat) : Fin 2 := if t = 3 ∨ t = 4 then 1 else 0

/-- A frame queued on a port: it waits for credits and for the link (R309). -/
def State.linkQueue (s : State) (p : Fin 4) (q : QItem) : State :=
  s.modVc p (typeVc q.frame.type) (fun v => { v with queue := v.queue ++ [q] })

/-- A frame that the chip itself makes for one destination, queued on a port. -/
def State.linkSend (s : State) (p : Fin 4) (f : MFrame) : State := s.linkQueue p { frame := f, from_ := none, desc := none }

/-- A ring-break port sends and accepts HEALTH and MGMT frames only (R23, R312). -/
def State.breakStops (s : State) (p : Fin 4) (type : Nat) : Bool :=
  decide (p = 3 ∧ type ≠ 5 ∧ type ≠ 6) && s.flag (PX_STAT_RING_BREAK 3)

/-- A frame for every chip goes out on a chain port; the ring break discards it as NO_ROUTE (R312). -/
def State.linkCast (s : State) (p : Fin 4) (f : MFrame) : State :=
  if s.breakStops p f.type then s.bump (PX_CNT_LOW p 4) else s.linkSend p f

/-- The chip's ID (R311). -/
def State.chipId (s : State) : Nat := s.get (MR_ID_CHIP_ID 0)

/-- A frame of the chip's own. -/
def State.ownFrame (s : State) (type dst : Nat) (payload : List Byte) : MFrame :=
  { type := type, flags := (typeVc type).val, dst := dst, src := s.chipId, hops := 0, payload := payload }

/-- What the lanes of a port really send in a symbol time: a far-end loopback sends the partner's stream, a near-end parallel one K28.5
idle, and the generator PRBS (R295, R296). -/
def State.laneOut (s : State) (p : Fin 4) (x : Vector Symbol 4) : Vector Symbol 4 :=
  x.mapFinIdx (fun j y _ =>
    let n := 4 * p.val + j
    if (s.links.ports[p]).farEnd.getLsbD j || decide (s.get (LN_CTRL_LOOP n) = 3) then .looped
    else if s.get (LN_CTRL_LOOP n) = 2 then .idle
    else if s.get (LN_CTRL_PRBS_TX n) = 1 ∨ s.get (LN_CTRL_PRBS_TX n) = 2 then .prbs
    else y)

/-- Symbol times sent on a port. -/
def State.sendSymbols (s : State) (p : Fin 4) (xs : List (Vector Symbol 4)) : State :=
  s.modLink p (fun l => { l with sent := l.sent ++ xs.map (s.laneOut p) })

/-- A link word sent on a port (R300). -/
def State.sendWord (s : State) (p : Fin 4) (kind vc value : Nat) : State := s.sendSymbols p [wordSymbols kind vc value]

/-- The chip has a network path: EN = 1 on A or B (R309). -/
def State.hasNet (s : State) : Bool := s.flag (PX_CTRL_EN 0) || s.flag (PX_CTRL_EN 1)

/-- A frame for the press network, DST 0xFFE: the active path, or toward U without one (R309, R364). -/
def State.sendNet (s : State) (f : MFrame) : State := s.linkSend (if s.hasNet then s.activePort else 2) f

/-! ## The session engine's checkpoint (R316) -/

/-- What a checkpoint of the state now holds. -/
def State.ckptNow (s : State) : Ckpt :=
  let q := s.links.sess[0]
  { id := s.chipId, ringBreak := s.flag (PX_STAT_RING_BREAK 3), rate := s.get (PX_CTRL_RATE s.activePort), init := q.live,
    credits := q.vcs.toList.flatMap (fun v => [v.granted, v.consumed, v.rxGranted, v.rxUsed]),
    slavePort := s.get TIME_CTRL_SLAVE_PORT, master := s.rd64 TIME_MASTER_ID_LO TIME_MASTER_ID_HI,
    syncSeq := s.links.syncSeq, ctle := s.links.ctle }

/-- A checkpoint is written. -/
def State.ckptSave (s : State) : State :=
  let c := s.ckptNow
  { s.wr (MR_SAVE 0) (s.rd (MR_SAVE 0) + 1) with links := { s.links with ckpt := c } }

/-- A checkpoint is written on a change. -/
def State.ckptSync (s : State) : State := if s.ckptNow = s.links.ckpt then s else s.ckptSave

end Sys2Proof.Machine
end

