-- ==== Sys2Proof/Machine/TimeOps.lean ====
section
/-!
DEFINITION. What the position and time units do on events and register writes: encoder edges (R136 to R142), SSI reads (R143),
triggers (R148, R149), network time (R152 to R156), stamps (R157), the relay (R160 to R166), and their registers (R168).
-/
namespace Sys2Proof.Machine

/-! ## Encoder inputs (R136 to R142) -/

/-- The ENC channel of an encoder. -/
def encCh (n : Fin 4) : Fin 10 := ⟨n.val, by omega⟩

/-- A transition of an encoder input registered by the capture logic at this tick; the tick during which it reached the ball
is 3 ticks back (R136). One that reached it by the tick of the EN write belongs to the starting levels (R138). An input that returns
within MIN_EDGE discards both transitions (R137). -/
def State.encTransition (s : State) (n : Fin 4) (input : Fin 3) (level : Bool) : State :=
  let c := encCh n
  let q := s.pos[c]
  if q.balls[input] = level then s
  else
    let s := s.modPos c (fun q => { q with balls := vset q.balls input level })
    if q.startAt.any (fun t => decide (s.now ≤ t + 3)) then s.modPos c (fun q => { q with levels := vset q.levels input level })
    else if s.flag (CH_CFG_EN c) then
      let stamp := s.tbc - 3
      let back := q.cands.any (fun e => decide (e.input = input ∧ (stamp - e.stamp).toNat < s.get (CH_CFG_MIN_EDGE c)))
      if back then
        (s.modPos c (fun q => { q with cands := q.cands.filter (fun e =>
          !decide (e.input = input ∧ (stamp - e.stamp).toNat < s.get (CH_CFG_MIN_EDGE c))) })).bump (CH_ERR_CNT_CNT_B c)
      else s.modPos c (fun q => { q with cands := q.cands ++ [{ input := input, stamp := stamp, level := level }] })
    else s

/-- The candidates of the oldest stamp decoded: both A and B illegal, one of them a count, then the index edge (R138, R142). -/
def State.edgeDecode (s : State) (c : Fin 10) (stamp : Dword) : State :=
  let q := s.pos[c]
  let mine := q.cands.filter (fun e => decide (e.stamp = stamp))
  let find := fun (i : Fin 3) => mine.find? (fun e => decide (e.input = i))
  let lv := fun (i : Fin 3) => ((find i).map (fun e => e.level)).getD q.levels[i]
  let s := s.modPos c (fun q => { q with
    cands := q.cands.filter (fun e => decide (e.stamp ≠ stamp)), levels := q.levels.mapFinIdx (fun i _ h => lv ⟨i, h⟩) })
  let s := match find 0, find 1 with
    | some _, some _ =>
      let s := (s.set1 (CH_STAT_ILLEGAL c)).bump (CH_ERR_CNT_CNT_A c)
      (s.modPos c (fun q => { q with relayIllegal := true })).raise evENC_ILLEGAL c (valueSigned q.pos.toInt)
    | none, none => s
    | _, _ => s.count c (quadStep q.levels[0] q.levels[1] (lv 0) (lv 1)) stamp
  match find 2 with
  | some e => if e.level = !s.flag (CH_CFG_Z_POL c) then s.indexEdge c else s
  | none => s

/-- A candidate edge that has held MIN_EDGE ticks is confirmed: its count changes at STAMP + MIN_EDGE + 4 (R140). -/
def State.edgeConfirm (s : State) (n : Fin 4) : State :=
  let c := encCh n
  if s.flag (CH_CFG_EN c) then
    match s.pos[c].cands with
    | [] => s
    | e :: _ => if e.stamp.toNat + s.get (CH_CFG_MIN_EDGE c) + 4 ≤ s.now then s.edgeDecode c e.stamp else s
  else s

/-! ## Channel registers (R168) -/

/-- A channel starts: its starting levels are those at the balls, nothing is pending, its history is cleared (R138, R144). -/
def State.channelStart (s : State) (c : Fin 10) : State :=
  (s.modPos c (fun q => { q with
    levels := q.balls, cands := [], startAt := some s.now, ssiLast := none, ssiPrev := none, ssiFrame := none, vencSeq := none, vencTstep := none, vencWait := [],
    relay := [], relayIllegal := false })).histClear c

/-- CHc_CFG written; with EN = 1 only EN and ARM may change. -/
def State.chCfg (s : State) (c : Fin 10) (v : Word) : Resp × State :=
  let old := s.rd (CH_CFG c)
  let v := if field v 19 10 < 2 then withField v 19 10 2 else v
  let m : Word := 0xFFFFFFF6#32
  if old.getLsbD 0 && decide (v &&& m ≠ old &&& m) then (.errUnit, s)
  else
    let s := s.wr (CH_CFG c) (v &&& 0xFFFFFFF7#32)
    let s := if v.getLsbD 3 then s.modPos c (fun q => { q with armed := q.isArmed s.now, armAt := some s.tbc }) else s
    let s := if v.getLsbD 0 && !old.getLsbD 0 then s.channelStart c
      else if old.getLsbD 0 && !v.getLsbD 0 then s.modPos c (fun q => { q with cands := [], startAt := none, ssiFrame := none, vencWait := [] })
      else s
    (.ok, s)

/-- CHc_AUX written: clamped on SSI channels, without fields on ENC channels. -/
def State.chAux (s : State) (c : Fin 10) (v : Word) : Resp × State :=
  if c.val < 4 then (.ok, s)
  else if s.flag (CH_CFG_EN c) then (.errUnit, s)
  else if c.val < 6 then
    let d := max 39 (min 3999 (field v 23 12))
    let b := max 8 (min 40 (field v 5 0))
    (.ok, s.wr (CH_AUX c) (withField (withField (v &&& 0xFFFFF83F#32) 23 12 d) 5 0 b))
  else (.ok, s.wr (CH_AUX c) v)

/-- POS set by a register write: the history is cleared (R144). -/
def State.posSet (s : State) (c : Fin 10) (p : BitVec 48) : State := (s.modPos c (fun q => { q with pos := p })).histClear c

/-- A write to a channel's registers. -/
def State.chWrite (s : State) (c : Fin 10) (off : Nat) (v : Word) : Option (Resp × State) :=
  match off with
  | 0x00 => some (s.chCfg c v)
  | 0x04 =>
    if s.flag (CH_CFG_EN c) then some (.errUnit, s)
    else some (.ok, s.posSet c ((s.staged (CH_POS_HI c)).extractLsb' 0 16 ++ v))
  | 0x08 => if s.flag (CH_CFG_EN c) then some (.errUnit, s) else none
  | 0x0C => if s.flag (CH_CFG_EN c) then some (.errUnit, s) else some (.ok, s.modPos c (fun q => { q with rev := v }))
  | 0x20 => some (s.chAux c v)
  | 0x24 => some (.ok, s.modPos c (fun q => { q with snap := q.hist }))
  | _ => none

/-! ## SSI reads (R143) -/

/-- The channel of an SSI encoder. -/
def ssiCh (n : Fin 2) : Fin 10 := ⟨4 + n.val, by omega⟩

/-- A read is due: PERIOD µs after the last one, the first at once, while the clock pair is driven (R143, R448). -/
def State.ssiDue (s : State) (c : Fin 10) : Bool :=
  let period := field (s.rd (CH_AUX c)) 31 24
  s.flag (CH_CFG_EN c) && s.outOfReset && decide (period ≠ 0) && s.pos[c].ssiLast.all (fun t => decide (t + 800 * period ≤ s.now))

/-- A read frame starts: its stamp is this tick; with SSIn_D not high it is discarded. A read that falls due while a frame runs
is skipped. -/
def State.ssiStart (s : State) (n : Fin 2) (dataHigh : Bool) : State :=
  let c := ssiCh n
  if s.ssiDue c then
    let running := s.pos[c].ssiFrame.isSome
    let s := s.modPos c (fun q => { q with ssiLast := some s.now })
    if running then s
    else if dataHigh then s.modPos c (fun q => { q with ssiFrame := some s.tbc })
    else (s.set1 (CH_STAT_SSI_ERR c)).bump (CH_ERR_CNT_CNT_A c)
  else s

/-- The tick at which the pair of a frame begun at a stamp enters the history: the (BITS + 1)th falling edge of SSIn_CK, the period of
which is 2 × (CLK_DIV + 1) ticks, and 4 ticks (R143). -/
def State.ssiEntry (s : State) (c : Fin 10) (stamp : Dword) : Nat :=
  let w := s.rd (CH_AUX c)
  stamp.toNat + field w 5 0 * (2 * (field w 23 12 + 1)) + 4

/-- Gray code of `n` bits decoded. -/
def grayDecode : Nat → Nat → Nat
  | 0, _ => 0
  | n + 1, v =>
    let rest := grayDecode n (v / 2)
    2 * rest + (v + rest) % 2

/-- An SSI frame ends with its raw bits, at the tick its pair enters the history: decoded, unwrapped, and latched. -/
def State.ssiDone (s : State) (n : Fin 2) (bits : BitVec 40) : State :=
  let c := ssiCh n
  let q := s.pos[c]
  match q.ssiFrame with
  | none => s
  | some stamp =>
    if s.now < s.ssiEntry c stamp then s
    else
    let w := field (s.rd (CH_AUX c)) 5 0
    let v := bits.toNat % 2 ^ w
    let raw := if (s.rd (CH_AUX c)).getLsbD 11 then grayDecode w v else v
    let p : BitVec 48 := match q.ssiPrev with
      | none => BitVec.ofNat 48 raw
      | some prev => q.pos + BitVec.ofInt 48 (sext w (raw + 2 ^ w - prev))
    let s := s.modPos c (fun q => { q with pos := p, rev := BitVec.ofNat 32 raw, ssiPrev := some raw, ssiFrame := none })
    s.latch c { p := p, t := stamp * 16 }

/-! ## Axes and triggers (R148, R149, R168) -/

/-- An axis is in use: by an enabled trigger, or by a port with a page open or an unresolved port-line. -/
def State.axisUsed (s : State) (a : Fin 4) : Bool :=
  (List.range 16).any (fun t => s.flag (PTRG_CFG_EN t) && decide (s.get (PTRG_CFG_AX t) = a.val)) ||
    (fins 48).any (fun p => decide (s.get (FSCH_P_CFG_AX p) = a.val) && s.portPageOpen p)

/-- AXa_CFG written: the estimator restarts (R144). -/
def State.axCfg (s : State) (a : Fin 4) (v : Word) : Resp × State :=
  if s.axisUsed a then (.errUnit, s) else (.ok, (s.wr (AX_CFG a) (v &&& 0x800F0330#32)).axRestart a)

/-- A trigger changed. -/
def State.modTrig (s : State) (t : Fin 16) (f : Trig → Trig) : State := { s with trigs := vset s.trigs t (f s.trigs[t]) }

/-- PTRGt_CFG written: writing EN = 1 restarts k at the first pending position (R149). -/
def State.trigCfg (s : State) (t : Fin 16) (v : Word) : State :=
  let s := s.wr (PTRG_CFG t) v
  if v.getLsbD 31 then s.modTrig t (fun g => { g with k := s.trigStart t, frozen := none })
  else s.modTrig t (fun g => { g with frozen := none })

/-- The next position of a trigger is frozen once its time lies within the cut-off (R148, R174), a time already past too, whose pulse then
has its start tick in the past (log 103). -/
def State.trigFreeze (s : State) (t : Fin 16) : State :=
  let g := s.trigs[t]
  if s.flag (PTRG_CFG_EN t) && g.frozen.isNone && s.trigHas t g.k then
    match s.trigTime t g.k with
    | none => s
    | some T => if T.toNat / 16 ≤ s.now + s.get FSCH_TIMING_CUTOFF then s.modTrig t (fun g => { g with frozen := some T }) else s
  else s

/-- A trigger record for a camera port (R149, R257); records too old to be paired are discarded. -/
def State.camTrigger (s : State) (n : Fin 8) (r : TrigRec) : State :=
  let win := s.get (CAM_TRIG_WIN_WIN n)
  let c := s.cams[n]
  { s with cams := vset s.cams n { c with
    trigs := (c.trigs.filter (fun t => decide (r.tick ≤ t.tick + win))) ++ [r], lastTp := some r.tp } }

/-- A frozen position's tick has come: a pulse with its record, or a skip while the previous pulse lasts (R149). -/
def State.trigPulse (s : State) (t : Fin 16) : State :=
  let s := s.trigFreeze t
  let g := s.trigs[t]
  match g.frozen with
  | none => s
  | some T =>
    let tick := T.toNat / 16
    if s.flag (PTRG_CFG_EN t) && decide (tick ≤ s.now) then
      let busy := match g.pulseEnd with
        | none => false
        | some e => decide (tick < e)
      if busy then
        ((s.modTrig t (fun g => { g with k := g.k + 1, frozen := none })).bump (PTRG_SKIP_SKIP_CNT t)).raise evTRG_SKIP t (value1 g.k)
      else
        let w := max 1 (s.get (PTRG_CFG_WIDTH t))
        let s := s.modTrig t (fun g => { g with k := g.k + 1, frozen := none, pulseEnd := some (tick + w) })
        if h : t.val < 8 then s.camTrigger ⟨t.val, h⟩ { k := g.k, tp := s.trigPos t g.k, tick := tick } else s
    else s

/-- A pulse ends. -/
def State.trigEnd (s : State) (t : Fin 16) : State :=
  match s.trigs[t].pulseEnd with
  | none => s
  | some e => if e ≤ s.now then s.modTrig t (fun g => { g with pulseEnd := none }) else s

/-- A write to the POS unit; none where no rule of its own applies. -/
def State.posWrite (s : State) (off : Nat) (v : Word) : Option (Resp × State) :=
  if off = 0 then
    some (.ok, s.wr POS_CTRL (BitVec.ofNat 32 (max 1601 (min 40000 (field v 31 16)) * 65536 + field v 5 0)))
  else if 0x400 ≤ off ∧ off < 0x500 then
    let a : Fin 4 := finOf 4 (by decide) ((off - 0x400) / 0x40)
    match off % 0x40 with
    | 0 => some (s.axCfg a v)
    | 4 | 8 => if s.axisUsed a then some (.errUnit, s) else none
    | _ => none
  else if 0x800 ≤ off ∧ off < 0xA00 then
    if off % 0x20 = 0 then some (.ok, s.trigCfg (finOf 16 (by decide) ((off - 0x800) / 0x20)) v) else none
  else if 0x1000 ≤ off ∧ off < 0x2400 then
    s.chWrite (finOf 10 (by decide) ((off - 0x1000) / 0x200)) (off % 0x200) v
  else none

/-- A word of a 64-bit value: its low half at an even place. -/
def halfOf (d : Dword) (hi : Bool) : Word := if hi then d.extractLsb' 32 32 else d.extractLsb' 0 32

/-- An output register of an axis (offsets 0x0C to 0x2C). -/
def State.axOut (s : State) (a : Fin 4) (off : Nat) : Word :=
  let o := s.axes[a].at s.now
  match off with
  | 0x0C => halfOf o.vel false
  | 0x10 => halfOf o.vel true
  | 0x14 => halfOf o.ap false
  | 0x18 => halfOf o.ap true
  | 0x1C => halfOf o.at_ false
  | 0x20 => halfOf o.at_ true
  | 0x24 => BitVec.ofNat 32 o.speed
  | 0x28 => BitVec.ofNat 32 (s.axSpeedMms a)
  | _ => BitVec.ofNat 32 (b2n o.stall + 2 * b2n (decide (o.vel.toInt < 0)))

/-- A read of an axis output: a read of VEL_LO captures the others (R168). -/
def State.axRead (s : State) (a : Fin 4) (off : Nat) : Word × State :=
  let addr := AX_CFG a + off
  if off = 0x0C then
    (s.axOut a off, [0x10, 0x14, 0x18, 0x1C, 0x20, 0x24, 0x28, 0x2C].foldl (fun s o => s.capture (AX_CFG a + o) (s.axOut a o)) s)
  else s.captured addr (s.axOut a off)

/-- A read of the history window of a channel: beyond the snapshot zero. -/
def PosChan.histWord (q : PosChan) (off : Nat) : Word :=
  match q.snap[off / 16]? with
  | none => 0
  | some e => match off % 16 / 4 with
    | 0 => e.p.extractLsb' 0 32
    | 1 => (e.p.extractLsb' 32 16 : BitVec 16).signExtend 32
    | 2 => halfOf e.t false
    | _ => halfOf e.t true

/-- A read of a channel's registers. -/
def State.chRead (s : State) (c : Fin 10) (off : Nat) : Option (Word × State) :=
  let q := s.pos[c]
  match off with
  | 0x00 => some (setBit (s.rd (CH_CFG c)) 3 (q.isArmed s.now), s)
  | 0x04 => some (q.pos.extractLsb' 0 32, s.capture (CH_POS_HI c) ((q.pos.extractLsb' 32 16 : BitVec 16).signExtend 32))
  | 0x08 => some (s.captured (CH_POS_HI c) ((q.pos.extractLsb' 32 16 : BitVec 16).signExtend 32))
  | 0x0C => some (q.rev, s)
  | 0x18 => some (withField (setBit (s.rd (CH_STAT c)) 2 (q.isArmed s.now)) 20 16 q.hist.length, s)
  | 0x20 => if c.val < 4 then some (0, s) else none
  | _ => if 0x100 ≤ off then some (q.histWord (off - 0x100), s) else none

/-- A read of the POS unit that shows live state. -/
def State.posRead (s : State) (off : Nat) : Option (Word × State) :=
  if 0x400 ≤ off ∧ off < 0x500 then
    if 0x0C ≤ off % 0x40 ∧ off % 0x40 ≤ 0x2C then
      some (s.axRead (finOf 4 (by decide) ((off - 0x400) / 0x40)) (off % 0x40))
    else none
  else if 0x800 ≤ off ∧ off < 0xA00 then
    if off % 0x20 = 0x14 then some (BitVec.ofNat 32 (s.trigs[finOf 16 (by decide) ((off - 0x800) / 0x20)]).k, s) else none
  else if 0x1000 ≤ off ∧ off < 0x2400 then s.chRead (finOf 10 (by decide) ((off - 0x1000) / 0x200)) (off % 0x200)
  else none

/-! ## Network time (R152 to R156) -/

/-- A step of OFFSET in units of Q16.16 ns, saturated (R154). -/
def satStep (d : Int) : Int := max (-0x7FFFFFFF) (min 0x7FFFFFFF d)

/-- An accepted OFFSET change by `d` (R154): counted and recorded, a change by 0 too (log 105); a large one raises TIME_STEP; every VENC
history moves (R166). -/
def State.offsetMoved (s : State) (d : Int) : State :=
  let s := { s with offset := s.offset + BitVec.ofInt 80 d }
  let s := s.put TIME_STAT_TSTEP ((s.get TIME_STAT_TSTEP + 1) % 256)
  let s := s.wr TIME_LAST_STEP (BitVec.ofInt 32 (satStep d))
  let s := if (s.rd TIME_JUMP_MAX).toNat * 65536 < d.natAbs then s.raise evTIME_STEP 0 (valueSigned d) else s
  [6, 7, 8, 9].foldl (fun s (c : Fin 10) => s.histShift c (-(roundDiv d 5120))) s

/-- A change of OFFSET by `d`, accepted or refused (R153); STEP_ALLOW holds for one write. In HOLDOVER it is ignored (R155). -/
def State.offsetChange (s : State) (d : Int) : State :=
  let allow := s.flag TIME_CTRL_STEP_ALLOW
  let s := s.clr TIME_CTRL_STEP_ALLOW
  if s.flag TIME_STAT_HOLDOVER then s.set1 TIME_STAT_HOLD_WR
  else if (s.rd TIME_JUMP_MAX).toNat * 65536 < d.natAbs ∧ allow = false then
    (s.set1 TIME_STAT_JUMP_REFUSED).raise evTIME_JUMP_REFUSED 0 (valueSigned d)
  else s.offsetMoved d

/-- TIME_OFFSET_LO written (R153). -/
def State.timeOffset (s : State) (v : Word) : State :=
  let new : BitVec 80 := s.staged TIME_OFFSET_HI ++ v ++ (s.staged TIME_OFFSET_FRAC).extractLsb' 0 16
  s.offsetChange (new - s.offset).toInt

/-- TIME_ADJ written: signed Q16.16 ns (R153). -/
def State.timeAdj (s : State) (v : Word) : State := s.offsetChange v.toInt

/-- TIME_RATE written: clamped, OFFSET adjusted so that NT is continuous (R152). -/
def State.timeRate (s : State) (v : Word) : State :=
  if s.flag TIME_STAT_HOLDOVER then s.set1 TIME_STAT_HOLD_WR
  else
    let r := v.toInt
    let c := max (-549755813) (min 549755813 r)
    let s := if c = r then s else s.set1 TIME_STAT_RATE_CLAMPED
    let d := ntQ16 s.now s.rate 0 - ntQ16 s.now c 0
    { s.wr TIME_RATE (BitVec.ofInt 32 c) with offset := s.offset + BitVec.ofInt 80 d }

/-- HOLDOVER entered (R155). -/
def State.holdover (s : State) (cause : Nat) : State :=
  if s.flag TIME_STAT_HOLDOVER then s
  else ((s.set1 TIME_STAT_HOLDOVER).put TIME_STAT_HOLD_CAUSE cause).raise evTIME_HOLDOVER 0 0

/-- The port that is watched for SYNC: SLAVE_PORT, or B after a fail-over of A (R155). -/
def State.syncPort (s : State) : Option (Fin 4) :=
  match s.get TIME_CTRL_SLAVE_PORT with
  | 1 => some (if s.flag (MR_PATH_STAT_ACTIVE 0) then 1 else 0)
  | 2 => some 1
  | 3 => some 2
  | 4 => some 3
  | _ => none

/-- A SYNC frame on a port (R155); the checkpoint keeps its SEQ (R316). -/
def State.syncSeen (s : State) (p : Fin 4) (clock : Dword) (seq : Nat) : State :=
  if s.syncPort = some p then
    let s := { s with links := { s.links with syncAt := s.now, syncSeq := seq } }
    let m := s.rd64 TIME_MASTER_ID_LO TIME_MASTER_ID_HI
    if m = 0 then s.wr64 TIME_MASTER_ID_LO TIME_MASTER_ID_HI clock
    else if m ≠ clock then s.holdover 1 else s
  else s

/-- No SYNC for SYNC_TO ms on the watched port (R155); a millisecond is 800,000 ticks. -/
def State.syncTimeout (s : State) : State :=
  let limit := s.get TIME_CTRL_SYNC_TO
  if s.syncPort.isSome ∧ limit ≠ 0 ∧ limit * 800000 ≤ s.now - s.links.syncAt then s.holdover 2 else s

/-- What compare unit n compares with (R156). -/
def State.tCmpNow (s : State) (n : Nat) : Word :=
  if s.flag (TIME_CMP_CTRL_BASE n) then s.tbc.extractLsb' 0 32 else s.nt.extractLsb' 16 32

/-- The condition of R156. -/
def State.tCmpDue (s : State) (n : Nat) : Bool := decide (0 ≤ (s.tCmpNow n - s.rd (TIME_CMP_VAL n)).toInt)

/-- Compare unit n fires (R156). -/
def State.tCmpFire (s : State) (n : Nat) : State :=
  ((s.clr (TIME_CMP_CTRL_EN n)).set1 (TIME_CMP_CTRL_FIRED n)).raise (evTIME_CMP0 + n) n 0

/-- TIME_CMPn_CTRL written: arming fires at once, with LATE, where the condition already holds (R156). -/
def State.tCmpCtrl (s : State) (n : Nat) (v : Word) : State :=
  let old := s.rd (TIME_CMP_CTRL n)
  let s := s.wr (TIME_CMP_CTRL n) ((v &&& 0x80000001#32) ||| (old &&& ~~~v &&& 0x0000000C#32))
  if v.getLsbD 31 && s.tCmpDue n then (s.set1 (TIME_CMP_CTRL_LATE n)).tCmpFire n else s

/-- A stamp for the FIFO: the fine time of the start symbol, `fine` steps into the tick, with the port's asymmetry (R157). -/
def State.timeStamp (s : State) (p : Fin 4) (ingress : Bool) (fine msg seq : Nat) : State :=
  let w := s.rd (TIME_ASYM p)
  let t : Dword := s.tbc * 16 + BitVec.ofNat 64 (fine % 16) + (if ingress then BitVec.ofInt 64 (-(sext 16 (field w 15 0))) else BitVec.ofInt 64 (sext 16 (field w 31 16)))
  if s.ts.length < 32 then { s with ts := s.ts ++ [{ port := p, ingress := ingress, msg := msg, seq := seq, stamp := t }] }
  else s.set1 TIME_STAT_TS_OVF

/-- A write to the TIME unit; none where no rule of its own applies. -/
def State.timeWrite (s : State) (off : Nat) (v : Word) : Option (Resp × State) :=
  if off = 0x1C then some (.ok, s.timeRate v)
  else if off = 0x20 then some (.ok, s.timeOffset v)
  else if off = 0x28 then some (.ok, s.stageHi TIME_OFFSET_FRAC v)
  else if off = 0x2C then some (.ok, s.timeAdj v)
  else if off = 0x34 then
    let s := s.wr TIME_CTRL ((v &&& 0x80FFFF07#32) ||| (s.rd TIME_CTRL &&& 0x80000000#32))
    some (.ok, ({ s with links := { s.links with syncAt := s.now } } : State).ckptSync)
  else if off = 0x40 then
    some (.ok, ((s.wr TIME_MASTER_ID_LO v).wr TIME_MASTER_ID_HI (s.staged TIME_MASTER_ID_HI)).ckptSync)
  else if off = 0x6C then some (.ok, { s with ts := s.ts.drop 1 })
  else if 0x80 ≤ off ∧ off < 0xC0 ∧ off % 8 = 0 then some (.ok, s.tCmpCtrl ((off - 0x80) / 8) v)
  else none

/-- A read of the TIME unit that shows live state (R151, R157). -/
def State.timeRead (s : State) (off : Nat) : Option (Word × State) :=
  let nt := s.nt
  match off with
  | 0x00 => some (halfOf s.tbc false, s.capture (TIME_TBC_LO + 4) (halfOf s.tbc true))
  | 0x04 => some (s.captured (TIME_TBC_LO + 4) (halfOf s.tbc true))
  | 0x08 =>
    let s := ((s.capture (TIME_NT_LO + 4) (nt.extractLsb' 48 32)).capture (TIME_NT_LO + 8) (nt.extractLsb' 0 16 |>.setWidth 32))
    some (nt.extractLsb' 16 32, (s.wr TIME_SNAP_TBC_LO (halfOf s.tbc false)).wr TIME_SNAP_TBC_HI (halfOf s.tbc true))
  | 0x0C => some (s.captured (TIME_NT_LO + 4) (nt.extractLsb' 48 32))
  | 0x10 => some (s.captured (TIME_NT_LO + 8) ((nt.extractLsb' 0 16).setWidth 32))
  | 0x20 =>
    some (s.offset.extractLsb' 16 32, (s.capture TIME_OFFSET_HI (s.offset.extractLsb' 48 32)).capture TIME_OFFSET_FRAC
      ((s.offset.extractLsb' 0 16).setWidth 32))
  | 0x24 => some (s.captured TIME_OFFSET_HI (s.offset.extractLsb' 48 32))
  | 0x28 => some (s.captured TIME_OFFSET_FRAC ((s.offset.extractLsb' 0 16).setWidth 32))
  | 0x60 => some (match s.ts with
    | [] => 0
    | e :: _ => BitVec.ofNat 32 (2 ^ 31 + e.port * 2 ^ 27 + b2n e.ingress * 2 ^ 26 + e.msg % 256 * 65536 + e.seq % 65536), s)
  | 0x64 => some (match s.ts with
    | [] => 0
    | e :: _ => halfOf e.stamp false, match s.ts with
    | [] => s
    | e :: _ => s.capture (TIME_TS_LO + 4) (halfOf e.stamp true))
  | 0x68 => some (s.captured (TIME_TS_LO + 4) (match s.ts with
    | [] => 0
    | e :: _ => halfOf e.stamp true))
  | _ => none

/-! ## Position relay (R160 to R166) -/

/-- The bytes of a POS frame's payload (R161). -/
def posFrameBytes (f : PosFrame) : List Byte :=
  leBytes 2 f.src.toNat ++ [BitVec.ofNat 8 f.ch, BitVec.ofNat 8 (f.pairs.length - 1 + 16 * b2n f.illegal)] ++ leBytes 2 f.seq.toNat ++
    [f.tstep, 0] ++ leBytes 4 f.lastStep.toNat ++ leBytes 4 0 ++
    f.pairs.flatMap (fun p => leBytes 6 p.1.toNat ++ leBytes 2 (p.2.toNat % 65536) ++ leBytes 8 (p.2.toNat / 65536))

/-- A POS payload read (R161). -/
def posFrameOf (b : List Byte) : PosFrame :=
  { src := BitVec.ofNat 12 (leAt b 0 2), ch := leAt b 2 1, seq := BitVec.ofNat 16 (leAt b 4 2), tstep := BitVec.ofNat 8 (leAt b 6 1)
    lastStep := BitVec.ofNat 32 (leAt b 8 4), illegal := (leAt b 3 1).testBit 4
    pairs := (List.range (leAt b 3 1 % 4 + 1)).map (fun j =>
      (BitVec.ofNat 48 (leAt b (16 + 16 * j) 6), BitVec.ofNat 80 (leAt b (22 + 16 * j) 2 + 65536 * leAt b (24 + 16 * j) 8))) }

/-- A POS frame of a relayed channel is sent on U and D when it holds 4 pairs, or 200 ns (160 ticks) after its first (R160). -/
def State.posSend (s : State) (ch : Fin 6) : State :=
  let c : Fin 10 := ⟨ch.val, by omega⟩
  let q := s.pos[c]
  match q.relay with
  | [] => s
  | (t0, _) :: _ =>
    if 4 ≤ q.relay.length ∨ t0 + 160 ≤ s.now then
      let now := q.relay.take 4
      let f : PosFrame := {
        src := BitVec.ofNat 12 s.chipId, ch := c, seq := q.relaySeq, tstep := BitVec.ofNat 8 (s.get TIME_STAT_TSTEP),
        lastStep := s.rd TIME_LAST_STEP, illegal := q.relayIllegal,
        pairs := now.map (fun e => (e.2.p, BitVec.ofInt 80 (floorDiv (ntQ16 e.2.t.toNat s.rate (s.offset.toInt * 16)) 16))) }
      let s := s.modPos c (fun q => { q with relay := q.relay.drop 4, relaySeq := q.relaySeq + 1, relayIllegal := false })
      let m := s.ownFrame 4 0xFFF (posFrameBytes f)
      (s.linkCast 2 m).linkCast 3 m
    else s

/-- A converted pair enters a VENC channel's history, or is discarded out of order (R163, R164). -/
def State.vencEnter (s : State) (c : Fin 10) (e : Pair) : State :=
  let late : Bool := s.pos[c].hist.head?.any (fun h => decide (e.t.toNat ≤ h.t.toNat))
  if late then s.set1 (CH_STAT_ORDER c)
  else (s.modPos c (fun q => { q with pos := e.p })).latch c e

/-- The tick at which a pair with a stamp enters (R163). -/
def State.vencTick (s : State) (c : Fin 10) (t : Dword) : Nat := ceilDiv t.toNat 16 + field (s.rd (CH_AUX c)) 31 16

/-- A converted pair arrives: it waits for its tick, or enters at once; after its tick it is late (R163). -/
def State.vencPair (s : State) (c : Fin 10) (e : Pair) : State :=
  let tick := s.vencTick c e.t
  if s.now < tick then s.modPos c (fun q => { q with vencWait := q.vencWait ++ [e] })
  else
    let s := if tick < s.now then
        ((s.set1 (CH_STAT_LATE c)).bump (CH_ERR_CNT_CNT_B c)).raise evVENC_LATE c (value1 (s.now - tick))
      else s
    s.vencEnter c e

/-- A POS frame on one VENC channel that it matches (R162 to R165). -/
def State.vencFrame (s : State) (c : Fin 10) (f : PosFrame) : State :=
  let q := s.pos[c]
  let gap := match q.vencSeq with
    | none => false
    | some n => decide (f.seq ≠ n + 1)
  let s := if gap then (s.set1 (CH_STAT_GAP c)).bump (CH_ERR_CNT_CNT_A c) else s
  let s := match q.vencTstep with
    | none => s
    | some n =>
      if f.tstep = n then s
      else if f.tstep = n + 1 then s.histShift c (roundDiv f.lastStep.toInt 5120)
      else (s.histClear c).set1 (CH_STAT_STEP_LOST c)
  let s := s.modPos c (fun q => { q with vencSeq := some f.seq, vencTstep := some f.tstep })
  f.pairs.foldl (fun s p => s.vencPair c { p := p.1, t := tbc16Of p.2.toInt s.rate s.offset.toInt }) s

/-- A POS frame arrives: every VENC channel with EN = 1 whose source it is takes it (R162). -/
def State.posFrame (s : State) (f : PosFrame) : State :=
  [6, 7, 8, 9].foldl (fun s (c : Fin 10) =>
    let w := s.rd (CH_AUX c)
    if s.flag (CH_CFG_EN c) && decide (field w 15 4 = f.src.toNat ∧ field w 3 0 = f.ch) then s.vencFrame c f else s) s

/-- The pair with the earliest stamp, the first of several. -/
def earliestPair : List Pair → Option Pair
  | [] => none
  | e :: t => match earliestPair t with
    | none => some e
    | some f => if f.t.toNat < e.t.toNat then some f else some e

/-- The waiting pair of a VENC channel with the earliest tick enters the history once that has come (R163). -/
def State.vencDue (s : State) (v : Fin 4) : State :=
  let c : Fin 10 := ⟨6 + v.val, by omega⟩
  match earliestPair s.pos[c].vencWait with
  | none => s
  | some e =>
    if s.vencTick c e.t ≤ s.now then (s.modPos c (fun q => { q with vencWait := q.vencWait.erase e })).vencEnter c e else s

end Sys2Proof.Machine
end

