-- ==== Sys2Proof/Machine/FschOps.lean ====
section
/-!
DEFINITION. The FSCH block's registers (R170, R196, R198), the ball INHIBIT_N (R187, R188) and the Brake oscillator's count (R190).
-/
namespace Sys2Proof.Machine

/-- INHIBIT_N has gone low: the blanking path and the synchronised level act on every strobe. A pulse shorter than 40 ns may or may not
blank: a free value (R187, R188, log 1). -/
def State.inhibitOn (s : State) (held40ns : Bool) : State :=
  if s.fsch.inhBall then s
  else
    let blank := held40ns || Config.freeBit s.free
    let s := { s.advance with fsch := { s.fsch with inhBall := true, blank := blank } }
    let s := ((s.bump ⟨FSCH_INH_CNT, 15, 0⟩).set1 FSCH_STAT_INH_SEEN).set1 FSCH_STAT_INHIBIT
    let s := s.raise evINHIBIT_ON 0 0
    (fins 48).foldl (fun s (p : Fin 48) => s.inhibitPort p) s

/-- INHIBIT_N has gone high. -/
def State.inhibitOff (s : State) : State :=
  if s.fsch.inhBall then
    ({ s with fsch := { s.fsch with inhBall := false, blank := false } }.clr FSCH_STAT_INHIBIT).raise evINHIBIT_OFF 0 0
  else s

/-- Fantail's count of Brake oscillator cycles, judged only while REF_OK = 1 (R190). -/
def State.brakeOsc (s : State) (count : BitVec 16) : State :=
  let s := s.put BRAKE_OSC_RATE count.toNat
  if s.flag CLK_STAT_REF_OK then
    let bad := decide (count.toNat < 4762 ∨ 5263 < count.toNat)
    let s := { s with boot := { s.boot with oscBad := bad } }
    if bad then ((s.set1 BRAKE_OSC_OSC_FAIL).raise evOSC_FAIL 0 0).withdrawAll else s
  else s

/-- FSCH_ABORT: the scheduler, and every sequencer (R131, R196). -/
def State.fschAbort (s : State) (page : Word) : State :=
  if (s.reportOf page).isSome then (fins 12).foldl (fun s (k : Fin 12) => s.sqAbort k page) (s.abortPage page)
  else s.set1 FSCH_STAT_ABORT_REFUSED

/-- Some port has a page open. -/
def State.anyPageOpen (s : State) : Bool := (fins 48).any (fun (p : Fin 48) => s.portPageOpen p)

/-- FSCH_TIMING written (R176, R178, R198). -/
def State.fschTiming (s : State) (v : Word) : Resp × State :=
  if s.anyPageOpen then (.errUnit, s)
  else (.ok, (s.put ⟨FSCH_TIMING, 28, 16⟩ (max 256 (field v 28 16))).put ⟨FSCH_TIMING, 9, 0⟩ (max 32 (field v 9 0)))

/-- A supervisor write to the FSCH block; none where no rule of its own applies. -/
def State.fschWrite (s : State) (off : Nat) (v : Word) : Option (Resp × State) :=
  if off = 0x00 then some (s.fschTiming v)
  else if off = 0x0C then some (.ok, s.fschAbort v)
  else if off = 0x50 then some (.ok, s.planCmd v)
  else if off = 0xF08 then some (s.rptCtrl rptFsch v)
  else if h : 0x1000 ≤ off ∧ off < 0x1000 + 0x40 * 48 then
    let p : Fin 48 := ⟨(off - 0x1000) / 0x40, by omega⟩
    if off % 0x40 < 0x10 ∧ s.portPageOpen p = true then some (.errUnit, s) else none
  else none

/-- FSCH_Pn_STAT as it reads (R175, R189, R193, R195). INH: there is an oldest line, and INHIBIT_N is asserted or has
already caught that line. -/
def State.fschStat (s : State) (p : Fin 48) : Word :=
  let w := s.rd (FSCH_P_STAT p)
  let caught := match s.fsch.ports[p].tracked.find? (fun t => t.outcome.isNone) with
    | some t => t.caughtInh
    | none => false
  let held := s.fsch.ports[p].oldest.isSome && (s.flag FSCH_STAT_INHIBIT || caught)
  let w := withField w 12 12 (b2n (s.brakeCut p))
  let w := withField w 10 10 (b2n (s.flag (FSCH_P_STAT_CRIT p) || s.flag FSCH_STAT_CRIT_ALL))
  withField (withField w 9 9 (b2n held)) 3 0 (s.fschState p)

/-- The plan entries that hold a plan, as FSCH_PLAN_RES.VALID. -/
def State.planValid (s : State) : Nat :=
  (fins 16).foldl (fun (n : Nat) (i : Fin 16) => if (s.fsch.plans[i]).isSome then n + 2 ^ i.val else n) 0

/-- A read of the FSCH block that shows live state. -/
def State.fschRead (s : State) (off : Nat) : Option Word :=
  if off = 0x04 then some (withField (s.rd FSCH_STAT) 20 16 s.planCount)
  else if off = 0x54 then some (withField (s.rd FSCH_PLAN_RES) 31 16 s.planValid)
  else if h : 0x1000 ≤ off ∧ off < 0x1000 + 0x40 * 48 then
    let p : Fin 48 := ⟨(off - 0x1000) / 0x40, by omega⟩
    match off % 0x40 with
    | 0x08 => some (((s.rd (FSCH_P_OFFSET_HI p)).extractLsb' 0 16).signExtend 32)
    | 0x10 => some (BitVec.ofNat 32 (s.minperReg p))
    | 0x14 => some (s.fschStat p)
    | 0x18 => some (match s.fsch.ports[p].oldest with
      | some (g, _) => g
      | none => 0)
    | 0x1C => some (match s.fsch.ports[p].oldest with
      | some (_, l) => BitVec.ofNat 32 l
      | none => 0)
    | _ => none
  else none

end Sys2Proof.Machine
end

