-- ==== Sys2Proof/Machine/DramOps.lean ====
section
/-!
DEFINITION. The DRAM controller (R325 to R342) and the access to memory by address (R35, R36) that every bus master uses.
-/
namespace Sys2Proof.Machine

/-! ## Regions of memory (R35) -/

/-- The regions of the address map that hold memory. -/
inductive Region where
  | rom | sram | localMem (k : Nat) | dram
deriving DecidableEq, Repr

/-- The start of the DRAM window. -/
abbrev dramBase : Nat := 0x1000000000

/-- The memory region an address lies in, if any (R35). -/
def regionOf (a : Nat) : Option Region :=
  if a < 0x40000 then some .rom
  else if 0x1000000 ≤ a ∧ a < 0x1C00000 then some .sram
  else if 0x8000000 ≤ a ∧ a < 0x8300000 then some (.localMem ((a - 0x8000000) / 0x40000))
  else if dramBase ≤ a ∧ a < 0x2000000000 then some .dram
  else none

/-! ## Line placement (R328) -/

/-- The line number of a DRAM address. -/
def dramLine (a : Nat) : Nat := (a - dramBase) / 64

/-- Bit `i` of a number. -/
def nbit (n i : Nat) : Nat := n / 2 ^ i % 2

/-- The subchannel of a line. -/
def dramSub (n : Nat) : Fin 2 := finOf 2 (by decide) (nbit n 0 + nbit n 9)

/-- The channel of a line. -/
def dramChan (n : Nat) : Fin 2 := finOf 2 (by decide) (nbit n 1 + nbit n 10 + nbit n 16)

/-- The rank of a line. -/
def dramRank (ranks2 : Bool) (n : Nat) : Fin 2 := if ranks2 then finOf 2 (by decide) (nbit (n / 4) 11) else 0

/-- The row of a line. -/
def dramRow (ranks2 : Bool) (n : Nat) : Nat := n / 4 / 2 ^ (if ranks2 then 12 else 11)

/-- The bank index of a line within its bank group. -/
def dramBank (ranks2 : Bool) (n : Nat) : Nat := (((n / 4) / 2 ^ 9) ^^^ (dramRow ranks2 n / 8)) % 4

/-- The bank group of a line. -/
def dramGroup (ranks2 : Bool) (n : Nat) : Nat := ((n / 4) ^^^ dramRow ranks2 n) % 8

/-- The column of a line's burst. -/
def dramCol (n : Nat) : Nat := (n / 4 / 8 % 64) * 16

/-- The place of a line's bank in the order in which the picker walks them: BG0 bank 0, BG1 bank 0, and so on, then rank 1 (R329). -/
def dramBankNo (ranks2 : Bool) (n : Nat) : Nat := 32 * (dramRank ranks2 n).val + 8 * dramBank ranks2 n + dramGroup ranks2 n

/-- Whether a line lies among the lines that a range of bytes touches. -/
def touches (a n line : Nat) : Bool := decide (dramLine a ≤ line ∧ line ≤ dramLine (a + n - 1))

/-- The lines that a range of bytes touches. -/
def linesOf (a n : Nat) : List Nat := (List.range (dramLine (a + n - 1) + 1 - dramLine a)).map (fun i => dramLine a + i)

/-- The pieces of a range of bytes that the front end splits at line boundaries (R328): their starts and lengths. -/
def linePieces : Nat → Nat → Nat → List (Nat × Nat)
  | 0, _, _ => []
  | f + 1, a, n =>
    if n = 0 then []
    else
      let k := min n (64 - a % 64)
      (a, k) :: linePieces f (a + k) (n - k)

/-- Two ranks are configured. -/
def State.ranks2 (s : State) : Bool := s.flag (DDR_CFG_RANKS 0)

/-- A DRAM channel changed. -/
def State.modDdr (s : State) (c : Fin 2) (f : DramCh → DramCh) : State :=
  { s with dram := { s.dram with chs := vset s.dram.chs c (f s.dram.chs[c]) } }

/-! ## Whether an access goes through (R326, R340) -/

/-- Whether a channel's state, read as a number, is one of a list. -/
def State.ddrIn (s : State) (c : Nat) (l : List Nat) : Bool := l.contains (s.get (DDR_STAT_STATE c))

/-- The response to a DRAM access by the channels' states; none while the access waits (R340). -/
def State.dramGate (s : State) (a : Nat) : Option Resp :=
  if s.dram.size * 2 ^ 30 ≤ a - dramBase then some .errDecode
  else if s.ddrIn 0 [0, 1, 2] || s.ddrIn 1 [0, 1, 2] then some .errUnit
  else if s.ddrIn 0 [4, 5] || s.ddrIn 1 [4, 5] then none
  else some .ok

/-- Some subchannel that serves a line of a range has its 24 slots occupied (R329). -/
def State.dramFull (s : State) (a n : Nat) : Bool :=
  (fins 2).any (fun c => (fins 2).any (fun sub => decide (24 ≤ s.dram.chs[c].slots[sub].length) &&
    (linesOf a (min n 512)).any (fun l => decide (dramChan l = c ∧ dramSub l = sub))))

/-- The response of memory to an access of `n` bytes at an address; none while it waits, for the channels (R340) or for a slot (R329).
Memory is where R35 puts it, and the access must lie in one region (R36). A register block gives a device master ERR_UNIT (log 17). -/
def State.memGate (s : State) (a n : Nat) : Option Resp :=
  match regionOf a with
  | none => some (if (blockAt a).isSome then .errUnit else .errDecode)
  | some r =>
    if regionOf (a + n - 1) = some r ∨ n = 0 then
      if r = .dram then
        match s.dramGate a with
        | some .ok => if n = 0 then some .ok else if s.dramFull a n then none else s.dramGate (a + n - 1)
        | g => g
      else some (if r = .rom && !s.bit CLK_EN0 0 then .errGated else .ok)
    else some .errDecode

/-! ## ECC (R333, R334) -/

/-- What a line reads as without an error. -/
def noErr : Nat → EccErr := fun _ => .none

/-- The log registers of a channel set (R334). -/
def State.eccLog (s : State) (c : Fin 2) (line : Nat) (ue scrub : Bool) (word : Fin 8) (syn : BitVec 8) : State :=
  if s.flag (DDR_STAT_LOG_VALID c) && s.flag (DDR_ECC_LOG_INFO_UE c) then s
  else
    let a := dramBase + 64 * line
    let info := b2n ue * 2 ^ 31 + b2n scrub * 2 ^ 30 + syn.toNat * 2 ^ 16 + (dramRank s.ranks2 line).val * 32 +
      (dramSub line).val * 16 + word.val
    ((s.set1 (DDR_STAT_LOG_VALID c)).wr64 (DDR_ECC_LOG_LO c) (DDR_ECC_LOG_HI c) (BitVec.ofNat 64 a)).wr
      (DDR_ECC_LOG_INFO c) (BitVec.ofNat 32 info)

/-- An ECC error met on a read of a line: counted, logged and raised; a correctable line is written back corrected, unless a write to the
line arrived meanwhile (R333). VALUE of DDR_UE has three quantities, for which R433 gives no packing: a free value (log 14). -/
def State.eccMeet (s : State) (line : Nat) (e : EccErr) (scrub rewritten : Bool) : State :=
  let c := dramChan line
  let keep := fun (s : State) (e : EccErr) =>
    if rewritten then s else { s with dram := { s.dram with err := s.dram.err.set noErr line e } }
  match e with
  | .none => s
  | .ce w syn => keep (((s.bump (DDR_ECC_CNT_CE c)).eccLog c line false scrub w syn).raise evDDR_CE c 0) .none
  | .ue w syn =>
    let s := (s.bump (DDR_ECC_CNT_UE c)).eccLog c line true scrub w syn
    keep (s.raise evDDR_UE c s.freeWord).advance e

/-- The lines with an error among those that a range of bytes touches. -/
def State.errLines (s : State) (a n : Nat) : List (Nat × EccErr) :=
  if regionOf a = some .dram ∧ n ≠ 0 then
    s.dram.err.filter (fun e => decide (dramLine a ≤ e.1 ∧ e.1 ≤ dramLine (a + n - 1)))
  else []

/-- Whether an ECC state is uncorrectable. -/
def eccUe : EccErr → Bool
  | .ue _ _ => true
  | _ => false

/-- A read of a range meets the errors of its lines: ERR_ECC if one is uncorrectable (R333). -/
def State.eccRead (s : State) (a n : Nat) : Resp × State :=
  let es := s.errLines a n
  (if es.any (fun e => eccUe e.2) then .errEcc else .ok, es.foldl (fun s e => s.eccMeet e.1 e.2 false false) s)

/-- The bytes that a read of a range gives: those of an uncorrectable line are undefined, free values (R333, log 1). -/
def State.eccBytes (s : State) (a n : Nat) : List Byte :=
  let bad := (s.errLines a n).filter (fun e => eccUe e.2)
  if bad.isEmpty then s.bytes a n
  else (s.bytes a n).mapIdx (fun i b => if bad.any (fun e => decide (e.1 = dramLine (a + i))) then Config.freeByte (s.free + i) else b)

/-- A write of a line clears its error; INJ inverts check bits of ECC word 0 of the channel's next write (DDRx_INJ). The
syndrome of an injected error is a free value (log 14). -/
def State.eccWriteLine (s : State) (line : Nat) : State :=
  let c := dramChan line
  let inj := s.get (DDR_INJ_INJ c)
  let syn : BitVec 8 := s.freeWord.setWidth 8
  let e : EccErr := if inj = 1 then .ce 0 syn else if inj = 2 then .ue 0 syn else .none
  let s := { s with dram := { s.dram with err := s.dram.err.set noErr line e } }
  if inj = 0 then s else (s.clr (DDR_INJ_INJ c)).advance

/-- A write of a range to DRAM acts on the error state of its lines: only lines that have an error, or the first of a
channel while INJ is set, change. -/
def State.eccWrite (s : State) (a n : Nat) : State :=
  if regionOf a = some .dram ∧ n ≠ 0 then
    let s := (s.errLines a n).foldl (fun s e => s.eccWriteLine e.1) s
    let first := dramLine a
    let last := dramLine (a + n - 1)
    (fins 2).foldl (fun s (c : Fin 2) =>
      if s.get (DDR_INJ_INJ c) = 0 then s
      else match ((List.range (min 131072 (last + 1 - first))).map (fun i => first + i)).find? (fun l => decide (dramChan l = c)) with
        | some l => s.eccWriteLine l
        | none => s) s
  else s

/-- A write in a slot that a read of a range must await still waits itself, for an older read of its line (R330). -/
def State.dramHeld (s : State) (a n : Nat) : Bool :=
  decide (regionOf a = some .dram ∧ n ≠ 0) && s.dram.chs.toList.any (fun d => d.slots.toList.any (fun l =>
    l.zipIdx.any (fun x => x.1.write && touches a n (dramLine x.1.addr) &&
      (l.take x.2).any (fun u => !u.write && decide (dramLine u.addr = dramLine x.1.addr)))))

/-- A master's own access to a range of DRAM enters slots, is served and leaves them within its command (log 88): the ranks that it
touches leave power-down (R338), a write is noted for the reads that wait on its lines (R333), and the writes that a read awaits are
issued first (R330, R331). -/
def State.dramTouch (s : State) (write : Bool) (a n : Nat) : State :=
  if regionOf a = some .dram ∧ n ≠ 0 then
    let slots := fun (l : List DramTxn) =>
      if write then l.map (fun t => { t with rewritten := t.rewritten || (!t.write && touches a n (dramLine t.addr)) })
      else l.filter (fun t => !(t.write && touches a n (dramLine t.addr)))
    let woken := fun (c r : Nat) => (linesOf a n).any (fun l => decide ((dramChan l).val = c ∧ (dramRank s.ranks2 l).val = r))
    { s with dram := { s.dram with chs := s.dram.chs.mapIdx (fun c d => { d with
        slots := d.slots.map slots, pdown := d.pdown.mapIdx (fun r p => p && !woken c r) }) } }
  else s

/-- A read of memory by a device master or a core: its response, the bytes and the state after; none while it waits. -/
def State.memRead (s : State) (a n : Nat) : Option (Resp × List Byte × State) :=
  match s.memGate a n with
  | none => none
  | some .ok =>
    if s.dramHeld a n then none
    else
      let r := (s.dramTouch false a n).eccRead a n
      let bs := if regionOf a = some .rom then (List.range n).map (fun i => Config.bootRomByte (a + i)) else s.eccBytes a n
      some (r.1, bs, r.2)
  | some e => some (e, [], s)

/-- A write of memory: its response and the state after; none while it waits. The boot ROM takes no write: ERR_UNIT
(log 15). -/
def State.memWrite (s : State) (a : Nat) (bs : List Byte) : Option (Resp × State) :=
  match s.memGate a bs.length with
  | none => none
  | some .ok =>
    if regionOf a = some .rom then some (.errUnit, s)
    else some (.ok, ((s.dramTouch true a bs.length).putBytes a bs).eccWrite a bs.length)
  | some e => some (e, s)

/-! ## Channel modes (R339, R340, R342) -/

/-- RESULT and STATE of a channel set. -/
def State.ddrSet (s : State) (c : Nat) (result state : Nat) : State :=
  (s.put (DDR_STAT_RESULT c) result).put (DDR_STAT_STATE c) state

/-- All steps passed since INIT on every rank, or a valid image written (R340, R341). -/
def State.ddrTrained (s : State) (c : Fin 2) : Bool :=
  let d := s.dram.chs[c]
  d.imageOk || (decide (d.passed[0] = 7) && (!s.flag (DDR_CFG_RANKS c) || decide (d.passed[1] = 7)))

/-- D of R326: GiB per rank and channel. -/
def State.ddrDensity (s : State) (c : Nat) : Nat :=
  if s.get (DDR_CFG_DENSITY c) = 1 then 24 else if s.get (DDR_CFG_DENSITY c) = 2 then 32 else 16

/-- The subchannel issues writes ahead of reads from WR_HI writes in its slots until no more than WR_LO are left (R331). -/
def State.drainMode (s : State) (c sub : Fin 2) : State :=
  let w := (s.dram.chs[c].slots[sub].filter (fun t => t.write)).length
  let on := decide (s.get (DDR_SCHED_WR_HI c) ≤ w) || (s.dram.chs[c].draining[sub] && decide (s.get (DDR_SCHED_WR_LO c) < w))
  s.modDdr c (fun d => { d with draining := vset d.draining sub on })

/-- A request enters a slot of its subchannel (R329). A write reaches memory and has its OK (R330); a read takes the line, and the
writes that it awaits move to the front of their bank (R331). -/
def State.dramEnter (s : State) (c sub : Fin 2) (t : DramTxn) : State :=
  let line := dramLine t.addr
  let off := t.addr % 64
  let t := { t with entered := s.now }
  let s := if t.write then
      (((s.dramTouch true t.addr t.len).putBytes t.addr (((leBytes 64 t.data.toNat).drop off).take t.len)).eccWrite t.addr t.len).bus .ok s.busData
    else s.modDdr c (fun d => { d with slots := vset d.slots sub (d.slots[sub].map (fun u =>
      { u with urgent := u.urgent || (u.write && decide (dramLine u.addr = line)) })) })
  let t := if t.write then t else { t with
    data := BitVec.ofNat 512 (leNat (s.bytes (64 * (t.addr / 64)) 64)), err := s.dram.err.get noErr line }
  (s.modDdr c (fun d => { d with slots := vset d.slots sub (d.slots[sub] ++ [t]) })).drainMode c sub

/-- The requests that wait for a slot enter the slots of their subchannels in order, while there is space and the channels
are ONLINE (R329, R339). -/
def State.dramAdmit (s : State) (c : Fin 2) : State :=
  s.dram.chs[c].front.foldl (fun s t =>
    let sub := dramSub (dramLine t.addr)
    if s.dram.chs[c].slots[sub].length < 24 ∧ s.dramGate t.addr = some .ok then s.dramEnter c sub t
    else s.modDdr c (fun d => { d with front := d.front ++ [t] })) (s.modDdr c (fun d => { d with front := [] }))

/-- A DQS tracking pass of a subchannel: its write timing follows the devices' interval oscillators (R341). -/
def State.ddrTrack (s : State) (c sub : Fin 2) (osc : BitVec 16) : State :=
  s.modDdr c (fun d => { d with osc := vset d.osc sub osc })

/-- MODE = ONLINE: refused NOT_TRAINED or MISMATCH, else ONLINE; leaving SR runs a tracking pass, whose counts are free, and releases
the held requests (R339, R340). -/
def State.ddrOnline (s : State) (c : Fin 2) : State :=
  if s.ddrIn c [4, 5] then
    let s := ((s.ddrSet c 0 3).ddrTrack c 0 (s.freeWord.setWidth 16)).ddrTrack c 1 (s.advance.freeWord.setWidth 16)
    (s.advance.advance.dramAdmit 0).dramAdmit 1
  else if !s.ddrIn c [2] || !s.ddrTrained c then s.put (DDR_STAT_RESULT c) 1
  else if c = 1 ∧ s.rd (DDR_CFG 1) ≠ s.rd (DDR_CFG 0) then s.put (DDR_STAT_RESULT c) 2
  else
    let s := s.ddrSet c 0 3
    let s := if c = 0 then { s with dram := { s.dram with size := 2 * (1 + s.get (DDR_CFG_RANKS 0)) * s.ddrDensity 0 } } else s
    (s.dramAdmit 0).dramAdmit 1


/-! ## Training (R340, R341) -/

/-- The Weir requester of a channel. -/
def ddrRq (c : Fin 2) : Fin 32 := ⟨19 + c.val, by omega⟩

/-- A training step ends with RESULT 0 PASS, 1 FAIL or 2 WEIR_TIMEOUT. -/
def State.trainEnd (s : State) (c : Fin 2) (result : Nat) : State :=
  let t := s.dram.chs[c].training
  let s := ((s.put (DDR_TRAIN_RESULT c) result).set1 (DDR_TRAIN_DONE c)).clr (DDR_TRAIN_BUSY c)
  let s := s.modDdr c (fun d => { d with training := none, trainLeave := false })
  match t with
  | some (step, rank) =>
    if result = 0 then
      let r : Fin 2 := finOf 2 (by decide) rank
      let s := (s.modDdr c (fun d => { d with passed := vset d.passed r step, trained := s.free, image := [] })).advance
      if s.ddrTrained c then s.modDdr c (fun d => { d with complete := (d.trained, s.rd (DDR_CFG c)) :: d.complete }) else s
    else s
  | none => s

/-- A step that runs while firmware writes MODE = INIT or OFF ends with FAIL and gives its leave back (log 108). -/
def State.trainStop (s : State) (c : Fin 2) : State :=
  if s.flag (DDR_TRAIN_BUSY c) then (s.weirRelease (ddrRq c)).trainEnd c 1 else s

/-- MODE = INIT: STATE becomes INIT, and no step has passed (R340). -/
def State.ddrInit (s : State) (c : Fin 2) : State :=
  ((s.trainStop c).ddrSet c 0 1).modDdr c (fun d => { d with passed := Vector.replicate 2 0, imageOk := false, training := none, trainLeave := false })

/-- MODE = SR while ONLINE: the channel begins to drain (R339). -/
def State.ddrSr (s : State) (c : Fin 2) : State := if s.ddrIn c [3] then s.ddrSet c 0 4 else s

/-- A write of DDRx_CTRL.MODE (R339, R340, R342). -/
def State.ddrMode (s : State) (c : Fin 2) (v : Word) : Resp × State :=
  let m := if field v 2 0 ≤ 3 then field v 2 0 else 0
  if s.ddrIn c [3] && decide (m ≠ 3) then (.errUnit, s)
  else if s.ddrIn c [4, 5] && decide (m = 0) then (.errUnit, s)
  else
    let t := s.put (DDR_CTRL_MODE c) m
    if s.ddrIn c [3] && decide (m = 2) then (.ok, t)
    else (.ok, if m = 0 then (t.trainStop c).ddrSet c 0 0 else if m = 1 then t.ddrInit c else if m = 2 then t.ddrOnline c else t.ddrSr c)

/-- A write of DDRx_TRAIN: the step starts with a request for leave, or is ignored with ORDER (R340). -/
def State.trainStart (s : State) (c : Fin 2) (v : Word) : State :=
  let step := field v 2 0
  let rank := field v 8 8
  let s := s.put (DDR_TRAIN_RANK c) rank
  if step = 0 then s.put (DDR_TRAIN_STEP c) 0
  else
    let r : Fin 2 := finOf 2 (by decide) rank
    if s.flag (DDR_TRAIN_BUSY c) || !s.ddrIn c [2] || decide (step ≠ s.dram.chs[c].passed[r] + 1) then s.set1 (DDR_TRAIN_ORDER c)
    else
      let s := ((s.put (DDR_TRAIN_STEP c) step).set1 (DDR_TRAIN_BUSY c)).modDdr c (fun d => { d with training := some (step, rank) })
      let s := s.weirRequest (ddrRq c) 5 (s.get (DDR_WEIR_TRAIN_PWR c)) 100000
      if s.weirHolds (ddrRq c) then s.modDdr c (fun d => { d with trainLeave := true })
      else if s.weirWaits (ddrRq c) then s
      else s.trainEnd c 2

/-- One word of the PHY image (R341): what was written, else the training results. -/
def State.phyWord (s : State) (c : Fin 2) (w : Nat) : Word :=
  match s.dram.chs[c].image.get (fun _ => none) w with
  | some v => v
  | none => Config.phyImageWord s.dram.chs[c].trained w

/-- A written image that passes its check word (R341): one that a complete training of this channel under this configuration gave, or any
other that the PHY's own check accepts (log 13). -/
def State.phyImageOk (s : State) (c : Fin 2) (ws : List Word) : Bool :=
  s.dram.chs[c].complete.any (fun x => decide (x.2 = s.rd (DDR_CFG c) ∧ ws = (List.range 4096).map (Config.phyImageWord x.1))) || Config.phyImageOk c ws

/-- A word of the PHY image written; the last word ends the image, which its check word then judges (R341, log 13). -/
def State.phyWrite (s : State) (c : Fin 2) (w : Nat) (v : Word) : Resp × State :=
  if s.ddrIn c [2] then
    let s := s.modDdr c (fun d => { d with image := d.image.set (fun _ => none) w (some v) })
    if w = 4095 then
      if s.phyImageOk c ((List.range 4096).map (fun i => s.phyWord c i)) then
        (.ok, (s.put (DDR_STAT_RESULT c) 0).modDdr c (fun d => { d with imageOk := true }))
      else (.ok, (s.put (DDR_STAT_RESULT c) 3).modDdr c (fun d => { d with imageOk := false, passed := Vector.replicate 2 0 }))
    else (.ok, s)
  else (.errUnit, s)

/-! ## Refresh and power-down (R336 to R338) -/

/-- Whether a rank is fitted by the channel's configuration and the controller runs it: after INIT, until self-refresh (log 8). -/
def State.rankRuns (s : State) (c rank : Fin 2) : Bool :=
  s.ddrIn c [2, 3, 4] && (decide (rank = 0) || s.flag (DDR_CFG_RANKS c))

/-- Whether a rank has a queued request for bank index `b` (any bank index when none is given), in a slot or in the front end. -/
def State.ddrQueued (s : State) (c rank : Fin 2) (b : Option Nat) : Bool :=
  let hit := fun (t : DramTxn) =>
    decide (dramRank s.ranks2 (dramLine t.addr) = rank) &&
      (match b with
       | some i => decide (dramBank s.ranks2 (dramLine t.addr) = i)
       | none => true)
  (fins 2).any (fun sub => s.dram.chs[c].slots[sub].any hit) || s.dram.chs[c].front.any hit

/-- The debt that forces a fallback: 0 and 5 to 7 are stored as 4. -/
def State.refPostpone (s : State) (c : Nat) : Nat := s.get (DDR_REF_REF_POSTPONE c)

/-- Both subchannels of a channel have a free slot for refresh, tracking and scrub traffic (R331). -/
def State.dramSpace (s : State) (c : Fin 2) : Bool := (fins 2).all (fun sub => decide (s.dram.chs[c].slots[sub].length < 24))

/-- The open rows of a rank closed, those of one bank index or all (R329). -/
def DramCh.closeRows (d : DramCh) (rank : Nat) (b : Option Nat) : DramCh :=
  { d with rows := d.rows.map (fun l => l.filter (fun x => !(decide (x.1 / 32 = rank) &&
    (match b with
     | some i => decide (x.1 % 32 / 8 = i)
     | none => true)))) }

/-- Same-bank refreshes of a rank: each bank index with a debt, without a queued request, and not yet refreshed in the round. A round ends
when every index has had its refresh: JESD79-5's order as the model takes it (R336, log 109). -/
def State.refreshPay (s : State) (c rank : Fin 2) : State :=
  if s.rankRuns c rank && s.dramSpace c then
    (List.range 4).foldl (fun s b =>
      let d := s.dram.chs[c]
      let debt := d.debt[rank].toList.getD b 0
      if debt = 0 || s.ddrQueued c rank (some b) || d.round[rank].contains b then s
      else
        let r := if d.round[rank].length = 3 then [] else b :: d.round[rank]
        s.modDdr c (fun d => ({ d with
          debt := vset d.debt rank (d.debt[rank].mapIdx (fun i x => if i = b then x - 1 else x)), round := vset d.round rank r } : DramCh).closeRows rank (some b))) s
  else s

/-- tREFI elapses for a rank: every debt grows by 1; a debt that reaches REF_POSTPONE forces an all-bank fallback, which also begins a new
round; same-bank refreshes pay what they may (R336). -/
def State.refreshStep (s : State) (c rank : Fin 2) : State :=
  let d := s.dram.chs[c].debt[rank].map (fun x => x + 1)
  let s := s.modDdr c (fun h => { h with pdown := vset h.pdown rank false, debt := vset h.debt rank d })
  if d.toList.any (fun x => decide (s.refPostpone c ≤ x)) then
    let s := s.modDdr c (fun h => ({ h with debt := vset h.debt rank (d.map (fun x => x - 1)), round := vset h.round rank [] } : DramCh).closeRows rank none)
    ((s.bump (DDR_REF_CNT_REF_FB c)).raise evDDR_REF_FALLBACK c (value1 rank)).refreshPay c rank
  else s.refreshPay c rank

/-! ## Scrubbing (R335) -/

/-- Lines of a subchannel's share of the installed size. -/
def State.scrubLines (s : State) : Nat := s.dram.size * 2 ^ 30 / 64 / 4

/-- A scrub burst reads 4,096 lines, 2,048 of each subchannel: the errors it finds are met (R333), and the walk advances; at
its end DDR_SCRUB_DONE is raised. Its reads take slots (R331) and their rank out of power-down (R338). -/
def State.scrubRun (s : State) (c : Fin 2) : State :=
  if !s.dramSpace c then s.modDdr c (fun d => { d with scrubHeld := true })
  else
    let at_ := s.dram.chs[c].scrubLine
    let es := s.dram.err.filter (fun e => decide (dramChan e.1 = c ∧ at_ ≤ e.1 / 4 ∧ e.1 / 4 < at_ + 2048))
    let s := s.modDdr c (fun d => { d with pdown := vset d.pdown (dramRank s.ranks2 (4 * at_)) false })
    let s := es.foldl (fun s e => s.eccMeet e.1 e.2 true false) s
    let next := at_ + 2048
    let found := s.dram.chs[c].scrubFound + es.length
    let s := s.weirRelease (ddrRq c)
    if s.scrubLines ≤ next then
      let s := s.modDdr c (fun d => { d with scrubLine := 0, scrubFound := 0, scrubWait := false, scrubHeld := false })
      (s.put (DDR_SCRUB_STAT_BURST c) 0).raise evDDR_SCRUB_DONE c (value1 found)
    else
      let s := s.modDdr c (fun d => { d with scrubLine := next, scrubFound := found, scrubWait := false, scrubHeld := false })
      s.put (DDR_SCRUB_STAT_BURST c) (next / 2048 / 4)

/-- A refused burst is skipped and counted; the walk resumes with it (R335). -/
def State.scrubSkip (s : State) (c : Fin 2) : State :=
  (s.modDdr c (fun d => { d with scrubWait := false })).bump (DDR_SCRUB_STAT_SCRUB_SKIP c)

/-- A scrub burst asks for leave (R335). -/
def State.scrubStart (s : State) (c : Fin 2) : State :=
  if s.flag (DDR_SCRUB_EN c) && s.ddrIn c [3] && !s.dram.chs[c].scrubWait then
    let s := s.modDdr c (fun d => { d with scrubWait := true })
    let s := s.weirRequest (ddrRq c) 2 (s.get (DDR_SCRUB_SCRUB_PWR c)) 10000
    if s.weirHolds (ddrRq c) then s.scrubRun c
    else if s.weirWaits (ddrRq c) then s
    else s.scrubSkip c
  else s

/-- Leave granted to a channel: a training step goes on, or a scrub burst runs. -/
def State.ddrGranted (s : State) (c : Fin 2) : State :=
  if s.dram.chs[c].scrubWait then s.scrubRun c
  else s.modDdr c (fun d => { d with trainLeave := true })

/-- Leave refused to a channel. -/
def State.ddrRefused (s : State) (c : Fin 2) : State :=
  if s.dram.chs[c].scrubWait then s.scrubSkip c else s.trainEnd c 2

/-! ## Transactions (R328 to R331) -/

/-- A transaction of one line as it reaches the front end. -/
def dramTxn (write : Bool) (a n : Nat) (bytes : List Byte) : DramTxn :=
  { write := write, addr := a, len := n, data := BitVec.ofNat 512 (leNat bytes * 256 ^ (a % 64)), err := .none, entered := 0, issued := none,
    urgent := false, rewritten := false }

/-- One line's part of a request reaches the front end of its channel; its rank leaves power-down (R329, R338). -/
def State.dramArrive (s : State) (t : DramTxn) : State :=
  let c := dramChan (dramLine t.addr)
  let r := dramRank s.ranks2 (dramLine t.addr)
  (s.modDdr c (fun d => { d with front := d.front ++ [t], pdown := vset d.pdown r false })).dramAdmit c

/-- The response to a master's request of a range of DRAM, which must lie in it (R36, R340). -/
def State.dramAnswer (s : State) (a n : Nat) : Option Resp :=
  let last := if n = 0 then a else a + n - 1
  if regionOf a = some .dram ∧ regionOf last = some .dram then
    if s.dramGate a = some .ok then s.dramGate last else s.dramGate a
  else some .errDecode

/-- A master's request of DRAM: split at line boundaries, each part carried as a masked write or a line read (R328). A response other
than OK ends it at once. -/
def State.dramRequest (s : State) (write : Bool) (a n : Nat) (bytes : List Byte) : State :=
  match s.dramAnswer a n with
  | some .ok | none => (linePieces (n / 64 + 2) a n).foldl (fun s p => s.dramArrive (dramTxn write p.1 p.2 ((bytes.drop (p.1 - a)).take p.2))) s
  | some e => s.bus e s.busData

/-- An entry of a subchannel's slots may not issue: its read has been issued, or an earlier entry of its line goes first (R330). -/
def slotHeld (l : List DramTxn) (i : Nat) (t : DramTxn) : Bool :=
  t.issued.isSome || (l.take i).any (fun u => decide (dramLine u.addr = dramLine t.addr) && (t.write || u.write))

/-- MEM clocks in a span of ticks at a channel's data rate (R327). -/
def State.memClocks (s : State) (c : Fin 2) (ticks : Nat) : Nat :=
  ticks * (if s.get (DDR_CFG_RATE c) = 0 then 600 else if s.get (DDR_CFG_RATE c) = 1 then 700 else 800) / 800

/-- The entries that the picker serves next (R329, R331): the oldest that is older than AGE_MAX; else the writes while they go ahead; else
reads, and the writes that a read has promoted. -/
def State.pickPool (s : State) (c sub : Fin 2) : List (Nat × DramTxn) :=
  let l := s.dram.chs[c].slots[sub]
  let ready := (l.zipIdx.map (fun x => (x.2, x.1))).filter (fun x => !slotHeld l x.1 x.2)
  match ready.find? (fun x => decide (s.get (DDR_SCHED_AGE_MAX c) < s.memClocks c (s.now - x.2.entered))) with
  | some x => [x]
  | none =>
    let w := ready.filter (fun x => x.2.write)
    if s.dram.chs[c].draining[sub] && !w.isEmpty then w else ready.filter (fun x => !x.2.write || x.2.urgent)

/-- The first entry of a bank's queue: one that was promoted, else the oldest (R329, R331). -/
def bankHead (ranks2 : Bool) (pool : List (Nat × DramTxn)) (b : Nat) : Option (Nat × DramTxn) :=
  let q := pool.filter (fun x => decide (dramBankNo ranks2 (dramLine x.2.addr) = b))
  match q.find? (fun x => x.2.urgent) with
  | some x => some x
  | none => q.head?

/-- The row of an entry is open. -/
def State.rowHit (s : State) (c sub : Fin 2) (t : DramTxn) : Bool :=
  s.dram.chs[c].rows[sub].contains (dramBankNo s.ranks2 (dramLine t.addr), dramRow s.ranks2 (dramLine t.addr))

/-- The entry that the next command slot serves: banks from the pointer on, a read or write to an open row before an activate (R329). The
timing rules of JESD79-5 are left to time: any command may issue (log 88). -/
def State.pickNext (s : State) (c sub : Fin 2) : Option (Nat × DramTxn) :=
  let banks := if s.ranks2 then 64 else 32
  let pool := s.pickPool c sub
  let heads := (List.range banks).filterMap (fun i => bankHead s.ranks2 pool ((s.dram.chs[c].pointer[sub] + i) % banks))
  match heads.find? (fun x => s.rowHit c sub x.2) with
  | some x => some x
  | none => heads.head?

/-- One command slot of a subchannel (R329): the entry chosen has its row closed or opened, or its read or write command issued; a write
then leaves its slot. -/
def State.pickStep (s : State) (c sub : Fin 2) : State :=
  match s.pickNext c sub with
  | none => s
  | some (i, t) =>
    let b := dramBankNo s.ranks2 (dramLine t.addr)
    let row := dramRow s.ranks2 (dramLine t.addr)
    let s := s.modDdr c (fun d => { d with pointer := vset d.pointer sub ((b + 1) % (if s.ranks2 then 64 else 32)) })
    let others := s.dram.chs[c].rows[sub].filter (fun x => decide (x.1 ≠ b))
    if s.rowHit c sub t then
      if t.write then (s.modDdr c (fun d => { d with slots := vset d.slots sub (d.slots[sub].eraseIdx i) })).drainMode c sub
      else
        let n := 1 + (s.dram.chs[c].slots[sub].map (fun u => u.issued.getD 0)).foldl max 0
        s.modDdr c (fun d => { d with slots := vset d.slots sub (d.slots[sub].set i { t with issued := some n }) })
    else s.modDdr c (fun d => { d with rows := vset d.rows sub (if others = d.rows[sub] then (b, row) :: others else others) })

/-- Command slots pass until the subchannel has issued a read. -/
def State.pickRead (c sub : Fin 2) : Nat → State → State
  | 0, s => s
  | n + 1, s => if s.dram.chs[c].slots[sub].any (fun t => t.issued.isSome) then s else State.pickRead c sub n (s.pickStep c sub)

/-- The read of a subchannel whose data returns next: the one whose command was issued first. -/
def DramCh.returning (d : DramCh) (sub : Fin 2) : Option DramTxn :=
  let l := d.slots[sub].filter (fun t => t.issued.isSome)
  l.find? (fun t => l.all (fun u => decide (t.issued.getD 0 ≤ u.issued.getD 0)))

/-- The data of a subchannel's next read return, with the ECC state that the read meets (R333). The data of an uncorrectable read is a free
value (log 1). -/
def State.dramReturn (s : State) (c sub : Fin 2) (err : EccErr) : State :=
  if s.dram.chs[c].slots[sub].all (fun t => t.write) then s
  else
    let s := State.pickRead c sub 128 s
    match s.dram.chs[c].returning sub with
    | none => s
    | some t =>
      let line := dramLine t.addr
      let found := if t.rewritten then t.err else s.dram.err.get noErr line
      let e := if found = .none then err else found
      let s := s.modDdr c (fun d => { d with slots := vset d.slots sub (d.slots[sub].filter (fun u => decide (u.issued ≠ t.issued))) })
      let s := s.eccMeet line e false t.rewritten
      let s := if eccUe e then
          ({ s with dram := { s.dram with readResp := .errEcc, readData := BitVec.ofNat 512 (leNat (freeBytes s.free 64)) } } : State).advance
        else { s with dram := { s.dram with readResp := .ok, readData := t.data } }
      s.dramAdmit c

/-- What a tick brings to a channel that runs: a command slot of each subchannel (R329), a scrub burst that waited for slots, the refreshes
that are due (R336), and the requests that find space. -/
def State.dramStep (s : State) (c : Fin 2) : State :=
  let s := (fins 2).foldl (fun s sub => s.pickStep c sub) s
  let s := if s.dram.chs[c].scrubHeld && s.ddrIn c [3] then s.scrubRun c else s
  ((s.refreshPay c 0).refreshPay c 1).dramAdmit c

/-- What a tick brings to the DRAM controller. -/
def State.dramTick (s : State) : State := (fins 2).foldl (fun s c => s.dramStep c) s

/-- Every accepted read of a subchannel has its data (R339). -/
def State.dramFinish (c sub : Fin 2) : Nat → State → State
  | 0, s => s
  | n + 1, s => State.dramFinish c sub n (s.dramReturn c sub .none)

/-- The channel has completed its accepted transactions and paid its refresh debts: every rank enters self-refresh (R339). -/
def State.ddrEnterSr (s : State) (c : Fin 2) : State :=
  if s.ddrIn c [4] then
    let s := (fins 2).foldl (fun s sub => State.dramFinish c sub 24 s) s
    (s.put (DDR_STAT_STATE c) 5).modDdr c (fun d => { d with
      slots := Vector.replicate 2 [], rows := Vector.replicate 2 [], draining := Vector.replicate 2 false,
      debt := Vector.replicate 2 (Vector.replicate 4 0), round := Vector.replicate 2 [] })
  else s

/-! ## Registers (R342) -/

/-- A supervisor write to a DDR controller register; none for a register without a rule of its own. -/
def State.ddrWrite (s : State) (c : Fin 2) (off : Nat) (v : Word) : Option (Resp × State) :=
  if off = 0x00 then some (s.ddrMode c v)
  else if off = 0x08 then
    if s.ddrIn c [0] then
      let d := field v 1 0
      some (.ok, (((s.put (DDR_CFG_RATE c) (field v 5 4)).put (DDR_CFG_DENSITY c) d).put (DDR_CFG_RANKS c)
        (if d = 0 ∨ d = 3 then field v 3 3 else 0)))
    else some (.errUnit, s)
  else if 0x100 ≤ off ∧ off < 0x160 then
    if s.ddrIn c [0] then none else some (.errUnit, s)
  else if off = 0x0C then
    let hi := max 2 (min 24 (field v 12 8))
    let lo := if field v 4 0 < hi then field v 4 0 else hi - 1
    some (.ok, ((s.put (DDR_SCHED_AGE_MAX c) (max 1 (field v 31 16))).put (DDR_SCHED_WR_HI c) hi).put (DDR_SCHED_WR_LO c) lo)
  else if off = 0x10 then
    let p := field v 2 0
    some (.ok, (((s.put (DDR_REF_PD_IDLE c) (field v 31 16)).put (DDR_REF_TEMP_POLL c) (max 1 (field v 15 8))).put
      (DDR_REF_TRACK_MS c) (field v 7 6)).put (DDR_REF_REF_POSTPONE c) (if 1 ≤ p ∧ p ≤ 4 then p else 4))
  else if off = 0x14 then
    some (.ok, ((s.put (DDR_SCRUB_EN c) (field v 31 31)).put (DDR_SCRUB_PERIOD c) (max 1 (field v 23 16))).put
      (DDR_SCRUB_SCRUB_PWR c) (field v 15 0))
  else if off = 0x30 then some (.ok, s.put (DDR_INJ_INJ c) (if field v 1 0 = 3 then 0 else field v 1 0))
  else if off = 0x38 then
    let s := s.wr (DDR_TRAIN c) (s.rd (DDR_TRAIN c) &&& ~~~ (v &&& 0x60000000#32))
    some (.ok, s.trainStart c v)
  else none

end Sys2Proof.Machine
end

