-- ==== Sys2Proof/Machine/CodecOps.lean ====
section
/-!
DEFINITION. The swath codec (R225 to R254): descriptor rings, stream mode, memory-mode decode jobs with stop and resume, and
the compressors. Engine numbers 0 to 15 are DCE0 to DCE15, 16 and 17 are CMP0 and CMP1, whose registers stand at the same
offsets.
-/
namespace Sys2Proof.Machine

/-! ## Descriptors and rings (R233 to R235) -/

/-- A descriptor as read. -/
structure Desc where
  addr : Nat
  len : Nat
  ctrl : Word
deriving DecidableEq, Repr

/-- The outcome of reading a descriptor: the access waits, gets a non-OK response, or gives the descriptor. -/
inductive DescRes where
  | wait
  | err (s : State)
  | ok (d : Desc) (s : State)

/-- The descriptor at an address read. -/
def State.readDesc (s : State) (a : Nat) : DescRes :=
  match s.memRead a 16 with
  | none => .wait
  | some (.ok, bs, s) =>
    .ok { addr := leAt bs 0 5, len := leAt bs 5 3, ctrl := BitVec.ofNat 32 (leAt bs 12 4) } s
  | some (_, _, s) => .err s

/-- Whether the engine owns a descriptor. -/
def Desc.own (d : Desc) : Bool := d.ctrl.getLsbD 31

/-- The register of engine `e` (0 to 17) at an offset of its block. -/
def engReg (e off : Nat) : Nat := 0x43000000 + 0x10000 * e + off

/-- The Weir requester of an engine. -/
def engRq (e : Nat) : Fin 32 := finOf 32 (by decide) e

/-- Input ring (`off` 0x08) or output ring (0x20): the address of the descriptor for its index. -/
def State.ringDesc (s : State) (e off : Nat) : Nat :=
  let base := (s.rd64 (engReg e off) (engReg e (off + 4))).toNat % 2 ^ 40 / 16 * 16
  let n := 8 * 2 ^ field (s.rd (engReg e (off + 8))) 2 0
  base + 16 * (field (s.rd (engReg e (off + 12))) 15 0 % n)

/-- A ring's index moved to the next descriptor; in memory mode OPEN equals IDX (DCEk_IRING_IDX). -/
def State.ringNext (s : State) (e off : Nat) : State :=
  let a := engReg e (off + 12)
  let i := (field (s.rd a) 15 0 + 1) % 65536
  let s := s.wr a (withField (s.rd a) 15 0 i)
  if off = 0x08 ∧ ¬(e < 16 ∧ (s.get (DCE_CTRL_SINK e) = 1 ∨ s.get (DCE_CTRL_SINK e) = 2)) then
    s.wr a (withField (s.rd a) 31 16 i)
  else s

/-- The event of a written-back descriptor whose IRQ bit is set: DCE_DESC or CMP_DESC. -/
def State.descIrq (s : State) (e : Nat) (ctrl : Word) : State :=
  if ctrl.getLsbD 30 then (if e < 16 then s.raise evDCE_DESC e 0 else s.raise evCMP_DESC (e - 16) 0) else s

/-- A descriptor written back: USED, STATUS, OWN clear, IRQ, LAST and TAG kept, END as given (R235). -/
def State.descBack (s : State) (e desc : Nat) (ctrl : Word) (used status : Nat) (end_ : Bool) : State :=
  let w3 := (ctrl &&& 0x6000FFFF#32).toNat + b2n end_ * 2 ^ 28
  let s := match s.memWrite (desc + 8) (leBytes 4 (used % 2 ^ 24 + status * 2 ^ 24) ++ leBytes 4 w3) with
    | some (_, s) => s
    | none => s
  s.descIrq e ctrl

/-- Bytes read in pieces that end at 64-byte boundaries, up to a non-OK response: the bytes before it and whether it came;
none while the access waits. -/
def State.readPrefix (s : State) : Nat → Nat → Nat → List (List Byte) → Option (List Byte × Bool × State)
  | 0, _, _, acc => some (acc.reverse.flatten, false, s)
  | f + 1, a, n, acc =>
    if n = 0 then some (acc.reverse.flatten, false, s)
    else
      let m := min n (64 - a % 64)
      match s.memRead a m with
      | none => none
      | some (.ok, bs, s) => State.readPrefix s f (a + m) (n - m) (bs :: acc)
      | some (_, _, s) => some (acc.reverse.flatten, true, s)

/-- Bytes read from an address, up to a non-OK response. -/
def State.readUpTo (s : State) (a n : Nat) : Option (List Byte × Bool × State) := s.readPrefix (n / 64 + 2) a n []

/-! ## Container headers (R225 to R227) -/

/-- The fields of a container header. -/
structure Header where
  lines : Nat
  filter : Nat
  page : Word
  stream : BitVec 16
  segment : Nat
  outLen : Nat
  payload : Nat
deriving DecidableEq, Repr

/-- The fields read from 32 header bytes. -/
def headerOf (h : List Byte) : Header :=
  { lines := leAt h 6 1, filter := leAt h 7 1, page := BitVec.ofNat 32 (leAt h 8 4), stream := BitVec.ofNat 16 (leAt h 12 2),
    segment := leAt h 16 4 % 2 ^ 24, outLen := leAt h 20 4, payload := leAt h 24 4 }

/-- HDR_CRC, HDR_FIELD or OK for 32 header bytes; `len` is the container length of the descriptor where it gives one
(R227). -/
def headerCode (h : List Byte) (len : Option Nat) : Nat :=
  let x := headerOf h
  if (crc32c (h.take 28)).toNat ≠ leAt h 28 4 then 0x01
  else if leAt h 0 4 ≠ 0x56435357 ∨ leAt h 4 1 ≠ 1 ∨ leAt h 5 1 ≠ 0x20 ∨ x.lines = 0 ∨ 32 < x.lines ∨ 2 < x.filter ∨
      leAt h 14 2 ≠ 0 ∨ leAt h 19 1 ≠ 0 ∨ x.outLen = 0 ∨ 131072 < x.outLen ∨ (x.filter ≠ 0 ∧ x.outLen % x.lines ≠ 0) ∨
      (x.filter = 2 ∧ 4096 < x.outLen / x.lines) ∨ len.getD (32 + x.payload) ≠ 32 + x.payload then 0x02
  else 0

/-- The bytes a container header is made of (R225, R248). -/
def headerBytes (x : Header) : List Byte :=
  let h := leBytes 4 0x56435357 ++ [1, 0x20] ++ leBytes 1 x.lines ++ leBytes 1 x.filter ++ leBytes 4 x.page.toNat ++
    leBytes 2 x.stream.toNat ++ leBytes 2 0 ++ leBytes 4 x.segment ++ leBytes 4 x.outLen ++ leBytes 4 x.payload
  h ++ leBytes 4 (crc32c h).toNat

/-! ## Engine state -/

/-- A compressor changed. -/
def State.modCmp (s : State) (n : Fin 2) (f : Cmp → Cmp) : State := { s with cmps := vset s.cmps n (f s.cmps[n]) }

/-- A decode engine's state set. -/
def State.engSt (s : State) (k : Fin 16) (st : EngState) : State := s.modEng k (fun g => { g with st := st })

/-- ERR and BAD_SEEN for a status code (DCEk_STAT). -/
def State.engErr (s : State) (e code : Nat) : State :=
  if code = 0 ∨ code = 0x10 then s
  else
    let a := engReg e 4
    let s := s.wr a (withField (s.rd a) 31 24 code)
    if code ≤ 0x0E ∨ code = 0x11 then s.putBit a 11 true else s

/-- Whether an engine's sink is a sequencer or the Bolter. -/
def State.streams (s : State) (k : Nat) : Bool := decide (s.get (DCE_CTRL_SINK k) = 1 ∨ s.get (DCE_CTRL_SINK k) = 2)

/-- The sequencer an engine feeds. -/
def State.sinkSq (s : State) (k : Nat) : Fin 12 := finOf 12 (by decide) (s.get (DCE_CTRL_SINK_SQ k))

/-- OPEN names the first descriptor whose container the sink has not opened, else equals IDX. -/
def State.openRefresh (s : State) (k : Fin 16) : State :=
  match s.engines[k].nextCont with
  | some c => s.put (DCE_IRING_IDX_OPEN k) (c.index % 65536)
  | none => s.put (DCE_IRING_IDX_OPEN k) (s.get (DCE_IRING_IDX_IDX k))

/-- Decoded bytes of a stream engine that the sink has not yet pulled (R124, R237): those of unopened containers and of the
open segment. -/
def State.undelivered (s : State) (k : Fin 16) : Nat :=
  if s.get (DCE_CTRL_SINK k) = 1 then
    let wait := ((s.engines[k].conts.filter (fun c => !c.opened && !c.skip)).map (fun c => c.data.length)).sum
    let open_ := match s.sqs[s.sinkSq k].seg with
      | some g => if g.eng = k.val then g.data.length else 0
      | none => 0
    wait + open_
  else 0

/-! ## Stream mode (R236 to R240, R252) -/

/-- The engine stops on a bus error of a descriptor read in stream mode (R234). -/
def State.streamBus (s : State) (k : Fin 16) : State :=
  let s := ((s.engErr k 0x0E).clr (DCE_CTRL_EN k)).engSt k .idle
  let s := s.weirRelease (engRq k)
  s.raiseAt evDCE_SEG_BAD k (BitVec.ofNat 32 (0x0E * 2 ^ 24)) 0 s.refLine.2

/-- The container of a descriptor with LEN bytes: header checked, payload decoded, filter reversed; none while a read
waits. -/
def State.contOf (s : State) (k : Fin 16) (desc : Nat) (d : Desc) : Option (Cont × State) :=
  let bolter := decide (s.get (DCE_CTRL_SINK k) = 2)
  let c : Cont := {
    index := s.get (DCE_IRING_IDX_IDX k), desc := desc, ctrl := d.ctrl, page := 0, stream := 0, segment := 0, lines := 0,
    payload := 0, hdrBad := true, code := 0x02, data := [], opened := bolter, skip := false, judged := false }
  if d.len < 32 then some (c, s)
  else match s.readUpTo d.addr 32 with
    | none => none
    | some (_, true, s) => some ({ c with code := 0x0E }, s)
    | some (h, false, s) =>
      let code := headerCode h (some d.len)
      if code ≠ 0 then some ({ c with code := code }, s)
      else match s.readUpTo (d.addr + 32) (d.len - 32) with
        | none => none
        | some (bs, failed, s) =>
          let x := headerOf h
          let r := inflate bs (some x.outLen)
          let code := if failed && (r.2 = 0 || r.2 = 0x09) then 0x0E else r.2
          some ({ c with
            page := x.page, stream := x.stream, segment := x.segment, lines := x.lines, payload := x.payload, hdrBad := false,
            code := code
            data := deliver x.filter x.lines (x.outLen / x.lines) r.1 }, s)

/-- The engine takes the next container of its ring (R237). A descriptor it does not own makes it wait for a doorbell; one of
length 0 is passed over (R234). -/
def State.takeContainer (s : State) (k : Fin 16) : State :=
  if s.flag (DCE_CTRL_EN k) && s.streams k && decide (s.engines[k].st = .run ∧ s.undelivered k ≤ 16384) then
    let a := s.ringDesc k 0x08
    match s.readDesc a with
    | .wait => s
    | .err s => s.streamBus k
    | .ok d t =>
      if !d.own then t.engSt k .inWait
      else if d.len = 0 then ((t.descBack k a d.ctrl 0 0 false).ringNext k 0x08).openRefresh k
      else match t.contOf k a d with
        | none => s
        | some (c, t) =>
          ((t.modEng k (fun g => { g with conts := g.conts ++ [c] })).ringNext k 0x08).openRefresh k
  else s

/-- The page and segment that a container's records carry: zero after a header fault (R238). -/
def Cont.badSeg (c : Cont) : Nat := if c.hdrBad then 0 else c.segment

/-- The compression ratio of the sequencer that an engine feeds follows a container ended with PASS (R369). -/
def State.ratioUpdate (s : State) (k : Fin 16) (c : Cont) : State :=
  if s.get (DCE_CTRL_SINK k) = 1 ∧ c.payload ≠ 0 then
    let q := s.sinkSq k
    let ratio := min 0xFF00 (c.data.length * 256 / c.payload)
    let cr := s.get (GOV_CR_CR q)
    s.put (GOV_CR_CR q) (wrap 16 ((cr : Int) + floorDiv ((ratio : Int) - cr) 8))
  else s

/-- The counters and the event of a verdict (R238). -/
def State.judge (s : State) (k : Fin 16) (c : Cont) : State :=
  if c.code = 0 then (s.bump (DCE_SEG_CNT_PASS k)).ratioUpdate k c
  else
    let s := ((s.bump (DCE_SEG_CNT_BAD k)).engErr k c.code).wr (DCE_LAST_BAD k) (BitVec.ofNat 32 (c.badSeg + c.code * 2 ^ 24))
    let page := if c.hdrBad then 0 else c.page
    (s.wr (DCE_LAST_BAD_PAGE k) page).raiseAt evDCE_SEG_BAD k (BitVec.ofNat 32 (c.badSeg + c.code * 2 ^ 24)) page s.refLine.2

/-- A verdict, or its absence, reaches the four ports of a sequencer (R104, R114, R252). -/
def State.verdictSq (s : State) (q : Fin 12) (page : Word) (segment : Nat) (v : Option Verdict) : State :=
  let s := (fins 4).foldl (fun s j => s.verdictPort (portOf q j) page segment v) s
  if v = some .pass then s.toTb (.release q page segment) else s

/-- The verdict of a container reaches its sequencer: the entries at once, the program at the next STREAM or ENDPG that
waits for it (R104). -/
def State.verdictTo (s : State) (q : Fin 12) (k : Fin 16) (c : Cont) : State :=
  let v : Verdict := if c.code = 0 then .pass else .bad c.code
  let s := if c.hdrBad then s else s.verdictSq q c.page c.segment (some v)
  match s.sqs[q].seg with
  | some g =>
    if g.eng = k.val ∧ g.index = c.index ∧ g.verdict.isNone then
      let s := s.modSeg q (fun g => { g with verdict := some v })
      match s.sqs[q].wait with
      | .verdict st => s.takeVerdict q v st
      | _ => s.settle q
    else s
  | none => s

/-- A container without the first element that satisfies a test. -/
def dropCont (f : Cont → Bool) : List Cont → List Cont
  | [] => []
  | c :: t => if f c then t else c :: dropCont f t

/-- Bytes of a container that its open segment has not yet pulled. -/
def State.segLeft (s : State) (q : Fin 12) (k : Fin 16) (c : Cont) : Nat :=
  match s.sqs[q].seg with
  | some g => if g.eng = k.val ∧ g.index = c.index then g.data.length else 0
  | none => 0

/-- The engine ends the oldest opened container with its verdict (R237): delivered to the sink once the data not yet pulled
fits the stream buffer, then written back. A container of the Bolter is written back when it has finished with it (R276). -/
def State.containerVerdict (s : State) (k : Fin 16) : State :=
  match s.engines[k].conts.find? (fun (c : Cont) => c.opened && !c.judged) with
  | none => s
  | some c =>
    if s.get (DCE_CTRL_SINK k) = 1 then
      let q := s.sinkSq k
      if s.segLeft q k c ≤ 16384 then
        let s := (s.judge k c).verdictTo q k c
        let s := s.descBack k c.desc c.ctrl c.data.length c.code true
        s.modEng k (fun g => { g with conts := dropCont (fun x => x.opened && !x.judged) g.conts })
      else s
    else
      (s.judge k c).modEng k (fun g => { g with conts := g.conts.map (fun x => if x = c then { x with judged := true } else x) })

/-- The Bolter has finished with its oldest judged container: its descriptor is written back (R276, R235). -/
def State.containerFinished (s : State) (k : Fin 16) : State :=
  match s.engines[k].conts.find? (fun c => c.judged) with
  | none => s
  | some c =>
    let s := s.descBack k c.desc c.ctrl c.data.length c.code true
    s.modEng k (fun g => { g with conts := dropCont (fun x => x.judged) g.conts })

/-- A container that the sequencer skips is stopped and written back SKIPPED (R239). -/
def State.containerSkip (s : State) (k : Fin 16) : State :=
  match s.engines[k].conts.find? (fun c => c.skip) with
  | none => s
  | some c =>
    let s := (s.descBack k c.desc c.ctrl 0 0x10 true).bump (DCE_SKIP_CNT_SKIPPED k)
    s.modEng k (fun g => { g with conts := dropCont (fun x => x.skip) g.conts })

/-- EN cleared on a stream engine: the opened container is abandoned, the unopened ones go back to the ring (R252). The Bolter writes
back a container whose verdict it has (R276). -/
def State.streamOff (s : State) (k : Fin 16) : State :=
  let sq := decide (s.get (DCE_CTRL_SINK k) = 1)
  let s := s.contsLost k
  let s := s.engines[k].conts.foldl (fun s c =>
    if c.judged && !sq then s.descBack k c.desc c.ctrl c.data.length c.code true
    else if c.opened || c.skip then
      let s := if sq && !c.hdrBad && !c.skip then s.verdictSq (s.sinkSq k) c.page c.segment none else s
      (s.descBack k c.desc c.ctrl 0 0x10 true).bump (DCE_SKIP_CNT_SKIPPED k)
    else s) s
  let s := s.put (DCE_IRING_IDX_IDX k) (s.get (DCE_IRING_IDX_OPEN k))
  let s := s.modEng k (fun g => { g with st := .idle, conts := [] })
  let s := if sq then s.modSq (s.sinkSq k) (fun q => { q with seg := match q.seg with
      | some g => if g.eng = k.val then none else some g
      | none => none }) else s
  s.weirRelease (engRq k)

/-! ## The input of a memory job (R241) -/

/-- No input read. -/
def JobIn.empty : JobIn := { bytes := [], ended := false, failed := false, bufs := [] }

/-- The outcome of taking the next input buffer. -/
inductive PullRes where
  | stall
  | wait (s : State)
  | bus (s : State)
  | got (j : JobIn) (s : State)

/-- The next input descriptor of a job taken and its bytes read, up to a bus error. -/
def State.pullIn (s : State) (e : Nat) (j : JobIn) : PullRes :=
  let a := s.ringDesc e 0x08
  match s.readDesc a with
  | .wait => .stall
  | .err s => .bus s
  | .ok d t =>
    if !d.own then .wait t
    else if d.len = 0 then .got { j with ended := d.ctrl.getLsbD 29 } ((t.descBack e a d.ctrl 0 0 false).ringNext e 0x08)
    else match t.readUpTo d.addr d.len with
      | none => .stall
      | some (bs, failed, t) =>
        .got { bytes := j.bytes ++ bs, ended := d.ctrl.getLsbD 29 || failed, failed := failed,
               bufs := j.bufs ++ [{ desc := a, ctrl := d.ctrl, start := j.bytes.length, len := d.len }] } (t.ringNext e 0x08)

/-- The buffers taken so far are written back, all their bytes being in the engine, before it takes the next one (R235, R241). -/
def State.backTaken (s : State) (e : Nat) (j : JobIn) : State × JobIn :=
  (j.bufs.foldl (fun s b => s.descBack e b.desc b.ctrl b.len 0 false) s, { j with bufs := [] })

/-- At the end of a job the buffer that held its last input byte carries END and the status (R241). -/
def State.backFinal (s : State) (e pos code : Nat) : Bool → List InBuf → State
  | _, [] => s
  | ended, b :: t =>
    let last := !ended && (decide (pos ≤ b.start + b.len) || t.isEmpty)
    let used := min b.len (pos - b.start)
    State.backFinal (s.descBack e b.desc b.ctrl used (if last then code else 0) last) e pos code (ended || last) t

/-! ## The output of a job (R241) -/

/-- The outcome of taking the next output buffer. -/
inductive OutRes where
  | stall
  | wait (s : State)
  | bus (s : State)
  | got (b : OutBuf) (s : State)

/-- The next output descriptor taken, `n` empty ones passed over at most. -/
def State.takeOut (s : State) (e : Nat) : Nat → OutRes
  | 0 => .stall
  | n + 1 =>
    let a := s.ringDesc e 0x20
    match s.readDesc a with
    | .wait => .stall
    | .err s => .bus s
    | .ok d t =>
      if !d.own then .wait t
      else if d.len = 0 then State.takeOut ((t.descBack e a d.ctrl 0 0 false).ringNext e 0x20) e n
      else .got { desc := a, ctrl := d.ctrl, addr := d.addr, len := d.len, used := 0 } (t.ringNext e 0x20)

/-- Why output stopped. -/
inductive OutStop where
  | done | stall | wait | bus
deriving DecidableEq, Repr

/-- Output in progress: the buffer in use, the buffer held back for a container header, the bytes still to write, and the
count written. -/
structure OutRun where
  s : State
  out : Option OutBuf
  kept : Option OutBuf
  rest : List Byte
  count : Nat
  stop : OutStop

/-- The buffer in use, full, leaves: kept as the one that holds the header's place, or written back (R241, R248). -/
def OutRun.filled (e : Nat) (keep : Bool) (r : OutRun) : OutRun :=
  match r.out with
  | none => r
  | some b =>
    if b.used < b.len then r
    else if keep && r.kept.isNone then { r with out := none, kept := some b }
    else { r with out := none, s := r.s.descBack e b.desc b.ctrl b.used 0 false }

/-- Bytes written into the output ring's buffers in ring order. A buffer leaves when it fills; in COMPAT mode the stop writes it back
(R241, R242). -/
def OutRun.go (e : Nat) (keep compat : Bool) : Nat → OutRun → OutRun
  | 0, r => { r with stop := .stall }
  | n + 1, r =>
    if r.rest.isEmpty then { r with stop := .done }
    else match r.out with
      | none =>
        match r.s.takeOut e 1024 with
        | .stall => { r with stop := .stall }
        | .wait s => { r with s := s, stop := .wait }
        | .bus s => { r with s := s, stop := .bus }
        | .got b s => OutRun.go e keep compat n { r with s := s, out := some b }
      | some b =>
        if b.used = b.len then OutRun.go e keep compat n (r.filled e keep)
        else
          let m := min (b.len - b.used) r.rest.length
          match r.s.memWrite (b.addr + b.used) (r.rest.take m) with
          | none => { r with stop := .stall }
          | some (_, s) =>
            let r := { r with s := s, out := some { b with used := b.used + m }, rest := r.rest.drop m, count := r.count + m }
            OutRun.go e keep compat n (if compat then r else r.filled e keep)

/-- Bytes written out; at most every ring entry is used. -/
def State.writeOut (s : State) (e : Nat) (keep compat : Bool) (out kept : Option OutBuf) (bs : List Byte) : OutRun :=
  OutRun.go e keep compat 8192 { s := s, out := out, kept := kept, rest := bs, count := 0, stop := .done }

/-! ## Decode jobs (R241 to R244, R251) -/

/-- The decode job of an engine changed. -/
def State.modJob (s : State) (k : Fin 16) (f : Job → Job) : State := s.modEng k (fun g => { g with job := g.job.map f })

/-- How a run of the decoder ended. -/
inductive RunEnd where
  | need | full | done
  | fail (code : Nat)
deriving DecidableEq, Repr

/-- The decoder run until it needs input, fails, ends, or has a byte to write beyond `cap` (R242). -/
def Inf.runTo (inp : Bits) : Nat → Option Nat → Inf → Inf × RunEnd
  | 0, _, i => (i, .need)
  | n + 1, cap, i =>
    match i.step inp with
    | .emit _ j =>
      match cap with
      | some 0 => (i, .full)
      | some (c + 1) => Inf.runTo inp n (some c) j
      | none => Inf.runTo inp n none j
    | .go j => Inf.runTo inp n cap j
    | .need => (i, .need)
    | .fail c => (i, .fail c)
    | .done => (i, .done)

/-- The resume words of R243 for a decoder, without CHECK. -/
def Inf.words (i : Inf) : List Nat :=
  let stored := match i.phase with
    | .stored r => some r
    | _ => none
  [i.pos, i.blockBits, (if i.matchLen = 0 then 0 else i.matchDist * 65536) + i.matchLen,
   (stored.getD 0) * 65536 + b2n (decide (i.phase = .trailer)) * 16 + b2n stored.isSome * 8 + b2n i.bfinal * 4 + i.btype,
   i.adlerB * 65536 + i.adlerA, i.total, min i.total i.window]

/-- CHECK of R243. -/
def resumeCheck (ws : List Nat) : Word := crc32c (ws.flatMap (fun w => leBytes 4 w))

/-- IN_BITS, OUT_BYTES and the resume words loaded from a job (R242, R251). -/
def State.loadResume (s : State) (k : Fin 16) (j : Job) : State :=
  let ws := j.inf.words
  let s := (s.wr (DCE_IN_BITS k) (BitVec.ofNat 32 j.inf.pos)).wr (DCE_OUT_BYTES k) (BitVec.ofNat 32 j.outBytes)
  let s := ws.zipIdx.foldl (fun s w => s.wr (DCE_RESUME k w.2) (BitVec.ofNat 32 w.1)) s
  s.wr (DCE_RESUME k 7) (resumeCheck (ws.map (fun w => w % 2 ^ 32)))

/-- The job counts brought up to date. -/
def State.jobCounts (s : State) (k : Fin 16) : State :=
  match s.engines[k].job with
  | some j => (s.wr (DCE_IN_BITS k) (BitVec.ofNat 32 j.inf.pos)).wr (DCE_OUT_BYTES k) (BitVec.ofNat 32 j.outBytes)
  | none => s

/-- A job that ends at a descriptor's bus error (R234): as an abort does, with STATUS BUS. -/
def State.jobBus (s : State) (k : Fin 16) : State :=
  let s := match s.engines[k].job with
    | some j =>
      let s := s.loadResume k j
      match j.out with
      | some b => s.descBack k b.desc b.ctrl b.used 0x0E true
      | none => s
    | none => s
  ((s.engErr k 0x0E).modEng k (fun g => { g with st := .idle, job := none, committed := false })).weirRelease (engRq k)

/-- The job's status is known and stays so: its final output descriptor is held for the write-back that commits it, once the ring gives
one (R241, R251). -/
def State.jobEnd (s : State) (k : Fin 16) (code : Nat) : State :=
  match s.engines[k].job with
  | none => s
  | some j =>
    let s := (s.modJob k (fun j => { j with ending := some code })).engSt k .run
    if j.out.isSome then s
    else match s.takeOut k 1024 with
      | .stall => s
      | .wait s => s.engSt k .outWait
      | .bus s => s.jobBus k
      | .got b s => s.modJob k (fun j => { j with out := some b })

/-- What a job does next. -/
inductive JobNext where
  | stop (s : State)
  | again (s : State)

/-- The container length that the input descriptors give is known, and is not 32 + PAYLOAD_LEN (R227). -/
def JobIn.lengthBad (i : JobIn) : Bool :=
  let n := 32 + (headerOf (i.bytes.take 32)).payload
  decide (n < i.bytes.length) || (i.ended && !i.failed && decide (i.bytes.length ≠ n))

/-- The job takes more input, or ends where there is none: BUS after a failed read, else the code given. A container whose length turns
out wrong ends with HDR_FIELD. -/
def State.jobPull (s : State) (k : Fin 16) (j : Job) (short : Nat) : JobNext :=
  if j.inp.ended then .stop (s.jobEnd k (if j.inp.failed then 0x0E else short))
  else
    let b := s.backTaken k j.inp
    let s := b.1.modJob k (fun j => { j with inp := b.2 })
    match s.pullIn k b.2 with
    | .stall => .stop s
    | .wait s => .stop (s.engSt k .inWait)
    | .bus s => .stop (s.jobBus k)
    | .got i s =>
      let s := (s.modJob k (fun j => { j with inp := i })).engSt k .run
      if decide (s.get (DCE_CTRL_FORMAT k) = 0) && j.header.isSome && i.lengthBad then .stop (s.jobEnd k 0x02) else .again s

/-- The container header of a FORMAT = 0 job is taken (R232, R242). -/
def State.jobHeader (s : State) (k : Fin 16) (j : Job) : JobNext :=
  let h := j.inp.bytes.take 32
  let x := headerOf h
  let code := headerCode h (if j.inp.lengthBad then some j.inp.bytes.length else none)
  let s := s.modJob k (fun j => { j with header := some (x.lines, x.filter, x.outLen), inf := Inf.start 256 (some x.outLen) })
  if code ≠ 0 then .stop (s.jobEnd k code)
  else if s.flag (DCE_CTRL_COMPAT k) ∧ x.filter ≠ 0 then .stop (s.jobEnd k 0x11)
  else .again s

/-- The tables of an interrupted dynamic block are rebuilt from BLOCK_BITS (R244). -/
def State.jobRebuild (s : State) (k : Fin 16) (j : Job) : JobNext :=
  match dynHeader (bitsOf j.inp.bytes) (j.inf.blockBits + 3) with
  | .need => s.jobPull k j 0x09
  | .bad => .stop (s.jobEnd k 0x06)
  | .ok lit dist _ => .again (s.modJob k (fun j => { j with rebuild := false, inf := { j.inf with phase := .codes lit dist } }))

/-- The decoder as far as the bytes written out took it, where the output ring held it up: whole lines of a pair-interleaved segment
(R241, R251). -/
def Job.upTo (j : Job) (inp : Bits) (written : Nat) : Inf :=
  let hd := j.header.getD (1, 0, 0)
  let n := hd.2.2 / hd.1
  let need := if hd.2.1 = 2 ∧ n ≠ 0 then ceilDiv written n * n else written
  (Inf.runTo inp (infFuel inp) (some (need - j.inf.hist.length)) j.inf).1

/-- The decoder runs on, its bytes are delivered and written, and what stopped it is acted on (R230, R241, R242). -/
def State.jobDecode (s : State) (k : Fin 16) (j : Job) : JobNext :=
  let compat := s.flag (DCE_CTRL_COMPAT k)
  let inp := bitsOf j.inp.bytes
  let cap := if compat then (match j.out with
      | some b => some (b.len - b.used)
      | none => some 0) else none
  let r := Inf.runTo inp (infFuel inp) cap j.inf
  let hd := j.header.getD (1, 0, 0)
  let all := deliver hd.2.1 hd.1 (hd.2.2 / hd.1) r.1.hist.reverse
  let w := s.writeOut k false compat j.out none (all.drop j.delivered)
  let held := decide (w.stop ≠ .done)
  let j := { j with
    inf := if held then j.upTo inp (j.delivered + w.count) else r.1, out := w.out, delivered := j.delivered + w.count
    outBytes := j.outBytes + w.count }
  let s := ((w.s.modEng k (fun g => { g with job := some j })).jobCounts k).engSt k .run
  match w.stop with
  | .stall => .stop s
  | .wait => .stop (s.engSt k .outWait)
  | .bus => .stop (s.jobBus k)
  | .done =>
    match r.2 with
    | .need => s.jobPull k j 0x09
    | .full => .stop (s.modJob k (fun j => { j with stopping := true }))
    | .fail c => .stop (s.jobEnd k c)
    | .done =>
      if r.1.pos < inp.len then .stop (s.jobEnd k 0x0C)
      else if j.inp.ended then .stop (s.jobEnd k (if j.inp.failed then 0x0E else 0))
      else s.jobPull k j 0

/-- One stage of a job. -/
def State.jobStage (s : State) (k : Fin 16) (j : Job) : JobNext :=
  if s.get (DCE_CTRL_FORMAT k) = 0 ∧ j.header.isNone then
    if j.inp.bytes.length < 32 then s.jobPull k j 0x09 else s.jobHeader k j
  else if j.rebuild then s.jobRebuild k j
  else if s.flag (DCE_CTRL_COMPAT k) ∧ j.out.isNone then
    match s.takeOut k 1024 with
    | .stall => .stop s
    | .wait s => .stop (s.engSt k .outWait)
    | .bus s => .stop (s.jobBus k)
    | .got b s => .again (s.modJob k (fun j => { j with out := some b }))
  else s.jobDecode k j

/-- The job runs until it waits, stops or ends; `n` stages at most. -/
def State.jobRun (k : Fin 16) : Nat → State → State
  | 0, s => s
  | n + 1, s =>
    match s.engines[k].job with
    | none => s
    | some j =>
      match j.ending with
      | some c => if j.out.isSome then s else s.jobEnd k c
      | none =>
        if j.stopping then s
        else match s.jobStage k j with
          | .stop s => s
          | .again s => State.jobRun k n s

/-- The job runs on. -/
def State.jobGo (s : State) (k : Fin 16) : State := s.jobRun k 4096

/-- A new job with a decoder. -/
def newJob (inf : Inf) (header : Option (Nat × Nat × Nat)) (rebuild : Bool) (outBytes : Nat) : Job :=
  { inp := JobIn.empty, header := header, rebuild := rebuild, inf := inf, delivered := inf.hist.length, out := none,
    outBytes := outBytes, ending := none, stopping := false }

/-- A START in memory mode: leave is requested at class G7 (R236, R379). -/
def State.jobStart (s : State) (k : Fin 16) : State :=
  let s := s.modEng k (fun g => { g with st := .weir, committed := false, job := some (newJob (Inf.start 0 none) none false 0) })
  s.jobCounts k

/-- A RESTORE: CHECK first, then the history is read (R244). -/
def State.jobRestore (s : State) (k : Fin 16) : State :=
  let w := (List.range 8).map (fun i => (s.rd (DCE_RESUME k i)).toNat)
  let g := fun i => w.getD i 0
  if (resumeCheck (w.take 7)).toNat ≠ g 7 then s.engErr k 0x11
  else
    let hv := g 6 % 65536
    match s.readUpTo ((s.rd64 (DCE_HIST_LO k) (DCE_HIST_HI k)).toNat % 2 ^ 40) hv with
    | none => s
    | some (_, true, s) => s.engErr k 0x0E
    | some (hist, false, s) =>
      let btype := g 3 % 4
      let phase : InfPhase := if (g 3).testBit 4 then .trailer else if (g 3).testBit 3 then .stored (g 3 / 65536)
        else if btype = 1 then .codes staticLit staticDist else .block
      let rebuild := decide (btype = 2) && !(g 3).testBit 4
      let inf : Inf := {
        pos := g 0, blockBits := g 1, phase := phase, window := if hv < g 5 then hv else 32768, bfinal := (g 3).testBit 2,
        btype := btype, matchLen := g 2 % 65536, matchDist := g 2 / 65536, total := g 5, adlerA := g 4 % 65536,
        adlerB := g 4 / 65536, hist := hist.reverse, limit := none }
      (s.modEng k (fun e => { e with st := .run, committed := false, job := some (newJob inf (some (1, 0, 0)) rebuild (g 5)) })).jobGo k

/-- A stopped job continues on the engine that holds it (R244). -/
def State.jobResume (s : State) (k : Fin 16) : State :=
  ((s.modJob k (fun j => { j with stopping := false })).engSt k .run).jobGo k

/-- The stop of R242: write-back, resume words, STOPPED and DCE_STOPPED. -/
def State.jobStopped (s : State) (k : Fin 16) : State :=
  match s.engines[k].job with
  | some j =>
    if j.stopping && decide (s.engines[k].st = .run) then
      let s := match j.out with
        | some b => s.descBack k b.desc b.ctrl b.used 0 false
        | none => s
      let s := (s.modJob k (fun j => { j with out := none })).loadResume k j
      (s.engSt k .stopped).raise evDCE_STOPPED k 0
    else s
  | none => s

/-- The commit point of a job (R251): the final write-backs, DONE and DCE_JOB_DONE. -/
def State.jobDone (s : State) (k : Fin 16) : State :=
  match s.engines[k].job with
  | some j =>
    match j.ending, j.out with
    | some code, some b =>
      let s := s.backFinal k ((j.inf.pos + 7) / 8) code false j.inp.bufs
      let s := s.descBack k b.desc b.ctrl b.used code true
      let s := (s.jobCounts k).engErr k code
      let s := (s.modEng k (fun g => { g with st := .idle, job := none, committed := true })).weirRelease (engRq k)
      (s.set1 (DCE_STAT_DONE k)).raise evDCE_JOB_DONE k 0
    | _, _ => s
  | none => s

/-- ABORT (R251). -/
def State.jobAbort (s : State) (k : Fin 16) : State :=
  let g := s.engines[k]
  match g.job with
  | none => if g.committed && !s.streams k then s.set1 (DCE_STAT_ABORT_LATE k) else s
  | some j =>
    let s := if g.st = .weir then (s.wr (DCE_IN_BITS k) 0).wr (DCE_OUT_BYTES k) 0
      else
        let s := s.loadResume k j
        match j.out with
        | some b => s.descBack k b.desc b.ctrl b.used 0x0F true
        | none => s
    ((s.engErr k 0x0F).modEng k (fun g => { g with st := .idle, job := none, committed := false })).weirRelease (engRq k)

/-! ## Leave (R236) -/

/-- The class of an engine's request: G4 for a sequencer's stream, G6 for the Bolter, G7 for memory (R379). -/
def State.engClass (s : State) (k : Fin 16) : Nat :=
  if s.get (DCE_CTRL_SINK k) = 1 then 4 else if s.get (DCE_CTRL_SINK k) = 2 then 6 else 7

/-- Leave granted to a decode engine. -/
def State.engGranted (s : State) (k : Fin 16) : State :=
  if s.engines[k].st = .weir then (s.engSt k .run).jobGo k else s

/-- Leave refused to a decode engine. -/
def State.engRefused (s : State) (k : Fin 16) : State :=
  if s.engines[k].st = .weir then
    let s := (s.set1 (DCE_STAT_WEIR_REFUSED k)).modEng k (fun g => { g with st := .idle, job := none })
    if s.streams k then s.clr (DCE_CTRL_EN k) else s
  else s

/-- Leave requested by a decode engine. -/
def State.engLeave (s : State) (k : Fin 16) : State :=
  let s := (s.engSt k .weir).weirRequest (engRq k) (s.engClass k) (s.get (DCE_WEIR_PWR k)) (s.get (DCE_WEIR_MAXWAIT k))
  if s.weirHolds (engRq k) then s.engGranted k
  else if s.weirWaits (engRq k) then s
  else s.engRefused k

/-! ## Commands of a decode engine (R252 to R254) -/

/-- Whether another engine is enabled for the same sequencer or Bolter channel (R253). -/
def State.sinkTaken (s : State) (k : Fin 16) (sink sq : Nat) : Bool :=
  (fins 16).any (fun j => decide (j ≠ k) && s.flag (DCE_CTRL_EN j) && decide (s.get (DCE_CTRL_SINK j) = sink) &&
    (if sink = 1 then decide (s.get (DCE_CTRL_SINK_SQ j) = sq) else decide (s.get (DCE_CTRL_SINK_SQ j) % 2 = sq % 2)))

/-- The commands of a DCEk_CTRL write; one the state does not allow is ignored with CMD_IGNORED (R254). -/
def State.engCommands (s : State) (k : Fin 16) (v : Word) : State :=
  let s := if v.getLsbD 1 then s.jobAbort k else s
  let s := if v.getLsbD 0 then
      (if s.engines[k].st = .idle ∧ s.streams k = false then (s.jobStart k).engLeave k else s.set1 (DCE_STAT_CMD_IGNORED k))
    else s
  let s := if v.getLsbD 2 then
      (if s.engines[k].st = .stopped then s.jobResume k else s.set1 (DCE_STAT_CMD_IGNORED k))
    else s
  if v.getLsbD 3 then
    (if s.engines[k].st = .idle ∧ s.streams k = false then s.jobRestore k else s.set1 (DCE_STAT_CMD_IGNORED k))
  else s

/-- A supervisor write of DCEk_CTRL. -/
def State.dceCtrl (s : State) (k : Fin 16) (v : Word) : Resp × State :=
  let old := s.rd (DCE_CTRL k)
  let mode := 0x1F311000#32
  let wasEn := old.getLsbD 31
  let en := v.getLsbD 31
  let sink := field v 21 20
  let sq := field v 28 24
  let memory := decide (sink = 0 ∨ sink = 3)
  if (v &&& mode) ≠ (old &&& mode) ∧ (wasEn ∨ s.engines[k].st ≠ .idle) then (.errUnit, s)
  else if wasEn && !en && decide (sink = 1 ∧ s.sqs[s.sinkSq k].st = .run) then (.errUnit, s)
  else if !wasEn && en && !memory && ((decide (sink = 1 ∧ 11 < sq)) || s.sinkTaken k sink sq) then (.errUnit, s)
  else
    let s := s.wr (DCE_CTRL k) (v &&& (mode ||| 0x80000000#32))
    let s := if wasEn && !en then (if memory then (if s.engines[k].job.isSome then s.jobAbort k else s) else s.streamOff k) else s
    let s := if !wasEn && en && !memory then s.engLeave k else s
    (.ok, s.engCommands k v)

/-- A doorbell: an engine that waits reads its descriptor again (R234). -/
def State.engDoorbell (s : State) (k : Fin 16) : State :=
  if s.engines[k].st = .inWait ∨ s.engines[k].st = .outWait ∨ s.engines[k].st = .run then (s.engSt k .run).jobGo k else s

/-- STATE of DCEk_STAT; SINK_WAIT while the stream buffer is full (R237). -/
def State.engState (s : State) (k : Fin 16) : Nat :=
  match s.engines[k].st with
  | .idle => 0 | .weir => 1 | .inWait => 2 | .outWait => 4 | .stopped => 6
  | .run => if 16384 < s.undelivered k then 5 else 3

/-- A supervisor write to a DCE block; none for a register without a rule of its own. -/
def State.dceWrite (s : State) (k : Fin 16) (off : Nat) (v : Word) : Option (Resp × State) :=
  let busy := s.flag (DCE_CTRL_EN k) || decide (s.engines[k].st ≠ .idle)
  if off = 0x00 then some (s.dceCtrl k v)
  else if off = 0x08 ∨ off = 0x0C ∨ off = 0x10 ∨ off = 0x20 ∨ off = 0x24 ∨ off = 0x28 then
    if busy then some (.errUnit, s) else none
  else if off = 0x14 then
    if busy then some (.errUnit, s)
    else some (.ok, s.wr (DCE_IRING_IDX k) (BitVec.ofNat 32 (field v 15 0 * 65536 + field v 15 0)))
  else if off = 0x2C then if busy then some (.errUnit, s) else none
  else if off = 0x18 then some (.ok, s.engDoorbell k)
  else if 0x40 ≤ off ∧ off < 0x60 then
    if s.engines[k].st = .idle ∨ s.engines[k].st = .stopped then none else some (.errUnit, s)
  else none

/-! ## Compressors (R245 to R251) -/

/-- The compressor job changed. -/
def State.modCjob (s : State) (n : Fin 2) (f : CJob → CJob) : State := s.modCmp n (fun g => { g with job := g.job.map f })

/-- A compressor's state set. -/
def State.cmpSt (s : State) (n : Fin 2) (st : EngState) : State := s.modCmp n (fun g => { g with st := st })

/-- The engine number of a compressor. -/
def cmpNo (n : Fin 2) : Nat := 16 + n.val

/-- Whether a compressor works in container mode. -/
def State.cmpBox (s : State) (n : Fin 2) : Bool := decide (s.get (CMP_CTRL_FORMAT n) = 0)

/-- Bits appended to a job's output, first bit lowest; whole bytes are staged. -/
def CJob.addBits (j : CJob) (v len : Nat) : CJob :=
  let val := j.bitVal + (v % 2 ^ len) * 2 ^ j.bitLen
  let n := (j.bitLen + len) / 8
  { j with staged := j.staged ++ leBytes n val, bitVal := val / 2 ^ (8 * n), bitLen := (j.bitLen + len) % 8 }

/-- Padding to a byte boundary. -/
def CJob.align (j : CJob) : CJob := if j.bitLen = 0 then j else j.addBits 0 (8 - j.bitLen)

/-- Bits that a stored block of `n` bytes takes from here. -/
def CJob.storedBits (j : CJob) (n : Nat) : Nat := 3 + (8 - (j.bitLen + 3) % 8) % 8 + 32 + 8 * n

/-- A block emitted stored (R249). -/
def CJob.putStored (j : CJob) (block : List Byte) (final : Bool) : CJob :=
  let j := ((j.addBits (b2n final) 3).align).addBits (block.length + 65536 * (65535 - block.length)) 32
  { j with staged := j.staged ++ block }

/-- The shadow decoder on an encoded block: its bytes and end, with the history before it (R249). -/
def shadowRun (inp : Bits) : Nat → Inf → Option Inf
  | 0, _ => none
  | n + 1, i =>
    match i.step inp with
    | .emit _ j => shadowRun inp n j
    | .go j => if j.phase = .block ∨ j.phase = .trailer then some j else shadowRun inp n j
    | _ => none

/-- Whether encoded bits decode to exactly the block (R249). -/
def shadowOk (hist block : List Byte) (final : Bool) (bits : Nat × Nat) : Bool :=
  let inp : Bits := { val := bits.1 % 2 ^ bits.2, len := bits.2 }
  let i : Inf := { Inf.start 0 none with phase := .block, total := hist.length, hist := hist }
  match shadowRun inp (infFuel inp) i with
  | none => false
  | some j => decide (j.pos = bits.2 ∧ j.bfinal = final ∧ j.hist = block.reverse ++ hist)

/-- The `n` low bits of a number in reverse: a Huffman code is sent highest bit first (RFC 1951). -/
def revBits : Nat → Nat → Nat
  | 0, _ => 0
  | n + 1, v => v % 2 * 2 ^ n + revBits n (v / 2)

/-- The code of a literal or length symbol in a static block, with its length (RFC 1951). -/
def staticCode (sym : Nat) : Nat × Nat :=
  if sym < 144 then (revBits 8 (0x30 + sym), 8)
  else if sym < 256 then (revBits 9 (0x190 + (sym - 144)), 9)
  else if sym < 280 then (revBits 7 (sym - 256), 7)
  else (revBits 8 (0xC0 + (sym - 280)), 8)

/-- The symbol of a value in a table of bases: its index, with the extra bits and their number. -/
def tableSym (t : List (Nat × Nat)) (v : Nat) : Nat × Nat × Nat :=
  let i := (t.filter (fun e => decide (e.1 ≤ v))).length - 1
  let e := t.getD i (0, 0)
  (i, v - e.1, e.2)

/-- The static codes of a token: a literal (0, byte) or a match (length, distance). -/
def staticToken (k : Nat × Nat) : List (Nat × Nat) :=
  if k.1 = 0 then [staticCode (k.2 % 256)]
  else
    let l := tableSym lenTable k.1
    let d := tableSym distTable k.2
    [staticCode (257 + l.1), l.2, (revBits 5 d.1, 5), d.2]

/-- A static block of tokens: its bits as a number, first bit lowest, and their count. -/
def staticBlock (final : Bool) (ks : List (Nat × Nat)) : Nat × Nat :=
  ([(b2n final, 1), (1, 2)] ++ ks.flatMap staticToken ++ [staticCode 256]).foldl
    (fun (acc e : Nat × Nat) => (acc.1 + e.1 % 2 ^ e.2 * 2 ^ acc.2, acc.2 + e.2)) (0, 0)

/-- The encoding chosen for a block among those that EFFORT lets it consider: the fewest bits, stored and then static on a tie; none
where that is stored (R246, log 16). -/
def CJob.encoding (j : CJob) (effort : Nat) (hist block : List Byte) (final : Bool) : Option (Nat × Nat) :=
  let st := staticBlock final (Config.cmpMatches effort hist block)
  let dy := Config.cmpDynamic effort hist block final
  let best := if 2 ≤ effort ∧ dy.1 % 8 = b2n final + 4 ∧ dy.2 < st.2 then dy else st
  if effort = 0 ∨ j.storedBits block.length ≤ best.2 then none else some best

/-- A block emitted. An encoded block that the shadow decoder does not give back goes out stored, as the second component says (R249). -/
def CJob.putBlock (j : CJob) (effort : Nat) (hist block : List Byte) (final redo : Bool) : CJob × Bool :=
  match j.encoding effort hist block final with
  | none => (j.putStored block final, redo)
  | some c =>
    if redo || !shadowOk hist block final c then (j.putStored block final, true) else (j.addBits (c.1 % 2 ^ c.2) c.2, false)

/-- The input as compressed, as far as it goes: whole lines filtered in container mode (R245). -/
def State.cmpInput (s : State) (n : Fin 2) (j : CJob) : List Byte :=
  if s.cmpBox n then
    let lb := s.get (CMP_CFG_LINE_BYTES n)
    filterLines (s.get (CMP_CFG_FILTER n)) lb (j.inp.bytes.length / lb) [] j.inp.bytes
  else j.inp.bytes

/-- The bytes of a buffer that hold output: the header's place in the first buffer of a container is not written yet (R248). -/
def State.cmpUsed (s : State) (n : Fin 2) (j : CJob) (b : OutBuf) : Nat :=
  if s.cmpBox n && (decide (j.first = some b) || j.first.isNone) then b.used - 32 else b.used

/-- The buffers of a compressor job that ends without its header: the kept first buffer goes back, and the current one with the status
given (R234, R251, log 107). -/
def State.cmpRelease (s : State) (n : Fin 2) (code : Nat) : State :=
  match s.cmps[n].job with
  | none => s
  | some j =>
    let s := match j.first with
      | some f => s.descBack (cmpNo n) f.desc f.ctrl (s.cmpUsed n j f) 0 false
      | none => s
    match j.out with
    | some b => s.descBack (cmpNo n) b.desc b.ctrl (s.cmpUsed n j b) code true
    | none => s

/-- A compressor job that ends at a descriptor's bus error (R234). -/
def State.cmpBus (s : State) (n : Fin 2) : State :=
  (((s.cmpRelease n 0x0E).engErr (cmpNo n) 0x0E).modCmp n (fun g => { g with st := .idle, job := none, committed := false })).weirRelease
    (engRq (cmpNo n))

/-- The job's status is known and stays so; its final output descriptor is held once the ring gives one. -/
def State.cmpEnd (s : State) (n : Fin 2) (code : Nat) : State :=
  match s.cmps[n].job with
  | none => s
  | some j =>
    let s := (s.modCjob n (fun j => { j with ending := some code })).cmpSt n .run
    if j.out.isSome then s
    else match s.takeOut (cmpNo n) 1024 with
      | .stall => s
      | .wait s => s.cmpSt n .outWait
      | .bus s => s.cmpBus n
      | .got b s => s.modCjob n (fun j => { j with out := some b })

/-- The counts of a compressor: input bytes consumed times 8, and output bytes. -/
def State.cmpCounts (s : State) (n : Fin 2) : State :=
  match s.cmps[n].job with
  | some j => (s.wr (CMP_IN_BITS n) (BitVec.ofNat 32 (8 * j.done))).wr (CMP_OUT_BYTES n) (BitVec.ofNat 32 j.outBytes)
  | none => s

/-- The first output buffer of a job, with the header's place reserved in container mode; PARAM where it is under 32 bytes
(R248). The second component says that the job may go on. -/
def State.cmpFirst (s : State) (n : Fin 2) (j : CJob) : State × Bool :=
  if j.out.isSome || j.first.isSome || j.started then (s, true)
  else match s.takeOut (cmpNo n) 1024 with
    | .stall => (s, false)
    | .wait s => (s.cmpSt n .outWait, false)
    | .bus s => (s.cmpBus n, false)
    | .got b s =>
      if s.cmpBox n then
        if b.len < 32 then ((s.modCjob n (fun j => { j with out := some b })).cmpEnd n 0x11, false)
        else ((s.modCjob n (fun j => { j with out := some { b with used := 32 } })), true)
      else (s.modCjob n (fun j => { j with out := some b }), true)

/-- Staged bytes written out. A COMPAT compressor whose buffer is full stops (R250); after the final block the job ends. -/
def State.cmpFlush (s : State) (n : Fin 2) (j : CJob) : State :=
  let compat := s.flag (CMP_CTRL_COMPAT n)
  let room := match j.out with
    | some b => b.len - b.used
    | none => 0
  let now := if compat then j.staged.take room else j.staged
  let w := s.writeOut (cmpNo n) (s.cmpBox n) compat j.out j.first now
  let j := { j with out := w.out, first := w.kept, staged := j.staged.drop w.count, outBytes := j.outBytes + w.count }
  let s := ((w.s.modCmp n (fun g => { g with job := some j })).cmpCounts n).cmpSt n .run
  match w.stop with
  | .stall => s
  | .wait => s.cmpSt n .outWait
  | .bus => s.cmpBus n
  | .done =>
    if !j.staged.isEmpty then s.modCjob n (fun j => { j with stopping := true })
    else if j.final then s.cmpEnd n 0
    else s

/-- The next block is emitted from the input at hand: zlib header first, the trailer after the final block; a block that went out stored
for want of verification is counted and reported (R245, R246, R249). -/
def State.cmpEmit (s : State) (n : Fin 2) (redo : Bool) (j : CJob) : State :=
  let e := s.get (CMP_CFG_EFFORT n)
  let inp := s.cmpInput n j
  let size := 2 ^ (12 + s.get (CMP_CFG_BLOCK_LOG2 n))
  let block := (inp.drop j.done).take size
  let final := j.inp.ended && decide (inp.length ≤ j.done + block.length)
  let flg := 64 * min e 3
  let j := if j.started then j else { j with started := true, staged := [0x78, BitVec.ofNat 8 (flg + (31 - (0x7800 + flg) % 31) % 31)] }
  let r := j.putBlock e ((inp.take j.done).reverse.take 32768) block final redo
  let s := if r.2 then (s.bump (CMP_REDO_VERIFY_REDO n)).raise evCMP_VERIFY_REDO n 0 else s
  let j := r.1
  let j := { j with done := j.done + block.length, final := final }
  let j := if final then { j.align with staged := j.align.staged ++ beBytes 4 (adler32 inp) } else j
  (s.modCmp n (fun g => { g with job := some j })).cmpFlush n j

/-- Whether the input at hand is enough for the next block: a whole block and a byte that follows it, which tells that it is not the
last, or all of the input (R247). -/
def State.cmpEnough (s : State) (n : Fin 2) (j : CJob) : Bool :=
  j.inp.ended || decide (j.done + 2 ^ (12 + s.get (CMP_CFG_BLOCK_LOG2 n)) < (s.cmpInput n j).length)

/-- Input taken until it is enough for the next block; the second component says that it is. -/
def State.cmpPull (n : Fin 2) : Nat → State → State × Bool
  | 0, s => (s, false)
  | f + 1, s =>
    match s.cmps[n].job with
    | none => (s, false)
    | some j =>
      if s.cmpEnough n j then
        if j.inp.failed then (s.cmpEnd n 0x0E, false)
        else if j.inp.ended && s.cmpBox n && decide (j.inp.bytes.length ≠ s.get (CMP_CFG_LINES n) * s.get (CMP_CFG_LINE_BYTES n)) then (s.cmpEnd n 0x11, false)
        else (s, true)
      else
        let b := s.backTaken (cmpNo n) j.inp
        let s := b.1.modCjob n (fun j => { j with inp := b.2 })
        match s.pullIn (cmpNo n) b.2 with
        | .stall => (s, false)
        | .wait s => (s.cmpSt n .inWait, false)
        | .bus s => (s.cmpBus n, false)
        | .got i s => State.cmpPull n f ((s.modCjob n (fun j => { j with inp := i })).cmpSt n .run)

/-- A block is verified and written out, or re-emitted stored after a mismatch (R249). -/
def State.cmpBlock (s : State) (n : Fin 2) (redo : Bool) : State :=
  match s.cmps[n].job with
  | none => s
  | some j =>
    if s.cmps[n].st ≠ .run ∨ j.ending.isSome ∨ j.stopping ∨ j.final ∨ j.staged ≠ [] then s
    else
      let f := s.cmpFirst n j
      if !f.2 then f.1
      else
        let p := State.cmpPull n 4096 f.1
        if !p.2 then p.1
        else match p.1.cmps[n].job with
          | none => p.1
          | some j => p.1.cmpEmit n redo j

/-- A compressor that waited goes on: staged bytes first. -/
def State.cmpGo (s : State) (n : Fin 2) : State :=
  match s.cmps[n].job with
  | none => s
  | some j =>
    match j.ending with
    | some c => if j.out.isSome then s else s.cmpEnd n c
    | none => if j.stopping || (j.staged.isEmpty && !j.final) then s else s.cmpFlush n j

/-- START refused with PARAM: CMPn_CFG invalid, COMPAT in container mode, or a first output buffer under 32 bytes (R248,
CMPn_CFG). -/
def State.cmpParam (s : State) (n : Fin 2) : Bool :=
  let lines := s.get (CMP_CFG_LINES n)
  let lb := s.get (CMP_CFG_LINE_BYTES n)
  let small := match s.readDesc (s.ringDesc (cmpNo n) 0x20) with
    | .ok d _ => d.own && decide (0 < d.len ∧ d.len < 32)
    | _ => false
  decide (lines = 0 ∨ 32 < lines ∨ lb = 0 ∨ 4096 < lb ∨ s.get (CMP_CFG_FILTER n) = 3) ||
    (s.cmpBox n && (s.flag (CMP_CTRL_COMPAT n) || small))

/-- Leave granted or refused to a compressor (R236). -/
def State.cmpGranted (s : State) (n : Fin 2) : State := if s.cmps[n].st = .weir then s.cmpSt n .run else s

/-- See `cmpGranted`. -/
def State.cmpRefused (s : State) (n : Fin 2) : State :=
  if s.cmps[n].st = .weir then (s.set1 (CMP_STAT_WEIR_REFUSED n)).modCmp n (fun g => { g with st := .idle, job := none }) else s

/-- START of a compressor job (R245, R248). -/
def State.cmpStart (s : State) (n : Fin 2) : State :=
  if s.cmpParam n then s.engErr (cmpNo n) 0x11
  else
    let j : CJob := {
      inp := JobIn.empty, done := 0, bitVal := 0, bitLen := 0, staged := [], first := none, out := none, outBytes := 0,
      started := false, final := false, ending := none, stopping := false }
    let s := (s.modCmp n (fun g => { g with st := .weir, committed := false, job := some j })).cmpCounts n
    let r := engRq (cmpNo n)
    let s := s.weirRequest r 7 (s.get (CMP_WEIR_PWR n)) (s.get (CMP_WEIR_MAXWAIT n))
    if s.weirHolds r then s.cmpGranted n else if s.weirWaits r then s else s.cmpRefused n

/-- The stop state of R250: input bytes consumed and the pending bits of the next output byte. -/
def State.cmpResumeWords (s : State) (n : Fin 2) (j : CJob) : State :=
  (s.wr (CMP_RESUME0 n) (BitVec.ofNat 32 j.done)).wr (CMP_RESUME1 n) (BitVec.ofNat 32 (j.bitVal % 256 * 256 + j.bitLen))

/-- A COMPAT compressor stops with its buffer full (R250). -/
def State.cmpStop (s : State) (n : Fin 2) : State :=
  match s.cmps[n].job with
  | some j =>
    if j.stopping && decide (s.cmps[n].st = .run) then
      let s := match j.out with
        | some b => s.descBack (cmpNo n) b.desc b.ctrl b.used 0 false
        | none => s
      let s := ((s.modCjob n (fun j => { j with out := none })).cmpResumeWords n j).cmpSt n .stopped
      s.raise evDCE_STOPPED (cmpNo n) 0
    else s
  | none => s

/-- RESUME of a stopped compressor (R250): its next output buffer is taken and the staged bytes go on. -/
def State.cmpResume (s : State) (n : Fin 2) : State :=
  let s := (s.modCjob n (fun j => { j with stopping := false })).cmpSt n .run
  match s.takeOut (cmpNo n) 1024 with
  | .stall => s
  | .wait s => s.cmpSt n .outWait
  | .bus s => s.cmpBus n
  | .got b s => (s.modCjob n (fun j => { j with out := some b })).cmpGo n

/-- The container header written into its place once the trailer is acknowledged, and the buffer that holds it written back
(R248). -/
def State.cmpHeader (s : State) (n : Fin 2) (j : CJob) : State :=
  let x : Header := {
    lines := s.get (CMP_CFG_LINES n), filter := s.get (CMP_CFG_FILTER n), page := s.rd (CMP_PAGE n),
    stream := BitVec.ofNat 16 (s.get (CMP_STREAM_STREAM_ID n)), segment := s.get (CMP_SEG_SEGMENT n),
    outLen := s.get (CMP_CFG_LINES n) * s.get (CMP_CFG_LINE_BYTES n), payload := j.outBytes }
  match (match j.first with
    | some b => some b
    | none => j.out) with
  | none => s
  | some b => match s.memWrite b.addr (headerBytes x) with
    | some (_, s) => s.wr (CMP_OUT_BYTES n) (BitVec.ofNat 32 (j.outBytes + 32))
    | none => s

/-- The commit point of a compressor job (R251). -/
def State.cmpDone (s : State) (n : Fin 2) : State :=
  match s.cmps[n].job with
  | some j =>
    match j.ending, j.out with
    | some code, some b =>
      let good := s.cmpBox n && decide (code = 0)
      let used := fun (b : OutBuf) => if good then b.used else s.cmpUsed n j b
      let s := if good then s.cmpHeader n j else s
      let s := match j.first with
        | some f => s.descBack (cmpNo n) f.desc f.ctrl (used f) 0 false
        | none => s
      let s := s.backFinal (cmpNo n) j.done code false j.inp.bufs
      let s := (s.descBack (cmpNo n) b.desc b.ctrl (used b) code true).engErr (cmpNo n) code
      let s := (s.modCmp n (fun g => { g with st := .idle, job := none, committed := true })).weirRelease (engRq (cmpNo n))
      (s.set1 (CMP_STAT_DONE n)).raise evCMP_JOB_DONE n 0
    | _, _ => s
  | none => s

/-- ABORT of a compressor job (R251). -/
def State.cmpAbort (s : State) (n : Fin 2) : State :=
  let g := s.cmps[n]
  match g.job with
  | none => if g.committed then s.set1 (CMP_STAT_ABORT_LATE n) else s
  | some j =>
    let s := if g.st = .weir then (s.wr (CMP_IN_BITS n) 0).wr (CMP_OUT_BYTES n) 0
      else (s.cmpResumeWords n j).cmpRelease n 0x0F
    ((s.engErr (cmpNo n) 0x0F).modCmp n (fun g => { g with st := .idle, job := none, committed := false })).weirRelease (engRq (cmpNo n))

/-- A supervisor write of CMPn_CTRL. -/
def State.cmpCtrl (s : State) (n : Fin 2) (v : Word) : Resp × State :=
  let old := s.rd (CMP_CTRL n)
  let mode := 0x00011000#32
  let wasEn := old.getLsbD 31
  if (v &&& mode) ≠ (old &&& mode) ∧ (wasEn ∨ s.cmps[n].st ≠ .idle) then (.errUnit, s)
  else
    let s := s.wr (CMP_CTRL n) (v &&& (mode ||| 0x80000000#32))
    let s := if wasEn && !v.getLsbD 31 && s.cmps[n].job.isSome then s.cmpAbort n else s
    let ignored := s.set1 (CMP_STAT_CMD_IGNORED n)
    let s := if v.getLsbD 1 then s.cmpAbort n else s
    let s := if v.getLsbD 0 then (if s.cmps[n].st = .idle then s.cmpStart n else ignored) else s
    let s := if v.getLsbD 2 then (if s.cmps[n].st = .stopped then s.cmpResume n else s.set1 (CMP_STAT_CMD_IGNORED n)) else s
    (.ok, if v.getLsbD 3 then s.set1 (CMP_STAT_CMD_IGNORED n) else s)

/-- A doorbell of a compressor (R234). -/
def State.cmpDoorbell (s : State) (n : Fin 2) : State :=
  if s.cmps[n].st = .inWait then (s.cmpSt n .run).cmpGo n
  else if s.cmps[n].st = .outWait then
    match s.cmps[n].job with
    | some j =>
      if j.out.isNone && j.started && j.ending.isNone && s.flag (CMP_CTRL_COMPAT n) then s.cmpResume n
      else (s.cmpSt n .run).cmpGo n
    | none => s
  else s

/-- STATE of CMPn_STAT. -/
def State.cmpState (s : State) (n : Fin 2) : Nat :=
  match s.cmps[n].st with
  | .idle => 0 | .weir => 1 | .inWait => 2 | .run => 3 | .outWait => 4 | .stopped => 6

/-- A supervisor write to a CMP block; none for a register without a rule of its own. -/
def State.cmpWrite (s : State) (n : Fin 2) (off : Nat) (v : Word) : Option (Resp × State) :=
  let busy := s.flag (CMP_CTRL_EN n) || decide (s.cmps[n].st ≠ .idle)
  if off = 0x00 then some (s.cmpCtrl n v)
  else if off = 0x08 ∨ off = 0x0C ∨ off = 0x10 ∨ off = 0x20 ∨ off = 0x24 ∨ off = 0x28 then
    if busy then some (.errUnit, s) else none
  else if off = 0x14 then
    if busy then some (.errUnit, s)
    else some (.ok, s.wr (CMP_IRING_IDX n) (BitVec.ofNat 32 (field v 15 0 * 65536 + field v 15 0)))
  else if off = 0x2C then if busy then some (.errUnit, s) else none
  else if off = 0x18 then some (.ok, s.cmpDoorbell n)
  else if off = 0x80 then if s.cmps[n].st = .idle then none else some (.errUnit, s)
  else none

/-- A bus error on a descriptor read reported to an engine that reads one (R234). -/
def State.descBusError (s : State) (e : Fin 18) : State :=
  if h : e.val < 16 then
    let k : Fin 16 := ⟨e.val, h⟩
    if s.engines[k].st = .run ∨ s.engines[k].st = .inWait ∨ s.engines[k].st = .outWait then
      (if s.streams k then s.streamBus k else s.jobBus k)
    else s
  else
    let n : Fin 2 := finOf 2 (by decide) (e.val - 16)
    if s.cmps[n].st = .run ∨ s.cmps[n].st = .inWait ∨ s.cmps[n].st = .outWait then s.cmpBus n else s

end Sys2Proof.Machine
end

