-- ==== Sys2Proof/Machine/DmaOps.lean ====
section
/-!
DEFINITION. The DMA unit (R343 to R367): the operations of the register channels, their completion, errors and aborts, the
fall-back path of the line builder (R129), and the descriptor rings.
-/
namespace Sys2Proof.Machine

/-! ## Reshuffle (R354) -/

/-- Bit `k` of a buffer. -/
def bufBit (bs : List Byte) (k : Nat) : Bool := (bs.getD (k / 8) 0).getLsbD (k % 8)

/-- A byte from eight bits, bit 0 first. -/
def byteOfBits (f : Nat → Bool) : Byte := (List.range 8).foldl (fun b i => setBit b i (f i)) 0

/-- The `n` bits `f 0`, `f 1`, … as bytes, the unused high bits of the last byte zero. -/
def bytesOfBits (n : Nat) (f : Nat → Bool) : List Byte :=
  (List.range ((n + 7) / 8)).map (fun j => byteOfBits (fun i => decide (8 * j + i < n) && f (8 * j + i)))

/-- The parameters of a reshuffle. -/
structure Reshuffle where
  mode : Nat
  pmsb : Bool
  rev : Bool
  n : Nat
  g : Nat
  pstride : Nat
deriving DecidableEq, Repr

/-- PARAM read as reshuffle parameters. -/
def reshuffleOf (w : Word) : Reshuffle :=
  { mode := field w 31 30, pmsb := w.getLsbD 29, rev := w.getLsbD 28, n := field w 27 24 + 1, g := field w 23 19 + 1,
    pstride := field w 15 0 }

/-- Elements of a SPLIT or MERGE of `count` bytes. -/
def Reshuffle.elems (r : Reshuffle) (count : Nat) : Nat := count * 8 / r.n

/-- Bytes per plane. -/
def Reshuffle.planeBytes (r : Reshuffle) (count : Nat) : Nat := (r.elems count + 7) / 8

/-- Whether the parameters are valid for `count` bytes. -/
def Reshuffle.ok (r : Reshuffle) (count : Nat) : Bool :=
  match r.mode with
  | 0 | 1 => decide (r.n ≤ 4 ∧ count * 8 % r.n = 0 ∧ r.planeBytes count ≤ r.pstride)
  | 2 => decide (count * 8 % (r.n * r.g) = 0 ∧ count * 8 / (r.n * r.g) ≠ 0)
  | _ => false

/-- The plane that holds bit `b` of each element. -/
def Reshuffle.plane (r : Reshuffle) (b : Nat) : Nat := if r.pmsb then r.n - 1 - b else b

/-- The source ranges of a reshuffle: offset and length. -/
def Reshuffle.sources (r : Reshuffle) (count : Nat) : List (Nat × Nat) :=
  if r.mode = 1 then (List.range r.n).map (fun pl => (pl * r.pstride, r.planeBytes count)) else [(0, count)]

/-- What a reshuffle writes: offset and bytes of each range. `src` holds the bytes of its source ranges. -/
def Reshuffle.run (r : Reshuffle) (count : Nat) (src : List (List Byte)) : List (Nat × List Byte) :=
  let one := src.headD []
  match r.mode with
  | 0 => (List.range r.n).map (fun pl =>
      (pl * r.pstride, bytesOfBits (r.elems count) (fun e => bufBit one (r.n * e + r.plane pl))))
  | 1 => [(0, bytesOfBits (count * 8) (fun k => bufBit (src.getD (r.plane (k % r.n)) []) (k / r.n)))]
  | _ =>
    let blk := count * 8 / (r.n * r.g)
    [(0, bytesOfBits (count * 8) (fun k =>
      let t := k % r.g
      let j := k / r.g % r.n
      let q := k / r.g / r.n
      bufBit one ((j * blk + (if r.rev then blk - 1 - q else q)) * r.g + t)))]

/-! ## Moving data -/

/-- The first access that failed: its offset in the transfer, its response, and whether it was the last. -/
structure DmaFail where
  ofs : Nat
  resp : Resp
  last : Bool
deriving DecidableEq, Repr

/-- Bytes read at line boundaries up to the first response that is not OK; none while an access waits. -/
def State.dmaRead (s : State) : Nat → Nat → Nat → Nat → List (List Byte) → Option (List Byte × Option DmaFail × State)
  | 0, _, _, _, acc => some (acc.reverse.flatten, none, s)
  | f + 1, a, n, ofs, acc =>
    if n = 0 then some (acc.reverse.flatten, none, s)
    else
      let m := min n (64 - a % 64)
      match s.memRead a m with
      | none => none
      | some (.ok, bs, s) => State.dmaRead s f (a + m) (n - m) (ofs + m) (bs :: acc)
      | some (r, _, s) => some (acc.reverse.flatten, some { ofs := ofs, resp := r, last := decide (n ≤ m) }, s)

/-- Source ranges read one after the other. -/
def State.dmaReads (s : State) (src : Nat) : List (Nat × Nat) → Nat → List (List Byte) →
    Option (List (List Byte) × Option DmaFail × State)
  | [], _, acc => some (acc.reverse, none, s)
  | (o, n) :: t, ofs, acc =>
    match s.dmaRead (n / 64 + 2) (src + o) n ofs [] with
    | none => none
    | some (bs, none, s) => State.dmaReads s src t (ofs + n) (bs :: acc)
    | some (bs, some e, s) => some ((bs :: acc).reverse, some e, s)

/-- Bytes written at line boundaries up to the first response that is not OK; none while an access waits. -/
def State.dmaWrite (s : State) : Nat → Nat → List Byte → Nat → Option (Option DmaFail × State)
  | 0, _, _, _ => some (none, s)
  | f + 1, a, bs, ofs =>
    if bs.isEmpty then some (none, s)
    else
      let m := min bs.length (64 - a % 64)
      match s.memWrite a (bs.take m) with
      | none => none
      | some (.ok, s) => State.dmaWrite s f (a + m) (bs.drop m) (ofs + m)
      | some (r, s) => some (some { ofs := ofs, resp := r, last := decide (bs.length ≤ m) }, s)

/-- Destination ranges written one after the other. -/
def State.dmaWrites (s : State) (dst : Nat) : List (Nat × List Byte) → Nat → Option (Option DmaFail × State)
  | [], _ => some (none, s)
  | (o, bs) :: t, ofs =>
    match s.dmaWrite (bs.length / 64 + 2) (dst + o) bs ofs with
    | none => none
    | some (none, s) => State.dmaWrites s dst t (ofs + bs.length)
    | some (some e, s) => some (some { e with last := e.last && t.isEmpty }, s)

/-- The ranges cut to their first `n` bytes. -/
def takeRanges : Nat → List (Nat × List Byte) → List (Nat × List Byte)
  | _, [] => []
  | n, (o, bs) :: t => (o, bs.take n) :: takeRanges (n - bs.length) t

/-- The bytes of ranges in order, from number `n` on, replaced by free bytes for at most `m` bytes (R357). -/
def freeRanges (k : Nat) : Nat → Nat → List (Nat × List Byte) → List (Nat × List Byte)
  | _, _, [] => []
  | n, m, (o, bs) :: t =>
    let skip := min n bs.length
    let len := min m (bs.length - skip)
    (o + skip, freeBytes k len) :: freeRanges (k + len) (n - skip) (m - len) t

/-- Bytes of writes already issued beyond the failing access: undefined, at most 1 KiB (R357). -/
def State.dmaUndefined (s : State) (dst ofs : Nat) (rs : List (Nat × List Byte)) : State :=
  let m := s.freeBelow 1025
  let rs := freeRanges (s.free + 1) ofs m rs
  let s := { s with free := s.free + m + 1 }
  match s.dmaWrites dst rs 0 with
  | some (_, s) => s
  | none => s

/-! ## Register channels (R348 to R360) -/

/-- A 40-bit address from its pair. -/
def State.addr40 (s : State) (lo hi : Nat) : Nat := (s.rd64 lo hi).toNat % 2 ^ 40

/-- A register channel's state changed. -/
def State.modDmaCh (s : State) (n : Fin 32) (f : DmaCh → DmaCh) : State :=
  { s with dma := { s.dma with chs := vset s.dma.chs n (f s.dma.chs[n]) } }

/-- FILL's byte for an address. -/
def fillByte (v : Word) (a : Nat) : Byte := v.extractLsb' (8 * (a % 4)) 8

/-- Whether two ranges of `n` bytes overlap. -/
def overlap (a b n : Nat) : Bool := decide (n ≠ 0 ∧ a < b + n ∧ b < a + n)

/-- Whether the channel's registers name a valid operation (R347, R352, R354). -/
def State.dmaParamOk (s : State) (n : Nat) (fb : Bool) : Bool :=
  let count := (s.rd (DMA_CH_COUNT n)).toNat
  let src := s.addr40 (DMA_CH_SRC_LO n) (DMA_CH_SRC_HI n)
  let dst := s.addr40 (DMA_CH_DST_LO n) (DMA_CH_DST_HI n)
  match s.get (DMA_CH_CTRL_OP n) with
  | 0 => !fb && !overlap src dst count
  | 1 | 2 => !fb
  | 3 => (reshuffleOf (s.rd (DMA_CH_PARAM n))).ok count
  | _ => false

/-- What the channel reads: source ranges. -/
def State.dmaSources (s : State) (n : Nat) : List (Nat × Nat) :=
  let count := (s.rd (DMA_CH_COUNT n)).toNat
  match s.get (DMA_CH_CTRL_OP n) with
  | 1 => []
  | 3 => (reshuffleOf (s.rd (DMA_CH_PARAM n))).sources count
  | _ => [(0, count)]

/-- What the channel writes for the source bytes read. -/
def State.dmaOutput (s : State) (n : Nat) (src : List (List Byte)) : List (Nat × List Byte) :=
  let count := (s.rd (DMA_CH_COUNT n)).toNat
  let dst := s.addr40 (DMA_CH_DST_LO n) (DMA_CH_DST_HI n)
  match s.get (DMA_CH_CTRL_OP n) with
  | 0 => [(0, src.headD [])]
  | 1 => [(0, (List.range count).map (fun i => fillByte (s.rd (DMA_CH_VALUE n)) (dst + i)))]
  | 3 => (reshuffleOf (s.rd (DMA_CH_PARAM n))).run count src
  | _ => []

/-- The staging line that the channel `n` carries for the builder of sequencer k. -/
def Seq.fbLine (q : Seq) : Option FbLine := q.fbWait.find? (fun f => f.started)

/-- The builder loads the result of the fall-back channel into the entry; after a status other than OK the entry is never
released and SQ_FB_ERR is raised (R129). -/
def State.fbFinish (s : State) (k : Fin 12) (status result : Nat) : State :=
  match s.sqs[k].fbLine with
  | none => s
  | some f =>
    let p := portOf k f.lane
    let buf := 0x1000000 + 1024 * (s.get (SQ_FB_BUF_OFS k)) + 1024 * f.slot
    let s := s.modSq k (fun q => { q with fbWait := q.fbWait.filter (fun x => !x.started) })
    if status = 0 then
      let bs := s.bytes buf result
      s.fifoMap p (fun e => if e.page = f.page ∧ e.line = f.line then { e with raw := some bs, fbPending := false } else e)
    else
      (s.fifoMap p (fun e => if e.page = f.page ∧ e.line = f.line then { e with never := true } else e)).raiseAt
        evSQ_FB_ERR p 0 f.page (BitVec.ofNat 32 f.line)

/-- A register channel completes its descriptor in the order of R348. -/
def State.dmaFinish (s : State) (n : Fin 32) (status resp side eal result : Nat) : State :=
  let s := ((((s.put (DMA_CH_CTRL_STATUS n) status).put (DMA_CH_CTRL_RESP n) resp).put (DMA_CH_CTRL_SIDE n) side).put
    (DMA_CH_CTRL_ERR_AFTER_LAST n) eal).wr (DMA_CH_RESULT n) (BitVec.ofNat 32 result)
  let s := (s.clr (DMA_CH_CTRL_OWN n)).set1 (DMA_CH_STAT_DONE n)
  let s := if s.flag (DMA_CH_CTRL_IRQ n) then s.raise evDMA_DONE n 0 else s
  let s := if status = 1 then s.raise evDMA_BAD n (value2 0 result) else s
  let fb := s.dma.chs[n].fb
  let s := s.modDmaCh n (fun c => { c with fb := none, committed := true })
  match fb with
  | some k => s.fbFinish k status result
  | none => s

/-- The channel starts on the values in its registers: a COUNT of 0 and invalid parameters complete it at once (R347,
R348). -/
def State.dmaStart (s : State) (n : Fin 32) (fb : Option (Fin 12)) : State :=
  let s := (s.set1 (DMA_CH_CTRL_OWN n)).modDmaCh n (fun c => { c with fb := fb, committed := false })
  if s.rd (DMA_CH_COUNT n) = 0 then s.dmaFinish n 0 0 0 0 0
  else if !s.dmaParamOk n fb.isSome then s.dmaFinish n 4 0 0 0 0
  else s

/-- The builder starts its DMA channel for its oldest fall-back line once the channel is free (R129, R349). -/
def State.fbStart (s : State) (k : Fin 12) : State :=
  match s.sqs[k].fbWait with
  | [] => s
  | f :: t =>
    let n : Fin 32 := finOf 32 (by decide) (s.get (SQ_FB_CH k))
    if f.started || s.flag (DMA_CH_CTRL_OWN n) then s
    else
      let src := s.stageAddr k f.slot
      let dst := 0x1000000 + 1024 * (s.get (SQ_FB_BUF_OFS k)) + 1024 * f.slot
      let s := s.modSq k (fun q => { q with fbWait := { f with started := true } :: t })
      let s := (s.wr (DMA_CH_SRC_LO n) (BitVec.ofNat 32 src)).wr (DMA_CH_SRC_HI n) 0
      let s := (s.wr (DMA_CH_DST_LO n) (BitVec.ofNat 32 dst)).wr (DMA_CH_DST_HI n) 0
      let s := (s.wr (DMA_CH_COUNT n) (BitVec.ofNat 32 f.bytes)).set1 (DMA_CH_CTRL_BARRIER n)
      s.dmaStart n (some k)

/-- The first difference of a COMPARE. -/
def firstDiff : List Byte → List Byte → Nat → Option Nat
  | a :: s, b :: t, i => if a = b then firstDiff s t (i + 1) else some i
  | [], [], _ => none
  | _, _, i => some i

/-- COMPARE: the source against the destination, or against VALUE's pattern with CV; a difference before any failing access
is a MISMATCH, and of two failures the one with the lower offset is recorded (R353, R359). -/
def State.dmaCompare (s : State) (n : Fin 32) (src : List Byte) (bad : Option DmaFail) : Option State :=
  let count := (s.rd (DMA_CH_COUNT n)).toNat
  let sa := s.addr40 (DMA_CH_SRC_LO n) (DMA_CH_SRC_HI n)
  let other :=
    if s.flag (DMA_CH_CTRL_CV n) then
      some ((List.range count).map (fun i => fillByte (s.rd (DMA_CH_VALUE n)) (sa + i)), none, s)
    else s.dmaRead (count / 64 + 2) (s.addr40 (DMA_CH_DST_LO n) (DMA_CH_DST_HI n)) count 0 []
  match other with
  | none => none
  | some (bs, bad2, s) =>
    let m := min src.length bs.length
    match firstDiff (src.take m) (bs.take m) 0 with
    | some i => some (s.dmaFinish n 2 0 0 0 i)
    | none => match bad, bad2 with
      | some a, some b =>
        if b.ofs < a.ofs then some (s.dmaFinish n 1 b.resp.code 0 0 b.ofs) else some (s.dmaFinish n 1 a.resp.code 0 0 a.ofs)
      | some a, none => some (s.dmaFinish n 1 a.resp.code 0 0 a.ofs)
      | none, some b => some (s.dmaFinish n 1 b.resp.code 0 0 b.ofs)
      | none, none => some (s.dmaFinish n 0 0 0 0 count)

/-- The channel's writes end: OK, BAD in mid-transfer (R357), BAD after the last write (R358), or completed with an error
still to arrive (R356). -/
def State.dmaWritten (s : State) (n : Fin 32) (rs : List (Nat × List Byte)) : Option State :=
  let dst := s.addr40 (DMA_CH_DST_LO n) (DMA_CH_DST_HI n)
  let total := (rs.map (fun r => r.2.length)).sum
  match s.dmaWrites dst rs 0 with
  | none => none
  | some (none, s) => some (s.dmaFinish n 0 0 0 0 total)
  | some (some e, s) =>
    if !e.last then some ((s.dmaUndefined dst e.ofs rs).dmaFinish n 1 e.resp.code 1 0 e.ofs)
    else if s.flag (DMA_CH_CTRL_BARRIER n) then some (s.dmaFinish n 1 e.resp.code 1 1 e.ofs)
    else some ((s.modDmaCh n (fun c => { c with late := some (e.ofs, e.resp) })).dmaFinish n 0 0 0 0 total)

/-- A read failed at an offset: the bytes below it are transferred, up to 1 KiB beyond it is undefined (R357). -/
def State.dmaReadBad (s : State) (n : Fin 32) (src : List (List Byte)) (e : DmaFail) : Option State :=
  let dst := s.addr40 (DMA_CH_DST_LO n) (DMA_CH_DST_HI n)
  let need := s.dmaSources n
  let padded := need.mapIdx (fun i r =>
    let bs := src.getD i []
    bs ++ freeBytes (s.free + i) (r.2 - bs.length))
  let rs := s.dmaOutput n padded
  let s := { s with free := s.free + need.length }
  match s.dmaWrites dst (takeRanges e.ofs rs) 0 with
  | none => none
  | some (_, s) => some ((s.dmaUndefined dst e.ofs rs).dmaFinish n 1 e.resp.code 0 0 e.ofs)

/-- The running descriptor of a channel is carried out and completes (R352 to R358). Nothing happens while an access
waits. -/
def State.dmaComplete (s : State) (n : Fin 32) : State :=
  if s.flag (DMA_CH_CTRL_OWN n) then
    let sa := s.addr40 (DMA_CH_SRC_LO n) (DMA_CH_SRC_HI n)
    match s.dmaReads sa (s.dmaSources n) 0 [] with
    | none => s
    | some (src, bad, t) =>
      if t.get (DMA_CH_CTRL_OP n) = 2 then (t.dmaCompare n (src.headD []) bad).getD s
      else match bad with
        | some e => (t.dmaReadBad n src e).getD s
        | none => (t.dmaWritten n (t.dmaOutput n src)).getD s
  else s

/-- The write error that had not arrived at completion arrives (R356). -/
def State.dmaLateErr (s : State) (n : Fin 32) : State :=
  match s.dma.chs[n].late with
  | none => s
  | some (ofs, r) =>
    let s := s.modDmaCh n (fun c => { c with late := none })
    let s := ((s.set1 (DMA_CH_STAT_LATE_ERR n)).put (DMA_CH_STAT_LATE_RESP n) r.code).wr (DMA_CH_LATE_OFS n) (BitVec.ofNat 32 ofs)
    s.raise evDMA_LATE_ERR n (value2 ofs r.code)

/-- An abort of a register channel: before the commit point the descriptor ends ABORTED with an unstated number of bytes
written and acknowledged; after it ABORT_LATE; with no descriptor ignored (R360). -/
def State.dmaAbort (s : State) (n : Fin 32) : State :=
  if s.flag (DMA_CH_CTRL_OWN n) then
    let sa := s.addr40 (DMA_CH_SRC_LO n) (DMA_CH_SRC_HI n)
    let m := s.freeBelow ((s.rd (DMA_CH_COUNT n)).toNat + 1)
    let s := s.advance
    match s.dmaReads sa (s.dmaSources n) 0 [] with
    | some (src, none, t) =>
      let rs := takeRanges m (t.dmaOutput n src)
      (match t.dmaWrites (t.addr40 (DMA_CH_DST_LO n) (DMA_CH_DST_HI n)) rs 0 with
       | some (none, t) => t.dmaFinish n 3 0 0 0 (rs.map (fun r => r.2.length)).sum
       | _ => s.dmaFinish n 3 0 0 0 0)
    | _ => s.dmaFinish n 3 0 0 0 0
  else if s.dma.chs[n].committed then s.set1 (DMA_CH_STAT_ABORT_LATE n)
  else s

/-- A running sequencer reserves the channel for its fall-back path (R349). -/
def State.dmaReserved (s : State) (n : Fin 32) : Bool :=
  (fins 12).any (fun k => decide (s.sqs[k].st = .run ∧ s.get (SQ_FB_CH k) = n.val ∧ s.get (SQ_FB_FB_MASK k) ≠ 0))

/-- A supervisor write to CHn_CTRL (R348, R349). -/
def State.dmaCtrl (s : State) (n : Fin 32) (v : Word) : Resp × State :=
  if s.flag (DMA_CH_CTRL_OWN n) then (.errUnit, s)
  else if v.getLsbD 31 && s.dmaReserved n then (.errUnit, s)
  else
    let m : Word := 0x601F0000#32
    let s := s.wr (DMA_CH_CTRL n) ((s.rd (DMA_CH_CTRL n) &&& ~~~m) ||| (v &&& m))
    (.ok, if v.getLsbD 31 then s.dmaStart n none else s)

/-! ## Descriptor rings (R346, R347, R350, R351) -/

/-- The address of ring r's descriptor for its index. -/
def State.ringAddr (s : State) (r : Nat) : Nat :=
  s.addr40 (RING_BASE_LO r) (RING_BASE_HI r) / 32 * 32 + 32 * (s.get (RING_IDX_IDX r) % (8 * 2 ^ s.get (RING_CFG_SIZE r)))

/-- A ring falls asleep until a doorbell, or wakes. -/
def State.ringSleep (s : State) (r : Fin 5) (b : Bool) : State :=
  { s with dma := { s.dma with asleep := vset s.dma.asleep r b } }

/-- The ring takes the descriptor at IDX: none where it is disabled, sleeps, waits for memory, or finds OWN = 0, on which it
sleeps. A descriptor read with a response other than OK counts in ERRS and puts the ring to sleep (log 18). -/
def State.ringTake (s : State) (r : Fin 5) : Option RingDesc × State :=
  if s.flag (RING_CFG_EN r) && !s.dma.asleep[r] then
    let a := s.ringAddr r
    match s.memRead a 32 with
    | none => (none, s)
    | some (.ok, bs, s) =>
      let ctrl := BitVec.ofNat 32 (leAt bs 0 4)
      if ctrl.getLsbD 31 then
        (some {
          index := s.get (RING_IDX_IDX r), addr := a, ctrl := ctrl, src := leAt bs 4 4 + 2 ^ 32 * leAt bs 8 1,
          dst := leAt bs 12 4 + 2 ^ 32 * leAt bs 9 1, count := leAt bs 16 4, param := BitVec.ofNat 32 (leAt bs 24 4) }, s)
      else (none, s.ringSleep r true)
    | some (_, _, s) => (none, (s.bump (RING_CNT_ERRS r)).ringSleep r true)
  else (none, s)

/-- The ring's index moved to the next descriptor. -/
def State.ringAdvance (s : State) (r : Fin 5) : State := s.put (RING_IDX_IDX r) ((s.get (RING_IDX_IDX r) + 1) % 65536)

/-- How a ring descriptor ends. -/
structure RingEnd where
  status : Nat
  resp : Nat
  side : Nat
  eal : Nat
  value : Nat
  param : Nat
  result : Nat
deriving DecidableEq, Repr

/-- A descriptor written back in one write (R351); RING1 without WB writes CTRL alone (R347). ERRS counts a status other than
OK, DMA_BAD a failed access, DMA_DONE an IRQ (R347, R357, R367). -/
def State.ringBack (s : State) (r : Fin 5) (d : RingDesc) (e : RingEnd) : State :=
  let ctrl := (d.ctrl &&& 0x701F0000#32).toNat + e.eal * 2 ^ 27 + e.resp * 2 ^ 24 + e.status * 256 + e.side
  let s := match s.memWrite d.addr (leBytes 4 ctrl) with
    | some (_, s) => s
    | none => s
  let s := if r = 1 ∧ d.ctrl.getLsbD 28 = false then s
    else match s.memWrite (d.addr + 20) (leBytes 4 e.value ++ leBytes 4 e.param ++ leBytes 4 e.result) with
      | some (_, s) => s
      | none => s
  let s := if e.status = 0 then s else s.bump (RING_CNT_ERRS r)
  let s := if e.status = 1 then s.raise evDMA_BAD r (value2 d.index e.result) else s
  if d.ctrl.getLsbD 29 then s.raise evDMA_DONE r (value2 d.index 0) else s

/-- A doorbell wakes the ring (R350). -/
def State.ringDoorbell (s : State) (r : Fin 5) : State := s.ringSleep r false

/-! ## RING2: camera capture (R365) -/

/-- One captured stripe written through RING2; false where no descriptor takes it, and the capture is abandoned. -/
def State.ring2Stripe (s : State) (bs : List Byte) (k cam raw stripe rows : Nat) : Bool × State :=
  match s.ringTake 2 with
  | (none, s) => (false, s.bump (RING_CNT_DROP 2))
  | (some d, s) =>
    let s := s.ringAdvance 2
    let param := cam + raw * 8 + stripe % 128 * 256 + rows % 64 * 65536
    if d.count < bs.length then
      (false, (s.bump (RING_CNT_DROP 2)).ringBack 2 d
        { status := 6, resp := 0, side := 0, eal := 0, value := k, param := param, result := 0 })
    else match s.dmaWrite (bs.length / 64 + 2) d.dst bs 0 with
      | none => (false, s.bump (RING_CNT_DROP 2))
      | some (none, s) =>
        (true, s.ringBack 2 d { status := 0, resp := 0, side := 0, eal := 0, value := k, param := param, result := bs.length })
      | some (some e, s) =>
        let s := if e.last then s else s.dmaUndefined d.dst e.ofs [(0, bs)]
        (true, s.ringBack 2 d
          { status := 1, resp := e.resp.code, side := 1, eal := b2n e.last, value := k, param := param, result := e.ofs })

/-! ## RING3: event upload (R366) -/

/-- The 32 bytes of an event record (R433). -/
def EventRec.bytes (r : EventRec) : List Byte :=
  leBytes 2 r.event ++ leBytes 2 r.source ++ leBytes 4 r.value.toNat ++ leBytes 4 r.page.toNat ++ leBytes 4 r.line.toNat ++
    leBytes 8 r.tbc.toNat ++ leBytes 8 r.nt.toNat

/-- RING3's buffer is written back. -/
def State.ring3Back (s : State) (b : EvBuf) (status resp side eal result : Nat) : State :=
  let s := { s with dma := { s.dma with ring3 := none } }
  s.ringBack 3 b.desc { status := status, resp := resp, side := side, eal := eal, value := 0, param := 0, result := result }

/-- A record put into RING3's buffer, which is taken where none is in use; false where no owned descriptor takes it. -/
def State.ring3Put (s : State) (r : EventRec) : Bool × State :=
  let got := match s.dma.ring3 with
    | some b => (some b, s)
    | none => match s.ringTake 3 with
      | (some d, s) => (some { desc := d, fill := 0, tick := s.now }, s.ringAdvance 3)
      | (none, s) => (none, s)
  match got with
  | (none, s) => (false, s.bump (RING_CNT_DROP 3))
  | (some b, s) =>
    if b.desc.count < b.fill + 32 then (false, (s.ring3Back b 0 0 0 0 b.fill).bump (RING_CNT_DROP 3))
    else match s.memWrite (b.desc.dst + b.fill) r.bytes with
      | none => (false, s.bump (RING_CNT_DROP 3))
      | some (.ok, s) =>
        let b := { b with fill := b.fill + 32 }
        let s := { s with dma := { s.dma with ring3 := some b } }
        (true, if b.desc.count < b.fill + 32 then s.ring3Back b 0 0 0 0 b.fill else s)
      | some (e, s) => (true, s.ring3Back b 1 e.code 1 0 b.fill)

/-- FLUSH µs after the first record of its buffer RING3 writes it back. -/
def State.ring3Flush (s : State) : State :=
  match s.dma.ring3 with
  | none => s
  | some b => if b.fill ≠ 0 ∧ s.get (RING_CFG_FLUSH 3) * 800 ≤ s.now - b.tick then s.ring3Back b 0 0 0 0 b.fill else s

/-! ## The page-report ring (R52, R53) -/

/-- The oldest held page report is written to its ring (R52, R53); nothing happens while no ring entry is free, EN is 0, or
memory waits. -/
def State.reportWrite (s : State) : State :=
  match s.fsch.held with
  | [] => s
  | h :: t =>
    if s.rptOpen rptFsch then
      match s.dmaWrite 10 (s.rptSlot rptFsch 512) (h.report.bytes h.chip) 0 with
      | none => s
      | some (none, s) =>
        let s := { s with fsch := { s.fsch with held := t } }
        ((s.rptPending).rptAdvance rptFsch).raiseAt evPAGE_REPORT 0 0 h.report.page 0
      | some (_, s) => s.rptBusErr rptFsch
    else s

/-! ## Ring abort and register writes (R360, R367) -/

/-- The RING1 descriptor whose frame waits for its port (R364). -/
def State.txDesc (s : State) : Option RingDesc :=
  (s.links.sess.toList.flatMap (fun t => t.vcs.toList.flatMap (fun w => w.queue.filterMap (fun x => x.desc)))).head?

/-- The frame of RING1 that waits for its port is taken back. -/
def State.txDrop (s : State) : State :=
  let ss := s.links.sess.map (fun t => { t with vcs := t.vcs.map (fun w => { w with queue := w.queue.filter (fun x => x.desc.isNone) }) })
  { s with links := { s.links with sess := ss }, dma := { s.dma with txBusy := false } }

/-- An abort of a ring: every descriptor in progress ends ABORTED and EN clears; ignored with none in progress (R360). -/
def State.ringAbort (s : State) (r : Fin 5) : State :=
  match r.val, s.dma.rx, s.dma.ring3 with
  | 0, c :: t, _ =>
    let s := { s with dma := { s.dma with rx := [] } }
    let s := (c :: t).foldl (fun s x => s.ringBack 0 x.desc
      { status := 3, resp := 0, side := 0, eal := 0, value := x.tag.toNat, param := x.src + 0x10000, result := x.got }) s
    s.clr (RING_CFG_EN r)
  | 1, _, _ => match s.txDesc with
    | some d => (s.txDrop.ringBack 1 d
        { status := 3, resp := 0, side := 0, eal := 0, value := 0, param := 0, result := 0 }).clr (RING_CFG_EN r)
    | none => s
  | 3, _, some b => (s.ring3Back b 3 0 0 0 b.fill).clr (RING_CFG_EN r)
  | _, _, _ => s

/-- A supervisor write to RINGr_CFG: SIZE and FLUSH keep their values while EN = 1, where a write that would change them gets
ERR_UNIT (R367). -/
def State.ringCfg (s : State) (r : Fin 5) (v : Word) : Resp × State :=
  let old := s.rd (RING_CFG r)
  let flush := if field v 23 8 = 0 then 1 else field v 23 8
  let m : Word := if r = 3 then 0x00FFFF07#32 else 0x00000007#32
  let new := withField v 23 8 flush &&& m
  if old.getLsbD 31 && decide (new ≠ old &&& m) then (.errUnit, s)
  else
    let en := v.getLsbD 31
    let s := s.wr (RING_CFG r) (setBit ((old &&& ~~~m) ||| new) 31 en)
    let s := if en && !old.getLsbD 31 then s.ringSleep r false else s
    (.ok, if v.getLsbD 30 then s.ringAbort r else s)

/-- A supervisor write to the DMA block; none where no rule of its own applies. -/
def State.dmaRegWrite (s : State) (off : Nat) (v : Word) : Option (Resp × State) :=
  if 0x1000 ≤ off ∧ off < 0x1800 then
    let n : Fin 32 := finOf 32 (by decide) ((off - 0x1000) / 0x40)
    match off % 0x40 with
    | 0x00 => some (s.dmaCtrl n v)
    | 0x04 | 0x08 | 0x0C | 0x10 | 0x14 | 0x18 | 0x1C => if s.flag (DMA_CH_CTRL_OWN n) then some (.errUnit, s) else none
    | 0x24 => some (.ok, if v.getLsbD 0 then s.dmaAbort n else s)
    | _ => none
  else if 0x2000 ≤ off ∧ off < 0x2140 then
    let r : Fin 5 := finOf 5 (by decide) ((off - 0x2000) / 0x40)
    match off % 0x40 with
    | 0x00 | 0x04 | 0x0C => if s.flag (RING_CFG_EN r) then some (.errUnit, s) else none
    | 0x08 => some (s.ringCfg r v)
    | 0x10 => some (.ok, s.ringDoorbell r)
    | _ => none
  else none

end Sys2Proof.Machine
end

