-- ==== Sys2Proof/Machine/IspOps.lean ====
section
/-!
DEFINITION. The ISP's arithmetic from raw rows to three density channels (R261 to R265), exact under R11. Pixels are
integers; an image is a list of rows.
-/
namespace Sys2Proof.Machine

/-- An image: rows of pixels. -/
abbrev Img := List (List Int)

/-- An image from a function of its coordinates. -/
def mkImg (w h : Nat) (f : Nat → Nat → Int) : Img := (List.range h).map (fun y => (List.range w).map (fun x => f x y))

/-- A coordinate outside 0 to n − 1 reflected (R262). -/
def reflect (n : Nat) (x : Int) : Int := if x < 0 then -x else if (n : Int) ≤ x then 2 * ((n : Int) - 1) - x else x

/-- The pixel at a place inside an image. -/
def Img.px (im : Img) (x y : Nat) : Int := (im.getD y []).getD x 0

/-- The pixel at coordinates reflected into an image of w × h. -/
def Img.rx (im : Img) (w h : Nat) (x y : Int) : Int := im.px (reflect w x).toNat (reflect h y).toNat

/-- An arithmetic right shift of R11. -/
def sar (v : Int) (n : Nat) : Int := Int.fdiv v (2 ^ n)

/-- clamp12 of R264. -/
def clamp12 (v : Int) : Int := if v < 0 then 0 else if 4095 < v then 4095 else v

/-- ph4 of R261. -/
def ph4 (x y : Int) : Nat := (2 * (y % 2) + x % 2).toNat

/-- The colours at ph4 = 0 to 3 of a CFA code: 0 R, 1 G, 2 B (R261). -/
def cfaOf : Nat → List Nat
  | 0 => [0, 1, 1, 2]
  | 1 => [1, 0, 2, 1]
  | 2 => [1, 2, 0, 1]
  | _ => [2, 1, 1, 0]

/-- col(x, y) of R261. -/
def colAt (cfa : Nat) (x y : Int) : Nat := (cfaOf cfa).getD (ph4 x y) 0

/-- Stage 1 of R261: a raw sample normalised to 12 bits by data type 0 RAW8, 1 RAW10, else RAW12. -/
def normalise (dt : Nat) (v : BitVec 12) : Int :=
  if dt = 0 then ((v.toNat % 256 * 16 : Nat) : Int) else if dt = 1 then ((v.toNat % 1024 * 4 : Nat) : Int) else (v.toNat : Int)

/-! ## Parameters of a camera -/

/-- BL[i] of R262. -/
def State.blackLevel (s : State) (n i : Nat) : Int :=
  match i with
  | 0 => (s.get (ISP_C_BL01_BL_EVEN n) : Int)
  | 1 => (s.get (ISP_C_BL01_BL_ODD n) : Int)
  | 2 => (s.get (ISP_C_BL23_BL_EVEN n) : Int)
  | _ => (s.get (ISP_C_BL23_BL_ODD n) : Int)

/-- WB[c] of R263. -/
def State.whiteBal (s : State) (n c : Nat) : Int :=
  match c with
  | 0 => (s.get (ISP_C_WB0_WB_R n) : Int)
  | 1 => (s.get (ISP_C_WB0_WB_G n) : Int)
  | _ => (s.get (ISP_C_WB1_WB_B n) : Int)

/-- K[j] of R263. -/
def State.knot (s : State) (n j : Nat) : Int :=
  let w := s.rd (ISP_SHADE (256 * n + j / 2))
  ((if j % 2 = 1 then field w 31 16 else field w 15 0 : Nat) : Int)

/-- M[i][j] of R265. -/
def State.ccm (s : State) (n i j : Nat) : Int :=
  let e := 3 * i + j
  let w := s.rd (ISP_C_CCM0 n + 4 * (e / 2))
  sext 16 (if e % 2 = 1 then field w 31 16 else field w 15 0)

/-- DLUT_i[y] of R265. -/
def State.dlut (s : State) (i : Nat) (y : Int) : Int :=
  let w := s.rd (ISP_DLUT (2048 * i + y.toNat / 2))
  ((if y.toNat % 2 = 1 then field w 31 16 else field w 15 0 : Nat) : Int)

/-- The defect list of a camera from entry `e` on, at most `f` entries: (row, column) in ascending order, up to the first
entry with VALID = 0; an entry not above the one before it in the list is left out (R262). The second component says that
one was. -/
def State.dpcFrom (s : State) (n : Nat) : Nat → Nat → Option (Nat × Nat) → List (Nat × Nat) × Bool
  | 0, _, _ => ([], false)
  | f + 1, e, last =>
    let w := s.rd (ISP_DPC (512 * n + e))
    if w.getLsbD 31 then
      let rc := (field w 27 16, field w 12 0)
      let above := match last with
        | none => true
        | some (r, c) => decide (r < rc.1 ∨ (r = rc.1 ∧ c < rc.2))
      if above then
        let t := State.dpcFrom s n f (e + 1) (some rc)
        (rc :: t.1, t.2)
      else ((State.dpcFrom s n f (e + 1) last).1, true)
    else ([], false)

/-- The defect list of a camera. -/
def State.dpcList (s : State) (n : Nat) : List (Nat × Nat) × Bool := s.dpcFrom n 512 0 none

/-! ## Stages 2 to 6 -/

/-- Black level, then defective-pixel replacement (R262). -/
def State.ispClean (s : State) (n w h : Nat) (x0 : Img) : Img :=
  let x1 := mkImg w h (fun x y => max 0 (x0.px x y - s.blackLevel n (ph4 x y)))
  let bad := (s.dpcList n).1
  let listed := fun (x y : Int) => bad.contains ((reflect h y).toNat, (reflect w x).toNat)
  let at_ := fun (x y : Int) => Img.rx x1 w h x y
  mkImg w h (fun x y =>
    let x : Int := x
    let y : Int := y
    if listed x y then
      match listed (x - 2) y, listed (x + 2) y with
      | false, false => sar (at_ (x - 2) y + at_ (x + 2) y + 1) 1
      | true, false => at_ (x + 2) y
      | false, true => at_ (x - 2) y
      | true, true => sar (at_ x (y - 2) + at_ x (y + 2) + 1) 1
    else at_ x y)

/-- Shading and white balance (R263). -/
def State.ispBalance (s : State) (n w h : Nat) (x1 : Img) : Img :=
  mkImg w h (fun x y =>
    let j := x / 64
    let f : Int := (x % 64 : Nat)
    let g := sar (s.knot n j * (64 - f) + s.knot n (j + 1) * f + 32) 6
    let x2 := min 4095 (sar (x1.px x y * g + 8192) 14)
    min 4095 (sar (x2 * s.whiteBal n (colAt (s.get (ISP_C_CFA_CFA n)) x y) + 2048) 12))

/-- g4 of R264 on an image read by `X`. -/
def g4 (X : Int → Int → Int) (x y : Int) : Int := sar (X (x - 1) y + X (x + 1) y + X x (y - 1) + X x (y + 1) + 2) 2

/-- green of R264. -/
def green (X : Int → Int → Int) (x y : Int) : Int :=
  let lh := 2 * X x y - X (x - 2) y - X (x + 2) y
  let lv := 2 * X x y - X x (y - 2) - X x (y + 2)
  let dh : Int := ((X (x - 1) y - X (x + 1) y).natAbs + lh.natAbs : Nat)
  let dv : Int := ((X x (y - 1) - X x (y + 1)).natAbs + lv.natAbs : Nat)
  let gh := sar (2 * (X (x - 1) y + X (x + 1) y) + lh + 2) 2
  let gv := sar (2 * (X x (y - 1) + X x (y + 1)) + lv + 2) 2
  clamp12 (if dh < dv then gh else if dv < dh then gv else sar (gh + gv + 1) 1)

/-- The three colours of a pixel (R264). -/
def demosaic (X : Int → Int → Int) (cfa : Nat) (x y : Int) : List Int :=
  let c := colAt cfa x y
  let own := X x y
  if c = 1 then
    let hor := clamp12 (own + sar (X (x - 1) y - g4 X (x - 1) y + X (x + 1) y - g4 X (x + 1) y + 1) 1)
    let ver := clamp12 (own + sar (X x (y - 1) - g4 X x (y - 1) + X x (y + 1) - g4 X x (y + 1) + 1) 1)
    if colAt cfa (x + 1) y = 0 then [hor, own, ver] else [ver, own, hor]
  else
    let g := green X x y
    let d := fun (a b : Int) => X a b - g4 X a b
    let opp := clamp12 (g + sar (d (x - 1) (y - 1) + d (x + 1) (y - 1) + d (x - 1) (y + 1) + d (x + 1) (y + 1) + 2) 2)
    if c = 0 then [own, g, opp] else [opp, g, own]

/-- The three density images of the rows of a frame (R261 to R265). `dt` is the data type of the rows. -/
def State.ispDensity (s : State) (n dt w : Nat) (rows : List (List (BitVec 12))) : List Img :=
  let h := rows.length
  let x0 : Img := rows.map (fun r => r.map (normalise dt))
  let x3 := s.ispBalance n w h (s.ispClean n w h x0)
  let X := fun (x y : Int) => Img.rx x3 w h x y
  let rgb := (List.range h).map (fun (y : Nat) => (List.range w).map (fun (x : Nat) => demosaic X (s.get (ISP_C_CFA_CFA n)) (Int.ofNat x) (Int.ofNat y)))
  (List.range 3).map (fun i => rgb.map (fun r => r.map (fun c =>
    s.dlut i (clamp12 (sar (s.ccm n i 0 * c.getD 0 0 + s.ccm n i 1 * c.getD 1 0 + s.ccm n i 2 * c.getD 2 0 + 2048) 12)))))

end Sys2Proof.Machine
end

