-- ==== Sys2Proof/Machine/InspOps.lean ====
section
/-!
DEFINITION. Camera ports (R255 to R260), the ISP's arbitration (R266 to R269), the Bolter's rendering, registration and
observations (R270 to R277), proposal passes (R285, R286), and the registers of R289.
-/
namespace Sys2Proof.Machine

/-! ## Camera ports -/

/-- A camera port changed. -/
def State.modCam (s : State) (n : Fin 8) (f : Cam → Cam) : State := { s with cams := vset s.cams n (f s.cams[n]) }

/-- The open frame of a port changed. -/
def State.modOpen (s : State) (n : Fin 8) (f : Frame → Frame) : State :=
  s.modCam n (fun c => { c with frames := c.frames.map (fun x => if x.open_ then f x else x) })

/-- The open frame of a port. -/
def State.openFrame (s : State) (n : Fin 8) : Option Frame := s.cams[n].frames.find? (fun x => x.open_)

/-- The bits of TAGS in a FRAME record (R277). -/
abbrev tgSHORT : Nat := 0
abbrev tgLONG : Nat := 1
abbrev tgOVERFLOW : Nat := 2
abbrev tgROTATED : Nat := 3
abbrev tgUNTRIGGERED : Nat := 4
abbrev tgREG_FAIL : Nat := 5
abbrev tgNO_DATA : Nat := 6
abbrev tgECC_CORR : Nat := 7

/-- A tag added to a tag word. -/
def addTag (tags i : Nat) : Nat := if tags.testBit i then tags else tags + 2 ^ i

/-- The flag of CAMn_STAT that goes with a tag (R260). -/
def State.tagFlag (s : State) (n : Fin 8) (i : Nat) : State :=
  if i = tgSHORT then s.set1 (CAM_STAT_SHORT n)
  else if i = tgLONG then s.set1 (CAM_STAT_LONG n)
  else if i = tgOVERFLOW then s.set1 (CAM_STAT_OVERFLOW n)
  else if i = tgUNTRIGGERED then s.set1 (CAM_STAT_UNTRIG n)
  else s

/-- The open frame tagged, with its flag. -/
def State.tagOpen (s : State) (n : Fin 8) (i : Nat) : State :=
  (s.modOpen n (fun f => { f with tags := addTag f.tags i })).tagFlag n i

/-- Stripe slots of a port that hold a stripe ready or in the ISP (R266). -/
def Cam.busySlots (c : Cam) : Nat :=
  (c.frames.map (fun f => f.ready.length + (if f.inIsp.isSome then 1 else 0))).sum

/-- A frame that is analysed: paired and not rotated (R257, R259). -/
def Frame.taken (f : Frame) : Bool := f.trig.isSome && !f.rotated

/-! ## The Bolter's view of a frame (R258, R270 to R272) -/

/-- CAM_DIST (R258), sign-extended to Q48.16. -/
def State.camDist (s : State) (n : Fin 8) : Int :=
  ((((s.rd (CAM_DIST_HI n)).extractLsb' 0 16) ++ s.rd (CAM_DIST_LO n) : BitVec 48)).toInt

/-- row_q8(L) of R258. A ROW_PITCH of 0 has no stated result: a free value (log 19). -/
def State.rowQ8 (s : State) (n : Fin 8) (tp : Dword) (q : PlanCopy) (line : Nat) : Int :=
  let rp := (s.rd (CAM_ROWP n)).toInt
  let d := (firePos q.origin 0 line q.pitch - tp).toInt + s.camDist n
  if rp = 0 then (Config.freeNat (s.free + line) : Int) else floorDiv (d * 256) rp

/-- The strip of a line lies behind a frame's rows for the trigger position given: the web has carried it past (R276). -/
def State.stripPassed (s : State) (n : Fin 8) (tp : Dword) (q : PlanCopy) (line : Nat) : Bool :=
  let rp := (s.rd (CAM_ROWP n)).toInt
  let w0 := tp.toInt - s.camDist n
  let w1 := w0 + ((s.get (CAM_SIZE_HEIGHT n) : Int) - 1) * rp
  decide ((firePos q.origin 0 line q.pitch).toInt < min w0 w1)

/-- The trigger position of every enabled camera without rotation has passed a line's strip (R276). -/
def State.linePassed (s : State) (q : PlanCopy) (line : Nat) : Bool :=
  (fins 8).all (fun n => !(s.flag (CAM_CTRL_EN n) && decide (s.get (CAM_CTRL_SKIP n) = 0)) ||
    (match s.cams[n].lastTp with
     | some tp => s.stripPassed n tp q line
     | none => false))

/-- The Bolter's stream engine of a channel (R253, R270). -/
def State.boltEngine (s : State) (c : Nat) : Option (Fin 16) :=
  (fins 16).find? (fun k => s.flag (DCE_CTRL_EN k) && decide (s.get (DCE_CTRL_SINK k) = 2 ∧ s.get (DCE_CTRL_SINK_SQ k) % 2 = c))

/-- The good container of channel c that holds a record's line (R270). -/
def State.contOfRec (s : State) (c : Nat) (r : FiredRec) : Option Cont :=
  match s.boltEngine c with
  | none => none
  | some k => s.engines[k].conts.find? (fun x => x.opened && decide (x.code = 0 ∧ x.page = r.page ∧ x.segment = r.segment) &&
      decide (s.smapOf x.stream.toNat = some (r.port / 4, c)))

/-- The place of a record's bytes in its container: after those of the earlier lines, and of the lower ports of its line (R270). -/
def State.contOffset (s : State) (c : Cont) (r : FiredRec) : Nat :=
  (((s.contRecords c).filter (fun x => decide (x.line < r.line ∨ (x.line = r.line ∧ x.port < r.port)))).map (fun x => s.lineBytes x.port)).sum

/-- A record's bytes in its container (R109, R270). -/
def State.contBytes (s : State) (c : Cont) (r : FiredRec) : List Byte := (c.data.drop (s.contOffset c r)).take (s.lineBytes r.port)

/-- Whether the Bolter holds, good, the container that a record's line was built from, with the line's bytes (R270). -/
def State.hasData (s : State) (c : Nat) (r : FiredRec) : Bool :=
  match s.contOfRec c r with
  | none => false
  | some x => decide ((s.contBytes x r).length = s.lineBytes r.port)

/-- Whether a fired-line record yields levels (R270). -/
def State.yields (s : State) (c : Nat) (r : FiredRec) : Bool :=
  decide (r.outcome = .fired) && (s.setOf (BitVec.ofNat 32 r.epoch)).isSome &&
    (match r.kind with
     | none => false
     | some .stream => s.hasData c r
     | some _ => true)

/-- A drop of R271: its pixel row and sub-pixel column, channel, level, port, nozzle and place in line order. -/
structure Drop where
  yp : Int
  u : Int
  c : Nat
  v : Nat
  port : Nat
  noz : Nat
  np : Int
deriving DecidableEq, Repr

/-- The pixel column of a drop (R271). -/
def Drop.xp (d : Drop) : Int := floorDiv (d.u + 128) 256

/-- The ports that a camera inspects. -/
def State.camPorts (s : State) (n : Fin 8) : List Nat :=
  (List.range 48).filter (fun p => s.flag (BOLT_P_MAP0_EN p) && decide (s.get (BOLT_P_MAP0_CAM p) = n.val))

/-- The records of the port-lines of one line of a build, in port order (R270). -/
def State.buildMates (s : State) (r : FiredRec) : List FiredRec :=
  (fins 4).filterMap (fun j => s.bolt.fired.find? (fun x => decide (x.page = r.page ∧ x.line = r.line ∧ x.kind = r.kind ∧
    x.segment = r.segment ∧ x.port = r.port / 4 * 4 + j.val)))

/-- The levels of a record before correction: from its container, or the level and residue that its segment field carries (R270). -/
def State.rawLevels (s : State) (r : FiredRec) : List Nat :=
  let n := s.nozzles r.port
  let level := r.segment / 2 ^ 20 % 16
  match r.kind with
  | none => []
  | some .stream =>
    match s.contOfRec (s.get (BOLT_P_MAP0_CH r.port)) r with
    | none => []
    | some c => unpackLevels (s.bpn r.port) n (s.contBytes c r)
  | some .fill => List.replicate n level
  | some .patt => (List.range n).map (fun i => if i % max 1 (r.segment / 256 % 256) = r.segment % 256 then level else 0)

/-- The levels of a record: those of its line's build, corrected by R127 with the set of the record's epoch (R270). -/
def State.boltLevels (s : State) (r : FiredRec) : List Nat :=
  let c := (s.setOf (BitVec.ofNat 32 r.epoch)).getD s.corr.active
  let ports := (s.buildMates r).map (fun x =>
    ({ lane := x.port % 4, port := x.port, n := s.nozzles x.port, bpn := s.bpn x.port,
       retired := s.coverAt (finOf 48 (by decide) x.port) x.page x.line, v := s.rawLevels x } : BuildPort))
  let out := (s.correctLine (finOf 12 (by decide) (r.port / 4)) c (r.kind = some .patt) r.page (BitVec.ofNat 32 r.line) ports).1
  ((out.find? (fun x => x.1 = r.port % 4)).map (fun x => x.2)).getD []

/-- The drops of one fired-line record whose line lies at `row` (R271). -/
def State.dropsOf (s : State) (row : Int) (r : FiredRec) : List Drop :=
  let np := sext 16 (s.get (BOLT_P_MAP1_NPITCH r.port))
  let col0 := sext 24 (s.get (BOLT_P_MAP0_COL0 r.port))
  ((s.boltLevels r).mapIdx (fun i v => (i, v))).filterMap (fun iv =>
    if iv.2 = 0 then none
    else some {
      yp := floorDiv (row + 128) 256, u := col0 + floorDiv ((iv.1 : Int) * np + 32) 64, c := s.get (BOLT_P_MAP0_CH r.port),
      v := iv.2, port := r.port, noz := iv.1, np := np })

/-- The kernel weights KC, KE, KD of a channel and level (R271). -/
def State.kernel (s : State) (c v : Nat) : Int × Int × Int :=
  let a := s.rd (BOLT_KERNEL (32 * c + 2 * (v - 1)))
  let b := s.rd (BOLT_KERNEL (32 * c + 2 * (v - 1) + 1))
  ((field a 15 0 : Int), (field a 31 16 : Int), (field b 15 0 : Int))

/-- The kernel of a drop at a pixel. -/
def State.kernelAt (s : State) (d : Drop) (x y : Int) : Int :=
  let k := s.kernel d.c d.v
  let dx := (x - d.xp).natAbs
  let dy := (y - d.yp).natAbs
  if 1 < dx ∨ 1 < dy then 0 else if dx + dy = 0 then k.1 else if dx + dy = 1 then k.2.1 else k.2.2

/-- The expected image of a channel at a pixel, clamped (R271). -/
def State.expect (s : State) (drops : List Drop) (c : Nat) (x y : Int) : Int :=
  min 65535 ((drops.filter (fun d => decide (d.c = c))).map (fun d => s.kernelAt d x y)).sum

/-- The own-colour density image of a channel (R272). -/
def State.ownDensity (s : State) (c w h : Nat) (d : List Img) : Img :=
  let u0 := sext 16 (s.get (BOLT_UNMIX_A_U0 c))
  let u1 := sext 16 (s.get (BOLT_UNMIX_A_U1 c))
  let u2 := sext 16 (s.get (BOLT_UNMIX_B_U2 c))
  mkImg w h (fun x y => max 0 (min 65535 (sar
    (u0 * (d.getD 0 []).px x y + u1 * (d.getD 1 []).px x y + u2 * (d.getD 2 []).px x y + 2048) 12)))

/-- A pixel of an image by integer coordinates; none outside it. -/
def Img.at? (im : Img) (w h : Nat) (x y : Int) : Option Int :=
  if 0 ≤ x ∧ x < w ∧ 0 ≤ y ∧ y < h then some (im.px x.toNat y.toNat) else none

/-- A pixel of an image by integer coordinates, zero outside it (log 20). -/
def Img.at0 (im : Img) (w h : Nat) (x y : Int) : Int := (im.at? w h x y).getD 0

/-! ## Registration (R272) -/

/-- SAD and the count of pixels that both images hold, over rows below `h`, for one channel. -/
def sadOf (m e : Img) (w h : Nat) (sx sy : Int) : Nat × Nat :=
  (List.range h).foldl (fun (acc : Nat × Nat) (y : Nat) => (List.range w).foldl (fun (acc : Nat × Nat) (x : Nat) =>
    match e.at? w h ((x : Int) - sx) ((y : Int) - sy) with
    | some v => (acc.1 + (m.px x y - v).natAbs, acc.2 + 1)
    | none => acc) acc) (0, 0)

/-- SAD over the channels of a camera. -/
def sadAll (ims : List (Img × Img)) (w h : Nat) (sx sy : Int) : Nat × Nat :=
  ims.foldl (fun acc me =>
    let r := sadOf me.1 me.2 w h sx sy
    (acc.1 + r.1, acc.2 + r.2)) (0, 0)

/-- The shifts of R272 in order of preference: |sx| + |sy|, then sy, then sx. -/
def shifts : List (Int × Int) :=
  (List.range 17).flatMap (fun (d : Nat) => (List.range 17).flatMap (fun (b : Nat) => (List.range 17).filterMap (fun (a : Nat) =>
    let sx : Int := (a : Int) - 8
    let sy : Int := (b : Int) - 8
    if sx.natAbs + sy.natAbs = d then some (sx, sy) else none)))

/-- The parabola through three values (R272). -/
def parabola (a b c : Nat) : Int :=
  let den : Int := (a : Int) - 2 * b + c
  if den = 0 then 0 else max (-128) (min 128 (truncDiv (((a : Int) - c) * 128) den))

/-- The result of registration: REG_X, REG_Y, whether it failed, and the minimum SAD per pixel. -/
structure Registration where
  x : Int
  y : Int
  fail : Bool
  sad : Nat
deriving DecidableEq, Repr

/-- Registration over the first two analysed stripes (R272). -/
def register (ims : List (Img × Img)) (w h regMax : Nat) : Registration :=
  let h := min h 64
  let best := shifts.foldl (fun (b : Option ((Int × Int) × Nat × Nat)) q =>
    let r := sadAll ims w h q.1 q.2
    match b with
    | some (_, v, _) => if r.1 < v then some (q, r.1, r.2) else b
    | none => some (q, r.1, r.2)) none
  match best with
  | none => { x := 0, y := 0, fail := true, sad := 0 }
  | some ((sx, sy), v, cnt) =>
    let at_ := fun (a b : Int) => (sadAll ims w h a b).1
    { x := 256 * sx + parabola (at_ (sx - 1) sy) v (at_ (sx + 1) sy)
      y := 256 * sy + parabola (at_ sx (sy - 1)) v (at_ sx (sy + 1))
      fail := decide (sx.natAbs = 8 ∨ sy.natAbs = 8 ∨ regMax * cnt < v), sad := if cnt = 0 then 0 else v / cnt }

/-! ## Observations (R273 to R275) -/

/-- S of R273 on an image read by `f`. -/
def interp (f : Int → Int → Int) (xq8 y : Int) : Int :=
  let x := floorDiv xq8 256
  let r := xq8 - 256 * x
  sar (f x y * (256 - r) + f (x + 1) y * r + 128) 8

/-- An observation: nozzle number, class, DEV and RATIO. -/
structure Obs where
  cls : Nat
  dev : Int
  ratio : Nat
deriving DecidableEq, Repr

/-- A centroid over d = −2 to 2 in 1/256 pixel (R273). -/
def centroid (f : Int → Int) : Int :=
  let ds : List Int := [-2, -1, 0, 1, 2]
  let w := (ds.map f).sum
  if w = 0 then 0 else truncDiv ((ds.map (fun d => 256 * d * f d)).sum) w

/-- Rounded to nearest, ties away from zero. -/
def roundAway (a b : Int) : Int :=
  let q := (2 * a.natAbs + b.natAbs) / (2 * b.natAbs)
  if (a < 0 ∧ 0 < b) ∨ (0 < a ∧ b < 0) then -(q : Int) else (q : Int)

/-- The class of an observation (R274). -/
def State.obsClass (s : State) (ratio : Nat) (dev spr os : Int) : Nat :=
  if ratio < s.get BOLT_CLS0_MISS_TH then 2
  else if (s.get BOLT_CLS1_SPRAY_TH : Int) * os < spr * 32 then 4
  else if s.get BOLT_CLS0_DEV_TH ≤ dev.natAbs then 3
  else if ratio < s.get BOLT_CLS0_WEAK_TH then 1
  else 0

/-- The observation of a drop, if one is taken (R273). An NPITCH of 0 leaves DEV a free value (log 19). -/
def State.observe (s : State) (w h : Nat) (m e : Img) (reg : Registration) (d : Drop) : Option Obs :=
  let fm := fun x y => m.at0 w h x y
  let fe := fun x y => e.at0 w h x y
  let fk := s.kernelAt d
  let ys : List Int := [d.yp - 1, d.yp, d.yp + 1]
  let ry := floorDiv (reg.y + 128) 256
  let rAt := fun (o : Int) => (ys.map (fun y =>
    interp fm (d.u + reg.x + 256 * o) (y + ry) - interp fe (d.u + 256 * o) y + interp fk (d.u + 256 * o) y)).sum
  let kAt := fun (o : Int) => (ys.map (fun y => interp fk (d.u + 256 * o) y)).sum
  let os := kAt 0
  let es := (ys.map (fun y => interp fe d.u y)).sum
  let inside := decide (2 ≤ d.yp ∧ d.yp + 2 < h ∧ 4 ≤ d.xp ∧ d.xp + 4 < w)
  if decide (0 < os ∧ (s.get BOLT_CLS1_DOM_TH : Int) * es ≤ os * 256) && inside then
    let r0 := rAt 0
    let ratio := if r0 ≤ 0 then 0 else min 63 (floorDiv (32 * r0 + os / 2) os).toNat
    let cM := centroid (fun o => max 0 (rAt o))
    let cK := centroid kAt
    let dev : Int := if d.np = 0 then ((Config.freeNat s.free % 32 : Nat) : Int) - 16
      else max (-16) (min 15 (roundAway ((cM - cK) * 512) d.np.natAbs))
    let spr := max 0 (rAt (-3)) + max 0 (rAt 3)
    some { cls := s.obsClass ratio dev spr os, dev := dev, ratio := ratio }
  else none

/-- What a health map entry that nothing has changed reads as (R275). -/
def hmapDefault : Nat → BitVec 16 := fun _ => 0xE000#16

/-- CLASS, CONF of a health map entry. -/
def healthClass (e : BitVec 16) : Nat := e.toNat / 8192
def healthConf (e : BitVec 16) : Nat := e.toNat / 2048 % 4
def healthRatio (e : BitVec 16) : Nat := e.toNat % 64

/-- An observation applied to an entry (R275). -/
def applyObs (confMax : Nat) (e : BitVec 16) (o : Obs) : BitVec 16 :=
  let cc : Nat × Nat :=
    if o.cls = healthClass e then (healthClass e, min (healthConf e + 1) confMax)
    else if 1 < healthConf e then (healthClass e, healthConf e - 1)
    else (o.cls, 1)
  BitVec.ofNat 16 (cc.1 * 8192 + cc.2 * 2048 + wrap 5 o.dev * 64 + o.ratio)

/-- The health map after the observations of a frame, with the nozzles that count in NOZ_CHG (R275). -/
def State.applyAll (s : State) : List (Nat × Obs) → Table (BitVec 16) → List Nat → Table (BitVec 16) × List Nat
  | [], t, chg => (t, chg)
  | (n, o) :: rest, t, chg =>
    let old := t.get hmapDefault n
    let new := applyObs (s.get BOLT_CLS1_CONF_MAX) old o
    let pc := s.get BOLT_CLS1_PROP_CONF
    let hit := decide (healthClass old ≠ healthClass new ∨ (healthConf old < pc ∧ pc ≤ healthConf new))
    State.applyAll s rest (t.set hmapDefault n new) (if hit && !chg.contains n then n :: chg else chg)

/-- Whether drop `a` comes before `b`: row, then port, then nozzle (R275). -/
def Drop.before (a b : Drop) : Bool :=
  decide (a.yp < b.yp ∨ (a.yp = b.yp ∧ (a.port < b.port ∨ (a.port = b.port ∧ a.noz < b.noz))))

/-- A drop put in its place, after those that do not come after it. -/
def insertDrop (d : Drop) : List Drop → List Drop
  | [] => [d]
  | h :: t => if d.before h then d :: h :: t else h :: insertDrop d t

/-! ## The record ring (R277) -/

/-- A record with its CRC. -/
def boltSeal (bs : List Byte) : List Byte := bs ++ leBytes 4 (crc32c bs).toNat

/-- A record held for the ring, or discarded as a fifth, with its page in the event (R277, R53). -/
def State.boltHold (s : State) (bs : List Byte) (page : Word) : State :=
  if s.bolt.held.length < 4 then
    let s := { s with bolt := { s.bolt with held := s.bolt.held ++ [bs] } }
    s.put BOLT_RPT_CTRL_PENDING s.bolt.held.length
  else (s.set1 BOLT_RPT_CTRL_LOST).raiseAt evBOLT_RPT_LOST 0 0 page 0

/-- The oldest held record is written to its ring. -/
def State.boltWrite (s : State) : State :=
  match s.bolt.held with
  | [] => s
  | h :: t =>
    if s.rptOpen rptBolt then
      match s.dmaWrite 3 (s.rptSlot rptBolt 64) h 0 with
      | none => s
      | some (none, s) =>
        let s := { s with bolt := { s.bolt with held := t } }
        ((s.put BOLT_RPT_CTRL_PENDING t.length).rptAdvance rptBolt).raise evBOLT_RECORD 0 0
      | some (_, s) => s.rptBusErr rptBolt
    else s

/-! ## Analysis of a frame -/

/-- What a FRAME record reports beside the frame itself. -/
structure FrameResult where
  tags : Nat
  firstPage : Nat
  firstLine : Nat
  lastPage : Nat
  lastLine : Nat
  reg : Registration
  obs : Nat
  chg : Nat
  epoch : Nat
deriving DecidableEq, Repr

/-- The bytes of a FRAME record (R277). -/
def frameRecord (n : Fin 8) (f : Frame) (r : FrameResult) : List Byte :=
  boltSeal (([1, BitVec.ofNat 8 n.val] : List Byte) ++ leBytes 2 r.tags ++ leBytes 4 ((f.trig.map (fun t => t.1)).getD 0) ++ leBytes 8 f.fsTbc ++
    leBytes 4 r.firstPage ++ leBytes 4 r.firstLine ++ leBytes 4 r.lastPage ++ leBytes 4 r.lastLine ++ leBytes 2 f.rows ++
    leBytes 2 f.analysed.length ++ leBytes 2 (wrap 16 r.reg.x) ++ leBytes 2 (wrap 16 r.reg.y) ++ leBytes 4 r.obs ++
    leBytes 4 r.chg ++ leBytes 4 r.epoch ++ leBytes 4 r.reg.sad ++ leBytes 4 0)

/-- The bytes of a PAGE record (R277). -/
def State.pageRecord (s : State) (q : PlanCopy) : List Byte :=
  boltSeal (([2, 0, 0, 0] : List Byte) ++ leBytes 4 0 ++ leBytes 8 s.now ++ leBytes 4 q.page.toNat ++ leBytes 4 (q.lines.getD 0) ++ leBytes 4 0 ++
    leBytes 4 q.seen[0].length ++ leBytes 8 0 ++ leBytes 4 q.seen[1].length ++ leBytes 4 0 ++ leBytes 4 q.epochs ++ leBytes 8 0)

/-- A line with its page plan, number and row, in the frame being analysed. -/
structure SeenLine where
  page : Word
  line : Nat
  row : Int
deriving DecidableEq, Repr

/-- The lines that lie in a frame between two row positions. -/
def State.linesWithin (s : State) (n : Fin 8) (tp : Dword) (lo hi : Int) : List SeenLine :=
  s.bolt.plans.flatMap (fun q => (List.range (q.lines.getD 0)).filterMap (fun l =>
    let row := s.rowQ8 n tp q l
    if lo ≤ row ∧ row ≤ hi then some { page := q.page, line := l, row := row } else none))

/-- The lines that a frame of `h` analysed rows sees: at least one row within half a row (R277). -/
def State.seenLines (s : State) (n : Fin 8) (tp : Dword) (h : Nat) : List SeenLine :=
  if h = 0 then [] else s.linesWithin n tp (-128) (256 * ((h : Int) - 1) + 128)

/-- The lines whose drops put kernel weight into the rows of a frame: pixel rows −1 to `h` (R271). -/
def State.drawnLines (s : State) (n : Fin 8) (tp : Dword) (h : Nat) : List SeenLine :=
  if h = 0 then [] else s.linesWithin n tp (-384) (256 * (h : Int) + 127)

/-- The line with the least key of a list. -/
def leastBy (f : SeenLine → Int) : List SeenLine → Option SeenLine
  | [] => none
  | a :: t => match leastBy f t with
    | none => some a
    | some b => if f b < f a then some b else some a

/-- The records of the seen lines on the ports of a camera, each with its row. -/
def State.seenRecords (s : State) (n : Fin 8) (seen : List SeenLine) : List (Int × FiredRec) :=
  let ports := s.camPorts n
  s.bolt.fired.filterMap (fun r =>
    if ports.contains r.port then
      (seen.find? (fun x => decide (x.page = r.page ∧ x.line = r.line))).map (fun x => (x.row, r))
    else none)

/-- The seen lines entered in the page copies, on each channel with a port of the camera (R277). -/
def State.markSeen (s : State) (n : Fin 8) (seen : List SeenLine) : State :=
  let chans := (s.camPorts n).map (fun p => s.get (BOLT_P_MAP0_CH p))
  { s with bolt := { s.bolt with plans := s.bolt.plans.map (fun q => { q with
      seen := q.seen.mapFinIdx (fun c ls _ =>
        if chans.contains c then
          seen.foldl (fun ls x => if x.page = q.page ∧ !ls.contains x.line then x.line :: ls else ls) ls
        else ls) }) } }

/-- The Bolter's work on a frame whose analysis ends: rendering, registration, observations and the health map; the frame's
record follows (R270 to R277). -/
def State.boltFrame (s : State) (n : Fin 8) (f : Frame) : State :=
  if !s.flag BOLT_CTRL_EN then s
  else match f.trig with
  | none =>
    let reg : Registration := { x := 0, y := 0, fail := false, sad := 0 }
    s.boltHold (frameRecord n f {
      tags := f.tags, firstPage := 0, firstLine := 0, lastPage := 0, lastLine := 0, reg := reg, obs := 0, chg := 0, epoch := 0 }) 0
  | some (_, tp) =>
    let w := f.width
    let h := f.analysed.length
    let seen := if f.rotated then [] else s.seenLines n tp h
    let recs := s.seenRecords n seen
    let chan := fun (r : FiredRec) => s.get (BOLT_P_MAP0_CH r.port)
    let good := recs.filter (fun x => s.yields (chan x.2) x.2)
    let drawn := (s.seenRecords n (if f.rotated then [] else s.drawnLines n tp h)).filter (fun x => s.yields (chan x.2) x.2)
    let drops := (drawn.flatMap (fun x => s.dropsOf x.1 x.2)).foldl (fun ds d => insertDrop d ds) []
    let chans := (List.range 2).filter (fun c => (s.camPorts n).any (fun p => decide (s.get (BOLT_P_MAP0_CH p) = c)))
    let ims := chans.map (fun c => (s.ownDensity c w h f.dens, mkImg w h (fun x y => s.expect drops c x y)))
    let reg := if h = 0 then { x := 0, y := 0, fail := false, sad := 0 } else register ims w h (s.get BOLT_CLS1_REG_MAX)
    let obs := if reg.fail then [] else drops.filterMap (fun d =>
      match (chans.zip ims).find? (fun x => decide (x.1 = d.c)) with
      | none => none
      | some (_, m, e) => (s.observe w h m e reg d).map (fun o => (s.nozzleNumber d.port d.noz, o)))
    let hm := s.applyAll obs s.bolt.hmap []
    let first := leastBy (fun x => x.row) seen
    let last := leastBy (fun x => -x.row) seen
    let tags := f.tags
    let tags := if reg.fail then addTag tags tgREG_FAIL else tags
    let tags := if recs.length ≠ good.length then addTag tags tgNO_DATA else tags
    let e0 := leastBy (fun x => x.row) (seen.filter (fun x => good.any (fun g => decide (g.2.page = x.page ∧ g.2.line = x.line))))
    let epoch := match e0 with
      | none => 0
      | some x => ((good.find? (fun g => decide (g.2.page = x.page ∧ g.2.line = x.line))).map (fun g => g.2.epoch)).getD 0
    let s := { s with free := s.free + 1, bolt := { s.bolt with hmap := hm.1 } }
    let s := s.markSeen n seen
    let s := s.boltHold (frameRecord n f {
      tags := tags, firstPage := (first.map (fun x => x.page.toNat)).getD 0, firstLine := (first.map (fun x => x.line)).getD 0,
      lastPage := (last.map (fun x => x.page.toNat)).getD 0, lastLine := (last.map (fun x => x.line)).getD 0, reg := reg,
      obs := obs.length, chg := hm.2.length, epoch := epoch }) ((first.map (fun x => x.page)).getD 0)
    if s.flag BOLT_CTRL_PROPOSE && decide (0 < hm.2.length ∧ s.shadow = shFREE) then
      { s with corr := { s.corr with wanted := true } }
    else s

/-- A frame in analysis whose rows reach a line. -/
def State.frameReaches (s : State) (q : PlanCopy) (line : Nat) : Bool :=
  (fins 8).any (fun n => s.cams[n].frames.any (fun f => !f.rotated && (match f.trig with
    | none => false
    | some (_, tp) =>
      let row := s.rowQ8 n tp q line
      decide (-128 ≤ row ∧ row ≤ 256 * ((f.height : Int) - 1) + 128))))

/-- A page is done with: its report has closed, no frame in analysis reaches a line of it, and every line of it has been seen or counted
as not inspected on both channels or lies behind every camera (R277). -/
def State.pageDone (s : State) (q : PlanCopy) : Bool :=
  match q.lines with
  | none => false
  | some n => (s.reportOf q.page).isNone && (List.range n).all (fun l => !s.frameReaches q l &&
      (s.linePassed q l || (fins 2).all (fun c => q.seen[c].contains l || q.lost[c].contains l)))

/-- The PAGE records that are due are written, the copies of those plans dropped with the page's fired-line records (R258,
R277). -/
def State.boltPages (s : State) : State :=
  if s.flag BOLT_CTRL_EN then
    (s.bolt.plans.filter (fun q => s.pageDone q)).foldl (fun s q =>
      let s := s.boltHold (s.pageRecord q) q.page
      let s := { s with bolt := { s.bolt with
        plans := s.bolt.plans.filter (fun x => decide (x.page ≠ q.page))
        fired := s.bolt.fired.filter (fun r => decide (r.page ≠ q.page)) } }
      s.boltPast q.page) s
  else s

/-! ## Frame Start, Frame End and rows (R257 to R260, R268) -/

/-- The ISP gives out its density rows up to row `upto`, with the parameters of now; rows given out before stay as they are (R268). -/
def State.ispOut (s : State) (n : Fin 8) (f : Frame) (upto : Nat) : Frame :=
  let d := s.ispDensity n f.dt f.width f.analysed
  let done := (f.dens.headD []).length
  { f with dens := (List.range 3).map (fun i => f.dens.getD i [] ++ ((d.getD i []).drop done).take (upto - done)) }

/-- The bytes of a captured stripe: rows from `y0` on, `m` of them (R365). -/
def Frame.captureBytes (f : Frame) (raw : Bool) (y0 m : Nat) : List Byte :=
  if raw then ((f.analysed.drop y0).take m).flatMap (fun r => r.flatMap (fun v => leBytes 2 (normalise f.dt v).toNat))
  else
    (List.range m).flatMap (fun i => (List.range f.width).flatMap (fun x =>
      (List.range 3).flatMap (fun c => leBytes 2 (Img.px (f.dens.getD c []) x (y0 + i)).toNat)))

/-- The stripes of a capture that are complete go through RING2; density rows once the ISP has
given them out (R264, R269). -/
def State.captureGo (n : Fin 8) : Nat → State → Nat → State
  | 0, s, _ => s
  | fuel + 1, s, ts =>
    match s.cams[n].captures.find? (fun c => decide (c.fsTbc = ts)), s.cams[n].frames.find? (fun f => decide (f.fsTbc = ts)) with
    | some c, some f =>
      let h := f.analysed.length
      let last := !f.open_ && f.ready.isEmpty && f.inIsp.isNone
      let y0 := 32 * c.next
      let m := min 32 (h - y0)
      let full := decide (0 < m ∧ (m = 32 ∨ f.height ≤ h ∨ last))
      let settled := c.raw || last || decide (y0 + m ≤ (f.dens.headD []).length)
      if full && settled then
        let r := s.ring2Stripe (f.captureBytes c.raw y0 m) ((f.trig.map (fun t => t.1)).getD 0) n (b2n c.raw) c.next m
        if r.1 then
          State.captureGo n fuel (r.2.modCam n (fun x => { x with captures := x.captures.map (fun y =>
            if y.fsTbc = ts then { y with next := y.next + 1 } else y) })) ts
        else
          (r.2.set1 (CAM_STAT_CAP_LOST n)).modCam n (fun x => { x with captures := x.captures.filter (fun y => decide (y.fsTbc ≠ ts)) })
      else if last then s.modCam n (fun x => { x with captures := x.captures.filter (fun y => decide (y.fsTbc ≠ ts)) })
      else s
    | _, _ => s

/-- The analysis of a frame ends once it is closed and has no stripe left: the ISP gives out its last rows, its record is written and it
leaves the port. -/
def State.frameDone (s : State) (n : Fin 8) : State :=
  match s.cams[n].frames.find? (fun f => !f.open_ && f.ready.isEmpty && f.inIsp.isNone) with
  | none => s
  | some f =>
    let g := s.ispOut n f f.analysed.length
    let s := s.modCam n (fun c => { c with frames := c.frames.map (fun x => if x = f then g else x) })
    let s := (State.captureGo n 256 s f.fsTbc).boltFrame n g
    (s.modCam n (fun c => { c with frames := c.frames.filter (fun x => decide (x ≠ g)) })).boltPages

/-- The open frame ends: its partial stripe is discarded. -/
def State.frameClose (s : State) (n : Fin 8) : State :=
  (s.modOpen n (fun f => { f with open_ := false, cur := [] })).frameDone n

/-- The open frame ends at a Frame End or a new Frame Start: SHORT if rows are missing (R260). -/
def State.frameEnd (s : State) (n : Fin 8) : State :=
  match s.openFrame n with
  | none => s
  | some f => (if f.rows < f.height then s.tagOpen n tgSHORT else s).frameClose n

/-- The rest of the open frame is dropped (R260, R268). -/
def State.frameOverflow (s : State) (n : Fin 8) (csi : Bool) : State :=
  match s.openFrame n with
  | none => s
  | some _ =>
    let s := if csi then (s.bump (CAM_ERR_CSI_ERR n)).set1 (CAM_STAT_CSI_ERR n) else s
    let s := (s.tagOpen n tgOVERFLOW).modCam n (fun c => { c with dropping := true })
    s.frameClose n

/-- A header with a single-bit error: counted, and the frame tagged (R260). -/
def State.eccCorr (s : State) (n : Fin 8) : State :=
  (s.bump (CAM_ERR_ECC_CORR n)).modOpen n (fun f => { f with tags := addTag f.tags tgECC_CORR })

/-- The oldest unpaired trigger record within the window; older ones are discarded (R257). -/
def State.pairTrigger (s : State) (n : Fin 8) : Option TrigRec × State :=
  let win := s.get (CAM_TRIG_WIN_WIN n)
  let ts := s.cams[n].trigs.filter (fun t => decide (s.now ≤ t.tick + win))
  match ts with
  | [] => (none, s.modCam n (fun c => { c with trigs := [] }))
  | t :: rest => (some t, s.modCam n (fun c => { c with trigs := rest }))

/-- A Frame Start while a frame is open ends that frame, always as SHORT (R260). -/
def State.frameCut (s : State) (n : Fin 8) : State := if (s.openFrame n).isSome then (s.tagOpen n tgSHORT).frameClose n else s

/-- A Frame Start: stamped, paired, rotated or untriggered, and started (R257, R259, R260). -/
def State.frameStart (s : State) (n : Fin 8) : State :=
  let s := s.frameCut n
  let s := (s.bump (CAM_CNT_FRAMES n)).modCam n (fun c => { c with dropping := false })
  let pr := s.pairTrigger n
  let s := pr.2
  let skip := s.get (CAM_CTRL_SKIP n)
  let rotated := match pr.1 with
    | none => false
    | some t => decide ((t.k + s.get (CAM_CTRL_PHASE n)) % (skip + 1) ≠ 0)
  let tags := if pr.1.isNone then 2 ^ tgUNTRIGGERED else if rotated then 2 ^ tgROTATED else 0
  let f : Frame := {
    fsTbc := s.now, dt := s.get (CAM_CTRL_DT n), width := s.get (CAM_SIZE_WIDTH n), height := s.get (CAM_SIZE_HEIGHT n),
    trig := pr.1.map (fun t => (t.k, t.tp)), tags := tags, rows := 0, cur := [], ready := [], inIsp := none, analysed := [], dens := [],
    open_ := true, rotated := rotated }
  let s := s.modCam n (fun c => { c with frames := c.frames ++ [f] })
  let s := if f.taken then s else s.bump (CAM_CNT_DROPPED n)
  let s := if pr.1.isNone then s.set1 (CAM_STAT_UNTRIG n) else s
  if f.taken && s.flag (CAM_CTRL_CAPTURE n) then
    let c : Capture := { fsTbc := f.fsTbc, raw := s.flag (CAM_CTRL_CAP_RAW n), next := 0 }
    (s.clr (CAM_CTRL_CAPTURE n)).modCam n (fun x => { x with captures := x.captures ++ [c] })
  else s

/-- A packet for a port: whether it is received, after the header's ECC and its virtual channel (R256, R260). -/
def State.camPacket (s : State) (n : Fin 8) (vc : Fin 4) (hdr : HdrEcc) : Bool × State :=
  if !s.flag (CAM_CTRL_EN n) then (false, s)
  else if hdr = .bad then (false, s.frameOverflow n true)
  else (decide (s.get (CAM_CTRL_VC n) = vc.val), s)

/-- Bits per pixel of a data type code. -/
def dtBits (dt : Nat) : Nat := if dt = 0 then 8 else if dt = 1 then 10 else 12

/-- The CSI-2 data type number selected by DT (R256). -/
def dtNumber (dt : Nat) : Nat := if dt = 0 then 0x2A else if dt = 1 then 0x2B else 0x2C

/-- A row received into the open frame (R260, R266, R268). -/
def State.camRow (s : State) (n : Fin 8) (row : List (BitVec 12)) : State :=
  match s.openFrame n with
  | none => s
  | some f =>
    if f.height ≤ f.rows then s.tagOpen n tgLONG
    else if !f.taken then s.modOpen n (fun f => { f with rows := f.rows + 1 })
    else if f.cur.isEmpty ∧ 2 ≤ s.cams[n].busySlots then s.frameOverflow n false
    else s.modOpen n (fun f =>
      let rows := f.rows + 1
      let cur := f.cur ++ [row]
      if cur.length = 32 ∨ rows = f.height then { f with rows := rows, cur := [], ready := f.ready ++ [cur] }
      else { f with rows := rows, cur := cur })

/-- A long packet on a port (R256, R260). -/
def State.camLong (s : State) (n : Fin 8) (pk : RowPacket) : State :=
  match s.camPacket n pk.vc pk.hdr with
  | (false, s) => s
  | (true, s) =>
    let s := if pk.hdr = .corrected then s.eccCorr n else s
    let dt := s.get (CAM_CTRL_DT n)
    if pk.dt.toNat ≠ dtNumber dt then s.set1 (CAM_STAT_DT_IGN n)
    else if !pk.crcOk ∨ pk.bytes * 8 ≠ s.get (CAM_SIZE_WIDTH n) * dtBits dt ∨ pk.row.length ≠ s.get (CAM_SIZE_WIDTH n) then
      s.frameOverflow n true
    else s.camRow n pk.row

/-! ## The ISP (R266 to R269) -/

/-- The ready stripe with the earliest frame stamp, then the lower port (R267). -/
def State.nextStripe (s : State) : Option (Fin 8 × Frame) :=
  (fins 8).foldl (fun (b : Option (Fin 8 × Frame)) n =>
    match s.cams[n].frames.find? (fun f => !f.ready.isEmpty), b with
    | none, b => b
    | some f, none => some (n, f)
    | some f, some (m, g) => if f.fsTbc < g.fsTbc then some (n, f) else some (m, g)) none

/-- The free ISP takes a stripe, with its leave (R236 class G6, R267). -/
def State.ispStart (s : State) : State :=
  if s.flag ISP_CTRL_EN && s.weirHolds 18 && !s.flag ISP_STAT_BUSY then
    match s.nextStripe with
    | none => s
    | some (n, f) =>
      let s := match s.ispCam with
        | some m => if m = n then s else s.wr ISP_SWITCH (BitVec.ofNat 32 (satAdd 32 (s.rd ISP_SWITCH).toNat 1))
        | none => s
      let s := { s with ispCam := some n }
      let s := (s.set1 ISP_STAT_BUSY).put ISP_STAT_CAM n
      let s := if (s.dpcList n).2 then s.set1 ISP_STAT_DPC_ORDER else s
      s.modCam n (fun c => { c with frames := c.frames.map (fun x =>
        if x = f then { x with ready := x.ready.drop 1, inIsp := x.ready.head? } else x) })
  else s

/-- The ISP finishes its stripe: the slot is free and the rows go to the Bolter (R266, R268). A density row needs up to four rows below it
(R262, R264), and comes out with them, or with the frame's last row. -/
def State.ispDone (s : State) : State :=
  match s.ispCam with
  | none => s
  | some n =>
    match s.cams[n].frames.find? (fun f => f.inIsp.isSome) with
    | none => s
    | some f =>
      let f' : Frame := { f with inIsp := none, analysed := f.analysed ++ f.inIsp.getD [] }
      let h := f'.analysed.length
      let g := s.ispOut n f' (if f.height ≤ h then h else h - 4)
      let s := s.modCam n (fun c => { c with frames := c.frames.map (fun x => if x = f then g else x) })
      let s := s.clr ISP_STAT_BUSY
      (State.captureGo n 256 s f.fsTbc).frameDone n

/-- ISP_CTRL written: leave requested when EN is set, released when it is cleared (R379). -/
def State.ispCtrl (s : State) (v : Word) : State :=
  let was := s.flag ISP_CTRL_EN
  let en := v.getLsbD 31
  let s := s.putB ISP_CTRL_EN en
  if en && !was then s.weirRequest 18 6 (s.get (PWR_RQ_CFG_PWR 18)) (s.get (PWR_RQ_CFG_MAXWAIT 18))
  else if was && !en then s.weirRelease 18
  else s

/-! ## Containers of the Bolter (R276) -/

/-- The Bolter has finished with a container (R276). One whose page has no plan copy is not inspected, and is done with when its page
is. -/
def State.contFinished (s : State) (c : Cont) : Bool :=
  match s.bolt.plans.find? (fun q => decide (q.page = c.page)) with
  | none => s.bolt.past.contains c.page
  | some q =>
    let ls := distinctLines (s.contRecords c)
    ((s.reportOf c.page).isNone || decide (c.lines ≤ ls.length)) &&
      ls.all (fun l => s.linePassed q l && !s.frameReaches q l)

/-- The Bolter finishes with the oldest judged container of engine k once R276 allows. -/
def State.boltFinish (s : State) (k : Fin 16) : State :=
  match s.engines[k].conts.find? (fun c => c.judged) with
  | none => s
  | some c => if decide (s.get (DCE_CTRL_SINK k) = 2) && s.contFinished c then (s.containerFinished k).boltPages else s

/-- BOLT_CTRL.EN cleared: every container the Bolter holds is written back, its lines counted as not inspected (R276). -/
def State.boltOff (s : State) : State :=
  (fins 16).foldl (fun (s : State) (k : Fin 16) =>
    if s.get (DCE_CTRL_SINK k) = 2 then
      let s := s.contsLost k
      let s := s.engines[k].conts.foldl (fun (s : State) (c : Cont) => s.descBack k c.desc c.ctrl c.data.length c.code true) s
      s.modEng k (fun g => { g with conts := [] })
    else s) s

/-- A fired-line record reaches the Bolter (R186, R270). It is kept while the Bolter runs and copies the page's plan. -/
def State.boltFired (s : State) (r : FiredRec) : State :=
  if s.flag BOLT_CTRL_EN && s.bolt.plans.any (fun q => decide (q.page = r.page)) then
    ({ s with bolt := { s.bolt with fired := s.bolt.fired ++ [r] } } : State).boltPages
  else s

/-! ## Proposal passes (R285, R286) -/

/-- The port and nozzle of a nozzle number, by CS_PBASE; the lowest port where ranges overlap (R278). -/
def State.nozzleOf (s : State) (n : Nat) : Option (Fin 48 × Nat) :=
  (fins 48).findSome? (fun (p : Fin 48) =>
    let i := (n + 131072 - s.get (CS_PBASE_PBASE p)) % 131072
    if i < s.nozzles p then some (p, i) else none)

/-- Whether a nozzle's entry names a twin (R279). -/
def State.namesTwin (s : State) (n : Nat) (e : Word) : Bool :=
  match s.nozzleOf n with
  | none => false
  | some (p, i) => (twinOf e (laneOf p).val i (fun q => s.nozzles (4 * (sqOf p).val + q))).isSome

/-- CLASS and the enables of an entry replaced, and its TRIM. -/
def entryWith (e : Word) (cls boost twin : Nat) (trim : Option Int) : Word :=
  let e := withField (withField (withField e 31 29 cls) 28 28 boost) 27 27 twin
  match trim with
  | none => e
  | some t => withField e 7 0 (wrap 8 t)

/-- The trim for a RATIO (R285). -/
def State.trimFor (s : State) (ratio : Nat) : Int :=
  let m : Int := s.get BOLT_LIM_TRIM_MAX
  max (-m) (min m (((8192 / max ratio 1 : Nat) : Int) - 256))

/-- The order group of a health map entry and the entry it proposes (R285, R286). -/
def State.propose (s : State) (n : Nat) (h : BitVec 16) (e : Word) : Option (Nat × Word) :=
  let cls := healthClass h
  if healthConf h < s.get BOLT_CLS1_PROP_CONF then none
  else if cls = 2 ∨ cls = 3 ∨ cls = 4 then
    let twin := s.namesTwin n e
    some (1, entryWith e cls (b2n !twin) (b2n twin) none)
  else if cls = 1 then some (2, entryWith e 1 0 0 (some (s.trimFor (healthRatio h))))
  else if cls = 0 then
    if s.get BOLT_CLS0_HOT_TH < healthRatio h then some (2, entryWith e 0 0 0 (some (s.trimFor (healthRatio h))))
    else if healthConf h = s.get BOLT_CLS1_CONF_MAX then some (3, entryWith e 0 0 0 (some 0))
    else none
  else none

/-- The entries a pass would change, in the order of R286. -/
def State.proposals (s : State) : List (Nat × Word) :=
  let all := s.bolt.hmap.filterMap (fun nh =>
    let e := s.corr.shadow.entries.get zeroWord nh.1
    match s.propose nh.1 nh.2 e with
    | some (g, x) => if x = e then none else some (g, nh.1, x)
    | none => none)
  let grp := fun (g : Nat) => (all.filter (fun x => decide (x.1 = g))).map (fun x => x.2)
  grp 1 ++ grp 2 ++ grp 3

/-- The writing of a proposal, with SHADOW = BOLTER: at most MAX_CHANGE entries (R285, R286). -/
def State.proposalWrite (s : State) : State :=
  let ps := s.proposals
  let m := s.get BOLT_LIM_MAX_CHANGE
  let take := ps.take m
  let s := if m < ps.length then s.set1 BOLT_STAT_PROP_TRUNC else s
  if take.isEmpty then s.setShadow shFREE
  else
    let s := { s with corr := { s.corr with shadow := { s.corr.shadow with
      entries := take.foldl (fun (t : Table Word) (p : Nat × Word) => t.set zeroWord p.1 p.2) s.corr.shadow.entries } } }
    (s.setShadow shREADY).raise evBOLT_PROPOSAL 0 (value1 take.length)

/-- A proposal pass: it claims the free shadow and copies the active set; once the copy is there it writes its entries
(R285). -/
def State.proposalPass (s : State) : State :=
  if s.shadow = shBOLTER then s.proposalWrite
  else if s.corr.wanted && s.flag BOLT_CTRL_PROPOSE && decide (s.shadow = shFREE) then
    ({ s with corr := { s.corr with wanted := false, byBolter := true } } : State).setShadow shCOPYING
  else s

/-! ## Registers and windows (R289) -/

/-- CAMn_STAT.STATE. -/
def State.camState (s : State) (n : Fin 8) : Nat :=
  if !s.flag (CAM_CTRL_EN n) then 0
  else if s.cams[n].dropping then 3
  else if (s.openFrame n).isSome then 2 else 1

/-- CAMn_CTRL written: clearing EN ends the open frame as a Frame End does (log 21); CAPTURE can only be set. -/
def State.camCtrl (s : State) (n : Fin 8) (v : Word) : State :=
  let old := s.rd (CAM_CTRL n)
  let s := s.wr (CAM_CTRL n) ((v &&& 0xE330FF00#32) ||| (old &&& 0x40000000#32))
  if old.getLsbD 31 && !v.getLsbD 31 then (s.frameEnd n).modCam n (fun c => { c with dropping := false }) else s

/-- A supervisor write to a camera port; none where no rule of its own applies. -/
def State.camWrite (s : State) (n : Fin 8) (off : Nat) (v : Word) : Option (Resp × State) :=
  match off with
  | 0x00 => some (.ok, s.camCtrl n v)
  | 0x04 =>
    if s.flag (CAM_CTRL_EN n) then some (.errUnit, s)
    else
      let h := max 32 (min 4096 (field v 28 16))
      let w := max 64 (min 8192 (field v 13 0 / 4 * 4))
      some (.ok, s.wr (CAM_SIZE n) (BitVec.ofNat 32 (h * 65536 + w)))
  | 0x0C | 0x10 | 0x14 => if s.flag (CAM_CTRL_EN n) then some (.errUnit, s) else none
  | _ => none

/-- A supervisor write to the ISP block; none where no rule of its own applies. -/
def State.ispWrite (s : State) (off : Nat) (v : Word) : Option (Resp × State) :=
  let cam := fun (i : Nat) => s.flag (CAM_CTRL_EN i)
  if off = 0 then some (.ok, s.ispCtrl v)
  else if 0x100 ≤ off ∧ off < 0x300 then (if cam ((off - 0x100) / 0x40) then some (.errUnit, s) else none)
  else if 0x1000 ≤ off ∧ off < 0x3000 then (if cam ((off - 0x1000) / 0x400) then some (.errUnit, s) else none)
  else if 0x4000 ≤ off ∧ off < 0x8000 then (if cam ((off - 0x4000) / 0x800) then some (.errUnit, s) else none)
  else if 0x8000 ≤ off ∧ off < 0xE000 then (if s.flag ISP_CTRL_EN then some (.errUnit, s) else none)
  else none

/-- A supervisor write to the BOLT block; none where no rule of its own applies. -/
def State.boltRegWrite (s : State) (off : Nat) (v : Word) : Option (Resp × State) :=
  let locked := s.flag BOLT_CTRL_EN
  if off = 0 then
    let s1 := s.wr BOLT_CTRL (v &&& 0xE0000000#32)
    some (.ok, if locked && !v.getLsbD 31 then s1.boltOff else s1)
  else if off = 0x0C then
    let c := if field v 3 2 = 0 then 1 else field v 3 2
    let p := if field v 1 0 = 0 then 1 else field v 1 0
    some (.ok, s.wr BOLT_CLS1 (withField (withField v 3 2 c) 1 0 p))
  else if (0x20 ≤ off ∧ off < 0x30) ∨ (0x40 ≤ off ∧ off < 0x80) ∨ (0x100 ≤ off ∧ off < 0x280) ∨ (0x1000 ≤ off ∧ off < 0x1100) then
    (if locked then some (.errUnit, s) else none)
  else if off = 0xF08 then some (s.rptCtrl rptBolt v)
  else none

/-- A word of the health map window (R275). -/
def State.hmapRead (s : State) (off : Nat) : Word :=
  s.bolt.hmap.get hmapDefault (off / 4 * 2 + 1) ++ s.bolt.hmap.get hmapDefault (off / 4 * 2)

/-- A write to the health map window (R289). -/
def State.hmapWrite (s : State) (off : Nat) (v : Word) : Resp × State :=
  if s.flag BOLT_CTRL_EN then (.errUnit, s)
  else
    let t := s.bolt.hmap.set hmapDefault (off / 4 * 2) (v.extractLsb' 0 16)
    (.ok, { s with bolt := { s.bolt with hmap := t.set hmapDefault (off / 4 * 2 + 1) (v.extractLsb' 16 16) } })

end Sys2Proof.Machine
end

