-- ==== Sys2Proof/Machine/CalOps.lean ====
section
/-!
DEFINITION. Tentering (R406 to R410): triggers, leave, the arithmetic of R407, the commit line of R409, and the port deskew of
R410.
-/
namespace Sys2Proof.Machine

/-- D of R407 from the two ring counts; a count of 0 has no period, and fails the group. -/
def tapDelay (c32 c160 : Nat) : Nat :=
  if c32 = 0 ∨ c160 = 0 then 0
  else
    let p32 := (81920000000 + c32 / 2) / c32
    let p160 := (81920000000 + c160 / 2) / c160
    (p160 - p32 + 128) / 256

/-- TAP of a fine step for a tap delay D (R407). -/
def tapOf (d f : Nat) : Nat := (f * 78125 + d / 2) / d

/-- A D in range, and no TAP above 159 (R407). -/
def tapOk (d : Nat) : Bool := decide (7000 ≤ d ∧ d ≤ 11000 ∧ tapOf d 15 ≤ 159)

/-- Word `w` of CAL_Pn_TAB for a tap delay. -/
def tapWord (d w : Nat) : Word := BitVec.ofNat 32 (leNat ((List.range 4).map (fun b => BitVec.ofNat 8 (tapOf d (4 * w + b)))))

/-- The tables of a port from a tap delay, in force. -/
def State.tapsInForce (s : State) (p : Fin 48) (d : Nat) : State :=
  (((s.wr (CAL_P_TAB0 p) (tapWord d 0)).wr (CAL_P_TAB1 p) (tapWord d 1)).wr (CAL_P_TAB2 p) (tapWord d 2)).wr (CAL_P_TAB3 p) (tapWord d 3)

/-- The run's phase. -/
def State.calPhase (s : State) (c : CalPhase) : State :=
  ({ s with cal := { s.cal with phase := c } } : State).putB CAL_STATUS_BUSY (decide (c ≠ .idle))

/-- STALE set or cleared, for the unit and for every port (R407). -/
def State.staleAll (s : State) (b : Bool) : State :=
  (fins 48).foldl (fun s (p : Fin 48) => s.putB (FSCH_P_STAT_STALE p) b) (s.putB CAL_STATUS_STALE b)

/-- The reading of a die sensor now, in Q8.4. -/
def State.dieReading (s : State) (n : Nat) : Int := sext 12 (s.get (TS_READ_TEMP n))

/-- The leave of a run is granted: STALE is set and the replica lines are measured (R407). -/
def State.calGranted (s : State) : State :=
  if s.cal.phase = .weir then
    (({ s with cal := { s.cal with granted := s.now } } : State).calPhase .measuring).staleAll true
  else s.weirRelease 25

/-- The leave is refused: SKIPPED, TENTER_SKIP, and the trigger stays pending (R406). -/
def State.calRefused (s : State) : State :=
  if s.cal.phase = .weir then
    (((s.calPhase .idle).set1 CAL_STATUS_SKIPPED).set1 CAL_STATUS_PENDING).raise evTENTER_SKIP 0 0
  else s

/-- A run starts: it takes the readings of the die sensors and requests leave as requester 25 in class G3 (R406). -/
def State.calStart (s : State) : State :=
  let s := { s with cal := { s.cal with start := Vector.ofFn (fun (n : Fin 16) => s.dieReading n) } }
  let s := ((s.calPhase .weir).clr CAL_STATUS_PENDING).weirRequest 25 3 (s.get (PWR_RQ_CFG_PWR 25)) (s.get (PWR_RQ_CFG_MAXWAIT 25))
  if s.weirHolds 25 then s.calGranted else if s.weirWaits 25 then s else s.calRefused

/-- A trigger: it starts a run, or waits until the run in progress ends (R406). -/
def State.calTrigger (s : State) : State := if s.cal.phase = .idle then s.calStart else s.set1 CAL_STATUS_PENDING

/-- The run has ended: a trigger that arose during it starts the next (R406). -/
def State.calNext (s : State) : State := if s.flag CAL_STATUS_PENDING then s.calStart else s

/-- A firmware RUN (R406): ignored during a run. -/
def State.calRun (s : State) : State := if s.cal.phase = .idle then s.calStart else s.set1 CAL_STATUS_CMD_IGNORED

/-- CAL_RETRY ms after a refusal the pending trigger requests leave again. -/
def State.calRetry (s : State) : State :=
  if s.flag CAL_STATUS_PENDING && decide (s.cal.phase = .idle) then s.calStart else s

/-- An automatic trigger (R406): a selected die sensor reads 4 × CAL_DT or more away from its reading at the start of the last
completed run. Before any run has completed there is no such reading. -/
def State.calAuto (s : State) (n : Fin 16) : State :=
  match s.cal.base with
  | none => s
  | some b =>
    if s.flag CAL_CTRL_AUTO && (s.get CAL_CTRL_CAL_SENS).testBit n &&
        decide (4 * s.get CAL_CTRL_CAL_DT ≤ (s.dieReading n - b[n]).natAbs) && !s.flag CAL_STATUS_PENDING then s.calTrigger
    else s

/-- A run is discarded with its cause; the held tables stay in force and the trigger stays pending (R408). -/
def State.calDiscard (s : State) (cause : Nat) : State :=
  let s := (((s.calPhase .idle).staleAll false).weirRelease 25).set1 CAL_STATUS_DISCARDED
  ((s.put CAL_STATUS_RESULT cause).set1 CAL_STATUS_PENDING).raise evTENTER_DISCARD 0 (value1 cause)

/-- A run abandoned by a die shutdown (R404). -/
def State.calAbandon (s : State) : State :=
  if s.cal.phase = .idle then s
  else (((s.calPhase .idle).staleAll false).weirRelease 25).put CAL_STATUS_RESULT 4

/-- The run is not complete CAL_TIMEOUT µs after the grant (R408). -/
def State.calTimeout (s : State) : State :=
  if s.cal.phase = .measuring ∧ s.get CAL_TIME_CAL_TIMEOUT * 800 ≤ s.now - s.cal.granted then s.calDiscard 3 else s

/-- Every port has switched: STALE clears, RUNS counts, TENTER_DONE carries the commit line (R409). Twelve delays do not fit
VALUE, whose content the manual does not state: a free value (log 23). -/
def State.calEnd (s : State) : State :=
  let s := (s.calPhase .idle).staleAll false
  let s := (s.put CAL_STATUS_RUNS ((s.get CAL_STATUS_RUNS + 1) % 256)).put CAL_STATUS_RESULT 0
  let s := { s with cal := { s.cal with base := some s.cal.start } }
  let s := s.advance.raiseAt evTENTER_DONE 0 s.freeWord (s.rd CAL_COMMIT_PAGE) (s.rd CAL_COMMIT_LINE)
  s.calNext

/-- A port switches to the new tables and deskew taps; the last one ends the run (R409). -/
def State.calSwitch (s : State) (p : Fin 48) : State :=
  if s.cal.phase = .committing ∧ s.cal.switched.getLsbD p = false then
    let s := s.tapsInForce p (s.get (CAL_D_D (p.val / 4)))
    let s := s.put (CAL_P_DESKEW_TAPS p) (s.cal.deskew[p]).toNat
    let s := { s with cal := { s.cal with switched := setBit s.cal.switched p true } }
    if s.cal.switched = BitVec.allOnes 48 then s.calEnd else s
  else s

/-- A guard entry for a port-line at or beyond the commit line, in the page order of R284, switches the port (R409). -/
def State.calGuard (s : State) (p : Fin 48) (page : Word) (line : Nat) : State :=
  let serial := ((s.reportOf page).map (fun r => r.serial)).getD s.fsch.serial
  let at_ := decide (s.cal.serial < serial ∨ (s.cal.serial = serial ∧ (s.rd CAL_COMMIT_LINE).toNat ≤ line))
  if s.cal.phase = .committing ∧ at_ = true then s.calSwitch p else s

/-- Ports with no page open, and retired ports, switch at once (R409). -/
def State.calIdlePorts (s : State) : State :=
  if s.cal.phase = .committing then
    (fins 48).foldl (fun s (p : Fin 48) => if !s.portPageOpen p || s.retired p then s.calSwitch p else s) s
  else s

/-- The commit line is set from the reference line, and the tables are put forward (R409). -/
def State.calCommit (s : State) (deskew : Vector (BitVec 25) 48) : State :=
  let r := s.refLine
  let s := (s.wr CAL_COMMIT_PAGE r.1).wr CAL_COMMIT_LINE (r.2 + BitVec.ofNat 32 (s.get CAL_CTRL_CAL_LEAD))
  let serial := ((s.reportOf r.1).map (fun x => x.serial)).getD 0
  let s := { s with cal := { s.cal with deskew := deskew, serial := serial, switched := 0 } }
  ((s.weirRelease 25).calPhase .committing).calIdlePorts

/-- The tables of a run are complete: the ring counts of the twelve replica lines give D, and a group out of range discards the
run (R407). -/
def State.calTables (s : State) (rings : Vector (Nat × Nat) 12) (deskew : Vector (BitVec 25) 48) : State :=
  if s.cal.phase = .measuring then
    let ds := rings.map (fun r => tapDelay r.1 r.2)
    if ds.toList.all tapOk then
      ((fins 12).foldl (fun s (k : Fin 12) => s.put (CAL_D_D k) ds[k]) s).calCommit deskew
    else s.calDiscard 2
  else s

/-- PORT_DESKEW (R410): the taps measured for the port come into force at once. -/
def State.portDeskew (s : State) (p : Fin 48) (taps : BitVec 25) : State :=
  if s.cal.phase ≠ .idle ∨ (s.retired p = false ∧ s.hpEn p = true) then s.put CAL_STATUS_RESULT 1
  else
    let s := s.tapsInForce p (s.get (CAL_D_D (p.val / 4)))
    let s := (s.put (CAL_P_DESKEW_TAPS p) taps.toNat).set1 (CAL_P_DESKEW_DESKEWED p)
    (s.put CAL_STATUS_RESULT 0).modHp p (fun h => { h with deskewed := true })

/-- A write to CAL_CMD: OP 1 RUN; OP 2 needs the measured taps, which the command carries. -/
def State.calCmd (s : State) (v : Word) (taps : BitVec 25) : State :=
  match field v 1 0 with
  | 1 => s.calRun
  | 2 => if h : field v 29 24 < 48 then s.portDeskew ⟨field v 29 24, h⟩ taps else s.put CAL_STATUS_RESULT 1
  | _ => s

/-- A write to the CAL block; none where no rule of its own applies. A PORT_DESKEW written through the bus measures taps that
only the hardware knows: free values. -/
def State.calWrite (s : State) (off : Nat) (v : Word) : Option (Resp × State) :=
  match off with
  | 0x00 => some (.ok, s.wr CAL_CTRL (if field v 30 24 = 0 then withField v 30 24 1 else v))
  | 0x04 => some (.ok, s.wr CAL_TIME (if field v 15 0 = 0 then withField v 15 0 1 else v))
  | 0x08 => some (.ok, s.advance.calCmd v (s.freeWord.setWidth 25))
  | _ => none

end Sys2Proof.Machine
end

