-- ==== Sys2Proof/Machine/ThermOps.lean ====
section
/-!
DEFINITION. The thermal unit (R397 to R405): sampling, slopes, levels and their actions, head CRIT latches, and the shutdown on
die CRIT.
-/
namespace Sys2Proof.Machine

/-- A sensor changed. -/
def State.modThm (s : State) (i : Fin 64) (f : ThmSensor → ThmSensor) : State := { s with thm := vset s.thm i (f s.thm[i]) }

/-- The reading register of a sensor. -/
def thmRead (i : Nat) : Nat := if i < 48 then HT_READ i else TS_READ (i - 48)

/-- The thresholds register of a sensor (R399). -/
def thmLim (i : Nat) : Nat := if i < 48 then HP_TLIM i else TS_LIM (i - 48)

/-- WARN, LIMIT, CRIT and RESUME of a sensor in Q8.4: a threshold byte t stands for 8 × t (R397). -/
def State.thmAt (s : State) (i hi lo : Nat) : Int := 8 * (field (s.rd (thmLim i)) hi lo : Int)

/-- The rise limits of a sensor for window w (R400). -/
def thmRise (i w : Nat) : Nat := if i < 48 then THM_HRISE w else THM_DRISE w

/-- slope of R400. -/
def slopeOf (r old wMs : Int) : Int := truncDiv ((r - old) * 250) wMs

/-- The slopes of the windows whose rings are full, with the window's number: from the current reading and the oldest reading of
the ring, before the current one is pushed. -/
def ThmSensor.slopes (t : ThmSensor) (r : Int) : List (Nat × Int) :=
  [(0, t.h10, 10), (1, t.h100, 100), (2, t.h1000, 1000)].filterMap (fun (x : Nat × List Int × Int) =>
    if x.2.1.length = 10 then (x.2.1.getLast?).map (fun o => (x.1, slopeOf r o x.2.2)) else none)

/-- The largest slope; 0 while no window is evaluated. -/
def largest : List (Nat × Int) → Int
  | [] => 0
  | x :: t => t.foldl (fun m y => max m y.2) x.2

/-- Some slope has reached its RISE_WARN (lo = 0) or RISE_CRIT (lo = 16); a limit of 0 is unchecked (R400, R401). -/
def State.riseAt (s : State) (i lo : Nat) (sl : List (Nat × Int)) : Bool :=
  sl.any (fun x => decide (field (s.rd (thmRise i x.1)) (lo + 15) lo ≠ 0 ∧ (field (s.rd (thmRise i x.1)) (lo + 15) lo : Int) ≤ x.2))

/-- A condition of R398 that makes a sensor fast. -/
def State.fastCond (s : State) (i : Nat) (r : Int) (sl : List (Nat × Int)) : Bool :=
  decide (s.thmAt i 7 0 ≤ r + 4 * (s.get THM_CTRL_NEAR_MARGIN : Int)) ||
    sl.any (fun x => decide (field (s.rd (thmRise i x.1)) 15 0 ≠ 0 ∧ (field (s.rd (thmRise i x.1)) 15 0 : Int) ≤ 2 * x.2))

/-- The level that a sensor enters from an old level with a reading and its slopes (R401). The fixed 125 °C acts as die CRIT
(R399). -/
def State.newLevel (s : State) (i old : Nat) (r : Int) (sl : List (Nat × Int)) : Nat :=
  if old = 3 then 3
  else if s.thmAt i 23 16 ≤ r ∨ s.riseAt i 16 sl ∨ (48 ≤ i ∧ 2000 ≤ r) then 3
  else if s.thmAt i 15 8 ≤ r then 2
  else if old = 2 ∧ s.thmAt i 31 24 < r then 2
  else if s.thmAt i 7 0 ≤ r ∨ s.riseAt i 0 sl then 1 else 0

/-! ## Actions of the levels (R402, R404) -/

/-- Some sensor holds WARN or a higher level. -/
def State.anyWarn (s : State) : Bool := (List.range 64).any (fun i => decide (1 ≤ s.level i))

/-- FSCH_Pn_STAT.THERMAL and permission of a port brought up to date with its level (R402). -/
def State.portThermal (s : State) (p : Fin 48) : State :=
  let lim := s.portLimit p
  let s := s.putB (FSCH_P_STAT_THERMAL p) lim
  if lim then s.withdraw p true else s.thermalBack p

/-- THM_STAT.DIE_LEVEL and DIE_SRC. -/
def State.dieStat (s : State) : State :=
  let top := (List.range 16).foldl (fun m n => max m (s.level (48 + n))) 0
  let src := ((List.range 16).find? (fun n => decide (s.level (48 + n) = top))).getD 0
  (s.put THM_STAT_DIE_LEVEL top).put THM_STAT_DIE_SRC src

/-- The islands are gated and the PLLs other than PLL_TB stopped, once both DDR channels rest (R404): no unit outside AON and TB
runs until the reset that leaves the shutdown. -/
def State.shutGate (s : State) : State :=
  if s.boot.dieShut && !s.boot.shutdown && !s.ddrIn 0 [3, 4] && !s.ddrIn 1 [3, 4] then
    let s := ((s.wr CLK_EN0 0).wr CLK_EN1 0).wr CLK_EN2 0
    let s := [1, 2, 3, 4, 5].foldl (fun s (i : Nat) => (s.clr (PLL_CTRL_EN i)).clr (PLL_CTRL_LOCK i)) s
    let s := (fins 2).foldl (fun s (x : Fin 2) => s.modSup x (fun u => { u with running := false })) s
    { s with boot := { s.boot with shutdown := true, thermTrip := s.boot.thermTrip || s.boot.recorded } }
  else s

/-- Die CRIT: every port is inhibited, then the die shuts down (R404). The shutdown record waits for NVES with the sensor, the
slope and the reading of the decision. -/
def State.dieCrit (s : State) (i : Nat) (r sl : Int) : State :=
  if s.boot.dieShut then s
  else
    let s := (s.critDie.withdrawAll).calAbandon
    let s := { s with boot := { s.boot with dieShut := true } }
    let v := BitVec.ofNat 32 (i + satSigned 12 r * 65536)
    let s := s.nvesQueue { s.nvesRec evNVES_SHUTDOWN i v s.refLine.1 s.refLine.2 with ackReq := true, slope := sl }
    ((s.ddrSr 0).ddrSr 1).shutGate

/-- A head CRIT: its latch and the inhibit of its port (R402). -/
def State.headCrit (s : State) (p : Fin 48) : State :=
  let w := maskWord THM_HCRIT0 THM_HCRIT1 p
  (s.putBit w.1 w.2 true).critHead p

/-- VALUE of THM_LEVEL (R433). -/
def thmValue (sl r : Int) (new old : Nat) : Word :=
  BitVec.ofNat 32 (satSigned 16 sl + satSigned 12 r * 65536 + new * 2 ^ 28 + old * 2 ^ 30)

/-- A sensor's level set; a change raises THM_LEVEL unless `quiet`, and the actions follow (R401, R402). -/
def State.setLevel (s : State) (i : Fin 64) (new : Nat) (r sl : Int) (quiet : Bool) : State :=
  let old := s.level i
  if old = new then s
  else
    let s := s.put (thmLevel i) new
    let s := if quiet then s else s.raise evTHM_LEVEL i (thmValue sl r new old)
    let s := if old = 0 then s.slowEvent 2 true else if new = 0 ∧ s.anyWarn = false then s.slowEnd 2 else s
    if h : i.val < 48 then
      let p : Fin 48 := ⟨i.val, h⟩
      (if new = 3 then s.headCrit p else s).portThermal p
    else
      let s := (fins 48).foldl (fun s (p : Fin 48) => s.portThermal p) s.dieStat
      if new = 3 then s.dieCrit i r sl else s

/-! ## Evaluation and sampling (R397 to R400) -/

/-- A sensor that begins to be evaluated starts with empty rings and from NORMAL (R400, R401). -/
def State.thmStart (s : State) (i : Fin 64) : State :=
  s.modThm i (fun t => { t with phase := 0, h10 := [], h100 := [], h1000 := [], calm := 0, ownLimit := false })

/-- A head sensor that stops being evaluated: NORMAL at once, VALID 0, no THM_LEVEL (R401). -/
def State.thmStop (s : State) (p : Fin 48) : State :=
  let i : Fin 64 := ⟨p.val, by omega⟩
  let s := s.setLevel i 0 0 0 true
  (s.wr (HT_READ p) 0).modThm i (fun t => { t with ownLimit := false })

/-- The eligibility of a port has been touched: evaluation of its head sensor begins or ends with it (R397), and ST_LOST clears
when it ends (R209). -/
def State.thmElig (s : State) (p : Fin 48) (was : Bool) : State :=
  let i : Fin 64 := ⟨p.val, by omega⟩
  let now := s.eligible p
  if now && !was then s.thmStart i
  else if was && !now then (s.clr (HP_STAT_ST_LOST p)).thmStop p
  else s

/-- A push of the current reading into a ring of ten. -/
def pushRing (r : Int) (l : List Int) : List Int := (r :: l).take 10

/-- The rings after a sample (R400): each is pushed when its period has passed. -/
def ThmSensor.push (t : ThmSensor) (r : Int) (step : Nat) : ThmSensor :=
  let p := t.phase + step
  let due := fun (n : Nat) => decide (t.phase / n < p / n)
  { t with phase := p, h10 := if due 32 then pushRing r t.h10 else t.h10, h100 := if due 320 then pushRing r t.h100 else t.h100,
           h1000 := if due 3200 then pushRing r t.h1000 else t.h1000 }

/-- The level set from a reading (R401); ST_LOST holds a head sensor at LIMIT (R209). -/
def State.thmLevelSet (s : State) (i : Fin 64) (old : Nat) (r : Int) (sl : List (Nat × Int)) : State :=
  let new := s.newLevel i old r sl
  let new := if s.flag (HP_STAT_ST_LOST i) && decide (i.val < 48) then max 2 new else new
  s.setLevel i new r (largest sl) false

/-- One sample of an evaluated sensor (R398, R400, R401). -/
def State.thmSample (s : State) (i : Fin 64) (r : Int) : State :=
  let t := s.thm[i]
  let sl := t.slopes r
  let a := thmRead i
  let fast := field (s.rd a) 31 31 = 1
  let cond := s.fastCond i r sl
  let calm := if cond then 0 else t.calm + 1
  let nowFast := cond || (decide fast && decide (calm < 32))
  let w := withField (withField (s.rd a) 27 16 (wrap 12 r)) 15 0 (satSigned 16 (largest sl))
  let s := s.wr a (setBit (setBit w 31 nowFast) 30 true)
  let s := s.modThm i (fun t => { t.push r (if fast then 1 else 32) with calm := calm })
  let s := s.thmLevelSet i (s.level i) r sl
  if h : 48 ≤ i.val then
    let n : Fin 16 := ⟨i.val - 48, by omega⟩
    let s := if 2000 ≤ r then { s with boot := { s.boot with thermTrip := true } } else s
    s.calAuto n
  else s

/-- THERMAL_SAMPLE: a die sensor gives its reading; a head sensor takes the newest valid TEMP of its port, and is evaluated only
while the port is eligible (R397). -/
def State.thermalSample (s : State) (i : Fin 64) (reading : BitVec 12) : State :=
  if i.val < 48 then
    match s.eligible i, s.thm[i].reading with
    | true, some r => s.thmSample i r
    | _, _ => s
  else s.thmSample i reading.toInt

/-- A head's new reading (R208): the first valid word ends the LIMIT that ST_LOST forced, and the level is set from it, but a
sensor that was at LIMIT by its own reading stays there until RESUME (R209, R401). -/
def State.headReading (s : State) (p : Fin 48) (r : Int) : State :=
  let i : Fin 64 := ⟨p.val, by omega⟩
  let s := s.modThm i (fun t => { t with reading := some r })
  if s.flag (HP_STAT_ST_LOST p) then
    let s := s.clr (HP_STAT_ST_LOST p)
    let old := if s.level p = 3 then 3 else if s.thm[i].ownLimit then 2 else 0
    s.thmLevelSet i old r (s.thm[i].slopes r)
  else s

/-- ST_LOST is set: the sensor is treated as at LIMIT (R209). -/
def State.stLost (s : State) (p : Fin 48) : State :=
  let i : Fin 64 := ⟨p.val, by omega⟩
  let s := s.modThm i (fun t => { t with ownLimit := decide (s.level p = 2) })
  let s := (s.set1 (HP_STAT_ST_LOST p)).raise evHEAD_ST_LOST p 0
  if s.level p < 2 then s.setLevel i 2 (s.thm[i].reading.getD 0) (sext 16 (s.get (HT_READ_SLOPE p))) false else s

/-! ## THM_HCRIT (R403) -/

/-- A 1 written to a port's THM_HCRIT bit: acted on at or below RESUME with every slope below its RISE_WARN, or at once while the
port is not evaluated. -/
def State.hcritClear (s : State) (p : Fin 48) : State :=
  let i : Fin 64 := ⟨p.val, by omega⟩
  let w := maskWord THM_HCRIT0 THM_HCRIT1 p
  if !s.hcrit p then s
  else
    let clear := fun (s : State) => (s.putBit w.1 w.2 false).clr (FSCH_P_STAT_CRIT p)
    if !s.eligible p then clear s
    else
      let r := s.thm[i].reading.getD 0
      let sl := s.thm[i].slopes r
      if r ≤ s.thmAt p 31 24 ∧ s.riseAt p 0 sl = false then (clear s).setLevel i (s.newLevel i 0 r sl) r (largest sl) false
      else s.set1 THM_STAT_HCLR_REFUSED

/-- A word written to THM_HCRIT0 or THM_HCRIT1. -/
def State.hcritWrite (s : State) (second : Bool) (v : Word) : State :=
  (fins 48).foldl (fun s (p : Fin 48) =>
    if decide (32 ≤ p.val) == second && v.getLsbD (p.val % 32) then s.hcritClear p else s) s

/-- A write to the THM block; none where no rule of its own applies. TSn_LIM must be ordered (R399). -/
def State.thmWrite (s : State) (off : Nat) (v : Word) : Option (Resp × State) :=
  if off = 0x30 then some (.ok, s.hcritWrite false v)
  else if off = 0x34 then some (.ok, s.hcritWrite true v)
  else if 0x100 ≤ off ∧ off < 0x180 ∧ off % 8 = 0 then
    if field v 31 24 < field v 7 0 ∧ field v 7 0 ≤ field v 15 8 ∧ field v 15 8 ≤ field v 23 16 then none else some (.errUnit, s)
  else none

/-- THERM_TRIP_N is not asserted 5 ms after the decision: hardware asserts it (R404). -/
def State.tripTimeout (s : State) : State :=
  if s.boot.dieShut then { s with boot := { s.boot with thermTrip := true } } else s

end Sys2Proof.Machine
end

