-- ==== Sys2Proof/Machine/HirOps.lean ====
section
/-!
DEFINITION. What a head port does on commands and signals: the profile checks (R205), the status return (R207 to R209), presence
(R211), the head memory (R212 to R219), and retirement and return (R221 to R224).
-/
namespace Sys2Proof.Machine

/-! ## The HIR window (R213, R214) -/

/-- What an unwritten byte of the window reads as: its reset value. -/
def hirDefault : Nat → Byte := fun _ => 0

/-- A little-endian field of the record in a port's window. -/
def State.hir (s : State) (p : Fin 48) (off n : Nat) : Nat :=
  leNat ((List.range n).map (fun i => s.hps[p].hir.get hirDefault (off + i)))

/-- Bytes of the window. -/
def State.hirBytes (s : State) (p : Fin 48) (off n : Nat) : List Byte :=
  (List.range n).map (fun i => s.hps[p].hir.get hirDefault (off + i))

/-- Bytes put into the window. -/
def hirPut (t : Table Byte) (off : Nat) : List Byte → Table Byte
  | [] => t
  | b :: bs => hirPut (t.set hirDefault off b) (off + 1) bs

/-- BAD_COUNT of R213. -/
def State.hirBad (s : State) (p : Fin 48) : Nat := s.hir p 0x62 2

/-- Strictly ascending numbers below a bound. -/
def ascending (bound : Nat) : List Nat → Bool
  | [] => true
  | [a] => decide (a < bound)
  | a :: b :: t => decide (a < b ∧ a < bound) && ascending bound (b :: t)

/-- The ranges of R213 that VERDICT GEOMETRY tests. -/
def State.hirGeometry (s : State) (p : Fin 48) : Bool :=
  let n := s.hir p 0x20 2
  let set := s.hir p 0x22 1
  decide (1 ≤ n ∧ n ≤ 4096 ∧ 1 ≤ set ∧ set ≤ 7 ∧ (set = 4 → n ≤ 2048) ∧ 1 ≤ s.hir p 0x23 1 ∧ s.hir p 0x23 1 ≤ 3 ∧
    s.hir p 0x26 1 ≤ 4 ∧ s.hir p 0x27 1 ≤ 8 ∧ 1 ≤ s.hir p 0x2C 4 ∧ s.hir p 0x2C 4 ≤ 250000 ∧ 8 ≤ s.hir p 0x30 2 ∧
    s.hir p 0x30 2 ≤ 511 ∧ s.hir p 8 2 ≠ 0) &&
  ascending n ((List.range (s.hirBad p)).map (fun i => s.hir p (0x64 + 2 * i) 2))

/-- VERDICT of a complete read (R214): 1 PASS. -/
def State.hirVerdict (s : State) (p : Fin 48) : Nat :=
  let b := s.hirBad p
  if s.hir p 0 4 ≠ 0x56484952 then 3
  else if s.hir p 4 2 ≠ 1 then 4
  else if s.hir p 6 2 ≠ 0x66 + 2 * b ∨ 205 < b then 5
  else if (crc16 (s.hirBytes p 0 (0x64 + 2 * b))).toNat ≠ s.hir p (0x64 + 2 * b) 2 then 6
  else if !s.hirGeometry p then 7 else 1

/-- CAL of the window: 0 NONE, 1 OK, 2 BAD (R214). -/
def State.hirCal (s : State) (p : Fin 48) : Nat :=
  if s.hir p 0x200 4 ≠ 0x4C414356 then 0
  else if (crc16 (s.hirBytes p 0x200 62)).toNat = s.hir p 0x23E 2 then 1 else 2

/-- RANK_OK recomputed (R215). -/
def State.rankRefresh (s : State) (p : Fin 48) : State :=
  s.putB (HP_HIR_STAT_RANK_OK p) ((s.get (HP_RANK_REQ_VOL_MASK p)).testBit (s.hir p 0x1C 1) &&
    decide (s.get (HP_RANK_REQ_SPEED_MIN p) ≤ s.hir p 0x1D 1))

/-! ## Profile checks (R205) -/

/-- Checks 4 to 10 and 12: the profile against the record. -/
def State.profileCheck (s : State) (p : Fin 48) : Nat :=
  let n := s.nozzles p
  let bit := if s.bpn p = 1 then 0 else if s.bpn p = 2 then 1 else 2
  let sw := s.get (HP_TIMING_SW p)
  let lo := s.get (HP_STROBE_SW_MIN p)
  let hi := s.get (HP_STROBE_SW_MAX p)
  if n ≠ s.hir p 0x20 2 then 4
  else if (s.hir p 0x22 1).testBit bit = false ∨ (s.bpn p = 4 ∧ 2048 < n) then 5
  else if s.get (HP_GEOM_PAIRS p) ≠ s.hir p 0x23 1 then 6
  else if s.get (HP_LINK_BITPER p) < s.hir p 0x30 2 then 7
  else if s.get (HP_PROFILE_MAXRATE p) = 0 ∨ s.hir p 0x2C 4 < s.get (HP_PROFILE_MAXRATE p) then 8
  else if lo < s.hir p 0x34 2 ∨ s.hir p 0x36 2 < hi ∨ hi < lo ∨ sw < lo ∨ hi < sw then 9
  else if s.get (HP_TIMING_LSU p) < s.hir p 0x3A 2 then 10
  else if 8192 < s.get (HP_GEOM_PAIRS p) * s.shiftLen p then 11
  else if s.wselW p ≠ s.hir p 0x27 1 ∨ 2 ^ s.wselW p ≤ s.get (HP_PROFILE_WSEL p) then 12
  else 0

/-- Check 13: the temperature limits. -/
def State.tempCheck (s : State) (p : Fin 48) : Bool :=
  let w := s.get (HP_TLIM_WARN p)
  let l := s.get (HP_TLIM_LIMIT p)
  let c := s.get (HP_TLIM_CRIT p)
  let r := s.get (HP_TLIM_RESUME p)
  decide (r < w ∧ w ≤ l ∧ l ≤ c ∧ w ≤ s.hir p 0x3E 1 ∧ l ≤ s.hir p 0x3F 1 ∧ c ≤ s.hir p 0x40 1 ∧ r ≤ s.hir p 0x41 1)

/-- Check 14: the ports with EN = 1, this one counted once, fit R5. -/
def State.capacityCheck (s : State) (p : Fin 48) : Bool :=
  let on := (fins 48).filter (fun q => decide (q = p) || s.hpEn q)
  decide ((on.map (fun (q : Fin 48) => s.nozzles q)).sum ≤ 131072 ∧ (on.map (fun (q : Fin 48) => s.nozzles q * s.bpn q)).sum ≤ 262144)

/-- The checks of R205 in order: the first code that fails, 0 where all pass. -/
def State.enableCheck (s : State) (p : Fin 48) : Nat :=
  if !s.flag (HP_STAT_PRESENT p) then 1
  else if s.get (HP_HIR_STAT_VERDICT p) ≠ 1 ∨ s.flag (HP_HIR_STAT_FRESH p) = false then 2
  else if !s.flag (HP_HIR_STAT_RANK_OK p) then 3
  else if s.profileCheck p ≠ 0 then s.profileCheck p
  else if !s.tempCheck p then 13
  else if !s.capacityCheck p then 14
  else 0

/-- HPn_CTRL written (R205, R208): EN = 1 while EN is 0 is checked; clearing EN is never refused. -/
def State.hpCtrl (s : State) (p : Fin 48) (v : Word) : State :=
  let was := s.eligible p
  let s := s.put (HP_CTRL_ST_FLT p) (field v 1 1)
  let s :=
    if v.getLsbD 0 && !s.hpEn p then
      let c := s.enableCheck p
      let s := s.put (HP_HIR_STAT_CHECK p) c
      if c = 0 then s.set1 (HP_CTRL_EN p) else (s.set1 (HP_STAT_ENABLE_REFUSED p)).raise evHEAD_REFUSED p (value1 c)
    else if v.getLsbD 0 then s else s.clr (HP_CTRL_EN p)
  (s.faultRefresh p).thmElig p was

/-! ## Status return (R207, R208) -/

/-- The CRC-8 of a status word passes, and SYNC is right. -/
def statusOk (w : Word) : Bool :=
  decide (field w 31 30 = 2) &&
    decide ((crc8 [w.extractLsb' 24 8, w.extractLsb' 16 8, w.extractLsb' 8 8]).toNat = field w 7 0)

/-- Whether the port takes in a whole status word (R207): in ASYNC mode a frame whose stop bit is 1, in CLOCKED mode a word for which the
burst has 32 × ST_DIV bit periods. -/
def State.statusWhole (s : State) (p : Fin 48) (stop : Bool) : Bool :=
  if s.flag (HP_LINK_ST_FMT p) then decide (32 * s.get (HP_LINK_ST_DIV p) ≤ (s.hps[p].shift.map List.length).foldl max 0)
  else stop

/-- A status word (R208) with the stop bit of its frame; a retired port ignores it (R222). -/
def State.statusWord (s : State) (p : Fin 48) (w : Word) (stop : Bool) : State :=
  if s.retired p || !s.statusWhole p stop then s
  else if !statusOk w then (s.set1 (HP_STAT_ST_ERR p)).bump (HP_ST_CNT_ERR_CNT p)
  else
    let s := s.bump (HP_ST_CNT_OK_CNT p)
    if field w 29 28 ≠ 0 then s
    else
      let s := (s.wr (HP_ST_LAST p) w).modHp p (fun h => { h with stFault := w.getLsbD 15 || w.getLsbD 13 })
      (s.headReading p (sext 12 (field w 27 16))).faultRefresh p

/-- A status burst in CLOCKED mode: 32 × ST_DIV bit periods with every pair low (R207), while no line is loading and the outputs are
driven (R448); a retired port starts none (R222). -/
def State.statusBurst (s : State) (p : Fin 48) : State :=
  if s.flag (HP_LINK_ST_FMT p) && s.fsch.ports[p].shifting.isNone && !s.retired p && s.hpDriven p then
    s.startBurst p (List.replicate (s.get (HP_GEOM_PAIRS p)) (List.replicate (32 * s.get (HP_LINK_ST_DIV p)) false))
  else s

/-- No valid word for ST_TO ms on an eligible port (R209). -/
def State.headStLost (s : State) (p : Fin 48) : State :=
  if s.eligible p && !s.flag (HP_STAT_ST_LOST p) then s.stLost p else s

/-- HPn_FLT_N as filtered (R210). -/
def State.headFlt (s : State) (p : Fin 48) (low : Bool) : State := (s.modHp p (fun h => { h with fltPin := low })).faultRefresh p

/-! ## Retirement and presence (R211, R221 to R224) -/

/-- A page open on the port (R40). -/
def State.retireNow (s : State) (p : Fin 48) : State :=
  if s.portPageOpen p then
    (s.set1 (HP_SVC_STAT_PENDING p)).modHp p (fun h => { h with svc := some { ret := false, now := true, page := 0, line := 0, seen := true } })
  else
    let was := s.eligible p
    (s.retire p 0 0).thmElig p was

/-- HPn_PRS_N asserted (R211). -/
def State.headPresent (s : State) (p : Fin 48) : State :=
  if s.flag (HP_STAT_PRESENT p) then s
  else
    let was := s.eligible p
    (((s.set1 (HP_STAT_PRESENT p)).set1 (HP_STAT_PRS_CHG p)).raise evHEAD_PRESENT p 0).thmElig p was

/-- HPn_PRS_N deasserted (R211, R223, R224): the record is stale, the deskew is void, and a port that is not retired retires
itself and loses its permission. -/
def State.headLost (s : State) (p : Fin 48) : State :=
  if !s.flag (HP_STAT_PRESENT p) then s
  else
    let was := s.eligible p
    let s := ((s.clr (HP_STAT_PRESENT p)).set1 (HP_STAT_PRS_CHG p)).raise evHEAD_LOST p 0
    let s := ((s.clr (HP_HIR_STAT_FRESH p)).put (HP_HIR_STAT_VERDICT p) 0).clr (CAL_P_DESKEW_DESKEWED p)
    let s := (s.modHp p (fun h => { h with deskewed := false })).thmElig p was
    if s.retired p then s.dropReturn p 4 1 else (s.withdraw p false).retireNow p

/-- RESULT of the service command. -/
def State.svcResult (s : State) (p : Fin 48) (r : Nat) : State := s.put (HP_SVC_STAT_RESULT p) r

/-- The stated line is too late: its page is open on the port's sequencer and NB has passed the line (R221). -/
def State.svcLate (s : State) (p : Fin 48) (page : Word) (line : Nat) : Bool :=
  let q := s.sqs[sqOf p]
  q.pageOpen && decide (q.page = page ∧ line < q.nb[laneOf p])

/-- A command pending at the stated line. -/
def State.svcPend (s : State) (p : Fin 48) (ret : Bool) : State :=
  let page := s.rd (HP_SVC_PAGE p)
  let line := (s.rd (HP_SVC_LINE p)).toNat
  let seen := s.fsch.ports[p].pages.any (fun x => decide (x.page = page))
  ((s.svcResult p 0).set1 (HP_SVC_STAT_PENDING p)).modHp p (fun h =>
    { h with svc := some { ret := ret, now := false, page := page, line := line, seen := seen } })

/-- RETIRE (R221). -/
def State.svcRetire (s : State) (p : Fin 48) (now : Bool) : State :=
  if s.flag (HP_SVC_STAT_PENDING p) then s.svcResult p 2
  else if s.retired p then s.svcResult p 3
  else if now then (s.svcResult p 0).retireNow p
  else if s.svcLate p (s.rd (HP_SVC_PAGE p)) (s.rd (HP_SVC_LINE p)).toNat then s.svcResult p 1
  else s.svcPend p false

/-- RETURN (R224): its conditions in order. -/
def State.svcReturn (s : State) (p : Fin 48) : State :=
  let refuse := fun (c : Nat) => (s.put (HP_HIR_STAT_CHECK p) c).svcResult p 4
  if s.flag (HP_SVC_STAT_PENDING p) then s.svcResult p 2
  else if !s.retired p then s.svcResult p 3
  else if s.enableCheck p ≠ 0 then refuse (s.enableCheck p)
  else
    let s := s.put (HP_HIR_STAT_CHECK p) 0
    if !s.hps[p].deskewed then s.svcResult p 5
    else if !s.flag (HP_STAT_PERMIT p) then s.svcResult p 6
    else if s.svcLate p (s.rd (HP_SVC_PAGE p)) (s.rd (HP_SVC_LINE p)).toNat then s.svcResult p 1
    else s.svcPend p true

/-- CANCEL (R221). -/
def State.svcCancel (s : State) (p : Fin 48) : State :=
  if s.flag (HP_SVC_STAT_PENDING p) then
    ((s.clr (HP_SVC_STAT_PENDING p)).svcResult p 0).modHp p (fun h => { h with svc := none })
  else s

/-- HPn_SVC_CMD written. -/
def State.svcCmd (s : State) (p : Fin 48) (v : Word) : State :=
  match field v 1 0 with
  | 1 => s.svcRetire p (v.getLsbD 31)
  | 2 => s.svcReturn p
  | 3 => s.svcCancel p
  | _ => s

/-! ## The head memory (R214, R218, R219) -/

/-- The calibration section that WRITE_CAL writes: the port's fields and firmware's (R217). -/
def State.calSection (s : State) (p : Fin 48) : List Byte :=
  let writes := if s.get (HP_HIR_STAT_CAL p) = 1 then min 65535 (s.hir p 0x208 2 + 1) else 1
  let body := leBytes 4 0x4C414356 ++ leBytes 2 1 ++ leBytes 2 (s.get (MR_ID_CHIP_ID 0)) ++ leBytes 2 writes ++ leBytes 1 p.val ++
    leBytes 5 0 ++ leBytes 8 (s.nt.extractLsb' 16 64).toNat ++ s.hirBytes p 0x218 5 ++ leBytes 3 0 ++ s.hirBytes p 0x220 30
  body ++ leBytes 2 (crc16 body).toNat

/-- An I2C command written (R219): refused while one runs. -/
def State.i2cStart (s : State) (p : Fin 48) (op : Nat) : State :=
  if op ≠ 1 ∧ op ≠ 2 then s
  else if s.flag (HP_I2C_STAT_BUSY p) then s.put (HP_I2C_STAT_RESULT p) 6
  else
    let c := if op = 1 then I2cCmd.read else I2cCmd.write (s.calSection p)
    (s.set1 (HP_I2C_STAT_BUSY p)).modHp p (fun h => { h with i2c := some c })

/-- A READ_HIR ends: the window, VERDICT, CAL, FRESH, RANK_OK, and HIR_DONE (R214, R215). -/
def State.hirDone (s : State) (p : Fin 48) (result : Nat) (data : List Byte) : State :=
  let s := if result = 0 then s.modHp p (fun h => { h with hir := hirPut h.hir 0 (slice data 0 576) }) else s
  let s := (s.put (HP_HIR_STAT_VERDICT p) (if result = 0 then s.hirVerdict p else 2)).set1 (HP_HIR_STAT_FRESH p)
  let s := (s.put (HP_HIR_STAT_CAL p) (s.hirCal p)).rankRefresh p
  s.raise evHIR_DONE p (value2 (s.get (HP_HIR_STAT_VERDICT p)) (s.get (HP_HIR_STAT_CAL p)))

/-- The result of an I2C command whose transfers ended with a result: a write that came through is read back and compared (R218). -/
def I2cCmd.outcome (c : I2cCmd) (result : Nat) (data : List Byte) : Nat :=
  match c with
  | .read => result
  | .write sec => if result = 0 ∨ result = 5 then (if data.take 64 = sec then 0 else 5) else result

/-- An I2C command ends with the result of its transfers and the bytes read (R218, R219). -/
def State.i2cEnd (s : State) (p : Fin 48) (result : Nat) (data : List Byte) : State :=
  match s.hps[p].i2c with
  | none => s
  | some c =>
    let result := c.outcome result data
    let s := ((s.clr (HP_I2C_STAT_BUSY p)).put (HP_I2C_STAT_RESULT p) result).modHp p (fun h => { h with i2c := none })
    let s := s.raise evI2C_DONE p (value1 result)
    match c with
    | .read => s.hirDone p result data
    | .write sec =>
      if result = 0 then
        (s.modHp p (fun h => { h with hir := hirPut h.hir 0x200 sec })).put (HP_HIR_STAT_CAL p) 1
      else s

/-- A page write is not acknowledged within WR_TO ms. -/
def State.wrTimeout (s : State) (p : Fin 48) : State :=
  match s.hps[p].i2c with
  | some (.write _) => s.i2cEnd p 4 []
  | _ => s

/-! ## Registers (R204, R218) -/

/-- A profile register takes its stored form. -/
def profileForm (off : Nat) (v : Word) : Word :=
  match off with
  | 0x10 => if field v 21 20 = 0 then withField v 21 20 1 else v
  | 0x14 => if 250000 < field v 17 0 then withField v 17 0 250000 else v
  | 0x18 =>
    let v := if field v 31 24 < 8 then withField v 31 24 8 else v
    let v := if field v 23 20 = 0 then withField v 23 20 1 else v
    if field v 8 0 < 8 then withField v 8 0 8 else v
  | _ => v

/-- The bits of a profile register that hold fields. -/
def profileMask (off : Nat) : Word :=
  match off with
  | 0x10 => 0x0F331FFF#32
  | 0x14 => 0xFFF3FFFF#32
  | 0x18 => 0xFFF111FF#32
  | 0x5C => 0x0000FFFF#32
  | _ => 0xFFFFFFFF#32

/-- A write to a head port's block; none where no rule of its own applies. -/
def State.hpWrite (s : State) (p : Fin 48) (off : Nat) (v : Word) : Option (Resp × State) :=
  if off = 0 then some (.ok, s.hpCtrl p v)
  else if (0x10 ≤ off ∧ off ≤ 0x24) ∨ (0x40 ≤ off ∧ off < 0x60) then
    if s.hpEn p || s.portPageOpen p then some (.errUnit, s)
    else some (.ok, s.wr (HP_CTRL p + off) (profileForm off v &&& profileMask off))
  else if off = 0x60 then some (.ok, (s.wr (HP_RANK_REQ p) (v &&& 0x000FFFFF#32)).rankRefresh p)
  else if off = 0x70 then
    let v := if field v 15 8 = 0 then withField v 15 8 1 else v
    let v := if field v 7 0 = 0 then withField v 7 0 1 else v
    some (.ok, s.wr (HP_I2C_CTRL p) (v &&& 0x7F03FFFF#32))
  else if off = 0x74 then some (.ok, s.i2cStart p (field v 1 0))
  else if off = 0x80 then some (.ok, s.svcCmd p v)
  else if 0x800 ≤ off ∧ off < 0xA40 then
    if off < 0xA00 ∨ s.flag (HP_I2C_STAT_BUSY p) = true then some (.errUnit, s)
    else some (.ok, s.modHp p (fun h => { h with hir := hirPut h.hir (off - 0x800) (leBytes 4 v.toNat) }))
  else none

/-- A read of a head port's block that shows live state. -/
def State.hpRead (s : State) (p : Fin 48) (off : Nat) : Option Word :=
  if off = 4 then some (withField (s.rd (HP_STAT p)) 2 0 (s.hpState p))
  else if 0x800 ≤ off ∧ off < 0xA40 then some (BitVec.ofNat 32 (s.hir p (off - 0x800) 4))
  else none

end Sys2Proof.Machine
end

