-- ==== Sys2Proof/Machine/LinkOps.lean ====
section
/-!
DEFINITION. Millrace (R290 to R324): training, sessions, credits, acknowledgement and replay, the violations of R304, routing
and discovery, the standby's self-test and fail-over, and the registers of lanes and ports. Also RING0 and RING1 (R361 to
R364), which the ports feed.
-/
namespace Sys2Proof.Machine

/-! ## Credits (R301) -/

/-- Credits that a frame with a payload of `len` bytes needs. -/
def creditNeed (len : Nat) : Nat := (16 + len + 63) / 64

/-- Credits of a whole receive buffer (R299). -/
def creditFull (v : Fin 2) : Nat := if v = 0 then 512 else 64

/-- Credits available to send: the partner's cumulative grant minus those consumed, modulo 65,536. -/
def VcSess.avail (q : VcSess) : Nat :=
  let d := (q.granted + 65536 - q.consumed % 65536) % 65536
  if d < 32768 then d else 0

/-- Buffer space freed: credits granted back to the partner. -/
def State.creditBack (s : State) (p : Fin 4) (v : Fin 2) (n : Nat) : State :=
  if n = 0 then s
  else
    let s := s.modVc p v (fun q => { q with rxGranted := q.rxGranted + n })
    s.sendWord p 3 v ((s.vc p v).rxGranted % 65536)

/-- The bytes that a frame takes in the replay buffer: header, payload, padding and CRC. -/
def MFrame.size (f : MFrame) : Nat := 20 + padded f.payload.length

/-- The size of a replay buffer (R299). -/
def replayRoom (v : Fin 2) : Nat := if v = 0 then 65536 else 8192

/-! ## Sessions (R305) -/

/-- An empty session side. -/
def freshVc (v : Fin 2) (now : Nat) (queue : List QItem) : VcSess :=
  { txNext := 0, rxExp := 0, queue := queue, replay := [], resend := 0, granted := 0, consumed := 0, rxGranted := creditFull v,
    rxUsed := 0, held := [], sent := 0, tries := 0, progress := now, nak := none }

/-- Whether a queued frame occupies the receive buffer of a session's virtual channel. -/
def QItem.occupies (q : QItem) (i : Fin 3) (v : Fin 2) : Bool :=
  match q.from_ with
  | none => false
  | some (p, w) => decide (sessOf p = i ∧ w = v)

/-- The frames in the replay and receive buffers of a virtual channel, those waiting to be forwarded among them. -/
def State.buffered (s : State) (i : Fin 3) (v : Fin 2) : Nat :=
  let q := s.links.sess[i].vcs[v]
  q.replay.length + q.held.length +
    (s.links.sess.toList.map (fun t => (t.vcs.toList.map (fun w => (w.queue.filter (fun x => x.occupies i v)).length)).sum)).sum

/-- A session empties its replay and receive buffers and starts both virtual channels afresh (R305); `wait` says that it
waits for the partner's INIT. -/
def State.sessClear (s : State) (i : Fin 3) (wait : Bool) : State :=
  let ss := s.links.sess.map (fun t => { t with vcs := t.vcs.map (fun w =>
    { w with queue := w.queue.filter (fun x => !(x.occupies i 0 || x.occupies i 1)) }) })
  let q := ss[i]
  let s := { s with links := { s.links with sess := vset ss i { q with
    live := !wait, waitInit := wait, vcs := #v[freshVc 0 s.now q.vcs[0].queue, freshVc 1 s.now q.vcs[1].queue] } } }
  s

/-- Both virtual channels grant their whole receive buffers. -/
def State.grantAll (s : State) (p : Fin 4) : State :=
  (s.sendWord p 3 0 ((s.vc p 0).rxGranted % 65536)).sendWord p 3 1 ((s.vc p 1).rxGranted % 65536)

/-- A session reset begun here: frames lost are counted and reported, and INIT is sent (R305). -/
def State.sessReset (s : State) (p : Fin 4) : State :=
  let i := sessOf p
  let a := s.buffered i 0
  let b := s.buffered i 1
  let s := (s.bump (PX_CNT_HIGH p 5) (a + b)).raise evMR_SESSION_RESET p (value2 a b)
  (s.sessClear i true).sendWord p 5 0 0

/-! ## Violations (R304) -/

/-- A violation: its bit in Px_VIOL, its counter, and MR_VIOLATION with the port, the kind and SEQ. -/
def State.viol (s : State) (p : Fin 4) (kind : Nat) (counter : RegField) (seq : Nat) : State :=
  let s := if kind < 8 then s.putBit (PX_VIOL p) kind true else s
  (s.bump counter).raise evMR_VIOLATION p (value2 kind seq)

/-- A NAK, at most one each µs for the same expected number (R303). -/
def State.sendNak (s : State) (p : Fin 4) (v : Fin 2) : State :=
  let q := s.vc p v
  let soon := match q.nak with
    | none => false
    | some (e, t) => decide (e = q.rxExp ∧ s.now < t + 800)
  if soon then s else (s.modVc p v (fun q => { q with nak := some (q.rxExp, s.now) })).sendWord p 2 v q.rxExp

/-- The newest SEQ accepted is acknowledged (R302). -/
def State.sendAck (s : State) (p : Fin 4) (v : Fin 2) : State := s.sendWord p 1 v (((s.vc p v).rxExp + 4095) % 4096)

/-! ## Path failure and fail-over (R313, R317 to R320) -/

/-- A network port is STANDBY: in use, not active, and COLD or in its self-test (R313). -/
def State.isStandby (s : State) (p : Fin 4) : Bool :=
  decide (p.val < 2 ∧ p ≠ s.activePort ∧ (s.pxState p = pxCOLD ∨ s.pxState p = pxSELFTEST)) && s.flag (PX_CTRL_EN p)

/-- The Weir requester of a port (R380). -/
def linkReq (p : Fin 4) : Fin 32 := ⟨21 + p.val, by omega⟩

/-- The lanes of a port. -/
def lanesOf (p : Fin 4) : List Nat := [4 * p.val, 4 * p.val + 1, 4 * p.val + 2, 4 * p.val + 3]

/-- The lanes of a port have lost, or give up, their alignment: training starts at step 1 (R292). -/
def State.unalign (s : State) (p : Fin 4) : State :=
  (lanesOf p).foldl (fun s n => (s.clr (LN_STAT_ALIGNED n)).clr (LN_STAT_DESKEWED n)) s

/-- The lanes and the lane PLL of a port are powered down (R313, R314, R320). -/
def State.lanesOff (s : State) (p : Fin 4) : State := (s.unalign p).clr (LPLL_MON_LOCK p)

/-- A port becomes STANDBY: powered down, and tested within 1 ms (R313, R314). -/
def State.toStandby (s : State) (p : Fin 4) : State :=
  let s := (s.pxSet p pxCOLD).lanesOff p
  { s with links := { s.links with testDue := some s.now } }

/-- A fail-over is refused: the failed path retrains with its session intact (R318). -/
def State.failRefused (s : State) (result : Nat) : State :=
  let s := s.put (MR_PATH_STAT_RESULT 0) result
  (s.raise evMR_FAILOVER_REFUSED 0 (value1 result)).pxSet s.activePort pxTRAINING

/-- A fail-over begins: the failed port stops, the standby trains from the checkpoint, at its rate (R318, R319). -/
def State.failStart (s : State) : State :=
  let b := s.otherPort
  if !s.isStandby b then s.failRefused 3
  else
    let c := s.get (PX_HEALTH_INFO_CLASS b)
    if c = 2 then s.failRefused 1
    else if c = 3 then s.failRefused 2
    else
      let s := if c = 1 then s.raise evMR_FAILOVER_MARGINAL 0 0 else s
      let s := (s.weirRelease (linkReq b)).set1 (MR_PATH_STAT_IN_PROGRESS 0)
      let s := { s with links := { s.links with failAt := s.now, resumed := #v[false, false], testDue := none } }
      let s := (s.pxSet s.activePort pxFAILED).pxSet b pxTRAINING
      s.put (PX_CTRL_RATE b) s.links.ckpt.rate

/-- The active path fails with a cause (R317). -/
def State.pathFail (s : State) (cause : Nat) : State :=
  if s.flag (MR_PATH_STAT_IN_PROGRESS 0) then s
  else
    let s := (s.raise evMR_PATH_FAIL 0 (value1 cause)).pxSet s.activePort pxFAILED
    if s.flag (MR_PATH_CTRL_AUTO 0) || decide (cause = 3) then s.failStart else s

/-- The session runs on the new path: the ports swap roles, and the failed one powers down (R320). -/
def State.failDone (s : State) (result : Nat) : State :=
  let s := (s.pxSet s.activePort pxFAILED).lanesOff s.activePort
  let s := (s.putB (MR_PATH_STAT_ACTIVE 0) (!s.flag (MR_PATH_STAT_ACTIVE 0))).clr (MR_PATH_STAT_IN_PROGRESS 0)
  let s := (s.put (MR_PATH_STAT_RESULT 0) result).bump (MR_PATH_STAT_FO_CNT 0)
  s.raise evMR_FAILOVER_DONE 0 (value1 ((s.now - s.links.failAt) / 800))

/-- A CRC_ERR count on the active path; more than CRC_LIM within 1 ms fail the path (R317). -/
def State.crcCount (s : State) (p : Fin 4) : State :=
  let s := s.modLink p (fun l => { l with crcAt := (l.crcAt.filter (fun t => decide (s.now < t + 800000))) ++ [s.now] })
  if p.val < 2 ∧ p = s.activePort ∧ s.get (MR_PATH_CTRL_CRC_LIM 0) < (s.links.ports[p]).crcAt.length then s.pathFail 2 else s

/-! ## Discovery (R311, R312) -/

/-- A discovery message. -/
def State.discFrame (s : State) (msg nextId origin lastId : Nat) (ring : Bool) : MFrame :=
  s.ownFrame 5 0 ([BitVec.ofNat 8 msg, BitVec.ofNat 8 (b2n ring)] ++ leBytes 2 nextId ++ leBytes 2 origin ++ leBytes 2 lastId)

/-- The ID straps fix the chip's ID (R416). -/
def State.strapped (s : State) : Bool := s.flag SYS_STRAP_ID_FIX && !s.flag SYS_STRAP_ID_BAD

/-- The chip takes an ID: its strapped one, or the one offered (R311). -/
def State.takeId (s : State) (offered : Nat) : State :=
  let s := if s.strapped then (s.put (MR_ID_CHIP_ID 0) (s.get SYS_STRAP_ID)).put (MR_ID_SRC 0) 2
    else (s.put (MR_ID_CHIP_ID 0) offered).put (MR_ID_SRC 0) 1
  s.raise evMR_ID_SET 0 0

/-- A partner on D: the link is UP. -/
def State.hasD (s : State) : Bool := decide (s.pxState 3 = pxUP)

/-- Discovery starts here (R311). -/
def State.discStart (s : State) : State :=
  let s := ((s.clr (PX_STAT_RING_BREAK 3)).clr (MR_DISC_START 0)).takeId 1
  let s := s.put (MR_DISC_LAST_ID 0) 0
  if s.hasD then (s.put (MR_DISC_STATE 0) 2).linkSend 3 (s.discFrame 1 (s.chipId + 1) s.chipId 0 false)
  else (s.put (MR_DISC_STATE 0) 3).put (MR_DISC_LAST_ID 0) s.chipId

/-- DISCOVER arrives on U (R311). A chip that would get an ID past 0xFFD has none. -/
def State.discover (s : State) (nextId origin : Nat) : State :=
  if s.get (MR_DISC_STATE 0) = 2 ∧ origin = s.chipId then
    let s := (s.put (MR_DISC_STATE 0) 3).put (MR_DISC_LAST_ID 0) (nextId - 1)
    s.linkSend 3 (s.discFrame 2 0 origin (nextId - 1) true)
  else
    let s := s.clr (PX_STAT_RING_BREAK 3)
    if !s.strapped && decide (0xFFD < nextId) then ((s.put (MR_DISC_STATE 0) 4).put (MR_ID_CHIP_ID 0) 0).put (MR_ID_SRC 0) 0
    else
      let s := s.takeId nextId
      if s.hasD then s.linkSend 3 (s.discFrame 1 (s.chipId + 1) origin 0 false)
      else s.linkSend 2 (s.discFrame 2 0 origin s.chipId false)

/-- A RING1 descriptor ends with a status (R364). -/
def State.ring1End (s : State) (d : RingDesc) (status resp : Nat) : State :=
  let s := { s with dma := { s.dma with txBusy := false } }
  s.ringBack 1 d { status := status, resp := resp, side := 0, eal := 0, value := 0, param := 0, result := if status = 0 then d.count else 0 }

/-- A queued frame leaves its queue: the receive buffer it occupied is freed, and its RING1 descriptor written back (R303, R364). -/
def State.queueLeft (s : State) (x : QItem) : State :=
  let s := match x.from_ with
    | none => s
    | some (a, w) => s.creditBack a w (creditNeed x.frame.payload.length)
  match x.desc with
  | none => s
  | some d => s.ring1End d 0 0

/-- D becomes the ring break: frames queued there that it may not send are discarded as NO_ROUTE (R23, R312). -/
def State.breakSet (s : State) : State :=
  let s := s.set1 (PX_STAT_RING_BREAK 3)
  (fins 2).foldl (fun s v =>
    let q := (s.vc 3 v).queue
    let s := s.modVc 3 v (fun w => { w with queue := q.filter (fun x => !s.breakStops 3 x.frame.type) })
    (q.filter (fun x => s.breakStops 3 x.frame.type)).foldl (fun s x => (s.bump (PX_CNT_LOW 3 4)).queueLeft x) s) s

/-- DISC_END arrives (R311): toward U along a chain, on D round a ring. -/
def State.discEnd (s : State) (lastId origin : Nat) (ring : Bool) : State :=
  let s := s.put (MR_DISC_LAST_ID 0) lastId
  if ring then
    if s.chipId = lastId then s.breakSet else s.linkSend 3 (s.discFrame 2 0 origin lastId true)
  else if s.get (MR_DISC_STATE 0) = 2 ∧ origin = s.chipId then s.put (MR_DISC_STATE 0) 3
  else s.linkSend 2 (s.discFrame 2 0 origin lastId false)

/-- At power-up, D is UP and U has not trained within DISC_WAIT ms: the chip starts discovery (R311). -/
def State.discWait (s : State) : State :=
  if s.hasD && decide (s.pxState 2 ≠ pxUP ∧ s.get (MR_ID_SRC 0) = 0 ∧ s.get (MR_DISC_STATE 0) < 2) then s.discStart else s

/-! ## Routing (R309, R312) -/

/-- Where a frame goes: delivered here, and the ports it leaves on. -/
structure Route where
  here : Bool
  ports : List (Fin 4)
deriving DecidableEq, Repr

/-- The table of R309; `from_` is the port of arrival, none for a frame of RING1, which is routed as one from A or B except
for DST 0xFFE (R364). -/
def State.routeOf (s : State) (from_ : Option (Fin 4)) (dst : Nat) : Route :=
  let id := s.chipId
  let net : Bool := match from_ with
    | none => true
    | some p => decide (p.val < 2)
  if dst = 0 ∨ dst = id then { here := true, ports := [] }
  else if dst = 0xFFF then
    { here := true, ports := if net = true then [2, 3] else if from_ = some 2 then [3] else [2] }
  else if dst = 0xFFE then
    match from_ with
    | none => { here := false, ports := [if s.hasNet then s.activePort else 2] }
    | some p => { here := false, ports :=
        if net = true then [] else if s.hasNet then [s.activePort] else if p = 3 then [2] else [] }
  else if id < dst then { here := false, ports := if net = true ∨ from_ = some 2 then [3] else [] }
  else { here := false, ports := if net = true ∨ from_ = some 3 then [2] else [] }

/-- The copy of a frame that keeps its receive buffer of arrival and its descriptor: that on the first port in use, or on the first
(log 22). -/
def State.keeper (s : State) (ps : List (Fin 4)) : Option (Fin 4) := (ps.find? (fun (p : Fin 4) => s.flag (PX_CTRL_EN p))).or ps.head?

/-- A frame put on the ports of its route, where it waits for credits and for the link (R309). -/
def State.routeTo (s : State) (f : MFrame) (ps : List (Fin 4)) (from_ : Option (Fin 4 × Fin 2)) (desc : Option RingDesc) : State :=
  let k := s.keeper ps
  ps.foldl (fun s p => s.linkQueue p {
    frame := f, from_ := if some p = k then from_ else none, desc := if some p = k then desc else none }) s

/-- The ports of a route that really take the frame: a ring break discards it (R312). -/
def State.routeOpen (s : State) (r : Route) (type : Nat) : List (Fin 4) := r.ports.filter (fun p => !s.breakStops p type)

/-- NO_ROUTE counted where a ring break discards a frame routed to it (R312). -/
def State.routeBreaks (s : State) (r : Route) (type : Nat) : State :=
  r.ports.foldl (fun s (p : Fin 4) => if s.breakStops p type then s.bump (PX_CNT_LOW p 4) else s) s

/-! ## Local delivery (R308, R309) -/

/-- Whether a frame's type is known and matches its virtual channel. -/
def knownType (type : Nat) (v : Fin 2) : Bool := decide (1 ≤ type ∧ type ≤ 6 ∧ typeVc type = v)

/-- A discovery message from port `p`: DISCOVER comes on U, DISC_END on D along a chain and on U round a ring (R311). On another port it
does nothing (log 99). -/
def State.discMessage (s : State) (p : Fin 4) (b : List Byte) : State :=
  let ring := (leAt b 1 1).testBit 0
  if leAt b 0 1 = 1 then
    if p = 2 then s.discover (leAt b 2 2 % 4096) (leAt b 4 2 % 4096) else s
  else if p = (if ring then 2 else 3) then s.discEnd (leAt b 6 2 % 4096) (leAt b 4 2 % 4096) ring
  else s

/-- A frame delivered here: POS frames and discovery are handled by hardware, the others wait for RING0 in the receive
buffer with the credits they occupy. -/
def State.deliver (s : State) (p : Fin 4) (v : Fin 2) (credits : Nat) (f : MFrame) : State :=
  if f.type = 4 then (s.posFrame (posFrameOf f.payload)).creditBack p v credits
  else if f.type = 5 ∧ (leAt f.payload 0 1 = 1 ∨ leAt f.payload 0 1 = 2) then (s.discMessage p f.payload).creditBack p v credits
  else s.modVc p v (fun q => { q with held := q.held ++ [(credits, f)] })

/-- An accepted frame is delivered here, forwarded with one more hop, or discarded as NO_ROUTE (R309, R310). -/
def State.route (s : State) (p : Fin 4) (v : Fin 2) (credits : Nat) (f : MFrame) : State :=
  let r := s.routeOf (some p) f.dst
  let s := s.routeBreaks r f.type
  let out := s.routeOpen r f.type
  let far := decide (320 < f.hops + 1)
  let s := if (r.ports.isEmpty && !r.here) || (far && !out.isEmpty) then s.bump (PX_CNT_LOW p 4) else s
  let out := if far then [] else out
  let s := s.routeTo { f with hops := f.hops + 1 } out (some (p, v)) none
  let credits := if out.isEmpty then credits else 0
  if r.here then s.deliver p v credits f else s.creditBack p v credits

/-! ## Receiving (R302, R304) -/

/-- A lane of a port is in LOS. -/
def State.portLos (s : State) (p : Fin 4) : Bool := (lanesOf p).any (fun n => s.flag (LN_STAT_LOS_NOW n))

/-- Whether a port accepts frames on a virtual channel: UP, or resuming on a channel whose RESUME has come; no lane in LOS. -/
def State.accepts (s : State) (p : Fin 4) (v : Fin 2) : Bool :=
  (decide (s.pxState p = pxUP) || (decide (s.pxState p = pxRESUMING) && s.links.resumed[v])) &&
    s.links.sess[sessOf p].live && !s.portLos p

/-- A TIME frame that has come is stamped at its start (R157), a duplicate too. -/
def State.stampIn (s : State) (p : Fin 4) (f : RxFrame) : State :=
  if f.type = 3 then s.timeStamp p true f.fine.toNat (leAt f.payload 0 1) (leAt f.payload 2 2) else s

/-- An accepted frame on a port is seen there by the time unit, delivered here or not (R155). -/
def State.syncWatch (s : State) (p : Fin 4) (f : RxFrame) : State :=
  if f.type = 3 ∧ leAt f.payload 0 1 = 1 then s.syncSeen p (BitVec.ofNat 64 (leAt f.payload 8 8)) (leAt f.payload 2 2) else s

/-- A frame in sequence is accepted: acknowledged, and its content used, or discarded where the type is unknown. -/
def State.frameAccept (s : State) (p : Fin 4) (v : Fin 2) (f : RxFrame) : State :=
  let need := creditNeed f.len
  let s := s.modVc p v (fun q => { q with rxExp := (q.rxExp + 1) % 4096, rxUsed := q.rxUsed + need })
  let s := s.sendAck p v
  if knownType f.type v then
    if s.breakStops p f.type then (s.bump (PX_CNT_LOW p 4)).creditBack p v need
    else (s.syncWatch p f).route p v need (frameOf f)
  else (s.viol p 4 (PX_CNT_HIGH p 2) f.seq).creditBack p v need

/-- Code and disparity errors of received symbols counted by lane (R291). -/
def State.laneErrs (s : State) (p : Fin 4) (es : List (Fin 4 × Bool)) : State :=
  es.foldl (fun s (e : Fin 4 × Bool) =>
    let n := 4 * p.val + e.1.val
    if e.2 then s.bump (LN_ERR_CODE_ERR n) else s.bump (LN_ERR_DISP_ERR n)) s

/-- Whether a new frame may start: credits, at most 2,047 unacknowledged frames, room in the replay buffer (R299, R301,
R302). -/
def VcSess.mayStart (q : VcSess) (v : Fin 2) (f : MFrame) : Bool :=
  decide (creditNeed f.payload.length ≤ q.avail ∧ q.replay.length < 2047 ∧
    (q.replay.map (fun e => e.2.size)).sum + f.size ≤ replayRoom v)

/-- The port carries a session and is UP. -/
def State.sends (s : State) (p : Fin 4) : Bool :=
  decide (s.pxState p = pxUP ∧ (2 ≤ p.val ∨ p = s.activePort)) && s.links.sess[sessOf p].live

/-- A bad frame that a forwarder has started on an idle outgoing port, as soon as it had the header, ends there with K30.7: no sequence
number is used and no copy kept (R310). -/
def State.stompOut (s : State) (p : Fin 4) (f : RxFrame) : State :=
  let m := frameOf f
  let v := typeVc m.type
  if f.bytes.length < 16 ∨ 320 < m.hops + 1 then s
  else
    (s.routeOpen (s.routeOf (some p) m.dst) m.type).foldl (fun s q =>
      let x := s.vc q v
      if s.sends q && decide (x.resend = 0 ∧ x.queue = []) && x.mayStart v m then
        s.sendSymbols q (frameSymbols .k30_7 (({ m with hops := m.hops + 1 } : MFrame).body x.txNext))
      else s) s

/-- A whole frame arrives, on the virtual channel that its FLAGS name (R302, R304): the checks of R304 in the order stomped, oversize,
CRC, sequence, credits, type. -/
def State.frameReceived (s : State) (p : Fin 4) (f : RxFrame) : State :=
  let s := s.laneErrs p f.errs
  let v := f.vc
  if !s.accepts p v then s
  else if f.stomped then (s.viol p 1 (PX_CNT_HIGH p 4) f.seq).stompOut p f
  else if f.oversize then ((s.viol p 5 (PX_CNT_LOW p 2) f.seq).sendNak p v).stompOut p f
  else if f.crcOk = false then (((s.viol p 0 (PX_CNT_HIGH p 0) f.seq).sendNak p v).crcCount p).stompOut p f
  else
    let s := s.stampIn p f
    let q := s.vc p v
    let ahead := (f.seq + 4096 - q.rxExp) % 4096
    if ahead = 0 then
      if q.rxGranted < q.rxUsed + creditNeed f.len then (s.viol p 6 (PX_CNT_HIGH p 3) f.seq).sessReset p
      else s.frameAccept p v f
    else if ahead ≤ 2048 then ((s.viol p 2 (PX_CNT_LOW p 0) f.seq).sendNak p v).stompOut p f
    else ((s.viol p 3 (PX_CNT_HIGH p 1) f.seq).sendAck p v).stompOut p f

/-! ## Sending (R301 to R303) -/

/-- A frame goes out with its SEQ and its CRC (R297, R298); a TIME frame is stamped at its start, at a fine step that nothing fixes
(R157, log 1). -/
def State.emit (s : State) (p : Fin 4) (seq : Nat) (f : MFrame) : State :=
  let s := s.sendSymbols p (frameSymbols .k29_7 (f.wire seq))
  if f.type = 3 then s.advance.timeStamp p false (Config.freeNat s.free) (leAt f.payload 0 1) (leAt f.payload 2 2) else s

/-- A new frame enters the replay buffer and is sent: the buffer it came from is freed, and its RING1 descriptor written
back (R303, R364). -/
def State.sendNew (s : State) (p : Fin 4) (v : Fin 2) (x : QItem) (rest : List QItem) : State :=
  let q := s.vc p v
  let seq := q.txNext
  let need := creditNeed x.frame.payload.length
  let s := s.modVc p v (fun q => { q with
    queue := rest, replay := q.replay ++ [(seq, x.frame)], txNext := (seq + 1) % 4096, sent := q.sent + 1,
    consumed := (q.consumed + need) % 65536, progress := if q.replay.isEmpty then s.now else q.progress })
  (s.emit p seq x.frame).queueLeft x

/-- A port sends the next frame of a virtual channel: one to be replayed, or a new one; none where nothing may start. -/
def State.sendVc (s : State) (p : Fin 4) (v : Fin 2) : Option State :=
  let q := s.vc p v
  if q.resend ≠ 0 then
    match q.replay[q.replay.length - q.resend]? with
    | some (seq, f) => some ((s.modVc p v (fun q => { q with resend := q.resend - 1 })).emit p seq f)
    | none => none
  else match q.queue with
    | [] => none
    | x :: rest => if q.mayStart v x.frame then some (s.sendNew p v x rest) else none

/-- A queued frame starts: VC1 before VC0. No VC0 frame in progress is preempted, as R299 permits (log 73). -/
def State.frameTransmit (s : State) (p : Fin 4) : State :=
  if s.sends p then
    match s.sendVc p 1 with
    | some t => t
    | none => (s.sendVc p 0).getD s
  else s

/-- A replay from the frame with a number of newest frames, or a session reset after REPLAY_MAX replays without progress
(R303, R304). -/
def State.replayFrom (s : State) (p : Fin 4) (v : Fin 2) (n : Nat) : State :=
  let q := s.vc p v
  if s.get (PX_CTRL_REPLAY_MAX p) ≤ q.tries then
    (s.viol p 8 (PX_CNT_LOW p 3) ((q.replay.head?.map (fun e => e.1)).getD q.txNext)).sessReset p
  else (s.modVc p v (fun q => { q with resend := n, tries := q.tries + 1, progress := s.now })).bump (PX_CNT_LOW p 1)

/-- The frames of the replay buffer from a SEQ on; none where the buffer does not hold it. -/
def VcSess.fromSeq (q : VcSess) (seq : Nat) : List (Nat × MFrame) := q.replay.dropWhile (fun e => decide (e.1 ≠ seq))

/-- An ACK covers every frame up to a SEQ (R303); one that names a SEQ never sent resets the session (R304). -/
def State.ackWord (s : State) (p : Fin 4) (v : Fin 2) (seq : Nat) : State :=
  let q := s.vc p v
  if q.sent ≤ (q.txNext + 4095 - seq) % 4096 then (s.viol p 7 (PX_CNT_LOW p 3) seq).sessReset p
  else match q.fromSeq seq with
    | [] => s
    | _ :: t => s.modVc p v (fun q => { q with replay := t, resend := min q.resend t.length, tries := 0, progress := s.now })

/-- A NAK: every unacknowledged frame from its SEQ on is sent again (R303). -/
def State.nakWord (s : State) (p : Fin 4) (v : Fin 2) (seq : Nat) : State :=
  let t := (s.vc p v).fromSeq seq
  if t.isEmpty then s else s.replayFrom p v t.length

/-- REPLAY_TO µs have passed with frames outstanding and no ACK that advances (R303). -/
def State.replayTimeout (s : State) (p : Fin 4) (v : Fin 2) : State :=
  let q := s.vc p v
  if s.sends p && decide (q.replay ≠ [] ∧ s.get (PX_CTRL_REPLAY_TO p) * 800 ≤ s.now - q.progress) then s.replayFrom p v q.replay.length
  else s

/-- A CREDIT word (R300, R301). -/
def State.creditWord (s : State) (p : Fin 4) (v : Fin 2) (n : Nat) : State := s.modVc p v (fun q => { q with granted := n })

/-- RESUME on one virtual channel of the new path (R319): an ACK of every earlier SEQ, replay from it, fresh credits. When
both have come the session runs on the new path. A bad one resets the session there, and the ports swap roles all the same (log 100). -/
def State.resumeWord (s : State) (p : Fin 4) (v : Fin 2) (seq : Nat) : State :=
  if s.flag (MR_PATH_STAT_IN_PROGRESS 0) && decide (p = s.otherPort ∧ s.pxState p = pxRESUMING) then
    let q := s.vc p v
    if q.sent < (q.txNext + 4096 - seq) % 4096 then ((s.viol p 7 (PX_CNT_LOW p 3) seq).sessReset p).failDone 4
    else
      let left := if (q.txNext + 4096 - seq) % 4096 ≤ q.replay.length then
        q.replay.drop (q.replay.length - (q.txNext + 4096 - seq) % 4096) else q.replay
      let free := q.rxGranted - q.rxUsed
      let s := s.modVc p v (fun q => { q with
        replay := left, resend := left.length, tries := 0, progress := s.now, granted := 0,
        consumed := (left.map (fun e => creditNeed e.2.payload.length)).sum, rxGranted := free, rxUsed := 0 })
      let s := { s with links := { s.links with resumed := vset s.links.resumed v true } }
      let s := s.sendWord p 3 v (free % 65536)
      if s.links.resumed[0] && s.links.resumed[1] then (s.pxSet p pxUP).failDone 0 else s
  else s

/-- RESUME_TO µs pass without the partner's RESUME (R320): the session is reset on the new path. -/
def State.resumeTimeout (s : State) : State :=
  let p := s.otherPort
  if s.flag (MR_PATH_STAT_IN_PROGRESS 0) &&
      decide (s.pxState p = pxRESUMING ∧ s.get (MR_CFG_RESUME_TO 0) * 800 ≤ s.now - s.links.resumeAt) then
    (s.sessReset p).failDone 4
  else s

/-! ## Training and INIT (R292, R294, R305) -/

/-- The session of a port starts: SEQ 0 and fresh credits on both virtual channels; the link is UP. -/
def State.sessStart (s : State) (p : Fin 4) : State :=
  let s := ((s.sessClear (sessOf p) false).pxSet p pxUP).grantAll p
  if p = 3 ∧ s.pxState 2 ≠ pxUP ∧ s.get (MR_ID_SRC 0) = 0 ∧ s.get (MR_DISC_STATE 0) = 0 then s.put (MR_DISC_STATE 0) 1 else s

/-- An INIT word arrives: it completes an INIT exchange begun here, or begins a reset that this port answers (R305). -/
def State.initWord (s : State) (p : Fin 4) : State :=
  let i := sessOf p
  let q := s.links.sess[i]
  let st := s.pxState p
  if q.waitInit && decide (st = pxTRAINING ∨ st = pxUP ∨ st = pxRESUMING) then s.sessStart p
  else if q.live && decide (st = pxUP) then
    let a := s.buffered i 0
    let b := s.buffered i 1
    let s := (s.bump (PX_CNT_HIGH p 5) (a + b)).raise evMR_SESSION_RESET p (value2 a b)
    (s.sendWord p 5 0 0).sessStart p
  else s

/-- The lanes of a port have trained: status and CTLE of each lane (R292, R294). A standby that takes over uses the
checkpoint's settings (R319). -/
def State.lanesTrained (s : State) (p : Fin 4) (r : Vector LaneTrain 4) : State :=
  let fo := s.flag (MR_PATH_STAT_IN_PROGRESS 0) && decide (p = s.otherPort)
  (fins 4).foldl (fun s (j : Fin 4) =>
    let n := 4 * p.val + j.val
    let s := ((s.set1 (LN_STAT_ALIGNED n)).set1 (LN_STAT_DESKEWED n)).clr (LN_STAT_LOS_NOW n)
    if fo then s.put (LN_STAT_CTLE_SEL n) (s.links.ckpt.ctle[j])
    else if s.flag (LN_CTRL_CTLE_AUTO n) then
      match (r[j]).best with
      | some k => (s.put (LN_MARGIN_MARGIN n) ((r[j]).tries[k]).2.toNat).put (LN_STAT_CTLE_SEL n) k
      | none => ((s.put (LN_MARGIN_MARGIN n) ((r[j]).tries[8]).2.toNat).put (LN_STAT_CTLE_SEL n) 8).set1 (LN_STAT_CTLE_FAIL n)
    else s.put (LN_STAT_CTLE_SEL n) (s.get (LN_CTRL_CTLE n))) s

/-- A port has trained: a session kept intact goes on, a fail-over sends RESUME, otherwise INIT is sent (R292, R303, R319). -/
def State.linkTrained (s : State) (p : Fin 4) (r : Vector LaneTrain 4) : State :=
  if s.pxState p = pxTRAINING then
    let s := (s.lanesTrained p r).weirRelease (linkReq p)
    if s.flag (MR_PATH_STAT_IN_PROGRESS 0) && decide (p = s.otherPort) then
      let s := { s.pxSet p pxRESUMING with links := { s.links with resumeAt := s.now } }
      (s.sendWord p 4 0 (s.vc p 0).rxExp).sendWord p 4 1 (s.vc p 1).rxExp
    else if s.links.sess[sessOf p].live then s.pxSet p pxUP
    else (s.sessClear (sessOf p) true).sendWord p 5 0 0
  else s

/-- A port retrains with its session intact. -/
def State.retrain (s : State) (p : Fin 4) : State :=
  let st := s.pxState p
  if s.flag (PX_CTRL_EN p) && decide (st = pxUP ∨ st = pxTRAINING ∨ (st = pxFAILED ∧ p = s.activePort)) &&
      !s.flag (MR_PATH_STAT_IN_PROGRESS 0) then (s.pxSet p pxTRAINING).unalign p
  else s

/-- EN of a port set: it trains, or becomes the standby (R292, R313). Bring-up asks Weir for leave (R380); the manual makes no
step of training depend on it. -/
def State.portOn (s : State) (p : Fin 4) : State :=
  if p.val < 2 ∧ p ≠ s.activePort then s.toStandby p
  else
    let s := (s.modSess p (fun q => { q with live := false, waitInit := false })).pxSet p pxTRAINING
    s.weirRequest (linkReq p) 4 (s.get (PWR_RQ_CFG_PWR (linkReq p))) (s.get (PWR_RQ_CFG_MAXWAIT (linkReq p)))

/-- EN of a port cleared: it is off. -/
def State.portOff (s : State) (p : Fin 4) : State :=
  let s := s.weirRelease (linkReq p)
  let s := if s.isStandby p then { s with links := { s.links with testDue := none } } else s
  (s.pxSet p pxOFF).lanesOff p

/-- Px_CTRL written (R324). -/
def State.pxCtrl (s : State) (p : Fin 4) (v : Word) : Resp × State :=
  let old := s.rd (PX_CTRL p)
  let v := if 2 ≤ p.val ∧ field v 29 28 < 2 then withField v 29 28 2 else v
  if old.getLsbD 31 && decide (field v 29 28 ≠ field old 29 28) then (.errUnit, s)
  else
    let v := if field v 27 24 = 0 then withField v 27 24 1 else v
    let v := if field v 23 16 = 0 then withField v 23 16 1 else v
    let s := s.wr (PX_CTRL p) (v &&& 0xBFFF0000#32)
    let s := if v.getLsbD 31 && !old.getLsbD 31 then s.portOn p
      else if old.getLsbD 31 && !v.getLsbD 31 then s.portOff p else s
    (.ok, (if v.getLsbD 30 then s.retrain p else s).ckptSync)

/-! ## Lanes (R293, R295, R296) -/

/-- The port of a lane. -/
def portOfLane (ln : Fin 16) : Fin 4 := ⟨ln.val / 4, by omega⟩

/-- A lane declares loss of sync, and counts as not aligned (R293, log 102). -/
def State.losLane (s : State) (ln : Fin 16) : State :=
  let p := portOfLane ln
  let s := if s.flag (LN_STAT_LOS_NOW ln) then s
    else s.modLink p (fun l => { l with losAt := vset l.losAt ⟨ln.val % 4, by omega⟩ s.now })
  (((s.set1 (LN_STAT_LOS_NOW ln)).set1 (LN_STAT_LOS ln)).clr (LN_STAT_ALIGNED ln)).clr (LN_STAT_DESKEWED ln)

/-- Two alignment sets have come on a lane: it leaves LOS, aligned and deskewed (R293, log 102). -/
def State.losClear (s : State) (ln : Fin 16) : State :=
  if s.flag (LN_STAT_LOS_NOW ln) then ((s.clr (LN_STAT_LOS_NOW ln)).set1 (LN_STAT_ALIGNED ln)).set1 (LN_STAT_DESKEWED ln) else s

/-- LOS has lasted LOS_TIME µs on a lane of the active path (R317). -/
def State.losExpiry (s : State) (p : Fin 4) : State :=
  let due := (fins 4).any (fun (j : Fin 4) => s.flag (LN_STAT_LOS_NOW (4 * p.val + j.val)) &&
    decide (s.get (MR_PATH_CTRL_LOS_TIME 0) * 800 ≤ s.now - (s.links.ports[p]).losAt[j]))
  if p.val < 2 ∧ p = s.activePort ∧ s.pxState p ≠ pxFAILED ∧ s.flag (PX_CTRL_EN p) ∧ due = true then s.pathFail 1 else s

/-- Whether a port is UP and carries a session (R295). -/
def State.carries (s : State) (p : Fin 4) : Bool := decide (s.pxState p = pxUP) && s.links.sess[sessOf p].live

/-- A PRBS field in force: 3 is as 0 (R296). -/
def prbsMode (v : Nat) : Nat := if v = 3 then 0 else v

/-- The loopback and PRBS functions that a value of LNi_CTRL asks for. -/
def laneModes (v : Word) : Nat × Nat × Nat := (field v 9 8, prbsMode (field v 17 16), prbsMode (field v 19 18))

/-- The checker of a lane replaced. -/
def State.setPrbs (s : State) (ln : Fin 16) (c : PrbsCheck) : State :=
  s.modLink (portOfLane ln) (fun l => { l with prbs := vset l.prbs ⟨ln.val % 4, by omega⟩ c })

/-- LNi_CTRL written: loopback and PRBS functions are refused while the port carries a session (R295). A checker that is set anew starts
unlocked. -/
def State.lnCtrl (s : State) (ln : Fin 16) (v : Word) : Resp × State :=
  let old := laneModes (s.rd (LN_CTRL ln))
  let new := laneModes v
  if s.carries (portOfLane ln) && decide (new ≠ (0, 0, 0) ∧ new ≠ old) then (.errUnit, s)
  else
    let s := s.wr (LN_CTRL ln) (v &&& 0x0F8F0303#32)
    (.ok, if new.2.2 = 0 ∨ new.2.2 ≠ old.2.2 then
      (s.setPrbs ln { hist := 0, good := 0, errs := 0 }).clr (LN_STAT_PRBS_LOCK ln) else s)

/-- Bytes reach the PRBS checker of a lane: it locks after 32 without error and then counts wrong ones (R296). -/
def State.prbsLock (s : State) (ln : Fin 16) (got : List (Option Byte)) : State :=
  let m := prbsMode (s.get (LN_CTRL_PRBS_RX ln))
  if m = 0 then s
  else
    let c := (s.links.ports[portOfLane ln]).prbs[ln.val % 4]'(by omega)
    let d := got.foldl (PrbsCheck.take m) { c with errs := 0 }
    let s := (s.setPrbs ln { d with errs := 0 }).putB (LN_STAT_PRBS_LOCK ln) (decide (32 ≤ d.good))
    s.wr (LN_PRBS_ERR ln) (BitVec.ofNat 32 (satAdd 32 (s.rd (LN_PRBS_ERR ln)).toNat d.errs))

/-- LB_REQ and LB_END (R300): the partner's far-end loopback, not while the port carries a session (R295). -/
def State.loopback (s : State) (p : Fin 4) (lanes : BitVec 4) : State :=
  if s.carries p && decide (lanes ≠ 0) then s else s.modLink p (fun l => { l with farEnd := lanes })

/-! ## The standby's self-test (R314, R315) -/

/-- A port got its leave: its self-test runs, or it holds the leave while it trains (R380). -/
def State.linkGranted (s : State) (p : Fin 4) : State :=
  if s.isStandby p then s.pxSet p pxSELFTEST
  else if s.pxState p = pxTRAINING then s
  else s.weirRelease (linkReq p)

/-- The leave was refused: a self-test is skipped, and the previous report stays. -/
def State.linkRefused (s : State) (p : Fin 4) : State := if s.isStandby p then s.set1 (PX_HEALTH_INFO_SKIPPED p) else s

/-- The standby's self-test is due: it asks for leave. The next follows HEALTH_PERIOD seconds later, if any. -/
def State.selfTest (s : State) : State :=
  let p := s.otherPort
  let period := s.get (MR_PATH_CTRL_HEALTH_PERIOD 0)
  let due := match s.links.testDue with
    | none => false
    | some t => decide (t ≤ s.now)
  if due && s.isStandby p && decide (s.pxState p = pxCOLD) && !s.weirWaits (linkReq p) then
    let s := { s with links := { s.links with testDue := if period = 0 then none else some (s.now + period * 800000000) } }
    let s := s.weirRequest (linkReq p) 4 600 (period * 500000)
    if s.weirHolds (linkReq p) then s.linkGranted p
    else if s.weirWaits (linkReq p) then s
    else s.linkRefused p
  else s

/-- The class of a lane: 0 GOOD, 1 MARGINAL, 2 FAILED (R315). -/
def State.laneClass (s : State) (pllOk : Bool) (t : LaneTest) : Nat :=
  if !pllOk || !t.aligned || decide (t.errors ≠ 0 ∨ t.feErrors ≠ 0) then 2
  else if s.get (MR_CFG_MARGIN_GOOD 0) ≤ t.margin.toNat then 0
  else if s.get (MR_CFG_MARGIN_MIN 0) ≤ t.margin.toNat then 1 else 2

/-- The lane records of a HEALTH frame. -/
def State.healthLanes (s : State) (pllOk : Bool) (r : Vector LaneTest 4) : List Byte :=
  r.toList.flatMap (fun t => leBytes 2 (satNat 16 t.errors) ++ leBytes 2 (satNat 16 t.feErrors) ++
    leBytes 1 t.ctle.toNat ++ leBytes 1 t.margin.toNat ++ leBytes 1 (s.laneClass pllOk t) ++ leBytes 1 0)

/-- The self-test ends, its far-end exchange with it, which LB_REQ opens and LB_END closes where the partner answered: classes, report registers and the HEALTH frame; the standby is cold again (R314, R315). -/
def State.selfTestEnd (s : State) (pllOk feDone : Bool) (r : Vector LaneTest 4) : State :=
  let p := s.otherPort
  if s.pxState p = pxSELFTEST then
    let worst := (r.toList.map (s.laneClass pllOk)).foldl max 0
    let s := (fins 4).foldl (fun s (j : Fin 4) =>
      let t := r[j]
      let s := (s.put (PX_HEALTH_ERRORS p j) (satNat 16 (t.errors + t.feErrors))).put (PX_HEALTH_CTLE p j) t.ctle.toNat
      ((s.put (PX_HEALTH_CLASS p j) (s.laneClass pllOk t)).put (PX_HEALTH_MARGIN p j) t.margin.toNat).put
        (LN_MARGIN_MARGIN (4 * p.val + j.val)) t.margin.toNat) s
    let s := if pllOk then s.sendWord p 6 0 0xF else s
    let s := if pllOk && feDone then s.sendWord p 7 0 0 else s
    let s := s.modLink p (fun l => { l with tests := l.tests + 1 })
    let n := (s.links.ports[p]).tests
    let s := ((s.put (PX_HEALTH_INFO_TESTS p) n).putB (PX_HEALTH_INFO_FE_DONE p) feDone).put
      (PX_HEALTH_INFO_CLASS p) worst
    let s := { s with links := { s.links with ctle := r.map (fun (t : LaneTest) => t.ctle.toNat) } }
    let f := s.ownFrame 6 0xFFE ([1, BitVec.ofNat 8 p.val, BitVec.ofNat 8 worst,
      BitVec.ofNat 8 (b2n feDone + 2 * s.get (PX_HEALTH_INFO_SKIPPED p))] ++ leBytes 4 n ++
      leBytes 8 s.now ++ s.healthLanes pllOk r)
    (((s.linkSend s.activePort f).weirRelease (linkReq p)).pxSet p pxCOLD).lanesOff p
  else s

/-- The inactive path becomes STANDBY (R323). -/
def State.makeStandby (s : State) : State :=
  let p := s.otherPort
  if s.flag (PX_CTRL_EN p) && !s.flag (MR_PATH_STAT_IN_PROGRESS 0) && !s.isStandby p then s.toStandby p else s

/-- A period set while the standby waits for no test starts at the write (R314). -/
def State.healthDue (s : State) : State :=
  let period := s.get (MR_PATH_CTRL_HEALTH_PERIOD 0)
  if s.links.testDue.isNone && s.isStandby s.otherPort && decide (period ≠ 0) then
    { s with links := { s.links with testDue := some (s.now + period * 800000000) } }
  else s

/-- MR_PATH_CTRL written (R317, R323). -/
def State.mrPathCtrl (s : State) (v : Word) : State :=
  let v' := if field v 15 8 = 0 then withField v 15 8 1 else v
  let s := s.wr (MR_PATH_CTRL 0) (v' &&& 0x40FFFFFF#32)
  let s := s.healthDue
  let s := if v.getLsbD 29 then s.makeStandby else s
  let s := if v.getLsbD 31 then s.pathFail 3 else s
  s.ckptSync

/-- A write to a port's block; none where no rule of its own applies. The MR registers stand in port A's block (R324). -/
def State.pxWrite (s : State) (p : Fin 4) (off : Nat) (v : Word) : Option (Resp × State) :=
  match off with
  | 0x00 => some (s.pxCtrl p v)
  | 0x804 => if p = 0 then some (.ok, if v.getLsbD 31 then s.discStart.ckptSync else s) else none
  | 0x808 =>
    if p = 0 then
      if s.flag (MR_PATH_STAT_IN_PROGRESS 0) then some (.errUnit, s)
      else some (.ok, s.wr (MR_CFG 0) (if field v 31 24 = 0 then withField v 31 24 1 else v))
    else none
  | 0x810 => if p = 0 then some (.ok, s.mrPathCtrl v) else none
  | _ => none

/-- A read of a port's block that shows live state. -/
def State.pxRead (s : State) (p : Fin 4) (off : Nat) : Option (Word × State) :=
  let seq := fun (v : Fin 2) => BitVec.ofNat 32 ((s.vc p v).txNext * 65536 + (s.vc p v).rxExp)
  match off with
  | 0x08 => some (seq 0, s)
  | 0x0C => some (seq 1, s)
  | 0x10 => some (BitVec.ofNat 32 ((s.vc p 0).avail * 65536 + (s.vc p 1).avail), s)
  | 0x814 =>
    if p = 0 then
      let b := s.otherPort
      some (setBit (s.rd (MR_PATH_STAT 0)) 30 (s.isStandby b && decide (s.get (PX_HEALTH_INFO_CLASS b) < 2)), s)
    else none
  | _ => none

/-! ## RING0 and RING1 (R361 to R364) -/

/-- The first frame held for RING0 on a virtual channel that a test picks is taken out, and its credits go back. -/
def State.takeHeld (s : State) (p : Fin 4) (v : Fin 2) (pick : MFrame → Bool) : Option (MFrame × State) :=
  let q := s.vc p v
  match q.held.find? (fun e => pick e.2) with
  | none => none
  | some (n, f) =>
    some (f, (s.modVc p v (fun q => { q with held := q.held.eraseP (fun e => pick e.2) })).creditBack p v n)

/-- A container of RING0 closes: its descriptor is written back (R361, R362). -/
def State.rxClose (s : State) (c : RxCont) (status resp : Nat) : State :=
  let s := { s with dma := { s.dma with rx := s.dma.rx.filter (fun x => decide (x.src ≠ c.src ∨ x.tag ≠ c.tag)) } }
  let s := s.ringBack 0 c.desc {
    status := status, resp := resp, side := b2n (decide (status = 1)), eal := 0, value := c.tag.toNat, param := c.src + 0x10000,
    result := c.got }
  if status = 0 then s
  else s.raise evDMA_RX_BAD c.src (value2 c.tag.toNat status)

/-- A slice placed in its open container (R361, R362); none while memory waits. -/
def State.rxSlice (s : State) (c : RxCont) (data : List Byte) (last : Bool) : Option State :=
  if c.desc.count < c.got + data.length then some (s.rxClose c 6 0)
  else match s.dmaWrite (data.length / 64 + 2) (c.desc.dst + c.got) data 0 with
    | none => none
    | some (none, s) =>
      let c := { c with got := c.got + data.length }
      some <| if last then s.rxClose c 0 0
      else { s with dma := { s.dma with rx := s.dma.rx.map (fun x => if x.src = c.src ∧ x.tag = c.tag then c else x) } }
    | some (some e, s) =>
      let s := if e.last then s else s.dmaUndefined (c.desc.dst + c.got) e.ofs [(0, data)]
      some (s.rxClose { c with got := c.got + e.ofs } 1 e.resp.code)

/-- The container open for a sender and a tag. -/
def State.rxFind (s : State) (src : Nat) (tag : Word) : Option RxCont :=
  s.dma.rx.find? (fun x => decide (x.src = src ∧ x.tag = tag))

/-- A container open for the same sender and tag closes with SLICE_ERR when a new one begins (R362). -/
def State.rxReplace (s : State) (src : Nat) (tag : Word) : State :=
  match s.rxFind src tag with
  | some c => s.rxClose c 5 0
  | none => s

/-- The first DATA frame held by a port leaves the receive buffer. -/
def State.dropHeld (s : State) (p : Fin 4) : State :=
  match s.takeHeld p 0 (fun f => f.type = 1) with
  | none => s
  | some (_, s) => s

/-- RING0 takes the next DATA frame that a port holds (R361, R362). An opening slice without an owned descriptor stays in
the receive buffer. -/
def State.dataSlice (s : State) (p : Fin 4) : State :=
  match (s.vc p 0).held.find? (fun e => e.2.type = 1) with
  | none => s
  | some (_, f) =>
    let tag := BitVec.ofNat 32 (leAt f.payload 0 4)
    let ofs := leAt f.payload 4 3
    let last := (leAt f.payload 7 1).testBit 0
    let data := f.payload.drop 8
    if ofs = 0 then
      let s := s.rxReplace f.src tag
      if 8 ≤ s.dma.rx.length then (s.dropHeld p).bump (RING_CNT_DROP 0)
      else match s.ringTake 0 with
        | (none, s) => s
        | (some d, s) =>
          let c : RxCont := { src := f.src, tag := tag, desc := d, got := 0 }
          let t := (s.dropHeld p).ringAdvance 0
          (({ t with dma := { t.dma with rx := t.dma.rx ++ [c] } } : State).rxSlice c data last).getD s
    else
      let t := s.dropHeld p
      match t.rxFind f.src tag with
      | none => t.bump (RING_CNT_DROP 0)
      | some c => if ofs = c.got then (t.rxSlice c data last).getD s else t.rxClose c 5 0

/-- The bytes of a frame as the frame ring stores it: header and payload (R363). -/
def MFrame.bytes (f : MFrame) : List Byte :=
  leBytes 1 f.type ++ leBytes 1 f.flags ++ leBytes 2 f.payload.length ++ leBytes 2 f.dst ++ leBytes 2 f.src ++ leBytes 2 0 ++
    leBytes 2 f.hops ++ leBytes 4 0 ++ f.payload

/-- RING0 writes another local frame to the frame ring, or drops it (R363). -/
def State.localFrame (s : State) (p : Fin 4) : State :=
  let got := match s.takeHeld p 1 (fun _ => true) with
    | some x => some x
    | none => s.takeHeld p 0 (fun f => !decide (f.type = 1))
  match got with
  | none => s
  | some (f, t) =>
    let bs := f.bytes
    let param := f.src + f.type * 65536
    match t.ringTake 4 with
    | (none, t) =>
      if t.flag (RING_CFG_EN 4) && !t.dma.asleep[4] then s
      else (t.bump (RING_CNT_DROP 4)).raise evDMA_RX_DROP 0 (value2 f.type f.src)
    | (some d, t) =>
      let n := min bs.length d.count
      match (t.ringAdvance 4).dmaWrite (n / 64 + 2) d.dst (bs.take n) 0 with
      | none => s
      | some (none, s) =>
        let st := if d.count < bs.length then 6 else 0
        s.ringBack 4 d { status := st, resp := 0, side := 0, eal := 0, value := 0, param := param, result := n }
      | some (some e, s) =>
        let s := if e.last then s else s.dmaUndefined d.dst e.ofs [(0, bs.take n)]
        s.ringBack 4 d { status := 1, resp := e.resp.code, side := 1, eal := b2n e.last, value := 0, param := param, result := e.ofs }

/-- A frame of RING1 routed (R364): the descriptor waits until the frame enters a replay buffer, and is written back at once
where the frame enters none. -/
def State.egressRoute (s : State) (d : RingDesc) (f : MFrame) : State :=
  let named : Route := { here := false, ports := [finOf 4 (by decide) (field d.param 1 0)] }
  let r := if f.dst = 0 then named else s.routeOf none f.dst
  let s := s.routeBreaks r f.type
  let out := s.routeOpen r f.type
  let s := { s with dma := { s.dma with txBusy := !out.isEmpty } }
  let s := if r.here then s.deliver 0 (typeVc f.type) 0 f else s
  if out.isEmpty then s.ring1End d 0 0 else s.routeTo f out none (some d)

/-- RING1 sends the frame of an owned descriptor (R364); one frame at a time waits for its port. -/
def State.egressFrame (s : State) : State :=
  if s.dma.txBusy then s
  else match s.ringTake 1 with
    | (none, s) => s
    | (some d, s) =>
      match s.dmaRead (d.count / 64 + 2) d.src d.count 0 [] with
      | none => s
      | some (_, some e, s) => (s.ringAdvance 1).ring1End d 1 e.resp.code
      | some (bs, none, s) =>
        let s := s.ringAdvance 1
        if d.count < 16 ∨ d.count ≠ 16 + leAt bs 2 2 then s.ring1End d 4 0
        else s.egressRoute d {
          type := leAt bs 0 1, flags := leAt bs 1 1, dst := leAt bs 4 2 % 4096, src := s.chipId, hops := 0, payload := bs.drop 16 }

end Sys2Proof.Machine
end

