-- ==== Sys2Proof/Machine/PowOps.lean ====
section
/-!
DEFINITION. The Governor's step and outputs (R368 to R377), Weir's requesters and decisions (R380 to R383), Toll's windows (R384,
R386), and the registers of GOV and PWR (R387).
-/
namespace Sys2Proof.Machine

/-! ## Runway (R368, R370) -/

/-- isqrt of R370, bit by bit from bit `b` down. -/
def isqrtFrom : Nat → Nat → Nat → Nat
  | 0, _, r => r
  | b + 1, n, r => isqrtFrom b n (if (r + 2 ^ b) * (r + 2 ^ b) ≤ n then r + 2 ^ b else r)

/-- isqrt of R370: the floor of the square root of a number below 2^128. -/
def isqrt (n : Nat) : Nat := isqrtFrom 64 n 0

/-- ceil_rw of R370: Q16.16 mm/s. -/
def ceilRw (rw margin lpitch lat decel : Nat) : Nat :=
  if rw ≤ margin then 0
  else
    let x := (rw - margin) * lpitch
    let q := lat * lat + 2000000 * x / decel
    let r := isqrt (q * 2 ^ 32)
    min ((r - lat * 65536) * decel / 1000000) 0xFFFFFFFF

/-- Whether a sequencer is counted (R368): its mask bit, a page open, and lines left to build or a job waiting. -/
def State.govCounted (s : State) (k : Fin 12) : Bool :=
  let q := s.sqs[k]
  (s.get GOV_CTRL_SQ_MASK).testBit k && q.pageOpen &&
    ((fins 4).any (fun (j : Fin 4) => q.pmask.getLsbD j && decide (q.nb[j] < q.lines.toNat)) || !q.jobs.isEmpty)

/-- LEN − USED of the descriptors that an engine owns and has not written back: from the ring index on, at most `n`. -/
def State.hopperOf (s : State) (e : Fin 16) : Nat → Nat → Nat
  | 0, _ => 0
  | n + 1, i =>
    let size := 8 * 2 ^ field (s.rd (engReg e 0x10)) 2 0
    let a := (s.rd64 (engReg e 0x08) (engReg e 0x0C)).toNat % 2 ^ 40 / 16 * 16 + 16 * (i % size)
    let bs := s.bytes a 16
    if (leAt bs 12 4).testBit 31 then (leAt bs 5 3 - leAt bs 8 4) + State.hopperOf s e n (i + 1) else 0

/-- HOPPER_BYTES of R368. -/
def State.hopperBytes (s : State) (k : Fin 12) : Nat :=
  match s.feeder k with
  | none => 0
  | some e =>
    let taken := (s.engines[e].conts.map (fun (c : Cont) => leAt (s.bytes c.desc 16) 5 3 - leAt (s.bytes c.desc 16) 8 4)).sum
    taken + s.hopperOf e (8 * 2 ^ field (s.rd (engReg e 0x10)) 2 0) (field (s.rd (engReg e 0x14)) 15 0)

/-- STREAM_BYTES of R368: decoded bytes in the 16 KiB stream buffer. -/
def State.streamBytes (s : State) (k : Fin 12) : Nat :=
  match s.feeder k with
  | none => 0
  | some e => min 16384 (s.undelivered e)

/-- RW[k] of R368. A page whose ports hold no line data (LB = 0) has no stated runway: a free value. -/
def State.runway (s : State) (k : Fin 12) : Nat :=
  let q := s.sqs[k]
  let js := lanes q.pmask
  let b := js.foldl (fun m (j : Fin 4) => min m (64 - q.freeAt j)) 64
  let lb := (js.map (fun (j : Fin 4) => s.lineBytes (portOf k j))).sum
  if lb = 0 then s.freeWord.toNat
  else min (b + s.streamBytes k / lb + s.hopperBytes k * s.get (GOV_CR_CR k) / 256 / lb) 0xFFFFFFFE

/-! ## The Governor's step (R371, R372, R374, R375, R377) -/

/-- A cap of the target, by its CAUSE bit. -/
abbrev Caps := List (Nat × Nat)

/-- The runways written to GOV_RWk. -/
def State.govRunways (s : State) : State :=
  (fins 12).foldl (fun s (k : Fin 12) =>
    s.wr (GOV_RW k) (if s.govCounted k then BitVec.ofNat 32 (s.runway k) else 0xFFFFFFFF#32)) s.advance

/-- The counted sequencer with the lowest ceiling, lowest number on a tie. -/
def State.govLimit (s : State) : Option (Nat × Nat) :=
  (fins 12).foldl (fun best (k : Fin 12) =>
    if s.govCounted k then
      let c := ceilRw (s.rd (GOV_RW k)).toNat (s.get GOV_LAT_MARGIN) (s.get GOV_LPITCH_LPITCH) (s.get GOV_LAT_LAT) (s.get GOV_DRIVE_DECEL)
      match best with
      | none => some (k.val, c)
      | some (j, d) => if c < d then some (k.val, c) else some (j, d)
    else best) none

/-- The head rate cap: the least over the ports with EN = 1. -/
def State.headRateCap (s : State) : Caps :=
  let l := (fins 48).filterMap (fun (p : Fin 48) =>
    if s.hpEn p then some (s.get (HP_PROFILE_MAXRATE p) * s.get GOV_LPITCH_LPITCH * 65536 / 1000000) else none)
  match l with
  | [] => []
  | a :: t => [(1, t.foldl min a)]

/-- A slow cause whose hold has ended is forgotten (R372). -/
def State.govHold (s : State) (i : Fin 3) : State :=
  let c := s.gov.causes[i]
  match c.ended with
  | none => s
  | some e =>
    if !c.active && decide (s.get GOV_SLOW_HOLD * 100 ≤ s.gov.steps - e) then
      s.setCause i { active := false, cap := none, lowered := c.lowered, ended := none }
    else s

/-- The caps of the slow causes. -/
def State.slowCaps (s : State) : Caps :=
  (fins 3).filterMap (fun (i : Fin 3) => (s.gov.causes[i]).cap.map (fun c => (2 + i.val, c)))

/-- Every cap of R371 in force. -/
def State.govCaps (s : State) : Caps :=
  let rw := match s.govLimit with
    | none => []
    | some (_, c) => [(0, c)]
  let force := if s.flag GOV_CTRL_FORCE_STOP || (s.flag GOV_STAT_NONCOMPLIANT && s.flag GOV_CTRL_NC_STOP) then [(6, 0)] else []
  rw ++ s.headRateCap ++ s.slowCaps ++ [(5, (s.rd GOV_SPDMAX).toNat)] ++ force

/-- STOP_N, SLOW_N and the PWM code (R374, R375). -/
def State.govOutputs (s : State) : State :=
  let req := (s.rd GOV_REQ).toNat
  let stop := decide (req = 0) || !s.flag GOV_CTRL_EN
  let slow := stop || decide (req + s.get GOV_SLOW_SLOW_BAND * 65536 < (s.rd GOV_SPEED).toNat)
  let s := (s.putB GOV_STAT_STOP stop).putB GOV_STAT_SLOW slow
  let code := if s.flag GOV_PWM_EN && s.flag GOV_CTRL_EN then min 1023 (req * 1024 / (s.get GOV_PWM_FULL * 65536)) else 0
  { s with gov := { s.gov with pwmCode := code } }

/-- The envelope and the noncompliance episode (R377). -/
def State.govComply (s : State) : State :=
  let sp := (s.rd GOV_SPEED).toNat
  let back := s.gov.reqs.getD ((s.get GOV_LAT_LAT + 9) / 10) 0
  let env := max back (s.gov.env - s.get GOV_DRIVE_DECEL * 65536 / 100000)
  let s := { s with gov := { s.gov with env := env } }
  if env + s.get GOV_COMPLY_TOL * 65536 < sp then
    let since := s.gov.overSince.getD s.gov.steps
    let s := { s with gov := { s.gov with overSince := some since } }
    if !s.gov.reported && decide (s.get GOV_COMPLY_TIME * 100 ≤ s.gov.steps - since) then
      let lag := (s.gov.steps - since) / 100
      let ex := (sp - env) / 65536
      let s := (s.set1 GOV_STAT_NONCOMPLIANT).wr GOV_LAG (value2 lag ex)
      ({ s with gov := { s.gov with reported := true } } : State).raise evDRIVE_NONCOMPLIANT 0 (value2 lag ex)
    else s
  else { s with gov := { s.gov with overSince := none, reported := false } }

/-- The 10 µs step of the Governor (R371), while EN = 1. -/
def State.govStep (s : State) : State :=
  if s.flag GOV_CTRL_EN then
    let s := { s with gov := { s.gov with steps := s.gov.steps + 1 } }
    let sp := s.measured
    let s := (s.wr GOV_SPEED (BitVec.ofNat 32 sp)).put GOV_LINE_HZ_LINE_HZ (min (2 ^ 18 - 1) (s.lineHz sp))
    let s := (fins 3).foldl (fun s (i : Fin 3) => s.govHold i) s.govRunways
    let caps := s.govCaps
    let target : Nat := (caps.map (fun (c : Nat × Nat) => c.2)).foldl min 0xFFFFFFFF
    let cause := caps.foldl (fun (n : Nat) (c : Nat × Nat) => if c.2 = target then n ||| 2 ^ c.1 else n) 0
    let s := (s.put GOV_STAT_CAUSE cause).put GOV_STAT_LIMIT_SQ ((s.govLimit.map (fun x => x.1)).getD 15)
    let old := (s.rd GOV_REQ).toNat
    let req := if target ≤ old then target else min target (old + s.get GOV_DRIVE_ACCEL * 65536 / 100000)
    let s := s.wr GOV_REQ (BitVec.ofNat 32 req)
    let s := { s with gov := { s.gov with reqs := (req :: s.gov.reqs).take 6555 } }
    s.govComply.govOutputs
  else s

/-- EN of the Governor set: REQ starts at 0 and E at the measured speed (R371, R377). -/
def State.govOn (s : State) : State :=
  let sp := s.measured
  let s := (s.wr GOV_REQ 0).wr GOV_SPEED (BitVec.ofNat 32 sp)
  ({ s with gov := { s.gov with env := sp, reqs := [0], overSince := none, reported := false, spdSeq := 0 } } : State).govOutputs

/-- GOV_CTRL written (R387). -/
def State.govCtrl (s : State) (v : Word) : Resp × State :=
  let was := s.flag GOV_CTRL_EN
  if v.getLsbD 31 && decide (s.get GOV_LPITCH_LPITCH = 0) then (.errUnit, s)
  else
    let s := s.wr GOV_CTRL (v &&& 0xE0003FFF#32)
    (.ok, if v.getLsbD 31 && !was then s.govOn else if !v.getLsbD 31 && was then s.govOutputs else s)

/-- MIN_RW of R373. -/
def State.minRw (s : State) : Nat := (fins 12).foldl (fun m (k : Fin 12) => min m (s.rd (GOV_RW k)).toNat) 0xFFFFFFFF

/-- The SPDREQ frame of every 100 µs (R373). -/
def State.spdReq (s : State) : State :=
  if s.flag GOV_CTRL_EN then
    let flags := s.get GOV_STAT_SLOW + 2 * s.get GOV_STAT_STOP + 4 * s.get GOV_STAT_NONCOMPLIANT
    let f := s.ownFrame 2 0xFFE (leBytes 4 1 ++ leBytes 4 (s.rd GOV_REQ).toNat ++ leBytes 4 (s.rd GOV_SPEED).toNat ++ leBytes 4 s.minRw ++
      leBytes 2 s.gov.spdSeq.toNat ++ leBytes 1 flags ++ leBytes 1 (s.get GOV_STAT_CAUSE) ++ leBytes 4 0)
    ({ s with gov := { s.gov with spdSeq := s.gov.spdSeq + 1 } } : State).sendNet f
  else s

/-- A write to the GOV block; none where no rule of its own applies. -/
def State.govWrite (s : State) (off : Nat) (v : Word) : Option (Resp × State) :=
  let one := fun (hi lo : Nat) (v : Word) => if field v hi lo = 0 then withField v hi lo 1 else v
  match off with
  | 0x00 => some (s.govCtrl v)
  | 0x04 => some (.ok, s.wr GOV_DRIVE (one 31 16 (one 15 0 v)))
  | 0x18 => some (.ok, s.wr GOV_PWM (one 23 16 (one 15 0 v) &&& 0xC0FFFFFF#32))
  | 0x1C => some (.ok, s.wr GOV_COMPLY (one 15 0 v))
  | _ => none

/-! ## Weir's requesters (R380 to R383) -/

/-- Class, power and maximum wait of a requester's request (R380); none for number 27. -/
def State.weirParams (s : State) (r : Fin 32) : Option (Nat × Nat × Nat) :=
  let cfg := fun (c : Nat) => some (c, s.get (PWR_RQ_CFG_PWR r), s.get (PWR_RQ_CFG_MAXWAIT r))
  if h : r.val < 16 then some (s.engClass ⟨r.val, h⟩, s.get (DCE_WEIR_PWR r), s.get (DCE_WEIR_MAXWAIT r))
  else if r.val < 18 then some (7, s.get (CMP_WEIR_PWR (r.val - 16)), s.get (CMP_WEIR_MAXWAIT (r.val - 16)))
  else if r = 18 then cfg 6
  else if h : r.val < 21 then
    let c : Fin 2 := finOf 2 (by decide) (r.val - 19)
    if s.dram.chs[c].scrubWait then some (2, s.get (DDR_SCRUB_SCRUB_PWR c), 10000) else some (5, s.get (DDR_WEIR_TRAIN_PWR c), 100000)
  else if r.val < 25 then cfg 4
  else if r = 25 then cfg 3
  else if r = 26 then cfg 1
  else if 28 ≤ r.val then
    let j := r.val - 28
    some (s.get (PWR_FW_REQ_CLASS j), s.get (PWR_FW_REQ_PWR j), s.get (PWR_FW_WAIT_MAXWAIT j))
  else none

/-- What a requester does with its grant; one that no longer wants it releases it (R382). -/
def State.weirGiven (s : State) (r : Fin 32) : State :=
  if h : r.val < 16 then
    let k : Fin 16 := ⟨r.val, h⟩
    if s.engines[k].st = .weir then s.engGranted k else if s.engines[k].st = .idle then s.weirRelease r else s
  else if h : r.val < 18 then
    let n : Fin 2 := ⟨r.val - 16, by omega⟩
    if s.cmps[n].st = .weir then s.cmpGranted n else if s.cmps[n].st = .idle then s.weirRelease r else s
  else if r = 18 then if s.flag ISP_CTRL_EN then s else s.weirRelease r
  else if h : r.val < 21 then
    let c : Fin 2 := finOf 2 (by decide) (r.val - 19)
    if s.dram.chs[c].scrubWait || s.dram.chs[c].training.isSome then s.ddrGranted c else s.weirRelease r
  else if h : r.val < 25 then s.linkGranted (finOf 4 (by decide) (r.val - 21))
  else if r = 25 then s.calGranted
  else s

/-- What a requester does when its request is refused: TOO_BIG as TIMEOUT (R383). -/
def State.weirDenied (s : State) (r : Fin 32) : State :=
  if h : r.val < 16 then s.engRefused ⟨r.val, h⟩
  else if h : r.val < 18 then s.cmpRefused ⟨r.val - 16, by omega⟩
  else if r.val < 19 then s
  else if r.val < 21 then
    let c : Fin 2 := finOf 2 (by decide) (r.val - 19)
    if s.dram.chs[c].scrubWait || s.dram.chs[c].training.isSome then s.ddrRefused c else s
  else if r.val < 25 then s.linkRefused (finOf 4 (by decide) (r.val - 21))
  else if r = 25 then s.calRefused
  else s

/-- A requester asks for leave (R380). -/
def State.weirAsk (s : State) (r : Fin 32) : State :=
  match s.weirParams r with
  | none => s
  | some (cls, power, maxWait) =>
    if s.weirHolds r || s.weirWaits r then s
    else
      let s := s.weirRequest r cls power maxWait
      if s.weirHolds r then s.weirGiven r else if s.weirWaits r then s else s.weirDenied r

/-- Requests that have waited their MAXWAIT are refused with TIMEOUT, lowest requester first (R381, R383). -/
def State.weirTimeouts (s : State) : State :=
  (fins 32).foldl (fun s (r : Fin 32) =>
    match s.weir.waiting[r] with
    | none => s
    | some q => if s.weirExpired q then (s.weirRefuse r q 1).weirDenied r else s) s

/-- A µs of the AON clock passes for the watchdogs (R83). -/
def State.wdtStep (s : State) : State :=
  if s.weir.clk % s.aonPerUs = 0 then
    (fins 2).foldl (fun s (x : Fin 2) => s.modSup x (fun u => if u.wdtEn then { u with wdtCount := u.wdtCount - 1 } else u)) s
  else s

/-- One AON clock (R379, R381): timeouts first, then grants. -/
def State.weirDecision (s : State) : State :=
  let s := ({ s with weir := { s.weir with clk := s.weir.clk + 1 } } : State).wdtStep
  let s := s.weirTimeouts.weirRefresh
  let t := s.weirGrants 32
  t.2.foldl (fun s (r : Fin 32) => s.weirGiven r) t.1

/-- A firmware slot's request: ignored unless it is IDLE (R380). -/
def State.fwReq (s : State) (j : Fin 4) : State := s.weirAsk ⟨28 + j.val, by omega⟩

/-- A firmware slot's release or withdrawal (R382). -/
def State.fwRel (s : State) (j : Fin 4) : State := s.weirRelease ⟨28 + j.val, by omega⟩

/-- PWR_FWj_REQ written: CLASS 0 is stored as 7; REL before REQ. -/
def State.fwWrite (s : State) (j : Fin 4) (v : Word) : State :=
  let v := if field v 26 24 = 0 then withField v 26 24 7 else v
  let s := s.wr (PWR_FW_REQ j) (v &&& 0x0700FFFF#32)
  let s := if v.getLsbD 30 then s.fwRel j else s
  if v.getLsbD 31 then s.fwReq j else s

/-- DUR µs after the grant a firmware slot releases (R382). -/
def State.fwExpiry (s : State) (j : Fin 4) : State :=
  let r : Fin 32 := ⟨28 + j.val, by omega⟩
  let dur := s.get (PWR_FW_WAIT_DUR j)
  if s.weirHolds r && decide (dur ≠ 0 ∧ dur * s.aonPerUs ≤ s.weir.clk - s.weir.since[r]) then s.weirRelease r else s

/-! ## Toll (R384, R386) -/

/-- A 10 µs window ends with the monitor's reading in mW (R384). -/
def State.tollWindow (s : State) (act : Nat) : State :=
  let plan := s.weirRes + s.weirGranted
  let s := (s.put PWR_TOLL_WIN_PLAN (satNat 16 plan)).put PWR_TOLL_WIN_ACT (satNat 16 act)
  let s := (s.addEnergy PWR_TOLL_PLAN_LO PWR_TOLL_PLAN_HI (10 * plan)).addEnergy PWR_TOLL_ACT_LO PWR_TOLL_ACT_HI (10 * act)
  if s.get PWR_TOLL_CFG_TOL < act - plan then
    let n := s.toll.streak + 1
    let s := { s with toll := { s.toll with streak := n } }
    if n < s.get PWR_TOLL_CFG_N then s
    else
      let s := s.put PWR_TOLL_EXC_MAX_EX (max (s.get PWR_TOLL_EXC_MAX_EX) (satNat 16 (act - plan)))
      if n = s.get PWR_TOLL_CFG_N then (s.bump PWR_TOLL_EXC_EXC_CNT).raise evTOLL_EXCESS 0 (value1 (act - plan)) else s
  else { s with toll := { s.toll with streak := 0 } }

/-- The power of a supply group for the window that ends, and its alarm (R386). -/
def State.headPower (s : State) (g : Fin 8) : State :=
  let p := s.toll.window[g] / 16 / (s.get PWR_HP_CFG_WIN * 1000)
  let lim := (s.rd (PWR_HE_LIM g)).toNat
  let s := s.wr (PWR_HE_PWR g) (value1 p)
  let on := s.bit PWR_HP_STAT g
  if !on && decide (lim ≠ 0 ∧ lim < p) then
    let s := ((s.putBit PWR_HP_STAT g true).putBit PWR_HP_STAT (8 + g.val) true).raise evHEAD_POWER g (value1 p)
    s.slowEvent 1 true
  else if on && decide (p ≤ lim * 7 / 8) then
    let s := s.putBit PWR_HP_STAT g false
    if s.get PWR_HP_STAT_ALARM = 0 then s.slowEnd 1 else s
  else s

/-- A window of WIN ms ends (R386). -/
def State.headPowerWindow (s : State) : State :=
  let s := (fins 8).foldl (fun s (g : Fin 8) => s.headPower g) s
  { s with toll := { s.toll with window := Vector.replicate 8 0 } }

/-- A write to the PWR block; none where no rule of its own applies. -/
def State.pwrWrite (s : State) (off : Nat) (v : Word) : Option (Resp × State) :=
  if off = 0x20 then some (.ok, s.wr PWR_TOLL_CFG ((if field v 7 0 = 0 then withField v 7 0 1 else v) &&& 0xFFFF00FF#32))
  else if off = 0x40 then some (.ok, s.wr PWR_HP_CFG (BitVec.ofNat 32 (max 1 (field v 7 0))))
  else if 0x100 ≤ off ∧ off < 0x200 ∧ off % 8 = 0 then
    let n := (off - 0x100) / 8
    if n = 18 ∨ (21 ≤ n ∧ n ≤ 26) then none else some (.ok, s)
  else if 0x200 ≤ off ∧ off < 0x220 ∧ off % 8 = 0 then some (.ok, s.fwWrite (finOf 4 (by decide) ((off - 0x200) / 8)) v)
  else none

end Sys2Proof.Machine
end

