-- ==== Sys2Proof/Machine/ClkOps.lean ====
section
/-!
DEFINITION. Clocks: reference acceptance and monitor (R388, R389), PLLs and their monitors (R390 to R394), island switching (R393)
and gating (R395, R396). Resets and start-up: R411 to R416, R447; the starts of the supervisor cores (R413).
-/
namespace Sys2Proof.Machine

/-! ## Starts and resets of the supervisor cores (R413) -/

/-- A core that is held starts once its SYS_RST bit is 0, its CLK_EN0 bit is 1 and, for SC0, Fantail has released it. -/
def State.scTry (s : State) (x : Fin 2) : State :=
  if s.scs[x].running || s.bit SYS_RST x || !s.bit CLK_EN0 (1 + x) || (decide (x = 0) && !s.boot.scReleased) then s
  else
    let pc := s.rd (SYS_SC_ENTRY x) &&& 0xFFFFFFFC#32
    s.modSup x (fun _ => { Sup.reset with running := true, core := { Core.reset with pc := pc } })

/-- What a core reset does to its core: registers, CSRs, caches, watchdog, and its event queue. Stores and write-backs that still wait
in its buffers are discarded (log 93). -/
def State.coreReset (s : State) (x : Fin 2) : State :=
  let s := s.modSup x (fun _ => Sup.reset)
  { s with evt := { s.evt with queues := vset s.evt.queues x [] } }

/-- SYS_RST written by a master that is core `w`, or by none of the two: a core may not change its own bit. -/
def State.sysRst (s : State) (w : Option (Fin 2)) (v : Word) : Resp × State :=
  let old := s.rd SYS_RST
  let own := match w with
    | none => false
    | some x => decide (v.getLsbD x ≠ old.getLsbD x)
  if own = true then (.errUnit, s)
  else
    let s := s.wr SYS_RST (v &&& 3#32)
    (.ok, (fins 2).foldl (fun s (x : Fin 2) =>
      if v.getLsbD x && !old.getLsbD x then s.coreReset x else s.scTry x) s)

/-! ## Gating (R395, R396) -/

/-- Whether a unit that bit `i` of CLK_EN`w` clocks may not be gated now by master core `x`. -/
def State.gateHeld (s : State) (x : Option (Fin 2)) (w i : Nat) : Bool :=
  if w = 0 then
    if i = 1 then decide (x = some 0)
    else if i = 2 then decide (x = some 1)
    else if i = 7 then (fins 32).any (fun (n : Fin 32) => s.flag (DMA_CH_CTRL_OWN n)) || (fins 5).any (fun (r : Fin 5) => s.flag (RING_CFG_EN r))
    else if i = 8 ∨ i = 9 then !s.ddrIn (i - 8) [0]
    else if 10 ≤ i ∧ i ≤ 13 then s.flag (PX_CTRL_EN (i - 10))
    else if i = 14 then s.flag ISP_CTRL_EN || s.ispCam.isSome
    else if i = 15 then s.flag BOLT_CTRL_EN
    else if h : 17 ≤ i ∧ i ≤ 18 then s.flag (CMP_CTRL_EN (i - 17)) || decide (s.cmpState ⟨i - 17, by omega⟩ ≠ 0)
    else false
  else if w = 1 then
    if h : i < 12 then decide (s.sqs[i].st = .run ∨ s.sqs[i].st = .parked)
    else if 16 ≤ i ∧ i < 28 then (List.range 4).any (fun (j : Nat) => s.hpEn (4 * (i - 16) + j) || s.retired (4 * (i - 16) + j))
    else false
  else if h : i < 16 then s.flag (DCE_CTRL_EN i) || decide (s.engState ⟨i, h⟩ ≠ 0)
  else false

/-- The bits of CLK_EN0 to CLK_EN2. -/
def clkEnMask (w : Nat) : Word := if w = 0 then 0x0FF7FFFF#32 else if w = 1 then 0x0FFF0FFF#32 else 0x0000FFFF#32

/-- CLK_ENw written by master core `x` (R396). -/
def State.clkEnWrite (s : State) (x : Option (Fin 2)) (w : Nat) (v : Word) : Resp × State :=
  let a := CLK_EN0 + 4 * w
  let old := s.rd a
  let v := v &&& clkEnMask w
  if (List.range 32).any (fun (i : Nat) => old.getLsbD i && !v.getLsbD i && s.gateHeld x w i) = true then (.errUnit, s)
  else (.ok, ((s.wr a v).scTry 0).scTry 1)

/-! ## Islands (R393) -/

/-- The PLL of island `b` of CLK_SEL: SUP, SEQ, DSP, MEM and HPX. -/
def islandPll (b : Nat) : Nat := b + 1

/-- A PLL is enabled and locked. -/
def State.pllReady (s : State) (i : Nat) : Bool := s.flag (PLL_CTRL_EN i) && s.flag (PLL_CTRL_LOCK i)

/-- A switch that found its old clock stuck is forced, and reported with the island. -/
def State.swForced (s : State) (island : Nat) (stuck : Bool) : State :=
  if stuck then (s.set1 CLK_STAT_CLKSW_FORCED).raise evCLK_SW_FORCED island 0 else s

/-- An island switches to its PLL or to REFCLK. -/
def State.islandTo (s : State) (b : Fin 5) (pll stuck : Bool) : State :=
  ({ s with clk := { s.clk with onPll := setBit s.clk.onPll b pll } } : State).swForced b stuck

/-- An island follows CLK_SEL where it can. -/
def State.islandFollow (s : State) (b : Fin 5) (stuck : Bool) : State :=
  let on := s.clk.onPll.getLsbD b
  if s.bit CLK_SEL b then (if on then s.islandTo b false stuck else s)
  else if !on && s.pllReady (islandPll b) then s.islandTo b true stuck else s

/-- CLK_SEL written; `stuck` names the islands whose old clock does not go low. -/
def State.clkSel (s : State) (v : Word) (stuck : BitVec 5) : State :=
  let s := s.wr CLK_SEL (v &&& 0x1F#32)
  (fins 5).foldl (fun s (b : Fin 5) => s.islandFollow b (stuck.getLsbD b)) s

/-! ## PLLs (R390 to R392, R394) -/

/-- TB_FAIL (R392). -/
def State.tbFail (s : State) : State := ((s.set1 CLK_STAT_TB_FAIL).raise evCLK_TB_FAIL 0 0).withdrawAll

/-- What a failed monitor or a loss of lock of PLL `i` does beside its own flag (R394): 0 is PLL_TB, 5 PLL_HP. -/
def State.pllFailed (s : State) (i : Nat) : State :=
  if i = 0 then s.tbFail else if i = 5 then s.withdrawAll else s

/-- The control, monitor and lock places of PLL `i`: 0 to 5 as in PLLi_CTRL, 6 to 9 LPLL0 to LPLL3. -/
def pllMon (i : Nat) : Nat := if i < 6 then PLL_MON i else LPLL_MON (i - 6)

/-- The LOCK bit of PLL `i`. -/
def pllLockBit (i : Nat) : Nat × Nat := if i < 6 then (PLL_CTRL i, 30) else (LPLL_MON (i - 6), 29)

/-- PLL `i` has been started: by its EN bit, or by its port, which powers it down while it is cold, and for good once it has failed and
its role has gone (R290, R313, R320, R390). -/
def State.pllOn (s : State) (i : Nat) : Bool :=
  if i < 6 then s.flag (PLL_CTRL_EN i)
  else
    let st := s.get (PX_STAT_STATE (i - 6))
    let active := if s.flag (MR_PATH_STAT_ACTIVE 0) then 1 else 0
    s.flag (PX_CTRL_EN (i - 6)) && !decide (st = 4 ∨ (st = 3 ∧ i - 6 ≠ active))

/-- A PLL reports lock: the TB island's first lock starts TBC (R150), and a pending switch to the PLL starts (R393). -/
def State.pllLock (s : State) (i : Nat) (stuck : Bool) : State :=
  let b := pllLockBit i
  if s.pllOn i && !s.bit b.1 b.2 then
    let s := s.putBit b.1 b.2 true
    if i = 0 then { s with tbRuns := true }
    else if h : 1 ≤ i ∧ i ≤ 5 then s.islandFollow ⟨i - 1, by omega⟩ stuck else s
  else s

/-- A PLL loses lock (R394). -/
def State.pllUnlock (s : State) (i : Nat) : State :=
  let b := pllLockBit i
  if s.bit b.1 b.2 then ((s.putBit b.1 b.2 false).putBit (pllMon i) 30 true).pllFailed i else s

/-- E of R394: cycles in 10.24 µs at the nominal frequency; a lane PLL runs at a fortieth of its port's rate (R28). -/
def State.pllNominal (s : State) (i : Nat) : Nat :=
  match i with
  | 0 => 8192 | 1 => 12288 | 2 => 10240 | 3 => 8192 | 5 => 15360
  | 4 => match s.get (PLL_CTRL_RATE 4) with
    | 0 => 6144 | 1 => 7168 | _ => 8192
  | n => match s.get (PX_CTRL_RATE (n - 6)) with
    | 0 => 640 | 1 => 1280 | 2 => 2560 | _ => 3200

/-- Whether a count of PLL `i` passes (R394); d is SSC_DEPTH × 0.1% where the PLL has spread. -/
def State.pllCountOk (s : State) (i count : Nat) : Bool :=
  let e := s.pllNominal i
  if i = 0 then decide (8190 ≤ count ∧ count ≤ 8194)
  else
    let d := if i = 1 ∨ i = 2 ∨ i = 3 ∨ i = 5 then s.get (PLL_CTRL_SSC_DEPTH i) else 0
    decide (e * (990 - d) / 1000 ≤ count ∧ count ≤ ceilDiv (e * 1010) 1000)

/-- A monitor count; its results are held invalid while the reference is not accepted (R389, R394). -/
def State.pllCount (s : State) (i : Nat) (count : BitVec 16) : State :=
  if s.pllOn i && s.flag CLK_STAT_REF_OK then
    let s := s.wr (pllMon i) (withField (s.rd (pllMon i)) 15 0 count.toNat)
    if s.pllCountOk i count.toNat then s
    else ((s.putBit (pllMon i) 31 true).raise evCLK_MON_ERR i (value1 count.toNat)).pllFailed i
  else s

/-- The units of the island of PLL `i` that have a CLK_EN bit, as masks of CLK_EN0 to CLK_EN2 (R28, R395). -/
def islandUnits (i : Nat) : List (Nat × Word) :=
  match i with
  | 1 => [(CLK_EN0, 0x000000FF#32)]
  | 2 => [(CLK_EN1, 0x00000FFF#32)]
  | 3 => [(CLK_EN0, 0x0FF7C000#32), (CLK_EN2, 0x0000FFFF#32)]
  | 4 => [(CLK_EN0, 0x00000300#32)]
  | 5 => [(CLK_EN1, 0x0FFF0000#32)]
  | _ => []

/-- Whether a PLL's EN bit may not be cleared now (R390). -/
def State.pllHeld (s : State) (i : Nat) : Bool :=
  !s.bit CLK_SEL (i - 1) && (islandUnits i).any (fun (u : Nat × Word) => decide (s.rd u.1 &&& u.2 ≠ 0))

/-- PLLi_CTRL as stored: spread and rate fields clamped, reserved fields zero (R390, R391). -/
def pllForm (i : Nat) (v : Word) : Word :=
  let v := if 60 < field v 21 16 then withField v 21 16 60 else if field v 21 16 < 20 then withField v 21 16 20 else v
  let v := if 20 < field v 12 8 then withField v 12 8 20 else v
  let v := if field v 25 24 = 3 then withField v 25 24 2 else v
  if i = 0 then 0 else if i = 4 then v &&& 0x83000000#32 else v &&& 0x803F1F00#32

/-- PLLi_CTRL written (R390, R391). EN of PLL_TB is read-only. -/
def State.pllWrite (s : State) (i : Nat) (v : Word) : Resp × State :=
  let old := s.rd (PLL_CTRL i)
  if i = 0 then (.ok, s)
  else if i = 4 ∧ (!s.ddrIn 0 [0] || !s.ddrIn 1 [0]) = true then (.errUnit, s)
  else if old.getLsbD 31 && !v.getLsbD 31 && s.pllHeld i then (.errUnit, s)
  else
    let lock := old.getLsbD 30 && v.getLsbD 31
    (.ok, s.wr (PLL_CTRL i) (setBit (pllForm i v) 30 lock))

/-! ## Reference clock (R388, R389) -/

/-- A count of RC cycles over 1,024 REFCLK cycles lies in the accepted range. -/
def refCountOk (n : Nat) : Bool := decide (288 ≤ n ∧ n ≤ 368)

/-- The oscillator delay ends and the first acceptance count starts (R388). -/
def State.oscDone (s : State) : State :=
  if s.boot.refOe && !s.boot.oscDone then
    { s with boot := { s.boot with oscDone := true }, clk := { s.clk with accepting := true } }
  else s

/-- An acceptance count ends (R388). -/
def State.refAccept (s : State) (count : BitVec 9) : State :=
  if s.clk.accepting then
    let s := s.put CLK_REF_MON_RC_COUNT count.toNat
    if refCountOk count.toNat then
      let s := ((s.clr CLK_STAT_ON_RC).set1 CLK_STAT_REF_OK).set1 (PLL_CTRL_EN 0)
      { s.set1 (PLL_CTRL_EN 1) with clk := { s.clk with accepting := false } }
    else s.set1 CLK_STAT_REF_BAD
  else s

/-- The reference monitor's count, or its finding that REFCLK is absent (R389). The island number of AON in CLK_SW_FORCED is
not stated: a free value (log 1). -/
def State.refMonitor (s : State) (count : BitVec 9) (absent : Bool) : State :=
  if s.flag CLK_STAT_REF_OK then
    let s := s.put CLK_REF_MON_RC_COUNT count.toNat
    if !absent && refCountOk count.toNat then s
    else
      let s := ((s.set1 CLK_STAT_ON_RC).clr CLK_STAT_REF_OK).set1 CLK_STAT_REF_FAIL
      let s := if absent then (s.swForced (s.freeBelow 4096) true).advance else s
      (s.raise evCLK_REF_FAIL 0 0).withdrawAll
  else s

/-- CLK_STAT.REF_RETRY: the acceptance starts again; with REF_OK = 1 there is nothing to restart (R389). -/
def State.refRetry (s : State) : State :=
  if s.boot.oscDone && !s.flag CLK_STAT_REF_OK then { s with clk := { s.clk with accepting := true } } else s

/-- A write to the CLK block by master core `x`; none where no rule of its own applies. -/
def State.clkWrite (s : State) (x : Option (Fin 2)) (off : Nat) (v : Word) : Option (Resp × State) :=
  if off = 0 then
    let s := s.wr CLK_STAT (s.rd CLK_STAT &&& ~~~(v &&& 0x000000F0#32))
    some (.ok, if v.getLsbD 31 then s.refRetry else s)
  else if off = 0x10 then some (s.clkEnWrite x 0 v)
  else if off = 0x14 then some (s.clkEnWrite x 1 v)
  else if off = 0x18 then some (s.clkEnWrite x 2 v)
  else if off = 0x20 then some (.ok, (s.clkSel v (s.freeWord.setWidth 5)).advance)
  else if 0x100 ≤ off ∧ off < 0x160 ∧ off % 0x10 = 0 then some (s.pllWrite ((off - 0x100) / 0x10) v)
  else none

/-! ## Power-on reset (R411, R412, R414, R415, R447) -/

/-- A power-on reset: every state at its reset value but the one-time-programmable store and the contents of NVES, and the
levels that the board holds on balls (R412). -/
def State.porReset (s : State) (b : Boot) : State :=
  let r := State.reset
  let r := { r with
    pending := s.pending, free := s.free, otp := s.otp, nves := { s.nves with queue := [] }, boot := b,
    fsch := { r.fsch with inhBall := s.fsch.inhBall, blank := s.fsch.blank },
    pos := Vector.ofFn (fun (c : Fin 10) => { PosChan.reset with balls := s.pos[c].balls }),
    hps := Vector.ofFn (fun (p : Fin 48) => { HeadPort.reset with fltPin := s.hps[p].fltPin }) }
  r.putB FSCH_STAT_INHIBIT s.fsch.inhBall

/-- POR_N goes low. -/
def State.porAssert (s : State) : State :=
  s.porReset { State.reset.boot with porLow := true, brownOut := s.boot.brownOut }

/-- VDD_AON falls below 0.72 V for 1 µs (R447). -/
def State.brownOut (s : State) : State :=
  s.porReset { State.reset.boot with porLow := s.boot.porLow, brownOut := true }

/-- Step 2 of R414 begins when nothing holds the power-on reset: the straps are latched (R415, R416), REF_OE is asserted and Fantail
starts from its ROM. -/
def State.startUp (s : State) (balls : BitVec 18) : State :=
  if s.boot.porLow || s.boot.brownOut then s
  else
    let n := balls.toNat
    let id := n / 64 % 4096
    let s := { s with
      boot := { s.boot with refOe := true, gpioBalls := balls },
      fan := { s.fan with running := true, core := { Core.reset with pc := fanStart } } }
    let s := ((s.put SYS_STRAP_OSC_DLY n).put SYS_STRAP_BOOT_SRC (n / 8)).put SYS_STRAP_ID id
    (s.putB SYS_STRAP_ID_FIX (balls.getLsbD 5)).putB SYS_STRAP_ID_BAD
      (balls.getLsbD 5 && decide (id = 0 ∨ id = 0xFFE ∨ id = 0xFFF))

/-- POR_N rises. -/
def State.porRelease (s : State) (balls : BitVec 18) : State :=
  if s.boot.porLow then ({ s with boot := { s.boot with porLow := false } } : State).startUp balls else s

/-- VDD_AON rises above 0.76 V (R447). -/
def State.brownOutRelease (s : State) (balls : BitVec 18) : State :=
  if s.boot.brownOut then ({ s with boot := { s.boot with brownOut := false } } : State).startUp balls else s

/-! ## Release of SC0 (R405, R414) -/

/-- Every die sensor reads at or below its RESUME (R405). -/
def State.dieCool (s : State) : Bool :=
  (fins 16).all (fun (n : Fin 16) => s.flag (TS_READ_VALID n) && decide (s.dieReading n ≤ 8 * (s.get (TS_LIM_RESUME n) : Int)))

/-- Steps 2 to 4 of R414 are complete: REFCLK accepted, both PLLs locked, NVES scanned, and the cool-down hold over. -/
def State.startReady (s : State) : Bool :=
  s.boot.refOe && s.boot.scanDone && !s.boot.warm && s.pllReady 0 && s.pllReady 1 &&
    (!s.flag THM_STAT_SHUT_PENDING || s.dieCool)

/-- Step 5: Fantail releases SC0 and, at the end of a cool-down hold, THERM_TRIP_N (R405, R414). -/
def State.sc0Release (s : State) : State :=
  if s.startReady && !s.boot.scReleased then
    ({ s with boot := { s.boot with scReleased := true, thermTrip := false } } : State).scTry 0
  else s

/-! ## Warm reset (R411, R412) -/

/-- A warm reset begins: its cause, and every permission withdrawn. -/
def State.warmStart (s : State) (cause : RegField) : State :=
  if s.boot.refOe then
    { (s.set1 cause).withdrawAll with boot := { s.boot with warm := true } }
  else s

/-- Whether a warm reset keeps the register at an address: the AON and TB islands' units of R395, but GOV, the clock gates, CLK_SEL
and the PLLs other than PLL_TB and PLL_SYS (R412). -/
def warmKeeps (a : Nat) : Bool :=
  decide (a < 0x400B0000) && !decide (0x40090000 ≤ a ∧ a < 0x400A0000) && !decide (CLK_EN0 ≤ a ∧ a ≤ CLK_SEL) &&
    !decide (PLL_CTRL 2 ≤ a ∧ a < 0x40010200)

/-- The registers after a warm reset: those kept. -/
def State.warmRegs (s : State) : Table Word := s.regs.filter (fun e => warmKeeps e.1)

/-- The channels after a warm reset, which keeps POS (R412): EN is 0 until firmware sets it, and no candidate is pending (R138, log 106). -/
def State.warmPos (s : State) : State :=
  (fins 4).foldl (fun s n =>
    (s.clr (CH_CFG_EN (encCh n))).modPos (encCh n) (fun q => { q with cands := [], startAt := none })) s

/-- What the reset of a die shutdown returns beside the rest: TSn_LIM, the die levels and the inhibit of every port, and PLL_SYS
started again (R405, R412). -/
def State.warmShutdown (s : State) : State :=
  if s.boot.dieShut then
    let s := (fins 16).foldl (fun s (n : Fin 16) => (s.wr (TS_LIM n) (resetWord (TS_LIM n))).put (TS_READ_LEVEL n) 0) s
    let s := (((s.set1 SYS_RST_CAUSE_SHUTDOWN).clr FSCH_STAT_CRIT_ALL).set1 (PLL_CTRL_EN 1)).clr (PLL_CTRL_LOCK 1)
    { s with boot := { s.boot with dieShut := false, shutdown := false, recorded := false } }
  else s

/-- Leaves of the requesters outside the AON island end with the reset of their units (R382). -/
def State.warmLeaves (s : State) : State :=
  (fins 25).foldl (fun s (r : Fin 25) => s.weirRelease ⟨r.val, by omega⟩) s

/-- The state that a warm reset leaves (R412). -/
def State.warmState (s : State) : State :=
  let r := State.reset
  { s with
    regs := s.warmRegs, stage := [], cap := [], mem := s.mem.filter (fun e => decide (e.1 < dramBase)),
    scs := r.scs, sqs := r.sqs,
    fsch := { r.fsch with serial := s.fsch.serial, held := s.fsch.held, inhBall := s.fsch.inhBall, blank := s.fsch.blank },
    evt := { s.evt with queues := r.evt.queues }, seqTb := [], tbDsp := [],
    hps := Vector.ofFn (fun (p : Fin 48) => { HeadPort.reset with fltPin := s.hps[p].fltPin }),
    gov := r.gov, mbx := r.mbx, clk := { s.clk with onPll := 0 },
    boot := { s.boot with warm := false, scReleased := false, booted := false },
    sec := { s.sec with otpWrite := none, nonce := none },
    dram := { r.dram with chs := r.dram.chs.mapIdx (fun c d => { d with complete := (s.dram.chs.toList.getD c DramCh.reset).complete }) }, corr := r.corr, engines := r.engines, cmps := r.cmps, cams := r.cams, ispCam := none, bolt := r.bolt,
    dma := r.dma, links := r.links }

/-- The warm reset ends: what it resets, then steps 4 and 5 of R414, at once where no cool-down holds the die. -/
def State.warmRelease (s : State) : State :=
  if s.boot.warm then
    let dbg := s.flag SEC_STAT_DBG_UNLOCKED
    let s := (s.warmLeaves.warmShutdown).warmState
    let s := ((s.warmPos.putB SEC_STAT_DBG_UNLOCKED dbg).wr (SYS_SC_ENTRY 0) 0).clr SYS_RST_SC0_RST
    if s.flag THM_STAT_SHUT_PENDING then s else s.sc0Release
  else s

/-- WRST_N has been low for 1 µs. -/
def State.warmPin (s : State) : State := s.warmStart SYS_RST_CAUSE_PIN

/-- A write to the SYS block by master core `x`; none where no rule of its own applies (R192, R413, R439). -/
def State.sysWrite (s : State) (x : Option (Fin 2)) (off : Nat) (v : Word) : Option (Resp × State) :=
  if off = 0x08 then some (s.sysRst x v)
  else if off = 0x10 then if s.scs[0].running then some (.errUnit, s) else none
  else if off = 0x14 then if s.scs[1].running then some (.errUnit, s) else none
  else if 0x1000 ≤ off ∧ off < 0x10C0 ∧ off % 4 = 0 ∧ s.flag (HP_STAT_PERMIT ((off - 0x1000) / 4)) = true then some (.errUnit, s)
  else none

end Sys2Proof.Machine
end

