-- ==== Sys2Proof/Machine/ServiceOps.lean ====
section
/-!
DEFINITION. Service: the non-volatile event store (R420 to R423), the Fantail mailbox (R417 to R419), secure boot, OTP and debug (R424
to R431), and the event fabric (R432 to R436).
-/
namespace Sys2Proof.Machine

/-! ## The non-volatile event store (R420 to R423) -/

/-- What a byte of NVES that no record has written reads as: an erased cell (log 7). -/
def nvesDefault : Nat → Byte := fun _ => 0xFF#8

/-- The 32 bytes of a slot. -/
def nvesSlot (t : Table Byte) (slot : Nat) : List Byte := (List.range 32).map (fun (i : Nat) => t.get nvesDefault (32 * slot + i))

/-- The 32 bytes of a record (R421). -/
def NvesRec.bytes (r : NvesRec) (seq : Nat) : List Byte :=
  let head := r.type % 512 + 512 * (r.source % 4096) + b2n r.ackReq * 2 ^ 21
  let b := leBytes 4 head ++ leBytes 2 seq ++ leBytes 2 (satSigned 16 r.slope) ++ leBytes 4 r.value.toNat ++ leBytes 4 r.page.toNat ++
    leBytes 4 r.line.toNat ++ leBytes 6 (r.nt.toNat / 65536) ++ leBytes 4 (r.tbc.toNat / 65536)
  b ++ leBytes 2 (crc16 b).toNat

/-- A slot holds a valid record: its CRC passes (R423). -/
def slotValid (b : List Byte) : Bool := decide (leAt b 0x1E 2 = (crc16 (b.take 0x1E)).toNat)

/-- SEQ of a record in a slot. -/
def slotSeq (b : List Byte) : Nat := leAt b 4 2

/-- SEQ `a` is later than `b` in modular order. -/
def seqLater (a b : Nat) : Bool := decide (0 < (a + 65536 - b) % 65536 ∧ (a + 65536 - b) % 65536 < 32768)

/-- The slots that some record has written, each with its bytes, in slot order. -/
def nvesSlots (t : Table Byte) : List (Nat × List Byte) :=
  let ss := t.foldl (fun (l : List Nat) e => if l.head? = some (e.1 / 32) then l else e.1 / 32 :: l) []
  (ss.reverse.map (fun (n : Nat) => (n, nvesSlot t n))).filter (fun x => slotValid x.2)

/-- The record in a slot asks for an acknowledgement. -/
def slotAckReq (b : List Byte) : Bool := (leAt b 0 4).testBit 21

/-- TYPE of the record in a slot. -/
def slotType (b : List Byte) : Nat := leAt b 0 4 % 512

/-- The slots with an ACK_REQ record that no later NVES_ACK names (R423). -/
def nvesHeld (t : Table Byte) : List (Nat × List Byte) :=
  let l := nvesSlots t
  l.filter (fun x => slotAckReq x.2 &&
    !l.any (fun y => decide (slotType y.2 = evNVES_ACK ∧ leAt y.2 8 4 = x.1) && seqLater (slotSeq y.2) (slotSeq x.2)))

/-- SHUT_PENDING: an NVES_SHUTDOWN record is unacknowledged; both registers show it (R423). -/
def State.shutPending (s : State) : State :=
  let b := (nvesHeld s.nves.store).any (fun x => decide (slotType x.2 = evNVES_SHUTDOWN))
  (s.putB NVES_STAT_SHUT_PENDING b).putB THM_STAT_SHUT_PENDING b

/-- The scan at power-on (R423). -/
def State.nvesScan (s : State) : State :=
  if s.boot.refOe && !s.boot.scanDone then
    let best := (nvesSlots s.nves.store).foldl (fun (m : Option (Nat × Nat)) x =>
      match m with
      | none => some (x.1, slotSeq x.2)
      | some (_, q) => if seqLater (slotSeq x.2) q then some (x.1, slotSeq x.2) else m) none
    let s := match best with
      | none => s
      | some (n, q) => (s.put NVES_STAT_NEXT ((n + 1) % 512)).put NVES_CNT_SEQ q
    let s := { s with boot := { s.boot with scanDone := true } }
    s.shutPending
  else s

/-- The answer that Fantail has ready, with the RES registers given and the others as they stand (R417). -/
def State.mbxAns (s : State) (result : Nat) (res : List Nat) : State :=
  let rs : Vector Word 4 := Vector.ofFn (fun (a : Fin 4) =>
    match res[a.val]? with
    | some v => BitVec.ofNat 32 v
    | none => s.rd (MBX_RES a))
  { s with mbx := { ans := some { result := result, res := rs } } }

/-- The records that spend no token (R422). -/
def nvesFree (type : Nat) : Bool := decide (type = evNVES_SHUTDOWN ∨ type = evNVES_ACK ∨ type = evFANTAIL_TRAP)

/-- What follows once a record is in its slot, or counts as written (R404, R423). -/
def State.nvesWritten (s : State) (r : NvesRec) : State :=
  if r.type = evFANTAIL_TRAP then { s with fan := { s.fan with trapRecord := false } }
  else if r.type = evNVES_SHUTDOWN then
    { s with boot := { s.boot with recorded := true, thermTrip := s.boot.thermTrip || s.boot.shutdown } }
  else s

/-- The write asks Weir for leave and gives it back (R420). -/
def State.nvesLeave (s : State) : State := (s.weirAsk 26).weirRelease 26

/-- A record programmed into a slot (R420, R421, R423). -/
def State.nvesProgram (s : State) (r : NvesRec) (slot : Nat) : State :=
  let s := s.nvesLeave
  let seq := (s.get NVES_CNT_SEQ + 1) % 65536
  let t := ((r.bytes seq).zipIdx).foldl (fun (t : Table Byte) x => t.set nvesDefault (32 * slot + x.2) x.1) s.nves.store
  let s := { s with nves := { s.nves with store := t } }
  let s := ((s.put NVES_CNT_SEQ seq).put NVES_STAT_NEXT ((slot + 1) % 512)).shutPending
  let s := if r.type = evNVES_SHUTDOWN ∨ r.type = evNVES_ACK then s.raiseAt r.type r.source r.value r.page r.line else s
  let s := s.nvesWritten r
  if r.mbx then s.mbxAns 0 (if r.type = evNVES_ACK then [slot] else []) else s

/-- A record that finds every slot held is dropped (R423). The answer to a command whose record is dropped is not stated: a free
value (log 1). -/
def State.nvesDrop (s : State) (r : NvesRec) : State :=
  let s := ((s.set1 NVES_STAT_FULL).raise evNVES_FULL 0 0)
  let s := if r.type = evFANTAIL_TRAP then s.nvesWritten r else s
  if r.mbx then (s.mbxAns (s.freeBelow 256) []).advance else s

/-- Fantail takes the oldest waiting record to NVES (R420, R422, R423). -/
def State.nvesWrite (s : State) : State :=
  match s.nves.queue with
  | [] => s
  | r :: rest =>
    let s := { s with nves := { s.nves with queue := rest } }
    if !nvesFree r.type && decide (s.get NVES_STAT_TOKENS = 0) then
      let s := s.bump NVES_CNT_SUPPRESSED
      if r.mbx then s.mbxAns 3 [] else s
    else
      let s := if nvesFree r.type then s else s.put NVES_STAT_TOKENS (s.get NVES_STAT_TOKENS - 1)
      let held := nvesHeld s.nves.store
      let next := s.get NVES_STAT_NEXT
      match (List.range 512).find? (fun (i : Nat) => !held.any (fun x => decide (x.1 = (next + i) % 512))) with
      | none => s.nvesDrop r
      | some i => s.nvesProgram r ((next + i) % 512)

/-- One token returns to the bucket of 64 (R422). -/
def State.nvesRefill (s : State) : State := s.put NVES_STAT_TOKENS (min 64 (s.get NVES_STAT_TOKENS + 1))

/-! ## The mailbox (R417, R418) -/

/-- The ports that ARG0 and ARG1 name. -/
def State.mbxPorts (s : State) : List (Fin 48) :=
  (fins 48).filter (fun (p : Fin 48) => if p.val < 32 then s.bit (MBX_ARG 0) p else s.bit (MBX_ARG 1) (p - 32))

/-- PERMIT: an ARG1 with a bit above the 16 ports it names is out of range; otherwise every named port is tested and, where no row of R419 applies, granted. RES2 is not stated where no port is refused: a free
value (log 1). -/
def State.mbxPermit (s : State) : State :=
  if field (s.rd (MBX_ARG 1)) 31 16 ≠ 0 then s.mbxAns 4 [] else
  let ps := s.mbxPorts
  let refused := ps.filter (fun (p : Fin 48) => decide (s.permitReason p ≠ 0))
  let res2 := match refused with
    | [] => s.freeWord.toNat
    | p :: _ => p.val * 256 + s.permitReason p
  let s := (ps.foldl (fun s (p : Fin 48) => if s.permitReason p = 0 then s.grantPermit p else s) s).advance
  let have_ := ps.filter (fun (p : Fin 48) => s.flag (HP_STAT_PERMIT p))
  let m := have_.foldl (fun (n : Nat) (p : Fin 48) => n ||| 2 ^ p.val) 0
  s.mbxAns (b2n (!refused.isEmpty)) [m % 2 ^ 32, m / 2 ^ 32, res2]

/-- WITHDRAW: always OK. -/
def State.mbxWithdraw (s : State) : State :=
  (s.mbxPorts.foldl (fun s (p : Fin 48) => s.withdraw p false) s).mbxAns 0 []

/-- ACK: the record that acknowledges waits for NVES, or the slot holds no unacknowledged record; a slot above 511 is out of
range. -/
def State.mbxAck (s : State) : State :=
  let slot := field (s.rd (MBX_ARG 0)) 8 0
  if field (s.rd (MBX_ARG 0)) 31 9 ≠ 0 then s.mbxAns 4 []
  else if (nvesHeld s.nves.store).any (fun x => decide (x.1 = slot)) then
    s.nvesQueue { s.nvesRec evNVES_ACK 0 (BitVec.ofNat 32 slot) s.refLine.1 s.refLine.2 with mbx := true }
  else s.mbxAns 2 []

/-- LOG: a firmware record waits for NVES, or its type is out of range, or ARG0 has a bit above its fields. -/
def State.mbxLog (s : State) : State :=
  let a := s.rd (MBX_ARG 0)
  if 0x180 ≤ field a 8 0 ∧ field a 31 21 = 0 then
    s.nvesQueue { s.nvesRec (field a 8 0) (field a 20 9) (s.rd (MBX_ARG 1)) (s.rd (MBX_ARG 2)) (s.rd (MBX_ARG 3)) with mbx := true }
  else s.mbxAns 4 []

/-- WARM_RESET never answers; another ARG0 is out of range. -/
def State.mbxWarm (s : State) : State :=
  if s.rd (MBX_ARG 0) = 0x00005752#32 then s.warmStart SYS_RST_CAUSE_MBX else s.mbxAns 4 []

/-- MBX_CMD written by core `x` (R417). -/
def State.mbxCmd (s : State) (x : Fin 2) (v : Word) : Resp × State :=
  if s.flag MBX_STAT_BUSY then (.errUnit, s)
  else
    let op := field v 7 0
    let s := ((s.set1 MBX_STAT_BUSY).put MBX_STAT_OWNER x).put MBX_STAT_LAST_OP op
    let s := { s with mbx := { ans := none } }
    (.ok, match op with
      | 1 => s.mbxPermit
      | 2 => s.mbxWithdraw
      | 3 => s.mbxAck
      | 4 => s.mbxLog
      | 5 => s.mbxWarm
      | _ => s.mbxAns 5 [])

/-- Fantail answers: RESULT and RES set, BUSY cleared, MBX_DONE to the issuing core alone (R417). -/
def State.mbxDone (s : State) : State :=
  match s.mbx.ans with
  | none => s
  | some a =>
    let s := (fins 4).foldl (fun s (i : Fin 4) => s.wr (MBX_RES i) a.res[i]) s
    let s := (s.put MBX_STAT_RESULT a.result).clr MBX_STAT_BUSY
    let s := { s with mbx := { ans := none } }
    s.raiseAt evMBX_DONE 0 0 s.refLine.1 s.refLine.2 (some (if s.flag MBX_STAT_OWNER then 1 else 0))

/-! ## Images (R424 to R428, R438) -/

/-- The PUBKEY of an image header, and the parts of its signature, as numbers. -/
def imgNat (h : List Byte) (off : Nat) : Nat := beNat (slice h off 32)

/-- Check 4, KEY (R426). -/
def State.imgKeyBad (s : State) (h : List Byte) : Bool :=
  let k := leAt h 0x18 4
  if hk : k < 4 then s.otp.revoked.getLsbD k || decide (beNat (sha256 (slice h 0x40 64)) ≠ (s.otp.keyHash[k]).toNat) else true

/-- Checks 2 to 7 of R426 in order on a header and a payload; the code of the first that fails, 0 where all pass. `keys` says that
checks 4, 5 and 7 are made (R428). -/
def State.imgCheck (s : State) (h payload : List Byte) (keys : Bool) : Nat :=
  let load := leAt h 0x0C 4
  let entry := leAt h 0x10 4
  let len := leAt h 0x14 4
  if leAt h 0 4 ≠ 0x5658494D ∨ leAt h 4 2 ≠ 1 ∨ leAt h 6 2 ≠ 0 ∨ leAt h 0x1C 4 ≠ 0 ∨ leNat (slice h 0xC0 64) ≠ 0 then 2
  else if load < 0x01000000 ∨ 0x01B00000 < load + len ∨ entry < load ∨ load + len ≤ entry then 3
  else if keys && s.imgKeyBad h then 4
  else if keys && !ecdsaVerify (imgNat h 0x40) (imgNat h 0x60) (sha256 (h.take 0x80)) (imgNat h 0x80) (imgNat h 0xA0) then 5
  else if sha256 payload ≠ slice h 0x20 32 then 6
  else if keys && decide (leAt h 8 4 < s.otp.rollback.toNat) then 7
  else 0

/-- A failed image: its code, and BOOT_FAIL (R424, R426). -/
def State.bootFail (s : State) (code : Nat) : State := (s.put SEC_STAT_FAIL code).raise evBOOT_FAIL 0 0

/-- SEC_STAT as it reads: with SECURE and REVOKED from the OTP (R427), and debug unlocked where SECURE = 0 (R428). -/
def State.secStat (s : State) : Word :=
  let w := withField (s.rd SEC_STAT) 31 31 (b2n s.otp.secure)
  let w := withField w 19 16 s.otp.revoked.toNat
  if s.otp.secure then w else withField w 30 30 1

/-- A verified image is loaded and entered: translation and caches off, g1 = SEC_STAT (R424), the pc a multiple of 4 (R57). What the ROM leaves in the other registers
is not stated: free values (log 1). -/
def State.bootEnter (s : State) (h payload : List Byte) (slot : Nat) : State :=
  let s := s.putBytes (leAt h 0x0C 4) payload
  let s := ((s.put SEC_STAT_SLOT slot).put SEC_STAT_KEY_INDEX (leAt h 0x18 4)).put SEC_STAT_BOOT_VER (leAt h 8 4)
  let g1 := s.secStat
  let k := s.free
  let g : Vector Word 32 := Vector.ofFn (fun (i : Fin 32) => if i = 0 then 0 else if i = 1 then g1 else Config.freeWord (k + i))
  let pc := BitVec.ofNat 32 (leAt h 0x10 4) &&& 0xFFFFFFFC#32
  let s := s.modSup 0 (fun u => { u with core := { u.core with pc := pc, g := g }, rtEn := false, icEn := false, dcEn := false })
  { s with free := k + 32, boot := { s.boot with booted := true } }

/-- The boot ROM on SC0 has an image from a source, or the source did not deliver one (R424 to R426). -/
def State.bootImage (s : State) (img : Option (List Byte)) (slot : Nat) : State :=
  if s.scs[0].running && !s.boot.booted then
    match img with
    | none => s.bootFail 1
    | some bs =>
      let h := slice bs 0 256
      let payload := slice bs 256 (leAt h 0x14 4)
      match s.imgCheck h payload s.otp.secure with
      | 0 => s.bootEnter h payload slot
      | c => s.bootFail c
  else s

/-- In a boot from port A the ROM trains the port at 10.0 Gbaud and sends BOOT_REQ every 100 ms (R424). -/
def State.bootReq (s : State) : State :=
  if s.scs[0].running && !s.boot.booted && decide (s.get SYS_STRAP_BOOT_SRC = 1) then
    let s := s.putBit CLK_EN0 10 true
    let s := if s.flag (PX_CTRL_EN 0) then s
      else (s.pxCtrl 0 (withField (s.rd (PX_CTRL 0)) 29 28 2 ||| 0x80000000#32)).2
    (s.linkQueue 0 { frame := s.ownFrame 5 0xFFE [0x10#8], from_ := none, desc := none }).ckptSync
  else s

/-- SEC_VER_CMD.GO: a verification starts, unless one is running (R438). -/
def State.secVerGo (s : State) : State := if s.flag SEC_VER_STAT_BUSY then s else s.set1 SEC_VER_STAT_BUSY

/-- The verification ends: checks 2 to 7 on the image in memory (R438). The result for an image that cannot be read is not stated: a
free value (log 1). -/
def State.secVerDone (s : State) : State :=
  if s.flag SEC_VER_STAT_BUSY then
    let a := (s.rd64 SEC_VER_LO SEC_VER_HI).toNat % 2 ^ 40
    let h := s.bytes a 256
    let payload := s.bytes (a + 256) (leAt h 0x14 4)
    let sram := decide (0x01000000 ≤ a ∧ a + 256 + leAt h 0x14 4 ≤ 0x01C00000)
    let r := if sram then s.imgCheck h payload true else s.freeBelow 16
    ((s.advance.clr SEC_VER_STAT_BUSY).set1 SEC_VER_STAT_DONE).put SEC_VER_STAT_RESULT r
  else s

/-! ## OTP (R427) -/

/-- A refused OTP write. -/
def State.otpRefuse (s : State) : State := s.set1 SEC_ROLLBACK_REFUSED

/-- SEC_ROLLBACK_SET: N greater than COUNT, at most 63, and no greater than the ROLLBACK of the image that booted. -/
def State.rollbackSet (s : State) (v : Word) : State :=
  let n := field v 5 0
  if s.otp.rollback.toNat < n ∧ n ≤ s.get SEC_STAT_BOOT_VER ∧ s.boot.booted ∧ s.sec.otpWrite = none then
    { s.set1 SEC_ROLLBACK_BUSY with sec := { s.sec with otpWrite := some (true, n) } }
  else s.otpRefuse

/-- SEC_REVOKE: refused if it would revoke the booted key, or all four keys. -/
def State.secRevoke (s : State) (v : Word) : State :=
  let keys := field v 3 0
  if (s.boot.booted && keys.testBit (s.get SEC_STAT_KEY_INDEX)) || decide (s.otp.revoked.toNat ||| keys = 15) || s.sec.otpWrite.isSome then
    s.otpRefuse
  else { s.set1 SEC_ROLLBACK_BUSY with sec := { s.sec with otpWrite := some (false, keys) } }

/-- The OTP write ends; Fantail records a new rollback count. -/
def State.otpDone (s : State) : State :=
  match s.sec.otpWrite with
  | none => s
  | some (rollback, n) =>
    let s := { s.clr SEC_ROLLBACK_BUSY with sec := { s.sec with otpWrite := none } }
    if rollback then
      ({ s with otp := { s.otp with rollback := BitVec.ofNat 6 n } } : State).raise evROLLBACK_SET 0 (value1 n)
    else { s with otp := { s.otp with revoked := s.otp.revoked ||| BitVec.ofNat 4 n } }

/-! ## Debug and boundary scan (R429 to R431) -/

/-- The challenge is read: a fresh nonce. -/
def State.debugChallenge (s : State) : State := { s.advance with sec := { s.sec with nonce := some (Config.freeNonce s.free) } }

/-- A public key and a signature over SHA-256 of the nonce followed by the ID. -/
def State.debugUnlock (s : State) (x y r q : BitVec 256) : State :=
  match s.sec.nonce with
  | none => s
  | some n =>
    let key := beBytes 32 x.toNat ++ beBytes 32 y.toNat
    let digest := sha256 (leBytes 32 n.toNat ++ leBytes 8 s.otp.uid.toNat)
    let s := { s with sec := { s.sec with nonce := none } }
    if beNat (sha256 key) = s.otp.debugHash.toNat && ecdsaVerify x.toNat y.toNat digest r.toNat q.toNat then
      (s.set1 SEC_STAT_DBG_UNLOCKED).raise evDEBUG_UNLOCK 0 0
    else s

/-- EXTEST is loaded: every permission is withdrawn (R430). -/
def State.extest (s : State) : State := { s.withdrawAll with sec := { s.sec with extest := true } }

/-- Another JTAG instruction is loaded. -/
def State.scanLoad (s : State) : State := { s with sec := { s.sec with extest := false } }

/-! ## SEC and mailbox registers -/

/-- A write to the SEC block by a master; `sup` says that it is SC0 or SC1 (R439). -/
def State.secWrite (s : State) (sup : Bool) (off : Nat) (v : Word) : Option (Resp × State) :=
  if 0x04 ≤ off ∧ off ≤ 0x0C ∧ sup = false then some (.errUnit, s)
  else if off = 0x08 then some (.ok, s.rollbackSet v)
  else if off = 0x0C then some (.ok, s.secRevoke v)
  else if off = 0x28 then some (.ok, if v.getLsbD 0 then s.secVerGo else s)
  else none

/-- A read of the SEC block that shows the OTP. -/
def State.secRead (s : State) (off : Nat) : Option Word :=
  match off with
  | 0x00 => some s.secStat
  | 0x04 => some (withField (s.rd SEC_ROLLBACK) 5 0 s.otp.rollback.toNat)
  | 0x10 => some (s.otp.uid.extractLsb' 0 32)
  | 0x14 => some (s.otp.uid.extractLsb' 32 32)
  | _ => none

/-- A write to the mailbox by core `x`; another master's write has no issuing core: ERR_UNIT (R417, log 17). -/
def State.mbxWrite (s : State) (x : Option (Fin 2)) (off : Nat) (v : Word) : Option (Resp × State) :=
  if off = 0 then some (match x with
    | some x => s.mbxCmd x v
    | none => (.errUnit, s))
  else none

/-- A word of the NVES window (R420). -/
def State.nvesWindow (s : State) (off : Nat) : Word :=
  BitVec.ofNat 32 (leNat ((List.range 4).map (fun (i : Nat) => s.nves.store.get nvesDefault (off - 0x8000 + i))))

/-! ## The event fabric (R432 to R436) -/

/-- The mask bit of a target for an event (R434). -/
def State.evtMasked (s : State) (t ev : Nat) : Bool := (s.rd (EVT_MASK (16 * t + ev / 32))).getLsbD (ev % 32)

/-- A discarded record: a RUN record leaves its page's runs incomplete (R47, R435). The record of a page's last run meets
its report closed; while the scheduler still holds that report, it sets the flag there. -/
def State.evtDiscard (s : State) (r : EventRec) : State :=
  let mark := fun (q : Report) => { q with runsIncomplete := true }
  let mine := fun (h : HeldReport) => decide (h.report.page = r.page ∧ r.tbc.toNat ≤ h.report.last.toNat)
  if r.event = evRUN then
    if s.fsch.held.any mine then
      { s with fsch := { s.fsch with held := s.fsch.held.map (fun h => if mine h then { h with report := mark h.report } else h) } }
    else s.modReport r.page mark
  else s

/-- The LOST count of a core's queue. -/
def evtLost (x : Fin 2) : RegField := if x = 0 then EVT_Q0_STAT_LOST else EVT_Q1_STAT_LOST

/-- A WFE that waits completes; with TIE = 1 the event that ended it also takes the EVENT trap, with EPC at the next instruction (R81). -/
def Sup.wake (u : Sup) : Sup :=
  let v := { u with wfe := false, evl := false, core := { u.core with pc := u.core.pc + 4 } }
  if u.tie then v.enterEvent else v

/-- A record reaches a core's queue and sets STATUS.EVL, or is discarded at a full one; a WFE that waits completes (R81, R434, R435). -/
def State.evtToCore (s : State) (x : Fin 2) (r : EventRec) : State :=
  let q := s.evt.queues[x]
  if q.length < 64 then
    let s := { s with evt := { s.evt with queues := vset s.evt.queues x (q ++ [r]) } }
    s.modSup x (fun u => if u.wfe then u.wake else { u with evl := true })
  else (s.bump (evtLost x)).evtDiscard r

/-- A record reaches RING3, or is discarded there. -/
def State.evtToRing (s : State) (r : EventRec) : State :=
  let t := s.ring3Put r
  if t.1 then t.2 else t.2.evtDiscard r

/-- Fantail copies a record into NVES: of the levels only LIMIT and CRIT, and of the cores' halts none (R422). -/
def State.evtToFantail (s : State) (r : EventRec) : State :=
  let n : NvesRec := { type := r.event, source := r.source, ackReq := false, slope := 0, value := r.value, page := r.page,
                       line := r.line, tbc := r.tbc, nt := r.nt, mbx := false }
  if r.event = evTHM_LEVEL then
    if 2 ≤ field r.value 29 28 then s.nvesQueue { n with slope := sext 16 (field r.value 15 0) } else s
  else if r.event = evCORE_HALT then s
  else s.nvesQueue n

/-- The oldest record raised reaches its targets (R417, R434). -/
def State.evtDeliver (s : State) : State :=
  match s.evt.flight with
  | [] => s
  | r :: rest =>
    let s := { s with evt := { s.evt with flight := rest } }
    match r.only with
    | some x => s.evtToCore x r
    | none =>
      let m := s.evtMasked
      let s := if m 0 r.event then s.evtToCore 0 r else s
      let s := if m 1 r.event then s.evtToCore 1 r else s
      let s := if m 2 r.event then s.evtToRing r else s
      if m 3 r.event then s.evtToFantail r else s

/-- EVT_RAISE written by a master that carries a SOURCE number (R436). -/
def State.evtRaise (s : State) (source : Nat) (v : Word) : Resp × State :=
  let n := field v 8 0
  if n < 0x180 then (.errUnit, s) else (.ok, s.raiseAt n source (s.rd EVT_RAISE_VAL) 0 0)

/-- A core's queue loses its oldest record (R435). -/
def State.evtPop (s : State) (x : Fin 2) : State :=
  { s with evt := { s.evt with queues := vset s.evt.queues x ((s.evt.queues[x]).drop 1) } }

/-- A write to the EVT block by a master with a SOURCE number; none where no rule of its own applies. -/
def State.evtWrite (s : State) (source : Option Nat) (off : Nat) (v : Word) : Option (Resp × State) :=
  if 0xC0 ≤ off ∧ off < 0x100 then some (.errUnit, s)
  else if off = 0x108 then some (.ok, s.evtPop 0)
  else if off = 0x148 then some (.ok, s.evtPop 1)
  else if off = 0x200 then some (match source with
    | some n => s.evtRaise n v
    | none => (.errUnit, s))
  else none

/-- A read of the EVT block that shows a queue (R435). -/
def State.evtRead (s : State) (off : Nat) : Option Word :=
  if 0x100 ≤ off ∧ off < 0x180 then
    let x : Fin 2 := finOf 2 (by decide) ((off - 0x100) / 0x40)
    let o := (off - 0x100) % 0x40
    let q := s.evt.queues[x]
    if o = 0 then some (withField (s.rd (0x40060100 + 0x40 * x.val)) 6 0 q.length)
    else if 0x10 ≤ o ∧ o < 0x30 then
      some (match q with
        | [] => 0
        | r :: _ => BitVec.ofNat 32 (leAt r.bytes (o - 0x10) 4))
    else none
  else none

end Sys2Proof.Machine
end

