-- ==== Sys2Proof/Machine/Bus.lean ====
section
/-!
DEFINITION. The on-chip buses: who reaches what (R33, R37, R439), clock gating (R395), the access codes and pairs of register space
(R12 to R17), and the reads and writes of every block by its own rules.
-/
namespace Sys2Proof.Machine

/-! ## Reach and gating -/

/-- The CLK_EN bit of a block: the register's number and the bit; none for a unit that is always clocked (R395). -/
def Block.clock : Block → Option (Nat × Nat)
  | .hp n => some (1, 16 + n / 4) | .sq k => some (1, k) | .dce k => some (2, k) | .cmp n => some (0, 17 + n)
  | .dma => some (0, 7) | .ddr c => some (0, 8 + c) | .phy c => some (0, 8 + c) | .ln i => some (0, 10 + i / 4)
  | .px p => some (0, 10 + p) | .cam n => some (0, 20 + n) | .isp => some (0, 14) | .bolt => some (0, 15)
  | .hmap => some (0, 15) | .cs => some (0, 16) | .csShadow => some (0, 16) | .csActive => some (0, 16)
  | .qspi => some (0, 3) | .uart => some (0, 4) | .gpio => some (0, 5) | .sec => some (0, 6)
  | _ => none

/-- The unit's clock runs. -/
def State.clocked (s : State) (b : Block) : Bool :=
  match b.clock with
  | none => true
  | some (w, i) => s.bit (CLK_EN0 + 4 * w) i

/-- The response that a master's place gives an access to a register block before the unit itself is asked: a sequencer reaches its
control block, the blocks of its ports, FSCH to read, and EVT; Fantail the AON units, and GOV to read (R33). No device master reaches
register space (log 17). -/
def reaches (m : Master) (b : Block) (write : Bool) : Resp :=
  match m with
  | .sc _ => .ok
  | .dev => .errUnit
  | .sq k =>
    match b with
    | .sq j => if j = k then .ok else .errDecode
    | .hp n => if n / 4 = k then .ok else .errDecode
    | .fsch => if write then .errDecode else .ok
    | .evt => .ok
    | _ => .errDecode
  | .fantail =>
    match b with
    | .sys | .clk | .pwr | .thm | .nves | .evt | .mbx => .ok
    | .gov => if write then .errUnit else .ok
    | _ => .errDecode

/-- The supervisor core that a master is. -/
def masterSup : Master → Option (Fin 2)
  | .sc x => some x
  | _ => none

/-- SOURCE of a software event: its writer (R436). -/
def masterSource : Master → Option Nat
  | .sc x => some x.val
  | .sq k => some (0x10 + k.val)
  | _ => none

/-! ## Register pairs (R17) -/

/-- The _LO registers of the pairs of a block: offset, stride and count. -/
def Block.pairs : Block → List (Nat × Nat × Nat)
  | .pwr => [(0x28, 0, 1), (0x30, 0, 1), (0x300, 0x10, 8)]
  | .time => [(0x14, 0, 1), (0x20, 0, 1), (0x40, 0, 1)]
  | .pos => [(0x804, 0x20, 16), (0x1004, 0x200, 10)]
  | .fsch => [(0x44, 0, 1), (0xF00, 0, 1), (0x1004, 0x40, 48), (0x1020, 0x40, 48)]
  | .dce _ => [(0x08, 0, 1), (0x20, 0, 1), (0x38, 0, 1)]
  | .cmp _ => [(0x08, 0, 1), (0x20, 0, 1)]
  | .dma => [(0x1004, 0x40, 32), (0x100C, 0x40, 32), (0x2000, 0x40, 5)]
  | .ddr _ => [(0x24, 0, 1)]
  | .cam _ => [(0x0C, 0, 1)]
  | .bolt => [(0xF00, 0, 1)]
  | .cs => [(0x100, 8, 12), (0x180, 8, 12)]
  | .sec => [(0x10, 0, 1), (0x20, 0, 1)]
  | _ => []

/-- Whether an offset is the _LO register of a pair. -/
def Block.isLo (b : Block) (off : Nat) : Bool :=
  b.pairs.any (fun r => decide (r.1 ≤ off) && (if r.2.2 = 1 then decide (off = r.1)
    else decide ((off - r.1) % r.2.1 = 0 ∧ (off - r.1) / r.2.1 < r.2.2)))

/-- Whether an offset is the _HI register of a pair. -/
def Block.isHi (b : Block) (off : Nat) : Bool := decide (4 ≤ off) && b.isLo (off - 4)

/-! ## Reads -/

/-- Live registers of a block: the word that a read shows, and what the read changes; none where the stored word is shown. -/
def State.readView (s : State) (b : Block) (off : Nat) : Option (Word × State) :=
  let pure := fun (w : Option Word) => w.map (fun v => (v, s))
  match b with
  | .evt => pure (s.evtRead off)
  | .time => s.timeRead off
  | .pos => s.posRead off
  | .nves => if 0x8000 ≤ off ∧ off < 0xC000 then some (s.nvesWindow off, s) else none
  | .fsch => pure (s.fschRead off)
  | .hp n => pure (s.hpRead (finOf 48 (by decide) n) off)
  | .sq k => s.sqRead (finOf 12 (by decide) k) off
  | .dce k => if off = 4 then some (withField (s.rd (DCE_STAT k)) 3 0 (s.engState (finOf 16 (by decide) k)), s) else none
  | .cmp n => if off = 4 then some (withField (s.rd (CMP_STAT n)) 3 0 (s.cmpState (finOf 2 (by decide) n)), s) else none
  | .phy c => if off < 0x4000 then some (s.phyWord (finOf 2 (by decide) c) (off / 4), s) else none
  | .px p => s.pxRead (finOf 4 (by decide) p) off
  | .cam n =>
    if off = 0x10 then some (((s.rd (CAM_DIST_HI n)).extractLsb' 0 16).signExtend 32, s)
    else if off = 0x18 then some (withField (s.rd (CAM_STAT n)) 27 24 (s.camState (finOf 8 (by decide) n)), s)
    else none
  | .hmap => some (s.hmapRead off, s)
  | .csShadow => some (s.csWindow false off, s)
  | .csActive => some (s.csWindow true off, s)
  | .cs => pure (s.csRead off)
  | .sec => pure (s.secRead off)
  | .qspi => some (s.freeWord, s.advance)
  | .uart => some (s.freeWord, s.advance)
  | .gpio => some (s.freeWord, s.advance)
  | _ => none

/-- The stored word without its write-only fields (R14). -/
def State.stored (s : State) (b : Block) (off : Nat) : Word :=
  match rowAt b.table off with
  | none => 0
  | some r => s.rd (b.base + off) &&& ~~~(r.mask .wo)

/-- The RC fields of a register cleared by a read (R14). -/
def State.clearRc (s : State) (b : Block) (off : Nat) : State :=
  match rowAt b.table off with
  | none => s
  | some r => if r.mask .rc = 0 then s else s.wr (b.base + off) (s.rd (b.base + off) &&& ~~~(r.mask .rc))

/-- A read of a register of a block. A pair's _LO captures its _HI (R17). -/
def State.readUnit (s : State) (b : Block) (off : Nat) : Word × State :=
  let a := b.base + off
  let live := match s.readView b off with
    | some x => x
    | none => (s.stored b off, s)
  let t := live.2.clearRc b off
  if b.isLo off && !(decide (b = .time ∨ b = .pos) && (s.readView b off).isSome) then
    let hi := match s.readView b (off + 4) with
      | some x => x.1
      | none => s.stored b (off + 4)
    (live.1, t.capture (a + 4) hi)
  else if b.isHi off && !decide (b = .time ∨ b = .pos) then t.captured a live.1
  else if b.isHi off && (s.readView b off).isNone then t.captured a live.1
  else (live.1, t)

/-! ## Writes -/

/-- A register written by its access codes alone (R13, R14). -/
def State.writeCodes (s : State) (b : Block) (off : Nat) (v : Word) : State :=
  match rowAt b.table off with
  | none => s
  | some r =>
    let a := b.base + off
    let old := s.rd a
    let rw := r.mask .rw
    s.wr a ((((old &&& ~~~rw) ||| (v &&& rw)) &&& ~~~(v &&& r.mask .w1c)) ||| (v &&& r.mask .w1s))

/-- A register written where its block has no rule of its own for it: a pair takes effect with its _LO (R17). -/
def State.writePlain (s : State) (b : Block) (off : Nat) (v : Word) : State :=
  if b.isHi off then s.stageHi (b.base + off) v
  else if b.isLo off then (s.writeCodes b off v).writeCodes b (off + 4) (s.staged (b.base + off + 4))
  else s.writeCodes b off v

/-- The rule of a block for a write; none where the access codes say all. A sequencer may write only EVT_RAISE and EVT_RAISE_VAL of
EVT (R436), and of its control block what R133 names. -/
def State.writeRule (s : State) (m : Master) (b : Block) (off : Nat) (v : Word) : Option (Resp × State) :=
  let x := masterSup m
  match b with
  | .sys => s.sysWrite x off v
  | .clk => s.clkWrite x off v
  | .pwr => s.pwrWrite off v
  | .thm => s.thmWrite off v
  | .cal => s.calWrite off v
  | .nves => none
  | .evt =>
    match m with
    | .sq _ => if off = 0x200 ∨ off = 0x204 then s.evtWrite (masterSource m) off v else some (.errUnit, s)
    | _ => s.evtWrite (masterSource m) off v
  | .time => s.timeWrite off v
  | .pos => s.posWrite off v
  | .gov => s.govWrite off v
  | .fsch => s.fschWrite off v
  | .hp n => s.hpWrite (finOf 48 (by decide) n) off v
  | .sq k =>
    match m with
    | .sq _ => s.sqWriteOwn (finOf 12 (by decide) k) off
    | _ => s.sqWrite (finOf 12 (by decide) k) off v
  | .dce k => s.dceWrite (finOf 16 (by decide) k) off v
  | .cmp n => s.cmpWrite (finOf 2 (by decide) n) off v
  | .dma => s.dmaRegWrite off v
  | .ddr c => s.ddrWrite (finOf 2 (by decide) c) off v
  | .phy c => if off < 0x4000 then some (s.phyWrite (finOf 2 (by decide) c) (off / 4) v) else none
  | .ln i => if off = 0 then some (s.lnCtrl (finOf 16 (by decide) i) v) else none
  | .px p => s.pxWrite (finOf 4 (by decide) p) off v
  | .cam n => s.camWrite (finOf 8 (by decide) n) off v
  | .isp => s.ispWrite off v
  | .bolt => s.boltRegWrite off v
  | .hmap => some (s.hmapWrite off v)
  | .csShadow => some (s.csWindowWrite false off v)
  | .csActive => some (s.csWindowWrite true off v)
  | .cs => s.csWrite off v
  | .sec => s.secWrite x.isSome off v
  | .mbx => s.mbxWrite x off v
  | .qspi => none
  | .uart => none
  | .gpio => none

/-- A write of a register of a block by a master that reaches it. -/
def State.writeUnit (s : State) (m : Master) (b : Block) (off : Nat) (v : Word) : Resp × State :=
  match s.writeRule m b off v with
  | some r => r
  | none => (.ok, s.writePlain b off v)

/-- A write by a supervisor core: gating, then the unit (R18, R395). -/
def State.supWrite (s : State) (x : Fin 2) (b : Block) (off : Nat) (v : Word) : Resp × State :=
  if s.clocked b then s.writeUnit (.sc x) b off v else (.errGated, s)

/-! ## Answers of commands -/

/-- The answer of a command. -/
abbrev Answer := Host.Outcome State Fault Refusal

/-- The answer of a command that is one bus write: the state it leaves, with the response at the bus. -/
def busAnswer (r : Resp × State) : Answer := .next (r.2.bus r.1 0)

/-! ## Accesses by address -/

/-- The bytes of an access. -/
def accBytes : AccSize → Nat
  | .byte => 1
  | .half => 2
  | .word => 4

/-- Whether a master reaches a memory region: a sequencer its own local memory only, Fantail none of R35's (R33, R37). -/
def reachesMem (m : Master) (r : Region) : Bool :=
  match m with
  | .sq k => decide (r = .localMem k.val)
  | .fantail => false
  | _ => true

/-- The response to an access before any unit or memory answers it, with the block and offset of one to register space (R12, R18). -/
def State.busGate (s : State) (m : Master) (a : Nat) (size : AccSize) (write : Bool) : Resp × Option (Block × Nat) :=
  match regionOf a with
  | some r => if reachesMem m r then (if a % accBytes size = 0 then .ok else .errUnit, none) else (.errDecode, none)
  | none =>
    match blockAt a with
    | none => (.errDecode, none)
    | some (b, off) =>
      match reaches m b write with
      | .ok =>
        if !s.clocked b then (.errGated, none)
        else if size = .word ∧ a % 4 = 0 then (.ok, some (b, off))
        else (.errUnit, none)
      | e => (e, none)

/-- A read by a master: its response, its value, and the state after; none while it waits (R340). -/
def State.busRead (s : State) (m : Master) (a : Nat) (size : AccSize) : Option (Resp × Word × State) :=
  match s.busGate m a size false with
  | (.ok, some (b, off)) =>
    let r := s.readUnit b off
    some (.ok, r.1, r.2)
  | (.ok, none) =>
    match s.memRead a (accBytes size) with
    | none => none
    | some (r, bs, t) => some (r, BitVec.ofNat 32 (leNat bs), t)
  | (e, _) => some (e, 0, s)

/-- A write by a master; none while it waits. -/
def State.busWrite (s : State) (m : Master) (a : Nat) (size : AccSize) (v : Word) : Option (Resp × State) :=
  match s.busGate m a size true with
  | (.ok, some (b, off)) => some (s.writeUnit m b off v)
  | (.ok, none) => s.memWrite a (leBytes (accBytes size) v.toNat)
  | (e, _) => some (e, s)

end Sys2Proof.Machine
end

