-- ==== Sys2Proof/Machine/Encode.lean ====
section
/-!
DEFINITION. The encodings of Nolre (R58 to R62, R64 to R68, R71, R72, R100): the word of each instruction command, and which words are legal
on which processor (R56, R59); and the instruction of a word.
-/
namespace Sys2Proof.Machine

/-- R form: minor, rb, ra, rd, major. -/
def formR (minor rb ra rd major : Nat) : Word := BitVec.ofNat 32 (minor * 2 ^ 21 + rb * 2 ^ 16 + ra * 2 ^ 11 + rd * 2 ^ 6 + major)

/-- I and B forms: a 16-bit field, ra, rd, major. -/
def formI (imm : BitVec 16) (ra rd major : Nat) : Word := BitVec.ofNat 32 (imm.toNat * 2 ^ 16 + ra * 2 ^ 11 + rd * 2 ^ 6 + major)

/-- J form. -/
def formJ (imm : BitVec 26) (major : Nat) : Word := BitVec.ofNat 32 (imm.toNat * 2 ^ 6 + major)

/-- A CSR instruction: the operation in imm16 [15:12], the CSR number in imm16 [11:0] (R72). -/
def formCsr (op : Nat) (csr : BitVec 12) (ra rd : Nat) : Word := formI (BitVec.ofNat 16 (op * 4096 + csr.toNat)) ra rd 0x2C

/-- The word of an instruction; zero for a command that is no instruction. -/
def encode : Instr → Word
  | .add _ d a b => formR 0x001 b a d 0x00 | .sub _ d a b => formR 0x002 b a d 0x00
  | .andR _ d a b => formR 0x003 b a d 0x00 | .orR _ d a b => formR 0x004 b a d 0x00
  | .xorR _ d a b => formR 0x005 b a d 0x00 | .norR _ d a b => formR 0x006 b a d 0x00
  | .slt _ d a b => formR 0x007 b a d 0x00 | .sltu _ d a b => formR 0x008 b a d 0x00
  | .sll _ d a b => formR 0x009 b a d 0x00 | .srl _ d a b => formR 0x00A b a d 0x00
  | .sra _ d a b => formR 0x00B b a d 0x00 | .slli _ d a n => formR 0x00C n a d 0x00
  | .srli _ d a n => formR 0x00D n a d 0x00 | .srai _ d a n => formR 0x00E n a d 0x00
  | .clz _ d a => formR 0x00F 0 a d 0x00
  | .mul _ d a b => formR 0x001 b a d 0x01 | .mulh _ d a b => formR 0x002 b a d 0x01
  | .mulhu _ d a b => formR 0x003 b a d 0x01 | .div _ d a b => formR 0x004 b a d 0x01
  | .divu _ d a b => formR 0x005 b a d 0x01 | .rem _ d a b => formR 0x006 b a d 0x01
  | .remu _ d a b => formR 0x007 b a d 0x01
  | .bextu _ d a p w => formR w p a d 0x02 | .bexts _ d a p w => formR w p a d 0x03
  | .bins _ d a p w => formR w p a d 0x04
  | .addi _ d a i => formI i a d 0x08 | .andi _ d a i => formI i a d 0x09 | .ori _ d a i => formI i a d 0x0A
  | .xori _ d a i => formI i a d 0x0B | .slti _ d a i => formI i a d 0x0C | .sltiu _ d a i => formI i a d 0x0D
  | .lui _ d i => formI i 0 d 0x0E | .auipc _ d i => formI i 0 d 0x0F
  | .lb _ d a i => formI i a d 0x10 | .lh _ d a i => formI i a d 0x11 | .lw _ d a i => formI i a d 0x12
  | .lbu _ d a i => formI i a d 0x14 | .lhu _ d a i => formI i a d 0x15
  | .sb _ d a i => formI i a d 0x18 | .sh _ d a i => formI i a d 0x19 | .sw _ d a i => formI i a d 0x1A
  | .beq _ a d i => formI i a d 0x20 | .bne _ a d i => formI i a d 0x21 | .blt _ a d i => formI i a d 0x22
  | .bge _ a d i => formI i a d 0x23 | .bltu _ a d i => formI i a d 0x24 | .bgeu _ a d i => formI i a d 0x25
  | .jump _ i => formJ i 0x28 | .jal _ i => formJ i 0x29 | .jalr _ d a i => formI i a d 0x2A
  | .csrr _ d n => formCsr 0 n 0 d | .csrw _ d a n => formCsr 1 n a d | .csrs _ d a n => formCsr 2 n a d
  | .csrc _ d a n => formCsr 3 n a d
  | .trap _ c => formR 0x001 c 0 0 0x2E | .rft _ => formR 0x002 0 0 0 0x2E | .fenceIo _ => formR 0x003 0 0 0 0x2E
  | .wfe _ => formR 0x004 0 0 0 0x2E | .cclnD _ a => formR 0x008 0 a 0 0x2E | .cinvD _ a => formR 0x009 0 a 0 0x2E
  | .cinvI _ a => formR 0x00A 0 a 0 0x2E | .cclnrD _ a b => formR 0x00C b a 0 0x2E
  | .cinvrD _ a b => formR 0x00D b a 0 0x2E | .cinvrI _ a b => formR 0x00E b a 0 0x2E
  | .rtr _ d a => formR 0x010 0 a d 0x2E | .rtw _ a b => formR 0x011 b a 0 0x2E
  | .page _ a b m => formR m.toNat b a 0 0x30 | .endpg _ => formR 0 0 0 0 0x31 | .stream _ d a => formR 0 0 a d 0x32
  | .setport _ m => formR m.toNat 0 0 0 0x33 | .ldprof _ a b f => formR f.toNat b a 0 0x34
  | .buildn _ d a b => formR 0 b a d 0x35 | .fill _ d a b l => formR l.toNat b a d 0x36
  | .patt _ d a b => formR 0 b a d 0x37 | .commit _ d a b => formR 0 b a d 0x38 | .voidL _ d a b => formR 0 b a d 0x39
  | .waitq _ a b c => formR c.toNat b a 0 0x3A | .syncl _ a => formR 0 0 a 0 0x3B | .mark _ a b => formR 0 b a 0 0x3C
  | .epochq _ d a => formR 1 0 a d 0x3D | .fread _ d n => formR 2 n 0 d 0x3D | .xclr _ a => formR 3 0 a 0 0x3D
  | .bxs _ c i => formI i c 0 0x3E | .bxc _ c i => formI i c 1 0x3E
  | _ => 0

/-! ## Legal words (R56, R59, R60) -/

/-- The CSR numbers of R73. -/
def csrListed (n : Nat) : Bool :=
  decide (n ≤ 6 ∨ n = 8 ∨ n = 9 ∨ n = 0x10 ∨ n = 0x11 ∨ n = 0x14 ∨ n = 0x15 ∨ n = 0x20)

/-- The CSRs whose access is RO. -/
def csrRo (n : Nat) : Bool :=
  decide (n = 2 ∨ n = 3 ∨ n = 6 ∨ n = 9 ∨ n = 0x10 ∨ n = 0x11 ∨ n = 0x14 ∨ n = 0x15)

/-- Whether a CSR access is legal (R72): operation, number, and ra ≠ 0. -/
def csrLegal (op n : Nat) (raNz : Bool) : Bool :=
  csrListed n && (match op with
    | 0 => !raNz
    | 1 => !csrRo n
    | 2 => !csrRo n || !raNz
    | 3 => !csrRo n || !raNz
    | _ => false)

/-- Legal words of major 0x2E: minor, rb, ra, rd. -/
def sysLegal (minor rb ra rd : Nat) : Bool :=
  match minor with
  | 0x001 => decide (ra = 0 ∧ rd = 0)
  | 0x002 | 0x003 | 0x004 => decide (rb = 0 ∧ ra = 0 ∧ rd = 0)
  | 0x008 | 0x009 | 0x00A => decide (rb = 0 ∧ rd = 0)
  | 0x00C | 0x00D | 0x00E | 0x011 => decide (rd = 0)
  | 0x010 => decide (rb = 0)
  | _ => false

/-- Legal words of majors 0x30 to 0x3E: `hi` is bits [31:21] (R100, R101, R118, R121). -/
def fireLegal (major hi rb ra rd : Nat) : Bool :=
  match major with
  | 0x30 | 0x34 => decide (hi < 16 ∧ rd = 0)
  | 0x3A => decide (hi < 3 ∧ rd = 0)
  | 0x31 => decide (hi = 0 ∧ rb = 0 ∧ ra = 0 ∧ rd = 0)
  | 0x32 => decide (hi = 0 ∧ rb = 0)
  | 0x33 => decide (hi < 16 ∧ rb = 0 ∧ ra = 0 ∧ rd = 0)
  | 0x35 | 0x37 | 0x38 | 0x39 => decide (hi = 0)
  | 0x36 => decide (hi < 16)
  | 0x3B => decide (hi = 0 ∧ rb = 0 ∧ rd = 0)
  | 0x3C => decide (hi = 0 ∧ rd = 0)
  | 0x3D => decide ((hi = 1 ∧ rb = 0) ∨ (hi = 2 ∧ ra = 0 ∧ rb < 14) ∨ (hi = 3 ∧ rb = 0 ∧ rd = 0))
  | 0x3E => decide (rd < 2 ∧ ra < 16)
  | _ => false

/-- Whether a word is a legal instruction of a processor. -/
def legalWord (c : CoreId) (w : Word) : Bool :=
  let major := field w 5 0
  let hi := field w 31 21
  let rb := field w 20 16
  let ra := field w 15 11
  let rd := field w 10 6
  if major = 0 then decide (1 ≤ hi ∧ hi ≤ 0xF ∧ (hi = 0xF → rb = 0))
  else if major = 1 then decide (1 ≤ hi ∧ hi ≤ 7)
  else if 2 ≤ major ∧ major ≤ 4 then decide (hi < 32 ∧ rb + hi + 1 ≤ 32)
  else if 0x08 ≤ major ∧ major ≤ 0x0D then true
  else if major = 0x0E ∨ major = 0x0F then decide (ra = 0)
  else if (0x10 ≤ major ∧ major ≤ 0x12) ∨ major = 0x14 ∨ major = 0x15 then true
  else if 0x18 ≤ major ∧ major ≤ 0x1A then true
  else if (0x20 ≤ major ∧ major ≤ 0x25) ∨ (0x28 ≤ major ∧ major ≤ 0x2A) then true
  else match c with
    | .sc _ =>
      if major = 0x2C then csrLegal (field w 31 28) (field w 27 16) (decide (ra ≠ 0))
      else if major = 0x2E then sysLegal hi rb ra rd else false
    | .sq _ => fireLegal major hi rb ra rd
    | .fantail => false

/-! ## The instruction of a word -/

/-- A five-bit field of a word as a register number, a shift amount or another five-bit operand. -/
def field5 (w : Word) (lo : Nat) : Fin 32 := finOf 32 (by decide) (field w (lo + 4) lo)

/-- Majors 0x00 and 0x01 (R61, R62). -/
def decodeAlu (c : CoreId) (major minor : Nat) (d a b : Fin 32) : Option Instr :=
  match major, minor with
  | 0, 0x1 => some (.add c d a b) | 0, 0x2 => some (.sub c d a b) | 0, 0x3 => some (.andR c d a b) | 0, 0x4 => some (.orR c d a b)
  | 0, 0x5 => some (.xorR c d a b) | 0, 0x6 => some (.norR c d a b) | 0, 0x7 => some (.slt c d a b) | 0, 0x8 => some (.sltu c d a b)
  | 0, 0x9 => some (.sll c d a b) | 0, 0xA => some (.srl c d a b) | 0, 0xB => some (.sra c d a b) | 0, 0xC => some (.slli c d a b)
  | 0, 0xD => some (.srli c d a b) | 0, 0xE => some (.srai c d a b) | 0, 0xF => some (.clz c d a)
  | 1, 0x1 => some (.mul c d a b) | 1, 0x2 => some (.mulh c d a b) | 1, 0x3 => some (.mulhu c d a b) | 1, 0x4 => some (.div c d a b)
  | 1, 0x5 => some (.divu c d a b) | 1, 0x6 => some (.rem c d a b) | 1, 0x7 => some (.remu c d a b)
  | _, _ => none

/-- Majors with a 16-bit or 26-bit immediate (R65 to R68). -/
def decodeImm (c : CoreId) (major : Nat) (d a : Fin 32) (i : BitVec 16) (j : BitVec 26) : Option Instr :=
  match major with
  | 0x08 => some (.addi c d a i) | 0x09 => some (.andi c d a i) | 0x0A => some (.ori c d a i) | 0x0B => some (.xori c d a i)
  | 0x0C => some (.slti c d a i) | 0x0D => some (.sltiu c d a i) | 0x0E => some (.lui c d i) | 0x0F => some (.auipc c d i)
  | 0x10 => some (.lb c d a i) | 0x11 => some (.lh c d a i) | 0x12 => some (.lw c d a i)
  | 0x14 => some (.lbu c d a i) | 0x15 => some (.lhu c d a i)
  | 0x18 => some (.sb c d a i) | 0x19 => some (.sh c d a i) | 0x1A => some (.sw c d a i)
  | 0x20 => some (.beq c a d i) | 0x21 => some (.bne c a d i) | 0x22 => some (.blt c a d i)
  | 0x23 => some (.bge c a d i) | 0x24 => some (.bltu c a d i) | 0x25 => some (.bgeu c a d i)
  | 0x28 => some (.jump c j) | 0x29 => some (.jal c j) | 0x2A => some (.jalr c d a i)
  | _ => none

/-- Major 0x2C: the operation and the CSR number (R72). -/
def decodeCsr (c : CoreId) (op : Nat) (n : BitVec 12) (d a : Fin 32) : Option Instr :=
  match op with
  | 0 => some (.csrr c d n) | 1 => some (.csrw c d a n) | 2 => some (.csrs c d a n) | 3 => some (.csrc c d a n)
  | _ => none

/-- Major 0x2E (R71). -/
def decodeSys (c : CoreId) (minor : Nat) (d a b : Fin 32) : Option Instr :=
  match minor with
  | 0x001 => some (.trap c b) | 0x002 => some (.rft c) | 0x003 => some (.fenceIo c) | 0x004 => some (.wfe c)
  | 0x008 => some (.cclnD c a) | 0x009 => some (.cinvD c a) | 0x00A => some (.cinvI c a)
  | 0x00C => some (.cclnrD c a b) | 0x00D => some (.cinvrD c a b) | 0x00E => some (.cinvrI c a b)
  | 0x010 => some (.rtr c d a) | 0x011 => some (.rtw c a b)
  | _ => none

/-- Majors 0x30 to 0x3E of the fire extension (R100, R101, R121). -/
def decodeFire (c : CoreId) (major hi : Nat) (d a b : Fin 32) (i : BitVec 16) : Option Instr :=
  let m := BitVec.ofNat 4 hi
  match major with
  | 0x30 => some (.page c a b m) | 0x31 => some (.endpg c) | 0x32 => some (.stream c d a) | 0x33 => some (.setport c m)
  | 0x34 => some (.ldprof c a b m) | 0x35 => some (.buildn c d a b) | 0x36 => some (.fill c d a b m) | 0x37 => some (.patt c d a b)
  | 0x38 => some (.commit c d a b) | 0x39 => some (.voidL c d a b) | 0x3A => some (.waitq c a b m) | 0x3B => some (.syncl c a)
  | 0x3C => some (.mark c a b)
  | 0x3D => if hi = 1 then some (.epochq c d a) else if hi = 2 then some (.fread c d b) else some (.xclr c a)
  | 0x3E => if d.val = 0 then some (.bxs c a i) else some (.bxc c a i)
  | _ => none

/-- The instruction that a word spells on a processor; none where the word is not legal there. -/
def decodeWord (c : CoreId) (w : Word) : Option Instr :=
  if !legalWord c w then none
  else
    let major := field w 5 0
    let hi := field w 31 21
    let b := field5 w 16
    let a := field5 w 11
    let d := field5 w 6
    if major ≤ 1 then decodeAlu c major hi d a b
    else if major = 2 then some (.bextu c d a b (finOf 32 (by decide) hi))
    else if major = 3 then some (.bexts c d a b (finOf 32 (by decide) hi))
    else if major = 4 then some (.bins c d a b (finOf 32 (by decide) hi))
    else if major < 0x2C then decodeImm c major d a (w.extractLsb' 16 16) (w.extractLsb' 6 26)
    else match c with
      | .sc _ => if major = 0x2C then decodeCsr c (field w 31 28) (w.extractLsb' 16 12) d a else decodeSys c hi d a b
      | .sq _ => decodeFire c major hi d a b (w.extractLsb' 16 16)
      | .fantail => none

end Sys2Proof.Machine
end

