-- ==== Sys2Proof/Machine/NolreOps.lean ====
section
/-!
DEFINITION. The Nolre processors' shared operations: taking a trap and returning from one (R75 to R82), the region table (R84 to R87),
caches and buffers (R88 to R91), fetches, loads and stores (R66), and the frame that every instruction runs in.
-/
namespace Sys2Proof.Machine

/-! ## Traps of each kind of processor (R75 to R82) -/

/-- A synchronous trap on a supervisor core. -/
def State.supTrap (s : State) (x : Fin 2) (t : TrapInfo) : State :=
  if s.scs[x].inTrap then (s.modSup x (fun u => u.double t)).raise evCORE_HALT x 0
  else s.modSup x (fun u => u.enter t)

/-- A trap on a sequencer: it halts, with the trap in its control block; SQ_TRAP names the page and the last committed line (R82). -/
def State.sqTrap (s : State) (k : Fin 12) (t : TrapInfo) : State :=
  let q := s.sqs[k]
  let s := ((s.put (SQ_TRAP_INFO_KIND k) t.kind).put (SQ_TRAP_INFO_RESP k) t.resp).put (SQ_TRAP_INFO_CODE k) t.code
  let s := (s.wr (SQ_TRAP_TVAL k) t.tval).wr (SQ_TRAP_PC k) q.core.pc
  let s := s.modSq k (fun q => { q with st := .halted })
  s.raiseAt evSQ_TRAP k 0 q.page (BitVec.ofNat 32 q.lastCommitted)

/-- A trap on Fantail: every permission is cleared, Fantail restarts from its ROM, and the record of the trap waits for NVES (R82). -/
def State.fanTrap (s : State) : State :=
  let s := s.withdrawAll
  let core := { Core.reset with pc := fanStart }
  let s := { s with fan := { s.fan with core := core, trapRecord := true } }
  (s.nvesQueue (s.nvesRec evFANTAIL_TRAP 0 0 s.refLine.1 s.refLine.2)).raise evFANTAIL_TRAP 0 0

/-- A synchronous trap on a processor. -/
def State.trapTo (s : State) (c : CoreId) (t : TrapInfo) : State :=
  match c with
  | .sc x => s.supTrap x t
  | .sq k => s.sqTrap k t
  | .fantail => s.fanTrap

/-! ## The region table (R84 to R87) -/

/-- A physical address with the attributes of its region. -/
structure Mapped where
  pa : Nat
  device : Bool
  cached : Bool
deriving DecidableEq, Repr

/-- SIZE_LOG2 of an entry. -/
def rtSize (e : Vector Word 4) : Nat := field e[3] 20 16

/-- An entry matches an effective address. -/
def rtMatch (e : Vector Word 4) (ea : Word) : Bool :=
  e[3].getLsbD 31 && decide (ea.toNat / 2 ^ rtSize e = e[0].toNat / 2 ^ rtSize e)

/-- The permission bit of word 3 that an access needs: fetch, load or store; maintenance needs none. -/
def rtAllows (e : Vector Word 4) (kind : Nat) : Bool :=
  if kind = kFETCH then e[3].getLsbD 2 else if kind = kLOAD then e[3].getLsbD 0 else if kind = kSTORE then e[3].getLsbD 1 else true

/-- The physical address of an effective address in the region of an entry. -/
def rtPhys (e : Vector Word 4) (ea : Word) : Nat :=
  let n := 2 ^ rtSize e
  (field e[2] 7 0 * 2 ^ 32 + e[1].toNat / 4096 * 4096) / n * n + ea.toNat % n

/-- Translation for an access of a kind; none is REGION_FAULT (R86). With RT_EN = 0 an effective address is its own physical one, a
device region with every permission (R84). -/
def Sup.translate (u : Sup) (ea : Word) (kind : Nat) : Option Mapped :=
  if u.rtEn then
    match u.rt.toList.find? (fun e => rtMatch e ea) with
    | none => none
    | some e =>
      if rtAllows e kind then
        some { pa := rtPhys e ea, device := e[3].getLsbD 4, cached := e[3].getLsbD 3 && !e[3].getLsbD 4 }
      else none
  else some { pa := ea.toNat, device := true, cached := false }

/-- A region-table word as stored (R85). -/
def rtForm (w : Nat) (v : Word) : Word :=
  match w with
  | 2 => v &&& 0x000000FF#32
  | 3 =>
    let v := v &&& 0x801F001F#32
    if field v 20 16 < 12 then withField v 20 16 12 else v
  | _ => v &&& 0xFFFFF000#32

/-! ## Buffers and caches (R88 to R91) -/

/-- The outcome of a memory access of a processor: it waits, it traps, or it ends with a value. -/
inductive Access1 (α : Type) where
  | wait
  | trap (t : TrapInfo) (s : State)
  | ok (a : α) (s : State)

/-- The first failed write since the last FENCE.IO is kept, and DC_WB_ERR raised (R91). -/
def State.asyncErr (s : State) (x : Fin 2) (addr : Nat) (r : Resp) : State :=
  let e : AsyncErr := match s.scs[x].asyncErr with
    | none => { addr := addr, resp := r, multi := false }
    | some e => { e with multi := true }
  (s.modSup x (fun u => { u with asyncErr := some e })).raise evDC_WB_ERR x 0

/-- The response of a finished write of a buffer. -/
def State.bufferDone (s : State) (x : Fin 2) (addr : Nat) (r : Resp) : State := if r = .ok then s else s.asyncErr x addr r

/-- The 64 bytes of a line. -/
def lineBytes64 (d : BitVec 512) : List Byte := leBytes 64 d.toNat

/-- The oldest buffered store is written, with its response; none while it waits. -/
def State.drainStore (s : State) (x : Fin 2) : Option (Resp × State) :=
  match s.scs[x].wbuf with
  | [] => some (.ok, s)
  | b :: rest =>
    match s.busWrite (.sc x) b.addr (if b.size = 4 then .word else if b.size = 2 then .half else .byte) b.data with
    | none => none
    | some (r, t) => some (r, (t.modSup x (fun u => { u with wbuf := rest })).bufferDone x b.addr r)

/-- The oldest write-back is written, with its response; none while it waits. -/
def State.drainBack (s : State) (x : Fin 2) : Option (Resp × State) :=
  match s.scs[x].wback with
  | [] => some (.ok, s)
  | l :: rest =>
    match s.memWrite (64 * l.line) (lineBytes64 l.data) with
    | none => none
    | some (r, t) => some (r, (t.modSup x (fun u => { u with wback := rest })).bufferDone x (64 * l.line) r)

/-- Both buffers drained, as far as the memory accepts; the Bool says that they are empty. -/
def State.drainAll (x : Fin 2) : Nat → State → Bool × State
  | 0, s => (s.scs[x].wbuf.isEmpty && s.scs[x].wback.isEmpty, s)
  | n + 1, s =>
    if s.scs[x].wbuf.isEmpty && s.scs[x].wback.isEmpty then (true, s)
    else match s.drainStore x with
      | none => (false, s)
      | some (_, s) => match s.drainBack x with
        | none => (false, s)
        | some (_, s) => State.drainAll x n s

/-- Buffered stores drained, at most `n`, until none of them lies on a line; none while they wait. A write-back follows the older
stores to its line, so memory ends with the core's newest data (R90). -/
def State.storesOut (x : Fin 2) (line : Nat) : Nat → State → Option State
  | 0, s => some s
  | n + 1, s =>
    if s.scs[x].wbuf.any (fun b => decide (b.addr / 64 = line)) then
      (s.drainStore x).bind (fun r => State.storesOut x line n r.2)
    else some s

/-- Write-backs drained, at most `n`, until none of them is of a line; none while they wait. A buffered store follows the older
write-back of its line (R90). -/
def State.backsOut (x : Fin 2) (line : Nat) : Nat → State → Option State
  | 0, s => some s
  | n + 1, s =>
    if s.scs[x].wback.any (fun b => decide (b.line = line)) then
      (s.drainBack x).bind (fun r => State.backsOut x line n r.2)
    else some s

/-- A list of bytes from address `a` with the bytes of `bs` at address `b` laid over it. -/
def overlay (a : Nat) (l : List Byte) (b : Nat) (bs : List Byte) : List Byte :=
  l.zipIdx.map (fun x => if b ≤ a + x.2 ∧ a + x.2 < b + bs.length then bs.getD (a + x.2 - b) 0 else x.1)

/-- Bytes read from memory as the core sees them: its own waiting write-backs and stores on top (R90). -/
def Sup.ownView (u : Sup) (a : Nat) (l : List Byte) : List Byte :=
  let l := u.wback.foldl (fun (l : List Byte) b => overlay a l (64 * b.line) (lineBytes64 b.data)) l
  u.wbuf.foldl (fun (l : List Byte) b => overlay a l b.addr (leBytes b.size b.data.toNat)) l

/-- A dirty line enters the write-back buffer of 8, behind the older stores to it; none while the buffer is full and cannot drain
(R89, R90). -/
def State.pushBack (s : State) (x : Fin 2) (l : CacheLine) : Option State :=
  let put := fun (t : State) => t.modSup x (fun u => { u with wback := u.wback ++ [l] })
  (State.storesOut x l.line s.scs[x].wbuf.length s).bind (fun t =>
    if t.scs[x].wback.length < 8 then some (put t) else (t.drainBack x).map (fun r => put r.2))

/-- A line leaves the data cache, a dirty one through the write-back buffer; none while that waits. -/
def State.evict (s : State) (x : Fin 2) (l : CacheLine) : Option State :=
  (if l.dirty then s.pushBack x l else some s).map (fun t =>
    t.modSup x (fun u => { u with dcache := u.dcache.filter (fun c => decide (c.line ≠ l.line)) }))

/-- Room for a line in its set of 4 ways: the victim of a full set is a free value (R88, log 1); none while a victim waits. -/
def State.makeRoom (s : State) (x : Fin 2) (line : Nat) : Option State :=
  let ways := s.scs[x].dcache.filter (fun c => decide (c.line % 128 = line % 128))
  if ways.length < 4 then some s
  else match ways[s.freeBelow ways.length]? with
    | none => some s
    | some l => s.advance.evict x l

/-- The line of an address brought into the data cache (R88): its state after, or the response that failed; none while it waits. -/
def State.fill (s : State) (x : Fin 2) (line : Nat) : Option (Resp × State) :=
  if s.scs[x].dcache.any (fun c => decide (c.line = line)) then some (.ok, s)
  else match s.memRead (64 * line) 64 with
    | none => none
    | some (.ok, bs, t) =>
      (t.makeRoom x line).map (fun t =>
        let d := BitVec.ofNat 512 (leNat (t.scs[x].ownView (64 * line) bs))
        (.ok, t.modSup x (fun u => { u with dcache := { line := line, dirty := false, data := d } :: u.dcache })))
    | some (r, _, t) => some (r, t)

/-- BUS_ERROR of an access. -/
def busTrap (kind : Nat) (r : Resp) (ea : Word) : TrapInfo := { trapOf tBUS_ERROR ea with kind := kind, resp := r.code }

/-- REGION_FAULT of an access. -/
def regionTrap (kind : Nat) (ea : Word) : TrapInfo := { trapOf tREGION_FAULT ea with kind := kind }

/-- A cached access: the region is cacheable, its cache on, and the address lies in memory. Uncached and device accesses make no
lookup, so a line that a change of C or D leaves behind is used again only by an access that looks it up (R84, R96, log 90). -/
def Mapped.viaCache (m : Mapped) (on : Bool) : Bool := m.cached && on && (regionOf m.pa).isSome

/-- A line of the data cache by its number. -/
def Sup.lineOf (u : Sup) (line : Nat) : BitVec 512 := ((u.dcache.find? (fun c => decide (c.line = line))).map (fun c => c.data)).getD 0

/-- A load by a supervisor core. -/
def State.supLoad (s : State) (x : Fin 2) (ea : Word) (size : AccSize) : Access1 Word :=
  match s.scs[x].translate ea kLOAD with
  | none => .trap (regionTrap kLOAD ea) s
  | some m =>
    if m.viaCache s.scs[x].dcEn then
      match s.fill x (m.pa / 64) with
      | none => .wait
      | some (.ok, t) => .ok (BitVec.ofNat 32 (leAt (lineBytes64 (t.scs[x].lineOf (m.pa / 64))) (m.pa % 64) (accBytes size))) t
      | some (r, t) => .trap (busTrap kLOAD r ea) t
    else
      match s.busRead (.sc x) m.pa size with
      | none => .wait
      | some (.ok, v, t) =>
        if (regionOf m.pa).isSome then
          .ok (BitVec.ofNat 32 (leNat (t.scs[x].ownView m.pa (leBytes (accBytes size) v.toNat)))) t
        else .ok v t
      | some (r, _, t) => .trap (busTrap kLOAD r ea) t

/-- A store by a supervisor core: through the cache, into the write buffer of 8, or to a device and its response (R90). -/
def State.supStore (s : State) (x : Fin 2) (ea : Word) (size : AccSize) (v : Word) : Access1 Unit :=
  match s.scs[x].translate ea kSTORE with
  | none => .trap (regionTrap kSTORE ea) s
  | some m =>
    if m.viaCache s.scs[x].dcEn then
      match s.fill x (m.pa / 64) with
      | none => .wait
      | some (.ok, t) =>
        let put := fun (c : CacheLine) =>
          if c.line = m.pa / 64 then
            { c with dirty := true, data := BitVec.ofNat 512 (leNat
              (overlay (64 * c.line) (lineBytes64 c.data) m.pa (leBytes (accBytes size) v.toNat))) }
          else c
        .ok () (t.modSup x (fun u => { u with dcache := u.dcache.map put }))
      | some (r, t) => .trap (busTrap kSTORE r ea) t
    else if m.device then
      match s.busWrite (.sc x) m.pa size v with
      | none => .wait
      | some (.ok, t) => .ok () t
      | some (r, t) => .trap (busTrap kSTORE r ea) t
    else
      let put := fun (t : State) => t.modSup x (fun u => { u with wbuf := u.wbuf ++ [{ addr := m.pa, size := accBytes size, data := v }] })
      match State.backsOut x (m.pa / 64) s.scs[x].wback.length s with
      | none => .wait
      | some t =>
        if t.scs[x].wbuf.length < 8 then .ok () (put t)
        else match t.drainStore x with
          | none => .wait
          | some (_, t) => .ok () (put t)

/-! ## Fantail's private memory (R56) -/

/-- Fantail's own ROM and RAM of 64 KiB each: the offset in the ROM, or in the RAM (log 11). -/
def fanPlace (a : Nat) : Option (Bool × Nat) :=
  if Config.fantailRomBase ≤ a ∧ a < Config.fantailRomBase + 0x10000 then some (true, a - Config.fantailRomBase)
  else if Config.fantailRamBase ≤ a ∧ a < Config.fantailRamBase + 0x10000 then some (false, a - Config.fantailRamBase)
  else none

/-- What a byte of Fantail's RAM that nothing has written reads as (log 2). -/
def fanDefault : Nat → Byte := fun _ => 0

/-- A load by Fantail. -/
def State.fanLoad (s : State) (ea : Word) (size : AccSize) : Access1 Word :=
  match fanPlace ea.toNat with
  | some (rom, off) =>
    let bs := (List.range (accBytes size)).map (fun (i : Nat) =>
      if rom then Config.fantailRomByte (off + i) else s.fan.ram.get fanDefault (off + i))
    .ok (BitVec.ofNat 32 (leNat bs)) s
  | none =>
    match s.busRead .fantail ea.toNat size with
    | none => .wait
    | some (.ok, v, t) => .ok v t
    | some (r, _, t) => .trap (busTrap kLOAD r ea) t

/-- A store by Fantail; its ROM takes none: ERR_UNIT (log 15). -/
def State.fanStore (s : State) (ea : Word) (size : AccSize) (v : Word) : Access1 Unit :=
  match fanPlace ea.toNat with
  | some (true, _) => .trap (busTrap kSTORE .errUnit ea) s
  | some (false, off) =>
    let ram := (leBytes (accBytes size) v.toNat).zipIdx.foldl (fun (t : Table Byte) b => t.set fanDefault (off + b.2) b.1) s.fan.ram
    .ok () { s with fan := { s.fan with ram := ram } }
  | none =>
    match s.busWrite .fantail ea.toNat size v with
    | none => .wait
    | some (.ok, t) => .ok () t
    | some (r, t) => .trap (busTrap kSTORE r ea) t

/-! ## Loads, stores and fetches of any processor (R66) -/

/-- MISALIGN of a load or store (R66). -/
def misaligned (ea : Word) (size : AccSize) : Bool := decide (ea.toNat % accBytes size ≠ 0)

/-- A load. -/
def State.load (s : State) (c : CoreId) (ea : Word) (size : AccSize) : Access1 Word :=
  if misaligned ea size then .trap { trapOf tMISALIGN ea with kind := kLOAD } s
  else match c with
    | .sc x => s.supLoad x ea size
    | .fantail => s.fanLoad ea size
    | .sq k =>
      match s.busRead (.sq k) ea.toNat size with
      | none => .wait
      | some (.ok, v, t) => .ok v t
      | some (r, _, t) => .trap (busTrap kLOAD r ea) t

/-- A store. -/
def State.store (s : State) (c : CoreId) (ea : Word) (size : AccSize) (v : Word) : Access1 Unit :=
  if misaligned ea size then .trap { trapOf tMISALIGN ea with kind := kSTORE } s
  else match c with
    | .sc x => s.supStore x ea size v
    | .fantail => s.fanStore ea size v
    | .sq k =>
      match s.busWrite (.sq k) ea.toNat size v with
      | none => .wait
      | some (.ok, t) => .ok () t
      | some (r, t) => .trap (busTrap kSTORE r ea) t

/-- A fetch allocates its line in the instruction cache: 4 ways by 128 sets, the victim a free value (R88, log 1). The next line,
which the cache may fetch ahead, it leaves alone (log 91). -/
def State.icFill (s : State) (x : Fin 2) (line : Nat) : State :=
  let l := s.scs[x].icache
  if l.contains line then s
  else
    let ways := l.filter (fun (n : Nat) => decide (n % 128 = line % 128))
    let v := if ways.length < 4 then l else l.filter (fun (n : Nat) => decide (some n ≠ ways[s.freeBelow ways.length]?))
    s.advance.modSup x (fun u => { u with icache := line :: v })

/-- The response of a fetch from a physical address: memory answers, and register space by its gate (R12, R18). -/
def State.fetchResp (s : State) (m : Master) (pa : Nat) : Option (Resp × State) :=
  match s.busGate m pa .word false with
  | (.ok, none) => (s.memRead pa 4).map (fun r => (r.1, r.2.2))
  | (r, _) => some (r, s)

/-- The fetch of the instruction at the pc of a processor (R66, R77, R86). -/
def State.fetch (s : State) (c : CoreId) : Access1 Unit :=
  let ea := s.pcOf c
  match c with
  | .sc x =>
    match s.scs[x].translate ea kFETCH with
    | none => .trap (regionTrap kFETCH ea) s
    | some m =>
      if m.viaCache s.scs[x].icEn && s.scs[x].icache.contains (m.pa / 64) then .ok () s
      else match s.fetchResp (.sc x) m.pa with
        | none => .wait
        | some (.ok, t) => .ok () (if m.viaCache t.scs[x].icEn then t.icFill x (m.pa / 64) else t)
        | some (r, t) => .trap (busTrap kFETCH r ea) t
  | .sq k =>
    match s.fetchResp (.sq k) ea.toNat with
    | none => .wait
    | some (.ok, t) => .ok () t
    | some (r, t) => .trap (busTrap kFETCH r ea) t
  | .fantail =>
    match fanPlace ea.toNat with
    | some _ => .ok () s
    | none =>
      match s.fetchResp .fantail ea.toNat with
      | none => .wait
      | some (.ok, t) => .ok () t
      | some (r, t) => .trap (busTrap kFETCH r ea) t

/-! ## The frame of an instruction (R69) -/

/-- The processor can execute an instruction now: it runs, its clock runs, and it neither waits nor is halted (R80, R81, R97, R395). -/
def State.ready (s : State) (c : CoreId) : Bool :=
  match c with
  | .sc x => s.scs[x].running && s.bit CLK_EN0 (1 + x) && !s.scs[x].halted && !s.scs[x].wfe
  | .sq k => decide (s.sqs[k].st = .run ∧ s.sqs[k].wait = .none) && s.bit CLK_EN1 k
  | .fantail => s.fan.running

/-- A sequencer's waits are looked at before it executes. -/
def State.settleWait (s : State) (c : CoreId) : State :=
  match c with
  | .sq k => s.pollSq k
  | _ => s

/-- Cycles counted for an instruction (R69). -/
def State.spend (s : State) (c : CoreId) (n : Nat) : State :=
  s.modCore c (fun k => { k with cycle := k.cycle + BitVec.ofNat 64 n })

/-- Cycles by class: on a supervisor core, a sequencer, Fantail. -/
def perCore (c : CoreId) (sc sq fan : Nat) : Nat :=
  match c with
  | .sc _ => sc
  | .sq _ => sq
  | .fantail => fan

/-- The extension of an instruction: 0 base, 1 system, 2 fire; whether the processor has it (R56). -/
def hasExt (c : CoreId) (ext : Nat) : Bool :=
  match c with
  | .sc _ => decide (ext ≠ 2)
  | .sq _ => decide (ext ≠ 1)
  | .fantail => decide (ext = 0)

/-- A register that a queued build will write (R109, R123). -/
def State.buildPends (s : State) (c : CoreId) (rs : List (Fin 32)) : Bool :=
  match c with
  | .sq k => s.sqs[k].builds.any (fun b => decide (b.rd ≠ 0) && rs.contains b.rd)
  | _ => false

/-- The EVENT trap is due before the next instruction: TIE = 1 and the EVT line asserted (R77, R79). -/
def State.eventDue (s : State) (c : CoreId) : Bool :=
  match c with
  | .sc x => s.scs[x].tie && !(s.evt.queues[x]).isEmpty
  | _ => false

/-- The EVENT trap of a supervisor core (R76 to R78). -/
def State.takeEvent (s : State) (c : CoreId) : State :=
  match c with
  | .sc x => s.modSup x Sup.enterEvent
  | _ => s

/-- An instruction executes: the processor is ready, no EVENT trap comes first, its fetch succeeds, it has the extension, and no queued
build owns a register of the instruction; otherwise it does not execute, or takes its trap. `word` is its encoding. -/
def State.runInstr (s : State) (c : CoreId) (ext : Nat) (word : Word) (rs : List (Fin 32)) (body : State → State) : State :=
  let s := s.settleWait c
  if s.ready c then
    if s.eventDue c then s.takeEvent c
    else match s.fetch c with
    | .wait => s
    | .trap t s => s.trapTo c t
    | .ok _ s =>
      if !hasExt c ext then s.trapTo c (trapOf tILLEGAL word)
      else if s.buildPends c rs then
        match c with
        | .sq k => if ext = 2 then s.stallSq k 4 else s.stallBase k
        | _ => s
      else body s
  else s

/-- A base instruction that computes a value into g[rd]. -/
def State.aluInstr (s : State) (c : CoreId) (word : Word) (rd : Fin 32) (rs : List (Fin 32)) (cycles : Nat) (v : State → Word) : Answer :=
  .next (s.runInstr c 0 word (rd :: rs) (fun s => (s.result c rd (v s)).spend c cycles))

/-- A branch: taken to pc + offset, or not (R67). -/
def State.branchInstr (s : State) (c : CoreId) (word : Word) (ra rd : Fin 32) (off : BitVec 16) (taken : Word → Word → Bool) : Answer :=
  .next (s.runInstr c 0 word [ra, rd] (fun s =>
    if taken (s.gr c ra) (s.gr c rd) then (s.setPc c (s.pcOf c + branchOff off)).spend c (perCore c 3 2 2)
    else (s.nextPc c).spend c 1))

/-- Cycles of a load: a cache hit, local or private memory, or the bus (R69, log 1). -/
def State.loadCycles (s : State) (c : CoreId) (ea : Word) : Nat :=
  match c with
  | .sc x =>
    match s.scs[x].translate ea kLOAD with
    | some m => if m.viaCache s.scs[x].dcEn && s.scs[x].dcache.any (fun l => decide (l.line = m.pa / 64)) then 3 else Config.busLatency s.free
    | none => 0
  | .sq k => if regionOf ea.toNat = some (.localMem k.val) then 2 else Config.busLatency s.free
  | .fantail => if (fanPlace ea.toNat).isSome then 1 else Config.busLatency s.free

/-- A load: its value extended into g[rd] (R66). -/
def State.loadInstr (s : State) (c : CoreId) (word : Word) (rd ra : Fin 32) (imm : BitVec 16) (size : AccSize) (ext : Word → Word) : Answer :=
  .next (s.runInstr c 0 word [rd, ra] (fun s =>
    let ea := s.gr c ra + simm imm
    let n := s.loadCycles c ea
    match s.load c ea size with
    | .wait => s
    | .trap t s => s.trapTo c t
    | .ok v s => ((s.advance.result c rd (ext v)).spend c n)))

/-- Cycles of a store (R69): 1 where it lands in a cache, a buffer or a private memory. -/
def State.storeCycles (s : State) (c : CoreId) (ea : Word) : Nat :=
  match c with
  | .sc x =>
    match s.scs[x].translate ea kSTORE with
    | some m => if m.device then Config.busLatency s.free else 1
    | none => 0
  | .sq k => if regionOf ea.toNat = some (.localMem k.val) then 1 else Config.busLatency s.free
  | .fantail => if (fanPlace ea.toNat).isSome then 1 else Config.busLatency s.free

/-- A store of g[rd] (R66). -/
def State.storeInstr (s : State) (c : CoreId) (word : Word) (rd ra : Fin 32) (imm : BitVec 16) (size : AccSize) : Answer :=
  .next (s.runInstr c 0 word [rd, ra] (fun s =>
    let ea := s.gr c ra + simm imm
    let n := s.storeCycles c ea
    match s.store c ea size (s.gr c rd) with
    | .wait => s
    | .trap t s => s.trapTo c t
    | .ok _ s => (s.advance.nextPc c).spend c n))

/-- A division: DIV_ZERO with a zero divisor (R63). -/
def State.divInstr (s : State) (c : CoreId) (word : Word) (rd ra rb : Fin 32) (f : Word → Word → Word) : Answer :=
  .next (s.runInstr c 0 word [rd, ra, rb] (fun s =>
    if s.gr c rb = 0 then s.trapTo c (trapOf tDIV_ZERO 0)
    else (s.result c rd (f (s.gr c ra) (s.gr c rb))).spend c 34))

/-- A system instruction of a supervisor core. -/
def State.sysInstr (s : State) (c : CoreId) (word : Word) (body : State → Fin 2 → State) : Answer :=
  .next (s.runInstr c 1 word [] (fun s =>
    match c with
    | .sc x => body s x
    | _ => s))

/-- A fire instruction of a sequencer. -/
def State.fireInstr (s : State) (c : CoreId) (word : Word) (rs : List (Fin 32)) (cycles : Nat) (body : State → Fin 12 → State) : Answer :=
  .next (s.runInstr c 2 word rs (fun s =>
    match c with
    | .sq k => (body s k).spend c cycles
    | _ => s))

end Sys2Proof.Machine
end

