-- ==== Sys2Proof/Machine/TickOps.lean ====
section
/-!
DEFINITION. The passing of time: the words in flight between clock islands (R29), and one tick of the TB island, which the block makes when
no command waits (R150, log 9).
-/
namespace Sys2Proof.Machine

/-- A word that a sequencer wrote reaches the TB island (R116, R117). -/
def State.seqTbWord (s : State) : XWord → State
  | .commit p page line => s.tbCommit (finOf 48 (by decide) p) page line
  | .void p m => s.tbVoid (finOf 48 (by decide) p) m
  | .release k page segment => s.tbRelease (finOf 12 (by decide) k) page segment
  | .fired r => s.boltFired r

/-- The oldest word of the SEQ to TB crossing arrives. -/
def State.seqTbArrive (s : State) : State :=
  match s.seqTb with
  | [] => s
  | w :: r => ({ s with seqTb := r } : State).seqTbWord w.word

/-- The oldest fired-line record reaches the Bolter (R186). -/
def State.tbDspArrive (s : State) : State :=
  match s.tbDsp with
  | [] => s
  | w :: r => ({ s with tbDsp := r } : State).seqTbWord w.word

/-- The words of the SEQ to TB crossing that have been under way for 5 ticks, its bound of 5.75 ns, have arrived (R29). -/
def State.seqTbDrain : Nat → State → State
  | 0, s => s
  | n + 1, s =>
    match s.seqTb with
    | [] => s
    | w :: _ => if w.tick + 5 ≤ s.now then State.seqTbDrain n s.seqTbArrive else s

/-- The words of the TB to DSP crossing that have been under way for 5 ticks, its bound of 6.25 ns, have arrived (R29). -/
def State.tbDspDrain : Nat → State → State
  | 0, s => s
  | n + 1, s =>
    match s.tbDsp with
    | [] => s
    | w :: _ => if w.tick + 5 ≤ s.now then State.tbDspDrain n s.tbDspArrive else s

/-- The write buffers of a supervisor core drain by one entry each, where the bus takes it (R90). -/
def State.bufferStep (s : State) (x : Fin 2) : State :=
  let s := ((s.drainStore x).map (fun r => r.2)).getD s
  ((s.drainBack x).map (fun r => r.2)).getD s

/-- CYCLE of a core that is out of reset counts the core cycles of a tick: an unknown number, as the SUP clock is no multiple of the
TB clock and may be spread or bypassed (R73, R391, log 80). -/
def State.cycleStep (s : State) (x : Fin 2) : State :=
  if s.scs[x].running && s.bit CLK_EN0 (1 + x) then s.spend (.sc x) (Config.tickCycles s.free) else s

/-- The time base: TBC counts once its clock runs (R150). -/
def State.tbStep (s : State) : State := if s.tbRuns then { s with tbc := s.tbc + 1 } else s

/-- What each tick brings beside TBC: crossings, sequencers that wait, trigger freezes (R148), write buffers, the DRAM (R329, R331, R336), idle
ports that take new calibration (R409), and PAGE records that are due (R277). -/
def State.tickWork (s : State) : State :=
  let s := s.seqTbDrain s.seqTb.length
  let s := s.tbDspDrain s.tbDsp.length
  let s := (fins 12).foldl (fun s (k : Fin 12) => s.pollSq k) s
  let s := (fins 16).foldl (fun s (t : Fin 16) => s.trigFreeze t) s
  let s := (fins 2).foldl (fun s (x : Fin 2) => (s.bufferStep x).cycleStep x) s
  s.advance.dramTick.calIdlePorts.boltPages

/-- One tick of the block with no command waiting (log 9): the cuts of the tick that ends fix their outcomes (R45), and the next begins. -/
def State.tick (s : State) : State := s.settleCuts.tbStep.tickWork

end Sys2Proof.Machine
end

