-- ==== Sys2Proof/Machine/BusCmds.lean ====
section
/-!
DEFINITION. The commands of the register bus and of the clock crossings (R12 to R29).
-/
namespace Sys2Proof.Machine

/-- REGISTER_WRITE: a write by a master to any address (R12 to R18). While it waits (R340), nothing has changed. -/
def execRegisterWrite (m : Master) (addr : BitVec 40) (size : AccSize) (value : Word) (s : State) : Answer :=
  match s.busWrite m addr.toNat size value with
  | some r => busAnswer r
  | none => .next s

/-- A word read by a master: the response and the value at the bus. -/
def State.busReadAnswer (s : State) (m : Master) (addr : BitVec 40) : Answer :=
  match s.busRead m addr.toNat .word with
  | some (r, v, t) => .next (t.bus r v)
  | none => .next s

/-- LO_READ_CAPTURE: the read of the _LO register of a pair returns it and captures the _HI half; the read of the _HI register returns
what was captured (R17). -/
def execLoReadCapture (m : Master) (addr : BitVec 40) (s : State) : Answer := s.busReadAnswer m addr

/-- RC_READ_CLEAR: the read of a register with RC fields returns and clears them (R14). -/
def execRcReadClear (m : Master) (addr : BitVec 40) (s : State) : Answer := s.busReadAnswer m addr

/-- CROSSING_WORD_ARRIVAL: the oldest word of a crossing becomes visible at the far side (R29). The crossings whose words the model
hands over at once hold none. -/
def execCrossingWordArrival (x : Crossing) (s : State) : Answer :=
  .next (match x with
    | .seqTb => s.seqTbArrive
    | .tbDsp => s.tbDspArrive
    | .aonAny => s.evtDeliver
    | .dspSeq | .seqHpx | .tbSeq => s)

end Sys2Proof.Machine
end

