-- ==== Sys2Proof/Machine/ClockCmds.lean ====
section
/-!
DEFINITION. The commands of reset, start-up and clocks (R388 to R396, R411 to R415, R447).
-/
namespace Sys2Proof.Machine

/-- POR_ASSERT: POR_N goes low (R411). -/
def execPorAssert (s : State) : Answer := .next s.porAssert

/-- BROWN_OUT: VDD_AON below 0.72 V for 1 µs (R447). -/
def execBrownOut (s : State) : Answer := .next s.brownOut

/-- POR_RELEASE: POR_N rises with the strap balls at their levels (R414, R415). -/
def execPorRelease (balls : BitVec 18) (s : State) : Answer := .next (s.porRelease balls)

/-- BROWN_OUT_RELEASE: VDD_AON rises above 0.76 V (R447). -/
def execBrownOutRelease (balls : BitVec 18) (s : State) : Answer := .next (s.brownOutRelease balls)

/-- OSC_DLY_EXPIRY: the strapped oscillator delay ends (R388). -/
def execOscDlyExpiry (s : State) : Answer := .next s.oscDone

/-- REF_ACCEPT_COUNT: an acceptance count of REFCLK (R388). -/
def execRefAcceptCount (count : BitVec 9) (s : State) : Answer := .next (s.refAccept count)

/-- NVES_SCAN_DONE: Fantail has scanned NVES (R423). -/
def execNvesScanDone (s : State) : Answer := .next s.nvesScan

/-- SC0_RELEASE: Fantail releases SC0 (R414). -/
def execSc0Release (s : State) : Answer := .next s.sc0Release

/-- WRST_N_ASSERT: WRST_N low for 1 µs (R411). -/
def execWrstNAssert (s : State) : Answer := .next s.warmPin

/-- WARM_RESET_RELEASE: the warm reset ends (R412). -/
def execWarmResetRelease (s : State) : Answer := .next s.warmRelease

/-- CORE_RESET: SYS_RST written (R413). -/
def execCoreReset (x : Fin 2) (value : Word) (s : State) : Answer := busAnswer (s.supWrite x .sys 0x08 value)

/-- REF_MON_COUNT: a count of the reference monitor, or its absence (R389). -/
def execRefMonCount (count : BitVec 9) (absent : Bool) (s : State) : Answer := .next (s.refMonitor count absent)

/-- REF_RETRY: CLK_STAT written with REF_RETRY = 1 (R389). -/
def execRefRetry (x : Fin 2) (s : State) : Answer := busAnswer (s.supWrite x .clk 0x00 0x80000000#32)

/-- PLL_LOCK: a PLL locks; 0 to 5 are those of R391, 6 to 9 the lane PLLs (R391, R393). `stuck` is a switch that never completes. -/
def execPllLock (i : Fin 10) (stuck : Bool) (s : State) : Answer := .next (s.pllLock i.val stuck)

/-- PLL_UNLOCK: a PLL loses lock (R394). -/
def execPllUnlock (i : Fin 10) (s : State) : Answer := .next (s.pllUnlock i.val)

/-- PLL_MON_COUNT: a monitor count of a PLL (R394). -/
def execPllMonCount (i : Fin 10) (count : BitVec 16) (s : State) : Answer := .next (s.pllCount i.val count)

/-- CLOCK_SWITCH: CLK_SEL written; `stuck` names the islands whose switch never completes (R393). -/
def execClockSwitch (_x : Fin 2) (value : Word) (stuck : BitVec 5) (s : State) : Answer :=
  busAnswer (if s.clocked .clk then (.ok, s.clkSel value stuck) else (.errGated, s))

/-- CLK_EN_WRITE: CLK_EN0, CLK_EN1 or CLK_EN2 written (R395, R396). -/
def execClkEnWrite (x : Fin 2) (w : Fin 3) (value : Word) (s : State) : Answer := busAnswer (s.supWrite x .clk (0x10 + 4 * w.val) value)

end Sys2Proof.Machine
end

