-- ==== Sys2Proof/Machine/CodecCmds.lean ====
section
/-!
DEFINITION. The commands of the swath codec: stream and memory decoding, compressors, and the container events (R226 to R254).
-/
namespace Sys2Proof.Machine

/-- DCE_DOORBELL: DCEk_DB or CMPn_DB written; engines 16 and 17 are the compressors (R234). -/
def execDceDoorbell (x : Fin 2) (e : Fin 18) (s : State) : Answer :=
  busAnswer (if e.val < 16 then s.supWrite x (.dce e.val) 0x18 0 else s.supWrite x (.cmp (e.val - 16)) 0x18 0)

/-- A write of DCEk_CTRL with one bit forced to 1. -/
def State.dceCmd (s : State) (x : Fin 2) (k : Fin 16) (value : Word) (bit : Nat) : Answer :=
  busAnswer (s.supWrite x (.dce k.val) 0x00 (setBit value bit true))

/-- STREAM_ENABLE: EN set (R236, R237). -/
def execStreamEnable (x : Fin 2) (k : Fin 16) (value : Word) (s : State) : Answer := s.dceCmd x k value 31

/-- STREAM_DISABLE: EN cleared (R252). -/
def execStreamDisable (x : Fin 2) (k : Fin 16) (value : Word) (s : State) : Answer :=
  busAnswer (s.supWrite x (.dce k.val) 0x00 (setBit value 31 false))

/-- CONTAINER_HEADER: a streaming engine reads and checks the header of its next container (R237). -/
def execContainerHeader (k : Fin 16) (s : State) : Answer := .next (s.takeContainer k)

/-- CONTAINER_VERDICT: the oldest opened container ends with its verdict (R237, R238). -/
def execContainerVerdict (k : Fin 16) (s : State) : Answer := .next (s.containerVerdict k)

/-- CONTAINER_SKIP: the oldest container that its sequencer discarded (R239). -/
def execContainerSkip (k : Fin 16) (s : State) : Answer := .next (s.containerSkip k)

/-- DESCRIPTOR_BUS_ERROR: a descriptor read of an engine gets a response other than OK (R234). -/
def execDescriptorBusError (e : Fin 18) (s : State) : Answer := .next (s.descBusError e)

/-- DCE_START: a memory job (R241). -/
def execDceStart (x : Fin 2) (k : Fin 16) (value : Word) (s : State) : Answer := s.dceCmd x k value 0

/-- DCE_STOPPED: a VX2432 job has filled its output buffer (R242). -/
def execDceStopped (k : Fin 16) (s : State) : Answer := .next (s.jobStopped k)

/-- DCE_RESUME: a stopped job goes on (R244). -/
def execDceResume (x : Fin 2) (k : Fin 16) (value : Word) (s : State) : Answer := s.dceCmd x k value 2

/-- DCE_RESTORE: a job from saved resume words (R244). -/
def execDceRestore (x : Fin 2) (k : Fin 16) (value : Word) (s : State) : Answer := s.dceCmd x k value 3

/-- DCE_ABORT: a memory job ends (R251). -/
def execDceAbort (x : Fin 2) (k : Fin 16) (value : Word) (s : State) : Answer := s.dceCmd x k value 1

/-- DCE_JOB_DONE: the final write-back of a job is acknowledged (R251). -/
def execDceJobDone (k : Fin 16) (s : State) : Answer := .next (s.jobDone k)

/-- A write of CMPn_CTRL with one bit forced to 1. -/
def State.cmpCmd (s : State) (x n : Fin 2) (value : Word) (bit : Nat) : Answer :=
  busAnswer (s.supWrite x (.cmp n.val) 0x00 (setBit value bit true))

/-- CMP_START: a compressor job (R245). -/
def execCmpStart (x n : Fin 2) (value : Word) (s : State) : Answer := s.cmpCmd x n value 0

/-- CMP_VERIFY_REDO: the shadow decoder refuses the current block, which goes out stored (R249). -/
def execCmpVerifyRedo (n : Fin 2) (s : State) : Answer := .next (s.cmpBlock n true)

/-- CMP_BLOCK_VERIFIED: the shadow decoder confirms the current block (R249). -/
def execCmpBlockVerified (n : Fin 2) (s : State) : Answer := .next (s.cmpBlock n false)

/-- CMP_STOP: a COMPAT job has filled its output buffer (R250). -/
def execCmpStop (n : Fin 2) (s : State) : Answer := .next (s.cmpStop n)

/-- CMP_RESUME: a stopped compressor job goes on (R250). -/
def execCmpResume (x n : Fin 2) (value : Word) (s : State) : Answer := s.cmpCmd x n value 2

/-- CMP_ABORT: a compressor job ends (R251). -/
def execCmpAbort (x n : Fin 2) (value : Word) (s : State) : Answer := s.cmpCmd x n value 1

/-- CMP_JOB_DONE: a compressor job passes its commit point (R251). -/
def execCmpJobDone (n : Fin 2) (s : State) : Answer := .next (s.cmpDone n)

end Sys2Proof.Machine
end

