-- ==== Sys2Proof/Machine/DmaCmds.lean ====
section
/-!
DEFINITION. The commands of DMA: register channels and descriptor rings (R343 to R367).
-/
namespace Sys2Proof.Machine

/-- CHn_CTRL written with OWN = 1 and an operation (R347, R349). -/
def State.dmaCmd (s : State) (x : Fin 2) (n : Fin 32) (value : Word) (op : Nat) : Answer :=
  busAnswer (s.supWrite x .dma (0x1000 + 0x40 * n.val) (setBit (withField value 19 16 op) 31 true))

/-- DMA_COPY (R352). -/
def execDmaCopy (x : Fin 2) (n : Fin 32) (value : Word) (s : State) : Answer := s.dmaCmd x n value 0

/-- DMA_FILL (R352). -/
def execDmaFill (x : Fin 2) (n : Fin 32) (value : Word) (s : State) : Answer := s.dmaCmd x n value 1

/-- DMA_COMPARE (R353). -/
def execDmaCompare (x : Fin 2) (n : Fin 32) (value : Word) (s : State) : Answer := s.dmaCmd x n value 2

/-- DMA_RESHUFFLE (R354). -/
def execDmaReshuffle (x : Fin 2) (n : Fin 32) (value : Word) (s : State) : Answer := s.dmaCmd x n value 3

/-- The builders whose channel is free again start it on the next line that waits (R129). -/
def State.fbNext (s : State) (n : Fin 32) : State :=
  (fins 12).foldl (fun s (k : Fin 12) => if s.get (SQ_FB_CH k) = n.val then s.fbStart k else s) s

/-- DMA_COMPLETE: a register channel completes its descriptor (R348). -/
def execDmaComplete (n : Fin 32) (s : State) : Answer := .next ((s.dmaComplete n).fbNext n)

/-- DMA_LATE_ERR: the write error of a descriptor already complete (R356). -/
def execDmaLateErr (n : Fin 32) (s : State) : Answer := .next (s.dmaLateErr n)

/-- DMA_CH_ABORT: CHn_CMD written with ABORT (R360). -/
def execDmaChAbort (x : Fin 2) (n : Fin 32) (s : State) : Answer :=
  let r := s.supWrite x .dma (0x1024 + 0x40 * n.val) 1
  busAnswer (r.1, r.2.fbNext n)

/-- RING_DOORBELL: RINGr_DB written (R350). -/
def execRingDoorbell (x : Fin 2) (r : Fin 5) (s : State) : Answer := busAnswer (s.supWrite x .dma (0x2010 + 0x40 * r.val) 0)

/-- RING_ABORT: RINGr_CFG written as it stands, with ABORT = 1 (R360). -/
def execRingAbort (x : Fin 2) (r : Fin 5) (s : State) : Answer :=
  busAnswer (s.supWrite x .dma (0x2008 + 0x40 * r.val) (setBit (s.rd (RING_CFG r.val)) 30 true))

/-- DATA_SLICE: RING0 takes the oldest DATA slice of a port's receive buffer (R361, R362). -/
def execDataSlice (p : Fin 4) (s : State) : Answer := .next (s.dataSlice p).ckptSync

/-- LOCAL_FRAME: RING0 takes the oldest other frame of a port's receive buffer (R363). -/
def execLocalFrame (p : Fin 4) (s : State) : Answer := .next (s.localFrame p).ckptSync

/-- EGRESS_FRAME: RING1 takes its next descriptor (R364). -/
def execEgressFrame (s : State) : Answer := .next s.egressFrame.ckptSync

/-- RING3_FLUSH: FLUSH µs after the first record of RING3's buffer (R366). -/
def execRing3Flush (s : State) : Answer := .next s.ring3Flush

end Sys2Proof.Machine
end

