-- ==== Sys2Proof/Machine/DramCmds.lean ====
section
/-!
DEFINITION. The commands of the DRAM controller: bring-up and training, transactions, refresh, power-down, scrubbing and DQS tracking
(R325 to R342).
-/
namespace Sys2Proof.Machine

/-- DDR_INIT: MODE = INIT (R340). -/
def execDdrInit (x : Fin 2) (c : Fin 2) (s : State) : Answer := busAnswer (s.supWrite x (.ddr c) 0x00 1)

/-- INIT_DONE: the initialization sequence completes (R340). -/
def execInitDone (c : Fin 2) (s : State) : Answer := .next (if s.ddrIn c [1] then s.put (DDR_STAT_STATE c) 2 else s)

/-- A write of DDRx_TRAIN that names a step and a rank (R340). -/
def State.trainWrite (s : State) (x c rank : Fin 2) (step : Nat) : Answer :=
  busAnswer (s.supWrite x (.ddr c) 0x38 (BitVec.ofNat 32 (256 * rank + step)))

/-- TRAIN_CS: step 1 (R340). -/
def execTrainCs (x c rank : Fin 2) (s : State) : Answer := s.trainWrite x c rank 1

/-- TRAIN_CA: step 2 (R340). -/
def execTrainCa (x c rank : Fin 2) (s : State) : Answer := s.trainWrite x c rank 2

/-- TRAIN_WL: step 3 (R340). -/
def execTrainWl (x c rank : Fin 2) (s : State) : Answer := s.trainWrite x c rank 3

/-- TRAIN_GATE: step 4 (R340). -/
def execTrainGate (x c rank : Fin 2) (s : State) : Answer := s.trainWrite x c rank 4

/-- TRAIN_READ: step 5 (R340). -/
def execTrainRead (x c rank : Fin 2) (s : State) : Answer := s.trainWrite x c rank 5

/-- TRAIN_WRITE: step 6 (R340). -/
def execTrainWrite (x c rank : Fin 2) (s : State) : Answer := s.trainWrite x c rank 6

/-- TRAIN_OSC: step 7 (R340). -/
def execTrainOsc (x c rank : Fin 2) (s : State) : Answer := s.trainWrite x c rank 7

/-- TRAIN_DONE: a step that runs ends with PASS or FAIL and releases its leave; WEIR_TIMEOUT comes from Weir (R340, R380). -/
def execTrainDone (c : Fin 2) (pass : Bool) (s : State) : Answer :=
  .next (if s.flag (DDR_TRAIN_BUSY c) && s.dram.chs[c].trainLeave then (s.weirRelease (ddrRq c)).trainEnd c (if pass then 0 else 1) else s)

/-- PHY_IMAGE_WRITE: a word of the training image (R341). -/
def execPhyImageWrite (x c : Fin 2) (word : Fin 4096) (value : Word) (s : State) : Answer :=
  busAnswer (s.supWrite x (.phy c) (4 * word) value)

/-- DDR_ONLINE: MODE = ONLINE (R339, R340). -/
def execDdrOnline (x c : Fin 2) (s : State) : Answer := busAnswer (s.supWrite x (.ddr c) 0x00 2)

/-- DDR_SELF_REFRESH: MODE = SR (R339). -/
def execDdrSelfRefresh (x c : Fin 2) (s : State) : Answer := busAnswer (s.supWrite x (.ddr c) 0x00 3)

/-- SELF_REFRESH_ENTERED: the channel has drained and paid its debts (R339); a die shutdown that waited for it goes on (R404). -/
def execSelfRefreshEntered (c : Fin 2) (s : State) : Answer := .next (s.ddrEnterSr c).shutGate

/-- DRAM_REQUEST: a master's write of `data`, or its read of as many bytes as `data` has, whatever they are (R328, R329, R330). -/
def execDramRequest (write : Bool) (addr : BitVec 40) (data : List Byte) (s : State) : Answer :=
  .next (s.dramRequest write addr.toNat data.length (if write then data else []))

/-- DRAM_READ_DATA: the next read of a subchannel returns (R329, R333). -/
def execDramReadData (c sub : Fin 2) (err : EccErr) (s : State) : Answer := .next (s.dramReturn c sub err)

/-- REFRESH_INTERVAL: tREFI elapses for a rank (R336). -/
def execRefreshInterval (c rank : Fin 2) (s : State) : Answer := .next (if s.rankRuns c rank then s.refreshStep c rank else s)

/-- TEMP_POLL: mode register 4 reports that a rank needs the normal refresh rate (0), twice (1), or more (2) (R337). -/
def execTempPoll (c rank : Fin 2) (need : Fin 3) (s : State) : Answer :=
  .next (if s.rankRuns c rank then
      let s := s.modDdr c (fun d => { d with halfRef := vset d.halfRef rank (decide (need ≠ 0)) })
      if need = 2 then (s.set1 (DDR_STAT_DDR_HOT c)).raise evDDR_TEMP c 0 else s
    else s)

/-- PD_IDLE_EXPIRY: a rank without a queued request for PD_IDLE MEM clocks enters power-down; 0 disables it (R338). -/
def execPdIdleExpiry (c rank : Fin 2) (s : State) : Answer :=
  .next (if s.rankRuns c rank && s.flag (DDR_REF_PD_IDLE c) && !s.ddrQueued c rank none then
      s.modDdr c (fun d => ({ d with pdown := vset d.pdown rank true } : DramCh).closeRows rank none)
    else s)

/-- SCRUB_BURST: the time of a burst has come (R335). -/
def execScrubBurst (c : Fin 2) (s : State) : Answer := .next (s.scrubStart c)

/-- DQS_TRACKING: a subchannel of a channel ONLINE that has a slot for it reads its devices' oscillators and adjusts its write timing
(R331, R341). -/
def execDqsTracking (c sub : Fin 2) (osc : BitVec 16) (s : State) : Answer := 
  .next (if s.ddrIn c [3] && decide (s.dram.chs[c].slots[sub].length < 24) then s.ddrTrack c sub osc else s)

end Sys2Proof.Machine
end

