-- ==== Sys2Proof/Machine/FireCmds.lean ====
section
/-!
DEFINITION. The commands of the fire scheduler: deadline to strobe for each port, inhibition, the Brake, aborts and page reports
(R171 to R197). An event whose time has not come changes nothing (log 8).
-/
namespace Sys2Proof.Machine

/-- DEADLINE: the next line of a port reaches its deadline (R176). -/
def execDeadline (p : Fin 48) (s : State) : Answer :=
  .next (match s.deadlineDue p with
    | some (g, l) => s.deadline p g l
    | none => s)

/-- Everything that a guard entry on a port brings: a port's new calibration at its line (R409), the outcome (R180), and the
evaluation of a head sensor whose port retires or returns there (R397). -/
def State.atGuard (s : State) (p : Fin 48) (page : Word) (line : Nat) (f : State → State) : State :=
  let was := s.eligible p
  (f (s.calGuard p page line)).thmElig p was

/-- FREEZE: a tracked line reaches its cut-off (R178); a missed one goes through guard entry at once (R179). -/
def execFreeze (p : Fin 48) (s : State) : Answer :=
  .next (match s.freezeDue p with
    | some (t, tf) =>
      if tickOf tf < s.now + 16 then s.atGuard p t.page t.line (fun s => s.freeze p t tf) else s.freeze p t tf
    | none => s)

/-- GUARD_ENTRY: the frozen line of a port goes through guard entry, in the order of increasing TF among the ports (R180). -/
def execGuardEntry (p : Fin 48) (s : State) : Answer :=
  .next (match s.guardDue p with
    | some (t, tf) => if s.guardFirst p tf then s.atGuard p t.page t.line (fun s => s.guardEntry p t tf) else s
    | none => s)

/-- LOAD_START: the formatter begins to shift the next handed-over line (R177). -/
def execLoadStart (p : Fin 48) (s : State) : Answer :=
  .next (match s.loadNext p with
    | some t => s.loadStart p t
    | none => s)

/-- LOAD_COMPLETE: T_LOAD after its start, a shift ends (R177). -/
def execLoadComplete (p : Fin 48) (s : State) : Answer :=
  .next (match s.fsch.ports[p].shifting with
    | some (g, l, start) => if start + s.tLoad p ≤ s.now then s.loadComplete p g l else s
    | none => s)

/-- LOAD_SHORT: a load that would still run at TG − T_LSU, found at guard entry or, for a load that started late, at TG; the
line's strobe does not rise (R177). -/
def execLoadShort (p : Fin 48) (s : State) : Answer :=
  .next (match s.guardDue p, s.placedLine p with
    | some (t, tf), _ =>
      if s.guardFirst p tf && decide (s.guardRow p t tf = .short) then s.atGuard p t.page t.line (fun s => s.guardEntry p t tf) else s
    | none, some t => if decide (tickOf (t.tg.getD 0) ≤ s.now) && decide (t.load ≠ .done) then s.strobeRise p t else s
    | none, none => s)

/-- STROBE_RISE: the strobe of a placed line at TG (R184). -/
def execStrobeRise (p : Fin 48) (s : State) : Answer :=
  .next (match s.placedLine p with
    | some t => if tickOf (t.tg.getD 0) ≤ s.now then s.strobeRise p t else s
    | none => s)

/-- STROBE_FALL: the strobe of a port has lasted its width: FIRED (R185, R186). -/
def execStrobeFall (p : Fin 48) (s : State) : Answer :=
  .next (match s.highLine p with
    | some t => if t.fallTick ≤ s.now then s.strobeFall p t else s
    | none => s)

/-- INHIBIT_ASSERT: INHIBIT_N goes low, for 40 ns or more, or for less (R187, R188). -/
def execInhibitAssert (held40ns : Bool) (s : State) : Answer := .next (s.inhibitOn held40ns)

/-- INHIBIT_DEASSERT: INHIBIT_N goes high (R188). -/
def execInhibitDeassert (s : State) : Answer := .next s.inhibitOff

/-- BRAKE_CUT: an active strobe has reached BRAKE_LIMn cycles of the Brake's oscillator (R189). A limit of 0 lets none rise (R419). -/
def execBrakeCut (p : Fin 48) (s : State) : Answer :=
  .next (match s.liveLine p with
    | some t => if s.brakeDue p t then s.brake p t else s
    | none => s)

/-- BRAKE_OSC_COUNT: Fantail judges a count of the Brake's oscillator (R190). -/
def execBrakeOscCount (count : BitVec 16) (s : State) : Answer := .next (s.brakeOsc count)

/-- FSCH_ABORT: the page ID written to FSCH_ABORT (R196). -/
def execFschAbort (x : Fin 2) (page : Word) (s : State) : Answer := busAnswer (s.supWrite x .fsch 0x0C page)

/-- REPORT_WRITE: the oldest held page report (R52). -/
def execReportWrite (s : State) : Answer := .next s.reportWrite

/-- FSCH_RPT_CTRL_WRITE: the control of the report ring (R53). -/
def execFschRptCtrlWrite (x : Fin 2) (value : Word) (s : State) : Answer := busAnswer (s.supWrite x .fsch 0xF08 value)

end Sys2Proof.Machine
end

