-- ==== Sys2Proof/Machine/FireExt.lean ====
section
/-!
DEFINITION. The meanings of the fire extension (R100 to R121) and of the events a sequencer meets: container arrival, timeouts, lines
built, and its job queue and run control (R97, R104, R118, R119, R124, R130, R132).
-/
namespace Sys2Proof.Machine

/-- PAGE (R103). -/
def execPage (c : CoreId) (ra rb : Fin 32) (mask : BitVec 4) (s : State) : Answer :=
  s.fireInstr c (encode (.page c ra rb mask)) [ra, rb] 4 (fun s k => s.sqPage k (s.gr c ra) (s.gr c rb) mask)

/-- ENDPG (R104). -/
def execEndpg (c : CoreId) (s : State) : Answer := s.fireInstr c (encode (.endpg c)) [] 2 (fun s k => s.sqEndpg k)

/-- STREAM (R104). -/
def execStream (c : CoreId) (rd ra : Fin 32) (s : State) : Answer :=
  s.fireInstr c (encode (.stream c rd ra)) [ra] 2 (fun s k => s.sqStream k rd (s.gr c ra))

/-- SETPORT (R107). -/
def execSetport (c : CoreId) (mask : BitVec 4) (s : State) : Answer :=
  s.fireInstr c (encode (.setport c mask)) [] 1 (fun s k => s.sqSetport k mask)

/-- LDPROF (R108). -/
def execLdprof (c : CoreId) (ra rb : Fin 32) (fld : BitVec 4) (s : State) : Answer :=
  s.fireInstr c (encode (.ldprof c ra rb fld)) [ra, rb] 4 (fun s k => s.sqLdprof k (s.gr c ra) (s.gr c rb) fld.toNat)

/-- BUILDN (R109). -/
def execBuildn (c : CoreId) (rd ra rb : Fin 32) (s : State) : Answer :=
  s.fireInstr c (encode (.buildn c rd ra rb)) [ra, rb] 1 (fun s k => s.sqBuildn k rd (s.gr c ra) (s.gr c rb))

/-- FILL (R112). -/
def execFill (c : CoreId) (rd ra rb : Fin 32) (level : BitVec 4) (s : State) : Answer :=
  s.fireInstr c (encode (.fill c rd ra rb level)) [ra, rb] 1 (fun s k => s.sqFill k rd (s.gr c ra) (s.gr c rb) level.toNat)

/-- PATT (R113). -/
def execPatt (c : CoreId) (rd ra rb : Fin 32) (s : State) : Answer :=
  s.fireInstr c (encode (.patt c rd ra rb)) [ra, rb] 1 (fun s k => s.sqPatt k rd (s.gr c ra) (s.gr c rb))

/-- COMMIT (R115, R116). -/
def execCommit (c : CoreId) (rd ra rb : Fin 32) (s : State) : Answer :=
  s.fireInstr c (encode (.commit c rd ra rb)) [rd, ra, rb] 2 (fun s k => s.sqCommit k rd (s.gr c ra) (s.gr c rb))

/-- VOID (R117). -/
def execVoidL (c : CoreId) (rd ra rb : Fin 32) (s : State) : Answer :=
  s.fireInstr c (encode (.voidL c rd ra rb)) [rd, ra, rb] 2 (fun s k => s.sqVoid k rd (s.gr c ra) (s.gr c rb))

/-- WAITQ; cond 3 to 15 takes ILLEGAL (R118). -/
def execWaitq (c : CoreId) (ra rb : Fin 32) (cond : BitVec 4) (s : State) : Answer :=
  s.fireInstr c (encode (.waitq c ra rb cond)) [ra, rb] 2 (fun s k =>
    if cond.toNat < 3 then s.sqWaitq k (s.gr c ra) (s.gr c rb) cond.toNat
    else s.trapTo c (trapOf tILLEGAL (encode (.waitq c ra rb cond))))

/-- SYNCL (R119). -/
def execSyncl (c : CoreId) (ra : Fin 32) (s : State) : Answer :=
  s.fireInstr c (encode (.syncl c ra)) [ra] 2 (fun s k => s.sqSyncl k (s.gr c ra))

/-- MARK (R120). -/
def execMark (c : CoreId) (ra rb : Fin 32) (s : State) : Answer :=
  s.fireInstr c (encode (.mark c ra rb)) [ra, rb] 2 (fun s k => s.sqMark k (s.gr c ra) (s.gr c rb))

/-- EPOCHQ (R121). -/
def execEpochq (c : CoreId) (rd ra : Fin 32) (s : State) : Answer :=
  s.fireInstr c (encode (.epochq c rd ra)) [rd, ra] 12 (fun s k => s.sqEpochq k rd (s.gr c ra))

/-- FREAD; sel 14 to 31 takes ILLEGAL (R121). -/
def execFread (c : CoreId) (rd sel : Fin 32) (s : State) : Answer :=
  s.fireInstr c (encode (.fread c rd sel)) [rd] 1 (fun s k =>
    if sel.val < 14 then s.sqFread k rd sel.val else s.trapTo c (trapOf tILLEGAL (encode (.fread c rd sel))))

/-- XCLR (R121). -/
def execXclr (c : CoreId) (ra : Fin 32) (s : State) : Answer :=
  s.fireInstr c (encode (.xclr c ra)) [ra] 1 (fun s k => s.sqXclr k (s.gr c ra))

/-- A branch on a condition; cond 16 to 31 takes ILLEGAL (R101). -/
def State.condBranch (s : State) (c : CoreId) (word : Word) (set : Bool) (cond : Fin 32) (off : BitVec 16) : Answer :=
  s.fireInstr c word [] 1 (fun s k =>
    if cond.val < 16 then s.sqBranch k set cond.val off else s.trapTo c (trapOf tILLEGAL word))

/-- BXS (R100, R101). -/
def execBxs (c : CoreId) (cond : Fin 32) (off : BitVec 16) (s : State) : Answer :=
  s.condBranch c (encode (.bxs c cond off)) true cond off

/-- BXC (R100, R101). -/
def execBxc (c : CoreId) (cond : Fin 32) (off : BitVec 16) (s : State) : Answer :=
  s.condBranch c (encode (.bxc c cond off)) false cond off

/-! ## Events and run control -/

/-- STREAM_HEADER_ARRIVAL: a container header reaches the sequencer that waits for it (R104). -/
def execStreamHeaderArrival (k : Fin 12) (s : State) : Answer := .next (s.sqHeader k)

/-- WAITQ_TIMEOUT (R118). -/
def execWaitqTimeout (k : Fin 12) (s : State) : Answer := .next (s.waitqTimeout k)

/-- SYNCL_TIMEOUT (R119). -/
def execSynclTimeout (k : Fin 12) (s : State) : Answer := .next (s.synclTimeout k)

/-- PORT_LINE_BUILT: the builder completes its next port-line; a fall-back line in the staging area is handed to its channel (R124,
R129). -/
def execPortLineBuilt (k : Fin 12) (s : State) : Answer := .next ((s.builderStep k).fbStart k)

/-- JOB_POP: the sequencer writes SQk_JOB_POP (R130). -/
def execJobPop (k : Fin 12) (s : State) : Answer := .next (s.jobPop k)

/-- GO: SQk_CTRL written with GO (R97, R132). -/
def execGo (x : Fin 2) (k : Fin 12) (value : Word) (s : State) : Answer :=
  busAnswer (s.supWrite x (.sq k) 0x0 (value ||| fieldMask 0 0))

/-- HOLD: SQk_CTRL written with HOLD (R97). -/
def execHold (x : Fin 2) (k : Fin 12) (value : Word) (s : State) : Answer :=
  busAnswer (s.supWrite x (.sq k) 0x0 (value ||| fieldMask 3 3))

/-- JOB_PUSH (R130). -/
def execJobPush (x : Fin 2) (k : Fin 12) (s : State) : Answer := busAnswer (s.supWrite x (.sq k) 0x104 0)

end Sys2Proof.Machine
end

