-- ==== Sys2Proof/Machine/HeadCmds.lean ====
section
/-!
DEFINITION. The commands of the head ports: enabling, status, fault, presence, the I2C service and retirement (R198 to R225).
-/
namespace Sys2Proof.Machine

/-- PORT_ENABLE: HPn_CTRL written with EN = 1 (R205). -/
def execPortEnable (x : Fin 2) (p : Fin 48) (value : Word) (s : State) : Answer := busAnswer (s.supWrite x (.hp p.val) 0x00 (value ||| 1#32))

/-- STATUS_WORD: a status word of a head, with the stop bit of its frame (R207, R208). -/
def execStatusWord (p : Fin 48) (w : StatusFrame) (s : State) : Answer := .next (s.statusWord p w.word w.stop)

/-- STATUS_BURST: 100 µs without a burst in CLOCKED mode (R207). -/
def execStatusBurst (p : Fin 48) (s : State) : Answer := .next (s.statusBurst p)

/-- HEAD_ST_LOST: ST_TO ms without a valid status word (R209). -/
def execHeadStLost (p : Fin 48) (s : State) : Answer := .next (s.headStLost p)

/-- HEAD_FAULT: HPn_FLT_N low for 8 ticks (R210). -/
def execHeadFault (p : Fin 48) (s : State) : Answer := .next (s.headFlt p true)

/-- HEAD_FAULT_CLEAR: HPn_FLT_N high for 8 ticks (R210). -/
def execHeadFaultClear (p : Fin 48) (s : State) : Answer := .next (s.headFlt p false)

/-- HEAD_PRESENT: HPn_PRS_N low for PRS_DEB ms (R211). -/
def execHeadPresent (p : Fin 48) (s : State) : Answer := .next (s.headPresent p)

/-- HEAD_LOST: HPn_PRS_N high for 10 µs (R211, R223). -/
def execHeadLost (p : Fin 48) (s : State) : Answer := .next (s.headLost p)

/-- READ_HIR: HPn_I2C_CMD written with READ_HIR (R214). -/
def execReadHir (x : Fin 2) (p : Fin 48) (s : State) : Answer := busAnswer (s.supWrite x (.hp p.val) 0x74 1)

/-- WRITE_CAL: HPn_I2C_CMD written with WRITE_CAL (R218). -/
def execWriteCal (x : Fin 2) (p : Fin 48) (s : State) : Answer := busAnswer (s.supWrite x (.hp p.val) 0x74 2)

/-- WR_TIMEOUT: a page write is not acknowledged within WR_TO ms (R218). -/
def execWrTimeout (p : Fin 48) (s : State) : Answer := .next (s.wrTimeout p)

/-- I2C_DONE: the command in progress ends with a RESULT and, for a read, the bytes of the record (R219). -/
def execI2cDone (p : Fin 48) (result : Fin 8) (data : List Byte) (s : State) : Answer := .next (s.i2cEnd p result.val data)

/-- RANK_REQ_WRITE: HPn_RANK_REQ written (R215). -/
def execRankReqWrite (x : Fin 2) (p : Fin 48) (value : Word) (s : State) : Answer := busAnswer (s.supWrite x (.hp p.val) 0x60 value)

/-- RETIRE: HPn_SVC_CMD written with RETIRE, at the line of HPn_SVC_PAGE and HPn_SVC_LINE or at once (R221). -/
def execRetire (x : Fin 2) (p : Fin 48) (now : Bool) (s : State) : Answer :=
  busAnswer (s.supWrite x (.hp p.val) 0x80 (if now then 0x80000001#32 else 1))

/-- RETURN: HPn_SVC_CMD written with RETURN (R224). -/
def execReturn (x : Fin 2) (p : Fin 48) (s : State) : Answer := busAnswer (s.supWrite x (.hp p.val) 0x80 2)

/-- CANCEL: HPn_SVC_CMD written with CANCEL (R221). -/
def execCancel (x : Fin 2) (p : Fin 48) (s : State) : Answer := busAnswer (s.supWrite x (.hp p.val) 0x80 3)

end Sys2Proof.Machine
end

