-- ==== Sys2Proof/Machine/InspCmds.lean ====
section
/-!
DEFINITION. The commands of inspection: camera packets, the ISP, the Bolter and correction sets (R255 to R287).
-/
namespace Sys2Proof.Machine

/-- A short packet of a camera (R256): what it does when it is taken; a corrected header is counted and tags the open frame (R260). -/
def State.camShort (s : State) (n : Fin 8) (vc : Fin 4) (hdr : HdrEcc) (f : State → State) : State :=
  let r := s.camPacket n vc hdr
  if r.1 then f r.2 else r.2

/-- FRAME_START: a Frame Start packet (R257, R258). -/
def execFrameStart (n : Fin 8) (vc : Fin 4) (hdr : HdrEcc) (s : State) : Answer :=
  .next (s.camShort n vc hdr (fun s => if hdr = .corrected then (s.frameStart n).eccCorr n else s.frameStart n))

/-- FRAME_END: a Frame End packet (R260). -/
def execFrameEnd (n : Fin 8) (vc : Fin 4) (hdr : HdrEcc) (s : State) : Answer :=
  .next (s.camShort n vc hdr (fun s => if hdr = .corrected then (s.eccCorr n).frameEnd n else s.frameEnd n))

/-- LONG_PACKET: a row (R256, R259, R260). -/
def execLongPacket (n : Fin 8) (pk : RowPacket) (s : State) : Answer := .next (s.camLong n pk)

/-- CAPTURE: CAMn_CTRL written with CAPTURE = 1 (R269). -/
def execCapture (x : Fin 2) (n : Fin 8) (value : Word) (s : State) : Answer :=
  busAnswer (s.supWrite x (.cam n.val) 0x00 (value ||| 0x40000000#32))

/-- ISP_STRIPE_START: the free ISP takes the ready stripe of the earliest frame (R267). -/
def execIspStripeStart (s : State) : Answer := .next s.ispStart

/-- ISP_STRIPE_DONE: the ISP ends its stripe (R266). -/
def execIspStripeDone (s : State) : Answer := .next s.ispDone

/-- BOLTER_CONTAINER_FINISHED: the Bolter lets a container be written back (R276). -/
def execBolterContainerFinished (k : Fin 16) (s : State) : Answer := .next (s.boltFinish k)

/-- BOLT_RECORD_WRITE: the oldest held record (R277). -/
def execBoltRecordWrite (s : State) : Answer := .next s.boltWrite

/-- PROPOSAL_PASS: a proposal is built (R285, R286). -/
def execProposalPass (s : State) : Answer := .next s.proposalPass

/-- CLAIM: CS_CMD written with CLAIM (R282). -/
def execClaim (x : Fin 2) (s : State) : Answer := busAnswer (s.supWrite x .cs 0 1)

/-- CLAIM_COPY_DONE: the copy into the shadow completes (R282). -/
def execClaimCopyDone (s : State) : Answer := .next s.csCopyDone

/-- CS_COMMIT: CS_CMD written with COMMIT (R283). -/
def execCsCommit (x : Fin 2) (s : State) : Answer := busAnswer (s.supWrite x .cs 0 2)

/-- DISCARD: CS_CMD written with DISCARD (R282). -/
def execDiscard (x : Fin 2) (s : State) : Answer := busAnswer (s.supWrite x .cs 0 3)

/-- RELEASE: CS_CMD written with RELEASE (R282). -/
def execRelease (x : Fin 2) (s : State) : Answer := busAnswer (s.supWrite x .cs 0 4)

/-- HELD_TO_FREE: the conditions on a HELD shadow are met (R282). -/
def execHeldToFree (s : State) : Answer := .next s.csHeldFree

end Sys2Proof.Machine
end

