-- ==== Sys2Proof/Machine/LinkCmds.lean ====
section
/-!
DEFINITION. The commands of the Millrace links: training, link words, frames, failover, the standby's self-test and discovery (R288
to R324). A change that a checkpoint records is recorded with it (R316).
-/
namespace Sys2Proof.Machine

/-- LINK_ENABLE: Px_CTRL written with EN = 1 (R292). -/
def execLinkEnable (x : Fin 2) (p : Fin 4) (value : Word) (s : State) : Answer :=
  busAnswer (s.supWrite x (.px p.val) 0x00 (setBit value 31 true))

/-- RETRAIN: Px_CTRL written as it stands, with RETRAIN = 1 (R292). -/
def execRetrain (x : Fin 2) (p : Fin 4) (s : State) : Answer := busAnswer (s.supWrite x (.px p.val) 0x00 (setBit (s.rd (PX_CTRL p.val)) 30 true))

/-- LINK_TRAINED: the lanes of a port align and deskew (R292, R294). -/
def execLinkTrained (p : Fin 4) (r : Vector LaneTrain 4) (s : State) : Answer := .next (s.linkTrained p r).ckptSync

/-- INIT: the link word INIT (R305). -/
def execInitWord (p : Fin 4) (s : State) : Answer := .next (s.initWord p).ckptSync

/-- ACK: the link word ACK (R303). -/
def execAck (p : Fin 4) (vc : Fin 2) (value : BitVec 16) (s : State) : Answer := .next (s.ackWord p vc (value.toNat % 4096)).ckptSync

/-- NAK: the link word NAK (R303). -/
def execNak (p : Fin 4) (vc : Fin 2) (value : BitVec 16) (s : State) : Answer := .next (s.nakWord p vc (value.toNat % 4096)).ckptSync

/-- CREDIT: the link word CREDIT (R301). -/
def execCredit (p : Fin 4) (vc : Fin 2) (value : BitVec 16) (s : State) : Answer := .next (s.creditWord p vc value.toNat).ckptSync

/-- LINK_RESUME: the link word RESUME (R319). -/
def execLinkResume (p : Fin 4) (vc : Fin 2) (value : BitVec 16) (s : State) : Answer :=
  .next (s.resumeWord p vc (value.toNat % 4096)).ckptSync

/-- LB_REQ: the link word LB_REQ (R300). -/
def execLbReq (p : Fin 4) (lanes : BitVec 4) (s : State) : Answer := .next (s.loopback p lanes)

/-- LB_END: the link word LB_END (R300). -/
def execLbEnd (p : Fin 4) (s : State) : Answer := .next (s.loopback p 0)

/-- LW_ERR: a link word that is ignored and counted, with its symbols in error (R291, R300). -/
def execLwErr (p : BadWord) (s : State) : Answer := .next ((s.laneErrs p.port p.errs).bump (PX_CNT_LOW p.port 5))

/-- FRAME_RECEIVED: a whole frame has come (R302, R304, R309). -/
def execFrameReceived (p : Fin 4) (f : RxFrame) (s : State) : Answer := .next (s.frameReceived p f).ckptSync

/-- FRAME_TRANSMIT: a port that may send starts its next frame (R301, R303). -/
def execFrameTransmit (p : Fin 4) (s : State) : Answer := .next (s.frameTransmit p).ckptSync

/-- REPLAY_TIMEOUT: REPLAY_TO without progress on a virtual channel (R303). -/
def execReplayTimeout (p : Fin 4) (vc : Fin 2) (s : State) : Answer := .next (s.replayTimeout p vc).ckptSync

/-- LOS: a lane declares loss of sync (R293). -/
def execLos (ln : Fin 16) (s : State) : Answer := .next (s.losLane ln)

/-- LOS_CLEAR: two alignment sets have come on a lane (R293). -/
def execLosClear (ln : Fin 16) (s : State) : Answer := .next (s.losClear ln)

/-- LOS_TIME_EXPIRY: a lane of the active path has been in LOS for LOS_TIME (R317). -/
def execLosTimeExpiry (p : Fin 4) (s : State) : Answer := .next (s.losExpiry p).ckptSync

/-- MR_PATH_CTRL written as it stands, with one bit set. -/
def State.pathCmd (s : State) (x : Fin 2) (bit : Nat) : Answer :=
  busAnswer (s.supWrite x (.px 0) 0x810 (setBit (s.rd (MR_PATH_CTRL 0)) bit true))

/-- FAILOVER (R317). -/
def execFailover (x : Fin 2) (s : State) : Answer := s.pathCmd x 31

/-- RESUME_TIMEOUT: RESUME_TO without the partner's RESUME (R320). -/
def execResumeTimeout (s : State) : Answer := .next s.resumeTimeout.ckptSync

/-- MAKE_STANDBY (R323). -/
def execMakeStandby (x : Fin 2) (s : State) : Answer := s.pathCmd x 29

/-- SELF_TEST: the standby's test is due (R314). -/
def execSelfTest (s : State) : Answer := .next s.selfTest.ckptSync

/-- SELF_TEST_END: the test ends with what it found on each lane (R315). -/
def execSelfTestEnd (pllOk feDone : Bool) (r : Vector LaneTest 4) (s : State) : Answer := .next (s.selfTestEnd pllOk feDone r).ckptSync

/-- CHECKPOINT: the periodic checkpoint (R316). -/
def execCheckpoint (s : State) : Answer := .next s.ckptSave

/-- DISC_START: MR_DISC written with START = 1 (R311). -/
def execDiscStart (x : Fin 2) (s : State) : Answer := busAnswer (s.supWrite x (.px 0) 0x804 0x80000000#32)

/-- DISC_WAIT_EXPIRY: DISC_WAIT after power-up (R311). -/
def execDiscWaitExpiry (s : State) : Answer := .next s.discWait.ckptSync

/-- DISCOVER: the discovery message from U (R311). -/
def execDiscover (nextId origin : BitVec 12) (s : State) : Answer := .next (s.discover nextId.toNat origin.toNat).ckptSync

/-- DISC_END: the end of discovery (R311). -/
def execDiscEnd (lastId origin : BitVec 12) (ring : Bool) (s : State) : Answer := .next (s.discEnd lastId.toNat origin.toNat ring).ckptSync

/-- PRBS_LOCK: bytes reach the PRBS checker of a lane, which locks and counts wrong ones (R296). -/
def execPrbsLock (ln : Fin 16) (got : List (Option Byte)) (s : State) : Answer := .next (s.prbsLock ln got)

end Sys2Proof.Machine
end

