-- ==== Sys2Proof/Machine/NolreAlu.lean ====
section
/-!
DEFINITION. The meanings of the base instructions that compute: integer, logic, shifts, CLZ, multiply, divide, bit fields and
immediates (R61 to R65).
-/
namespace Sys2Proof.Machine

/-- The quotient of DIV: the most negative number by −1 gives itself (R63). -/
def divS (a b : Word) : Word := BitVec.ofInt 32 (truncDiv a.toInt b.toInt)

/-- The remainder of REM (R62, R63). -/
def remS (a b : Word) : Word := a - divS a b * b

/-- A truth value as a word. -/
def flagWord (b : Bool) : Word := if b then 1 else 0

/-- BEXTU of R64; `w` is the width field. -/
def bextu (v : Word) (pos w : Nat) : Word := (v >>> pos) &&& BitVec.ofNat 32 (2 ^ (w + 1) - 1)

/-- BEXTS of R64: the field sign-extended from its top bit. -/
def bexts (v : Word) (pos w : Nat) : Word := BitVec.ofInt 32 (sext (w + 1) (bextu v pos w).toNat)

/-- BINS of R64. -/
def bins (d v : Word) (pos w : Nat) : Word :=
  let mask : Word := BitVec.ofNat 32 (2 ^ (w + 1) - 1)
  (d &&& ~~~(mask <<< pos)) ||| ((v &&& mask) <<< pos)

/-- The number of leading zero bits (R61). -/
def clz (v : Word) : Word :=
  BitVec.ofNat 32 (match (List.range 32).find? (fun (i : Nat) => v.getLsbD (31 - i)) with
    | some n => n
    | none => 32)

/-- ADD (R61). -/
def execAdd (c : CoreId) (rd ra rb : Fin 32) (s : State) : Answer :=
  s.aluInstr c (encode (.add c rd ra rb)) rd [ra, rb] 1 (fun s => s.gr c ra + s.gr c rb)

/-- SUB (R61). -/
def execSub (c : CoreId) (rd ra rb : Fin 32) (s : State) : Answer :=
  s.aluInstr c (encode (.sub c rd ra rb)) rd [ra, rb] 1 (fun s => s.gr c ra - s.gr c rb)

/-- AND (R61). -/
def execAndR (c : CoreId) (rd ra rb : Fin 32) (s : State) : Answer :=
  s.aluInstr c (encode (.andR c rd ra rb)) rd [ra, rb] 1 (fun s => s.gr c ra &&& s.gr c rb)

/-- OR (R61). -/
def execOrR (c : CoreId) (rd ra rb : Fin 32) (s : State) : Answer :=
  s.aluInstr c (encode (.orR c rd ra rb)) rd [ra, rb] 1 (fun s => s.gr c ra ||| s.gr c rb)

/-- XOR (R61). -/
def execXorR (c : CoreId) (rd ra rb : Fin 32) (s : State) : Answer :=
  s.aluInstr c (encode (.xorR c rd ra rb)) rd [ra, rb] 1 (fun s => s.gr c ra ^^^ s.gr c rb)

/-- NOR (R61). -/
def execNorR (c : CoreId) (rd ra rb : Fin 32) (s : State) : Answer :=
  s.aluInstr c (encode (.norR c rd ra rb)) rd [ra, rb] 1 (fun s => ~~~(s.gr c ra ||| s.gr c rb))

/-- SLT (R61). -/
def execSlt (c : CoreId) (rd ra rb : Fin 32) (s : State) : Answer :=
  s.aluInstr c (encode (.slt c rd ra rb)) rd [ra, rb] 1 (fun s => flagWord ((s.gr c ra).slt (s.gr c rb)))

/-- SLTU (R61). -/
def execSltu (c : CoreId) (rd ra rb : Fin 32) (s : State) : Answer :=
  s.aluInstr c (encode (.sltu c rd ra rb)) rd [ra, rb] 1 (fun s => flagWord ((s.gr c ra).ult (s.gr c rb)))

/-- SLL (R61). -/
def execSll (c : CoreId) (rd ra rb : Fin 32) (s : State) : Answer :=
  s.aluInstr c (encode (.sll c rd ra rb)) rd [ra, rb] 1 (fun s => s.gr c ra <<< (s.gr c rb &&& 31#32))

/-- SRL (R61). -/
def execSrl (c : CoreId) (rd ra rb : Fin 32) (s : State) : Answer :=
  s.aluInstr c (encode (.srl c rd ra rb)) rd [ra, rb] 1 (fun s => s.gr c ra >>> (s.gr c rb &&& 31#32))

/-- SRA (R61). -/
def execSra (c : CoreId) (rd ra rb : Fin 32) (s : State) : Answer :=
  s.aluInstr c (encode (.sra c rd ra rb)) rd [ra, rb] 1 (fun s => (s.gr c ra).sshiftRight (s.gr c rb &&& 31#32).toNat)

/-- SLLI (R61). -/
def execSlli (c : CoreId) (rd ra sh : Fin 32) (s : State) : Answer :=
  s.aluInstr c (encode (.slli c rd ra sh)) rd [ra] 1 (fun s => s.gr c ra <<< sh.val)

/-- SRLI (R61). -/
def execSrli (c : CoreId) (rd ra sh : Fin 32) (s : State) : Answer :=
  s.aluInstr c (encode (.srli c rd ra sh)) rd [ra] 1 (fun s => s.gr c ra >>> sh.val)

/-- SRAI (R61). -/
def execSrai (c : CoreId) (rd ra sh : Fin 32) (s : State) : Answer :=
  s.aluInstr c (encode (.srai c rd ra sh)) rd [ra] 1 (fun s => (s.gr c ra).sshiftRight sh.val)

/-- CLZ (R61). -/
def execClz (c : CoreId) (rd ra : Fin 32) (s : State) : Answer :=
  s.aluInstr c (encode (.clz c rd ra)) rd [ra] 1 (fun s => clz (s.gr c ra))

/-- MUL (R62). -/
def execMul (c : CoreId) (rd ra rb : Fin 32) (s : State) : Answer :=
  s.aluInstr c (encode (.mul c rd ra rb)) rd [ra, rb] (perCore c 3 3 2) (fun s => s.gr c ra * s.gr c rb)

/-- MULH (R62). -/
def execMulh (c : CoreId) (rd ra rb : Fin 32) (s : State) : Answer :=
  s.aluInstr c (encode (.mulh c rd ra rb)) rd [ra, rb] (perCore c 3 3 2) (fun s => BitVec.ofInt 32 ((s.gr c ra).toInt * (s.gr c rb).toInt / 2 ^ 32))

/-- MULHU (R62). -/
def execMulhu (c : CoreId) (rd ra rb : Fin 32) (s : State) : Answer :=
  s.aluInstr c (encode (.mulhu c rd ra rb)) rd [ra, rb] (perCore c 3 3 2) (fun s => BitVec.ofNat 32 ((s.gr c ra).toNat * (s.gr c rb).toNat / 2 ^ 32))

/-- DIV (R62, R63). -/
def execDiv (c : CoreId) (rd ra rb : Fin 32) (s : State) : Answer :=
  s.divInstr c (encode (.div c rd ra rb)) rd ra rb divS

/-- DIVU (R62, R63). -/
def execDivu (c : CoreId) (rd ra rb : Fin 32) (s : State) : Answer :=
  s.divInstr c (encode (.divu c rd ra rb)) rd ra rb (fun a b => a / b)

/-- REM (R62, R63). -/
def execRem (c : CoreId) (rd ra rb : Fin 32) (s : State) : Answer :=
  s.divInstr c (encode (.rem c rd ra rb)) rd ra rb remS

/-- REMU (R62, R63). -/
def execRemu (c : CoreId) (rd ra rb : Fin 32) (s : State) : Answer :=
  s.divInstr c (encode (.remu c rd ra rb)) rd ra rb (fun a b => a % b)

/-- A bit-field instruction with pos + width > 32 takes ILLEGAL (R59). -/
def State.bitInstr (s : State) (c : CoreId) (word : Word) (rd ra pos wm1 : Fin 32) (v : State → Word) : Answer :=
  if pos.val + wm1.val + 1 ≤ 32 then s.aluInstr c word rd [ra] 1 v
  else .next (s.runInstr c 0 word [] (fun s => s.trapTo c (trapOf tILLEGAL word)))

/-- BEXTU (R59, R64). -/
def execBextu (c : CoreId) (rd ra pos widthM1 : Fin 32) (s : State) : Answer :=
  s.bitInstr c (encode (.bextu c rd ra pos widthM1)) rd ra pos widthM1 (fun s => bextu (s.gr c ra) pos widthM1)

/-- BEXTS (R59, R64). -/
def execBexts (c : CoreId) (rd ra pos widthM1 : Fin 32) (s : State) : Answer :=
  s.bitInstr c (encode (.bexts c rd ra pos widthM1)) rd ra pos widthM1 (fun s => bexts (s.gr c ra) pos widthM1)

/-- BINS (R59, R64). -/
def execBins (c : CoreId) (rd ra pos widthM1 : Fin 32) (s : State) : Answer :=
  s.bitInstr c (encode (.bins c rd ra pos widthM1)) rd ra pos widthM1 (fun s => bins (s.gr c rd) (s.gr c ra) pos widthM1)

/-- ADDI (R65). -/
def execAddi (c : CoreId) (rd ra : Fin 32) (imm : BitVec 16) (s : State) : Answer :=
  s.aluInstr c (encode (.addi c rd ra imm)) rd [ra] 1 (fun s => s.gr c ra + simm imm)

/-- ANDI (R65). -/
def execAndi (c : CoreId) (rd ra : Fin 32) (imm : BitVec 16) (s : State) : Answer :=
  s.aluInstr c (encode (.andi c rd ra imm)) rd [ra] 1 (fun s => s.gr c ra &&& zimm imm)

/-- ORI (R65). -/
def execOri (c : CoreId) (rd ra : Fin 32) (imm : BitVec 16) (s : State) : Answer :=
  s.aluInstr c (encode (.ori c rd ra imm)) rd [ra] 1 (fun s => s.gr c ra ||| zimm imm)

/-- XORI (R65). -/
def execXori (c : CoreId) (rd ra : Fin 32) (imm : BitVec 16) (s : State) : Answer :=
  s.aluInstr c (encode (.xori c rd ra imm)) rd [ra] 1 (fun s => s.gr c ra ^^^ zimm imm)

/-- SLTI (R65). -/
def execSlti (c : CoreId) (rd ra : Fin 32) (imm : BitVec 16) (s : State) : Answer :=
  s.aluInstr c (encode (.slti c rd ra imm)) rd [ra] 1 (fun s => flagWord ((s.gr c ra).slt (simm imm)))

/-- SLTIU (R65). -/
def execSltiu (c : CoreId) (rd ra : Fin 32) (imm : BitVec 16) (s : State) : Answer :=
  s.aluInstr c (encode (.sltiu c rd ra imm)) rd [ra] 1 (fun s => flagWord ((s.gr c ra).ult (simm imm)))

/-- LUI (R65). -/
def execLui (c : CoreId) (rd : Fin 32) (imm : BitVec 16) (s : State) : Answer :=
  s.aluInstr c (encode (.lui c rd imm)) rd [] 1 (fun _ => zimm imm <<< 16)

/-- AUIPC (R65). -/
def execAuipc (c : CoreId) (rd : Fin 32) (imm : BitVec 16) (s : State) : Answer :=
  s.aluInstr c (encode (.auipc c rd imm)) rd [] 1 (fun s => s.pcOf c + (zimm imm <<< 16))

end Sys2Proof.Machine
end

