-- ==== Sys2Proof/Machine/NolreMem.lean ====
section
/-!
DEFINITION. The meanings of the base loads and stores (R66), branches (R67) and jumps (R68).
-/
namespace Sys2Proof.Machine

/-- A byte sign-extended. -/
def sxb (v : Word) : Word := (v.setWidth 8).signExtend 32

/-- A halfword sign-extended. -/
def sxh (v : Word) : Word := (v.setWidth 16).signExtend 32

/-- LB (R66). -/
def execLb (c : CoreId) (rd ra : Fin 32) (imm : BitVec 16) (s : State) : Answer :=
  s.loadInstr c (encode (.lb c rd ra imm)) rd ra imm .byte sxb

/-- LH (R66). -/
def execLh (c : CoreId) (rd ra : Fin 32) (imm : BitVec 16) (s : State) : Answer :=
  s.loadInstr c (encode (.lh c rd ra imm)) rd ra imm .half sxh

/-- LW (R66). -/
def execLw (c : CoreId) (rd ra : Fin 32) (imm : BitVec 16) (s : State) : Answer :=
  s.loadInstr c (encode (.lw c rd ra imm)) rd ra imm .word id

/-- LBU (R66). -/
def execLbu (c : CoreId) (rd ra : Fin 32) (imm : BitVec 16) (s : State) : Answer :=
  s.loadInstr c (encode (.lbu c rd ra imm)) rd ra imm .byte id

/-- LHU (R66). -/
def execLhu (c : CoreId) (rd ra : Fin 32) (imm : BitVec 16) (s : State) : Answer :=
  s.loadInstr c (encode (.lhu c rd ra imm)) rd ra imm .half id

/-- SB (R66). -/
def execSb (c : CoreId) (rd ra : Fin 32) (imm : BitVec 16) (s : State) : Answer :=
  s.storeInstr c (encode (.sb c rd ra imm)) rd ra imm .byte

/-- SH (R66). -/
def execSh (c : CoreId) (rd ra : Fin 32) (imm : BitVec 16) (s : State) : Answer :=
  s.storeInstr c (encode (.sh c rd ra imm)) rd ra imm .half

/-- SW (R66). -/
def execSw (c : CoreId) (rd ra : Fin 32) (imm : BitVec 16) (s : State) : Answer :=
  s.storeInstr c (encode (.sw c rd ra imm)) rd ra imm .word

/-- BEQ (R67). -/
def execBeq (c : CoreId) (ra rd : Fin 32) (off : BitVec 16) (s : State) : Answer :=
  s.branchInstr c (encode (.beq c ra rd off)) ra rd off (fun a b => a == b)

/-- BNE (R67). -/
def execBne (c : CoreId) (ra rd : Fin 32) (off : BitVec 16) (s : State) : Answer :=
  s.branchInstr c (encode (.bne c ra rd off)) ra rd off (fun a b => a != b)

/-- BLT (R67). -/
def execBlt (c : CoreId) (ra rd : Fin 32) (off : BitVec 16) (s : State) : Answer :=
  s.branchInstr c (encode (.blt c ra rd off)) ra rd off (fun a b => a.slt b)

/-- BGE (R67). -/
def execBge (c : CoreId) (ra rd : Fin 32) (off : BitVec 16) (s : State) : Answer :=
  s.branchInstr c (encode (.bge c ra rd off)) ra rd off (fun a b => !a.slt b)

/-- BLTU (R67). -/
def execBltu (c : CoreId) (ra rd : Fin 32) (off : BitVec 16) (s : State) : Answer :=
  s.branchInstr c (encode (.bltu c ra rd off)) ra rd off (fun a b => a.ult b)

/-- BGEU (R67). -/
def execBgeu (c : CoreId) (ra rd : Fin 32) (off : BitVec 16) (s : State) : Answer :=
  s.branchInstr c (encode (.bgeu c ra rd off)) ra rd off (fun a b => !a.ult b)

/-- J (R68). -/
def execJump (c : CoreId) (imm : BitVec 26) (s : State) : Answer :=
  .next (s.runInstr c 0 (encode (.jump c imm)) [] (fun s => (s.setPc c (s.pcOf c + jumpOff imm)).spend c (perCore c 3 2 2)))

/-- JAL (R68). -/
def execJal (c : CoreId) (imm : BitVec 26) (s : State) : Answer :=
  .next (s.runInstr c 0 (encode (.jal c imm)) [31] (fun s =>
    let pc := s.pcOf c
    ((s.setG c 31 (pc + 4)).setPc c (pc + jumpOff imm)).spend c (perCore c 3 2 2)))

/-- JALR (R68). -/
def execJalr (c : CoreId) (rd ra : Fin 32) (imm : BitVec 16) (s : State) : Answer :=
  .next (s.runInstr c 0 (encode (.jalr c rd ra imm)) [rd, ra] (fun s =>
    let t := s.gr c ra + simm imm
    if t.toNat % 4 = 0 then ((s.setG c rd (s.pcOf c + 4)).setPc c t).spend c (perCore c 3 3 2)
    else s.trapTo c { trapOf tMISALIGN t with kind := kFETCH }))

end Sys2Proof.Machine
end

