-- ==== Sys2Proof/Machine/NolreSys.lean ====
section
/-!
DEFINITION. The meanings of the system extension (R71 to R74, R79, R81, R85, R87, R89, R91), of illegal instruction words (R59), and of
the events a supervisor core meets (R76, R78, R83, R91).
-/
namespace Sys2Proof.Machine

/-! ## Control and status registers (R72, R73) -/

/-- STATUS (R73). -/
def Sup.status (u : Sup) (x : Fin 2) : Word :=
  BitVec.ofNat 32 (x.val * 2 ^ 24 + b2n u.evl * 8 + b2n u.inTrap * 4 + b2n u.ptie * 2 + b2n u.tie)

/-- A pair's upper half as read: the captured one, once, or the live one (R17). -/
def halfRead (c : Option Word) (d : Dword) : Word := c.getD (d.extractLsb' 32 32)

/-- A CSR read, with what the read changes (R17, R73, R74). -/
def State.csrRead (s : State) (x : Fin 2) (n : Nat) : Word × State :=
  let u := s.scs[x]
  match n with
  | 0x00 => (u.status x, s)
  | 0x01 => (u.epc, s)
  | 0x02 => (u.cause, s)
  | 0x03 => (u.tval, s)
  | 0x04 => (u.tvec, s)
  | 0x05 => (u.scratch, s)
  | 0x06 => (u.tpa, s)
  | 0x08 => (BitVec.ofNat 32 (b2n u.wdtEn * 2 ^ 31 + u.wdtLoad), s)
  | 0x09 => (BitVec.ofNat 32 u.wdtCount, s)
  | 0x10 => (u.core.cycle.extractLsb' 0 32, s.modSup x (fun u => { u with capCycle := some (u.core.cycle.extractLsb' 32 32) }))
  | 0x11 => (halfRead u.capCycle u.core.cycle, s.modSup x (fun u => { u with capCycle := none }))
  | 0x14 => (s.tbc.extractLsb' 0 32, s.modSup x (fun u => { u with capTbc := some (s.tbc.extractLsb' 32 32) }))
  | 0x15 => (halfRead u.capTbc s.tbc, s.modSup x (fun u => { u with capTbc := none }))
  | 0x20 => (BitVec.ofNat 32 (b2n u.rtEn + 2 * b2n u.icEn + 4 * b2n u.dcEn), s)
  | _ => (0, s)

/-- KICK: the count reloads and the first expiry is armed again (R83). -/
def Sup.kick (u : Sup) : Sup := { u with wdtCount := u.wdtLoad, wdtFirst := false }

/-- WDT_CTRL written (R83): EN stays set; enabling starts the count from LOAD. -/
def Sup.wdtCtrl (u : Sup) (v : Word) : Sup :=
  let was := u.wdtEn
  let u := { u with wdtEn := was || v.getLsbD 31, wdtLoad := max 1 (field v 23 0) }
  if v.getLsbD 30 || (!was && u.wdtEn) then u.kick else u

/-- A CSR written by its access codes (R14, R72, R73). -/
def Sup.csrWrite (u : Sup) (n : Nat) (v : Word) : Sup :=
  match n with
  | 0x00 => { u with evl := u.evl && !v.getLsbD 3, ptie := v.getLsbD 1, tie := v.getLsbD 0 }
  | 0x01 => { u with epc := v }
  | 0x04 => { u with tvec := v &&& 0xFFFFFFC0#32 }
  | 0x05 => { u with scratch := v }
  | 0x08 => u.wdtCtrl v
  | 0x20 => { u with rtEn := v.getLsbD 0, icEn := v.getLsbD 1, dcEn := v.getLsbD 2 }
  | _ => u

/-- A CSR instruction: operation `op`, new value from the old one and g[ra]; CSRS and CSRC with ra = 0 only read (R72). -/
def State.csrInstr (s : State) (c : CoreId) (word : Word) (op : Nat) (rd ra : Fin 32) (n : Nat) (f : Word → Word → Word) : Answer :=
  s.sysInstr c word (fun s x =>
    if csrLegal op n (decide (ra ≠ 0)) then
      let v := s.gr c ra
      let r := s.csrRead x n
      let s := if op = 1 ∨ (2 ≤ op ∧ ra ≠ 0) then r.2.modSup x (fun u => u.csrWrite n (f r.1 v)) else r.2
      (s.result c rd r.1).spend c 1
    else s.trapTo c (trapOf tILLEGAL word))

/-- CSRR (R72). -/
def execCsrr (c : CoreId) (rd : Fin 32) (csr : BitVec 12) (s : State) : Answer :=
  s.csrInstr c (encode (.csrr c rd csr)) 0 rd 0 csr.toNat (fun t _ => t)

/-- CSRW (R72). -/
def execCsrw (c : CoreId) (rd ra : Fin 32) (csr : BitVec 12) (s : State) : Answer :=
  s.csrInstr c (encode (.csrw c rd ra csr)) 1 rd ra csr.toNat (fun _ v => v)

/-- CSRS (R72). -/
def execCsrs (c : CoreId) (rd ra : Fin 32) (csr : BitVec 12) (s : State) : Answer :=
  s.csrInstr c (encode (.csrs c rd ra csr)) 2 rd ra csr.toNat (fun t v => t ||| v)

/-- CSRC (R72). -/
def execCsrc (c : CoreId) (rd ra : Fin 32) (csr : BitVec 12) (s : State) : Answer :=
  s.csrInstr c (encode (.csrc c rd ra csr)) 3 rd ra csr.toNat (fun t v => t &&& ~~~v)

/-! ## Traps, returns, waits (R71, R77, R79, R81, R91) -/

/-- TRAP: SOFTWARE with TVAL = code (R71, R77). -/
def execTrap (c : CoreId) (code : Fin 32) (s : State) : Answer :=
  s.sysInstr c (encode (.trap c code)) (fun s _ => s.trapTo c (trapOf tSOFTWARE (BitVec.ofNat 32 code.val)))

/-- RFT, or ILLEGAL with IN_TRAP = 0 (R77, R79). -/
def execRft (c : CoreId) (s : State) : Answer :=
  s.sysInstr c (encode (.rft c)) (fun s x =>
    if s.scs[x].inTrap then (s.modSup x Sup.rft).spend c 1 else s.trapTo c (trapOf tILLEGAL (encode (.rft c))))

/-- The ASYNC BUS_ERROR of FENCE.IO (R73, R77, R91). -/
def AsyncErr.info (e : AsyncErr) : TrapInfo :=
  { code := tBUS_ERROR, kind := kSTORE, resp := e.resp.code, async := true, multi := e.multi, tval := BitVec.ofNat 32 e.addr,
    tpa := BitVec.ofNat 32 (e.addr / 2 ^ 32 % 256) }

/-- FENCE.IO: both buffers empty; an error since the last one takes the trap, which clears it (R91). -/
def execFenceIo (c : CoreId) (s : State) : Answer :=
  s.sysInstr c (encode (.fenceIo c)) (fun s x =>
    let r := s.drainAll x 32
    if r.1 then
      match r.2.scs[x].asyncErr with
      | none => (r.2.nextPc c).spend c 1
      | some e => (r.2.modSup x (fun u => { u with asyncErr := none })).trapTo c e.info
    else r.2)

/-- WFE: with EVL it completes at once, else the core waits for an event (R81). -/
def execWfe (c : CoreId) (s : State) : Answer :=
  s.sysInstr c (encode (.wfe c)) (fun s x =>
    if s.scs[x].evl then ((s.modSup x (fun u => { u with evl := false })).nextPc c).spend c 1
    else s.modSup x (fun u => { u with wfe := true }))

/-! ## The region table (R71, R85, R87) -/

/-- RTR (R71). -/
def execRtr (c : CoreId) (rd ra : Fin 32) (s : State) : Answer :=
  s.sysInstr c (encode (.rtr c rd ra)) (fun s x =>
    let a := s.gr c ra
    (s.result c rd ((s.scs[x].rt[finOf 16 (by decide) (field a 3 0)])[finOf 4 (by decide) (field a 5 4)])).spend c 1)

/-- RTW (R71, R85). -/
def execRtw (c : CoreId) (ra rb : Fin 32) (s : State) : Answer :=
  s.sysInstr c (encode (.rtw c ra rb)) (fun s x =>
    let a := s.gr c ra
    let e := finOf 16 (by decide) (field a 3 0)
    let w := finOf 4 (by decide) (field a 5 4)
    let v := rtForm w (s.gr c rb)
    ((s.modSup x (fun u => { u with rt := vset u.rt e (vset u.rt[e] w v) })).nextPc c).spend c 1)

/-! ## Cache maintenance (R89) -/

/-- A line cleaned: dirty data goes to the write-back buffer and the line stays, clean; none while the buffer is full. -/
def State.cleanLine (s : State) (x : Fin 2) (line : Nat) : Option State :=
  match s.scs[x].dcache.find? (fun l => decide (l.line = line)) with
  | some l =>
    if l.dirty then
      (s.pushBack x l).map (fun t => t.modSup x (fun u => { u with
        dcache := u.dcache.map (fun m => if m.line = line then { m with dirty := false } else m) }))
    else some s
  | none => some s

/-- A line of the data cache removed; dirty data is discarded. -/
def State.invLine (s : State) (x : Fin 2) (line : Nat) : State :=
  s.modSup x (fun u => { u with dcache := u.dcache.filter (fun l => decide (l.line ≠ line)) })

/-- A line of the instruction cache removed. -/
def State.invILine (s : State) (x : Fin 2) (line : Nat) : State :=
  s.modSup x (fun u => { u with icache := u.icache.filter (fun (n : Nat) => decide (n ≠ line)) })

/-- What a maintenance instruction does to a line; none while it stalls on the write-back buffer. -/
abbrev LineOp := State → Fin 2 → Nat → Option State

/-- A maintenance instruction on one line: it needs a match and no permission (R86, R89). -/
def State.maintOne (s : State) (c : CoreId) (word : Word) (ra : Fin 32) (f : LineOp) : Answer :=
  s.sysInstr c word (fun s x =>
    let ea := s.gr c ra
    match s.scs[x].translate ea kMAINT with
    | none => s.trapTo c (regionTrap kMAINT ea)
    | some m => match f s x (m.pa / 64) with
      | none => s
      | some t => (t.nextPc c).spend c 1)

/-- The lines of a range of at most 32 KiB, from effective line `l` on. A line without a match takes REGION_FAULT with those before it
done (R75, R89); its TVAL is the start address in the first line and the line's base in a later one (log 92). A line that stalls keeps
the instruction at its pc, those before it done. -/
def State.maintLines (c : CoreId) (x : Fin 2) (f : LineOp) (cycles : Nat) : Nat → Nat → Word → State → State
  | 0, _, _, s => (s.nextPc c).spend c cycles
  | n + 1, l, start, s =>
    let ea : Word := BitVec.ofNat 32 (64 * l)
    match s.scs[x].translate ea kMAINT with
    | none => s.trapTo c (regionTrap kMAINT (if 64 * l < start.toNat then start else ea))
    | some m => match f s x (m.pa / 64) with
      | none => s
      | some t => State.maintLines c x f cycles n (l + 1) start t

/-- The walk over the lines of a cache that a longer range makes: 512 cycles (R89). -/
def State.maintWalk (c : CoreId) (x : Fin 2) (f : LineOp) : List Nat → State → State
  | [], s => (s.nextPc c).spend c 512
  | l :: ls, s => match f s x l with
    | none => s
    | some t => State.maintWalk c x f ls t

/-- Whether some effective address of a range lies on a physical line: through an entry that is the first to match it, or untranslated.
The longer walk over the whole cache looks at each line so (R89). -/
def Sup.lineInRange (u : Sup) (a : Word) (len line : Nat) : Bool :=
  let inR := fun (ea : Nat) => decide ((ea + 2 ^ 32 - a.toNat) % 2 ^ 32 < len ∨ (a.toNat + 2 ^ 32 - ea) % 2 ^ 32 < 64)
  let hit := fun (ea : Nat) =>
    match u.translate (BitVec.ofNat 32 ea) kMAINT with
    | some m => decide (m.pa / 64 = line) && inR ea
    | none => false
  if u.rtEn then
    u.rt.toList.any (fun e =>
      let n := 2 ^ rtSize e
      hit ((e[0].toNat / n * n + 64 * line % n) % 2 ^ 32))
  else hit (64 * line)

/-- A maintenance instruction on a range [g[ra], g[ra] + g[rb]) (R89); `cached` are the lines of its cache. -/
def State.maintRange (s : State) (c : CoreId) (word : Word) (ra rb : Fin 32) (cached : Sup → List Nat)
    (f : LineOp) : Answer :=
  s.sysInstr c word (fun s x =>
    let a := s.gr c ra
    let len := (s.gr c rb).toNat
    if len = 0 then (s.nextPc c).spend c 1
    else if len ≤ 32768 then
      let first := a.toNat / 64
      let n := (a.toNat + len - 1) / 64 - first + 1
      State.maintLines c x f n n first a s
    else State.maintWalk c x f ((cached s.scs[x]).filter (fun (l : Nat) => s.scs[x].lineInRange a len l)) s)

/-- The lines of the data cache. -/
def dLines (u : Sup) : List Nat := u.dcache.map (fun l => l.line)

/-- CCLN.D (R71, R89). -/
def execCclnD (c : CoreId) (ra : Fin 32) (s : State) : Answer :=
  s.maintOne c (encode (.cclnD c ra)) ra (fun s x l => s.cleanLine x l)

/-- CINV.D (R71, R89). -/
def execCinvD (c : CoreId) (ra : Fin 32) (s : State) : Answer :=
  s.maintOne c (encode (.cinvD c ra)) ra (fun s x l => some (s.invLine x l))

/-- CINV.I (R71, R89). -/
def execCinvI (c : CoreId) (ra : Fin 32) (s : State) : Answer :=
  s.maintOne c (encode (.cinvI c ra)) ra (fun s x l => some (s.invILine x l))

/-- CCLNR.D (R71, R89). -/
def execCclnrD (c : CoreId) (ra rb : Fin 32) (s : State) : Answer :=
  s.maintRange c (encode (.cclnrD c ra rb)) ra rb dLines (fun s x l => s.cleanLine x l)

/-- CINVR.D (R71, R89). -/
def execCinvrD (c : CoreId) (ra rb : Fin 32) (s : State) : Answer :=
  s.maintRange c (encode (.cinvrD c ra rb)) ra rb dLines (fun s x l => some (s.invLine x l))

/-- CINVR.I (R71, R89). -/
def execCinvrI (c : CoreId) (ra rb : Fin 32) (s : State) : Answer :=
  s.maintRange c (encode (.cinvrI c ra rb)) ra rb (fun u => u.icache) (fun s x l => some (s.invILine x l))

/-! ## Illegal words and events -/

/-- ILLEGAL_INSTRUCTION: a word that is no legal instruction of the processor takes ILLEGAL (R56, R59). -/
def execIllegalInstruction (c : CoreId) (word : Word) (s : State) : Answer :=
  .next (if legalWord c word then s else s.runInstr c 0 word [] (fun s => s.trapTo c (trapOf tILLEGAL word)))

/-- EVENT_TRAP: TIE = 1 and the EVT line asserted at an instruction boundary; EPC is the next instruction (R76, R77, R78). -/
def execEventTrap (x : Fin 2) (s : State) : Answer :=
  .next (if s.ready (.sc x) && s.scs[x].tie && !(s.evt.queues[x]).isEmpty then s.modSup x Sup.enterEvent else s)

/-- The watchdog bites: its core alone is reset, and WDT_BITE raised (R83, R411, R413). -/
def State.wdtBite (s : State) (x : Fin 2) : State :=
  let s := s.set1 (if x = 0 then SYS_RST_CAUSE_SC0_WDT else SYS_RST_CAUSE_SC1_WDT)
  ((s.coreReset x).scTry x).raise evWDT_BITE x 0

/-- WATCHDOG_EXPIRY: the count has reached 0 (R83). -/
def execWatchdogExpiry (x : Fin 2) (s : State) : Answer :=
  let u := s.scs[x]
  .next (if u.running && u.wdtEn && decide (u.wdtCount = 0) then
    if u.inTrap || u.wdtFirst then s.wdtBite x
    else s.modSup x (fun u => { u.enter (trapOf tWATCHDOG 0) with wdtCount := u.wdtLoad, wdtFirst := true })
  else s)

/-- WDT_KICK: WDT_CTRL.KICK is written (R83). -/
def execWdtKick (x : Fin 2) (s : State) : Answer := .next (s.modSup x Sup.kick)

/-- WB_ERROR_RESPONSE: the oldest write-back or buffered store gets a response other than OK (R91). -/
def execWbErrorResponse (x : Fin 2) (fromCache : Bool) (s : State) : Answer :=
  .next (match (if fromCache then s.drainBack x else s.drainStore x) with
    | none => s
    | some (r, t) => if r = .ok then s else t)

end Sys2Proof.Machine
end

