-- ==== Sys2Proof/Machine/PosCmds.lean ====
section
/-!
DEFINITION. The commands of position and time: encoders, SSI, channels, axes, position triggers, the time unit, POS frames and page
plans (R135 to R170).
-/
namespace Sys2Proof.Machine

/-- ENC_TRANSITION: an encoder input changes (R136). -/
def execEncTransition (n : Fin 4) (input : Fin 3) (level : Bool) (s : State) : Answer := .next (s.encTransition n input level)

/-- EDGE_CONFIRM: the oldest candidate edge that has held MIN_EDGE ticks is confirmed (R137). -/
def execEdgeConfirm (n : Fin 4) (s : State) : Answer := .next (s.edgeConfirm n)

/-- The offset of a channel register in POS (R144). -/
def chOff (ch : Fin 10) (off : Nat) : Nat := 0x1000 + 0x200 * ch.val + off

/-- CHANNEL_ENABLE: CHc_CFG written with EN = 1 (R138). -/
def execChannelEnable (x : Fin 2) (ch : Fin 10) (value : Word) (s : State) : Answer :=
  busAnswer (s.supWrite x .pos (chOff ch 0) (value ||| 1#32))

/-- ARM: CHc_CFG written as it stands, with ARM = 1 (R141). -/
def execArmCh (x : Fin 2) (ch : Fin 10) (s : State) : Answer := busAnswer (s.supWrite x .pos (chOff ch 0) (s.rd (CH_CFG ch) ||| 8#32))

/-- POS_WRITE: CHc_POS written, the high half first (R17, R144). -/
def execPosWrite (x : Fin 2) (ch : Fin 10) (pos : BitVec 48) (s : State) : Answer :=
  let hi := s.supWrite x .pos (chOff ch 8) ((pos.extractLsb' 32 16).setWidth 32)
  busAnswer (if hi.1 = .ok then hi.2.supWrite x .pos (chOff ch 4) (pos.extractLsb' 0 32) else hi)

/-- SSI_READ_START: the period of an SSI channel elapses; `dataHigh` is DATA before the frame (R143). -/
def execSsiReadStart (n : Fin 2) (dataHigh : Bool) (s : State) : Answer := .next (s.ssiStart n dataHigh)

/-- SSI_READ_DONE: the frame of an SSI channel ends with the bits read, the first highest (R143). -/
def execSsiReadDone (n : Fin 2) (raw : BitVec 40) (s : State) : Answer := .next (s.ssiDone n raw)

/-- AXIS_CFG_WRITE: AXa_CFG written (R144, R145). -/
def execAxisCfgWrite (x : Fin 2) (a : Fin 4) (value : Word) (s : State) : Answer := busAnswer (s.supWrite x .pos (0x400 + 0x40 * a.val) value)

/-- HIST_SNAP: the live history copied (R168). -/
def execHistSnap (x : Fin 2) (ch : Fin 10) (s : State) : Answer := busAnswer (s.supWrite x .pos (chOff ch 0x24) 1)

/-- TRIGGER_ENABLE: PTRGt_CFG written with EN = 1 (R149). -/
def execTriggerEnable (x : Fin 2) (t : Fin 16) (value : Word) (s : State) : Answer :=
  busAnswer (s.supWrite x .pos (0x800 + 0x20 * t.val) (value ||| 0x80000000#32))

/-- TRIGGER_PULSE: a trigger reaches its tick (R148); a trigger record may complete a page of the Bolter (R277). -/
def execTriggerPulse (t : Fin 16) (s : State) : Answer := .next (s.trigPulse t).boltPages

/-- TRIGGER_PULSE_END: the pulse of a trigger ends (R148). -/
def execTriggerPulseEnd (t : Fin 16) (s : State) : Answer := .next (s.trigEnd t)

/-- TIME_RATE_WRITE: TIME_RATE written (R152). -/
def execTimeRateWrite (x : Fin 2) (value : Word) (s : State) : Answer := busAnswer (s.supWrite x .time 0x1C value)

/-- TIME_OFFSET_WRITE: the lowest part of OFFSET written, which installs it (R153). -/
def execTimeOffsetWrite (x : Fin 2) (value : Word) (s : State) : Answer := busAnswer (s.supWrite x .time 0x20 value)

/-- TIME_ADJ_WRITE: TIME_ADJ written (R153). -/
def execTimeAdjWrite (x : Fin 2) (value : Word) (s : State) : Answer := busAnswer (s.supWrite x .time 0x2C value)

/-- SYNC: a TIME frame with a SYNC passes on a port (R155); the checkpoint keeps its SEQ (R316). -/
def execSync (port : Fin 4) (clockId : Dword) (s : State) : Answer :=
  .next (s.syncSeen port clockId ((s.links.syncSeq + 1) % 65536)).ckptSync

/-- SYNC_TIMEOUT: no SYNC for SYNC_TO ms (R155). -/
def execSyncTimeout (s : State) : Answer := .next s.syncTimeout

/-- TIME_CMP_ARM: TIME_CMPn_CTRL written with EN = 1 (R156). -/
def execTimeCmpArm (x : Fin 2) (n : Fin 8) (value : Word) (s : State) : Answer :=
  busAnswer (s.supWrite x .time (0x80 + 8 * n.val) (value ||| 0x80000000#32))

/-- TIME_CMP: an enabled compare unit reaches its value (R156). -/
def execTimeCmp (n : Fin 8) (s : State) : Answer := .next (if s.flag (TIME_CMP_CTRL_EN n) && s.tCmpDue n then s.tCmpFire n else s)

/-- TS_POP: the oldest stamp removed (R157). -/
def execTsPop (x : Fin 2) (s : State) : Answer := busAnswer (s.supWrite x .time 0x6C 1)

/-- PLAN_ADD: FSCH_PLAN_CMD written with ADD (R170). -/
def execPlanAdd (x : Fin 2) (s : State) : Answer := busAnswer (s.supWrite x .fsch 0x50 1)

/-- PLAN_DELETE: FSCH_PLAN_CMD written with DELETE (R170). -/
def execPlanDelete (x : Fin 2) (s : State) : Answer := busAnswer (s.supWrite x .fsch 0x50 2)

/-- PLAN_READ: FSCH_PLAN_CMD written with READ and an index (R170). -/
def execPlanRead (x : Fin 2) (i : Fin 16) (s : State) : Answer := busAnswer (s.supWrite x .fsch 0x50 (BitVec.ofNat 32 (3 + 65536 * i.val)))

/-- POS_FRAME_SEND: a channel sends the pairs it holds (R160). -/
def execPosFrameSend (ch : Fin 6) (s : State) : Answer := .next (s.posSend ch)

/-- POS_FRAME_RECEIVED: a POS frame reaches the VENC channels (R162). -/
def execPosFrameReceived (f : PosFrame) (s : State) : Answer := .next (s.posFrame f)

/-- VENC_PAIR_ENTRY: the next converted pair of a VENC channel enters its history when its tick has come (R163). -/
def execVencPairEntry (v : Fin 4) (s : State) : Answer := .next (s.vencDue v)

end Sys2Proof.Machine
end

