-- ==== Sys2Proof/Machine/PowerCmds.lean ====
section
/-!
DEFINITION. The commands of the Governor, Weir and Toll (R368 to R387).
-/
namespace Sys2Proof.Machine

/-- GOVERNOR_STEP: a step of the Governor (R371 to R376). -/
def execGovernorStep (s : State) : Answer := .next s.govStep

/-- SPDREQ: the frame of every 100 µs (R373). -/
def execSpdreq (s : State) : Answer := .next s.spdReq

/-- GOV_ENABLE: GOV_CTRL written with EN = 1 (R387). -/
def execGovEnable (x : Fin 2) (value : Word) (s : State) : Answer := busAnswer (s.supWrite x .gov 0x00 (setBit value 31 true))

/-- WEIR_REQUEST: a requester asks for leave (R380). -/
def execWeirRequest (r : Fin 32) (s : State) : Answer := .next (s.weirAsk r)

/-- WEIR_DECISION: one AON clock of Weir (R381). -/
def execWeirDecision (s : State) : Answer := .next s.weirDecision

/-- WEIR_RELEASE: a requester releases its grant, or withdraws its request (R382). -/
def execWeirRelease (r : Fin 32) (s : State) : Answer := .next (s.weirRelease r)

/-- FW_REQ: FW_REQj written with REQ = 1 (R380). -/
def execFwReq (x : Fin 2) (j : Fin 4) (value : Word) (s : State) : Answer :=
  busAnswer (s.supWrite x .pwr (0x200 + 8 * j.val) (setBit (setBit value 30 false) 31 true))

/-- FW_REL: FW_REQj written with REL = 1 (R382). -/
def execFwRel (x : Fin 2) (j : Fin 4) (value : Word) (s : State) : Answer :=
  busAnswer (s.supWrite x .pwr (0x200 + 8 * j.val) (setBit (setBit value 31 false) 30 true))

/-- FW_DUR_EXPIRY: DUR µs after the grant of a firmware slot (R382). -/
def execFwDurExpiry (j : Fin 4) (s : State) : Answer := .next (s.fwExpiry j)

/-- TOLL_WINDOW: Toll's 10 µs window ends with the activity counted (R384, R385). -/
def execTollWindow (act : BitVec 16) (s : State) : Answer := .next (s.tollWindow act.toNat)

/-- HEAD_POWER_WINDOW: Toll's head power window ends (R386). -/
def execHeadPowerWindow (s : State) : Answer := .next s.headPowerWindow

end Sys2Proof.Machine
end

