-- ==== Sys2Proof/Machine/ServiceCmds.lean ====
section
/-!
DEFINITION. The commands of service: the mailbox, NVES, boot, security, debug and events (R417 to R438).
-/
namespace Sys2Proof.Machine

/-- MBX_CMD written with an operation (R417, R418). -/
def State.mbxRow (s : State) (x : Fin 2) (op : Word) : Answer := busAnswer (s.supWrite x .mbx 0x00 op)

/-- PERMIT (R418, R419). -/
def execPermit (x : Fin 2) (s : State) : Answer := s.mbxRow x 1

/-- WITHDRAW (R418). -/
def execWithdraw (x : Fin 2) (s : State) : Answer := s.mbxRow x 2

/-- NVES_ACK: the mailbox command ACK (R418). -/
def execNvesAck (x : Fin 2) (s : State) : Answer := s.mbxRow x 3

/-- LOG (R418). -/
def execLog (x : Fin 2) (s : State) : Answer := s.mbxRow x 4

/-- WARM_RESET (R418). -/
def execWarmReset (x : Fin 2) (s : State) : Answer := s.mbxRow x 5

/-- MBX_DONE: Fantail answers the command (R417). -/
def execMbxDone (s : State) : Answer := .next s.mbxDone

/-- NVES_WRITE: the next record (R420 to R423). -/
def execNvesWrite (s : State) : Answer := .next s.nvesWrite

/-- NVES_TOKEN_REFILL: a token every 15 s (R422). -/
def execNvesTokenRefill (s : State) : Answer := .next s.nvesRefill

/-- BOOT_IMAGE_CHECK: the ROM checks an image that a boot source delivered, or finds none (R424, R426). -/
def execBootImageCheck (img : Option (List Byte)) (slot : BitVec 2) (s : State) : Answer := .next (s.bootImage img slot.toNat)

/-- BOOT_REQ: the ROM asks for an image over port A (R424). -/
def execBootReq (s : State) : Answer := .next s.bootReq

/-- SEC_VER_GO: SEC_VER_GO written (R438). -/
def execSecVerGo (x : Fin 2) (s : State) : Answer := busAnswer (s.supWrite x .sec 0x28 1)

/-- SEC_VER_DONE: SEC has verified the image (R438). -/
def execSecVerDone (s : State) : Answer := .next s.secVerDone

/-- ROLLBACK_SET: SEC_ROLLBACK_SET written (R427). -/
def execRollbackSet (x : Fin 2) (value : Word) (s : State) : Answer := busAnswer (s.supWrite x .sec 0x08 value)

/-- SEC_REVOKE: SEC_REVOKE written (R427). -/
def execSecRevoke (x : Fin 2) (value : Word) (s : State) : Answer := busAnswer (s.supWrite x .sec 0x0C value)

/-- OTP_WRITE_DONE: an accepted OTP write ends (R427). -/
def execOtpWriteDone (s : State) : Answer := .next s.otpDone

/-- DEBUG_CHALLENGE: the SEC scan chain is read (R431). -/
def execDebugChallenge (s : State) : Answer := .next s.debugChallenge

/-- DEBUG_UNLOCK: a public key and a signature are written (R431). -/
def execDebugUnlock (kx ky r q : BitVec 256) (s : State) : Answer := .next (s.debugUnlock kx ky r q)

/-- EXTEST: the JTAG instruction EXTEST is loaded (R430). -/
def execExtest (s : State) : Answer := .next s.extest

/-- SCAN_INSTRUCTION_LOAD: another JTAG instruction is loaded (R430). -/
def execScanInstructionLoad (s : State) : Answer := .next s.scanLoad

/-- EVT_RAISE: EVT_RAISE written by a master (R436). -/
def execEvtRaise (m : Master) (value : Word) (s : State) : Answer :=
  match s.busWrite m EVT_RAISE .word value with
  | some r => busAnswer r
  | none => .next s

/-- EVT_Q_POP: EVT_Qx_POP written (R435). -/
def execEvtQPop (x : Fin 2) (queue : Fin 2) (s : State) : Answer := busAnswer (s.supWrite x .evt (0x108 + 0x40 * queue.val) 1)

/-- EVENT_DELIVERY: the next event record is delivered (R434). -/
def execEventDelivery (s : State) : Answer := .next s.evtDeliver

end Sys2Proof.Machine
end

