-- ==== Sys2Proof/Machine/ThermalCmds.lean ====
section
/-!
DEFINITION. The commands of thermal supervision and calibration (R397 to R410).
-/
namespace Sys2Proof.Machine

/-- THERMAL_SAMPLE: a sensor is sampled: HTn is n, TSn is 48 + n (R398 to R402). -/
def execThermalSample (i : Fin 64) (reading : BitVec 12) (s : State) : Answer := .next (s.thermalSample i reading)

/-- THERM_TRIP_TIMEOUT: 5 ms after the decision without THERM_TRIP_N (R404). -/
def execThermTripTimeout (s : State) : Answer := .next s.tripTimeout

/-- HCRIT_CLEAR: 1 written to a THM_HCRIT bit (R403). -/
def execHcritClear (x : Fin 2) (p : Fin 48) (s : State) : Answer :=
  busAnswer (s.supWrite x .thm (if p.val < 32 then 0x30 else 0x34) (setBit 0 (p.val % 32) true))

/-- CAL_RUN: CAL_CMD written with RUN (R406). -/
def execCalRun (x : Fin 2) (s : State) : Answer := busAnswer (s.supWrite x .cal 0x08 1)

/-- CAL_RETRY_EXPIRY: CAL_RETRY ms after a refusal (R406). -/
def execCalRetryExpiry (s : State) : Answer := .next s.calRetry

/-- TENTER_TABLES_COMPLETE: the rings counted and the deskew taps measured (R407 to R409). -/
def execTenterTablesComplete (rings : Vector (Nat × Nat) 12) (deskew : Vector (BitVec 25) 48) (s : State) : Answer :=
  .next (s.calTables rings deskew)

/-- CAL_TIMEOUT: the tables are not complete in time (R408). -/
def execCalTimeout (s : State) : Answer := .next s.calTimeout

/-- PORT_DESKEW: CAL_CMD written with PORT_DESKEW; the taps are those measured (R410). -/
def execPortDeskew (_x : Fin 2) (port : BitVec 6) (taps : BitVec 25) (s : State) : Answer :=
  busAnswer (if s.clocked .cal then
      (.ok, s.calCmd (BitVec.ofNat 32 (2 + port.toNat * 16777216)) taps)
    else (.errGated, s))

end Sys2Proof.Machine
end

