-- ==== Sys2Proof/Machine/Dispatch.lean ====
section
/-!
DEFINITION. exec: one arm per command, each a direct call of its meaning.
-/
namespace Sys2Proof.Machine

def exec (i : Instr) (s : State) : Host.Outcome State Fault Refusal :=
  match i with
  | .registerWrite m addr size value => Sys2Proof.Machine.execRegisterWrite m addr size value s
  | .loReadCapture m addr => Sys2Proof.Machine.execLoReadCapture m addr s
  | .rcReadClear m addr => Sys2Proof.Machine.execRcReadClear m addr s
  | .crossingWordArrival x => Sys2Proof.Machine.execCrossingWordArrival x s
  | .add c rd ra rb => Sys2Proof.Machine.execAdd c rd ra rb s
  | .sub c rd ra rb => Sys2Proof.Machine.execSub c rd ra rb s
  | .andR c rd ra rb => Sys2Proof.Machine.execAndR c rd ra rb s
  | .orR c rd ra rb => Sys2Proof.Machine.execOrR c rd ra rb s
  | .xorR c rd ra rb => Sys2Proof.Machine.execXorR c rd ra rb s
  | .norR c rd ra rb => Sys2Proof.Machine.execNorR c rd ra rb s
  | .slt c rd ra rb => Sys2Proof.Machine.execSlt c rd ra rb s
  | .sltu c rd ra rb => Sys2Proof.Machine.execSltu c rd ra rb s
  | .sll c rd ra rb => Sys2Proof.Machine.execSll c rd ra rb s
  | .srl c rd ra rb => Sys2Proof.Machine.execSrl c rd ra rb s
  | .sra c rd ra rb => Sys2Proof.Machine.execSra c rd ra rb s
  | .slli c rd ra sh => Sys2Proof.Machine.execSlli c rd ra sh s
  | .srli c rd ra sh => Sys2Proof.Machine.execSrli c rd ra sh s
  | .srai c rd ra sh => Sys2Proof.Machine.execSrai c rd ra sh s
  | .clz c rd ra => Sys2Proof.Machine.execClz c rd ra s
  | .mul c rd ra rb => Sys2Proof.Machine.execMul c rd ra rb s
  | .mulh c rd ra rb => Sys2Proof.Machine.execMulh c rd ra rb s
  | .mulhu c rd ra rb => Sys2Proof.Machine.execMulhu c rd ra rb s
  | .div c rd ra rb => Sys2Proof.Machine.execDiv c rd ra rb s
  | .divu c rd ra rb => Sys2Proof.Machine.execDivu c rd ra rb s
  | .rem c rd ra rb => Sys2Proof.Machine.execRem c rd ra rb s
  | .remu c rd ra rb => Sys2Proof.Machine.execRemu c rd ra rb s
  | .bextu c rd ra pos widthM1 => Sys2Proof.Machine.execBextu c rd ra pos widthM1 s
  | .bexts c rd ra pos widthM1 => Sys2Proof.Machine.execBexts c rd ra pos widthM1 s
  | .bins c rd ra pos widthM1 => Sys2Proof.Machine.execBins c rd ra pos widthM1 s
  | .addi c rd ra imm => Sys2Proof.Machine.execAddi c rd ra imm s
  | .andi c rd ra imm => Sys2Proof.Machine.execAndi c rd ra imm s
  | .ori c rd ra imm => Sys2Proof.Machine.execOri c rd ra imm s
  | .xori c rd ra imm => Sys2Proof.Machine.execXori c rd ra imm s
  | .slti c rd ra imm => Sys2Proof.Machine.execSlti c rd ra imm s
  | .sltiu c rd ra imm => Sys2Proof.Machine.execSltiu c rd ra imm s
  | .lui c rd imm => Sys2Proof.Machine.execLui c rd imm s
  | .auipc c rd imm => Sys2Proof.Machine.execAuipc c rd imm s
  | .lb c rd ra imm => Sys2Proof.Machine.execLb c rd ra imm s
  | .lh c rd ra imm => Sys2Proof.Machine.execLh c rd ra imm s
  | .lw c rd ra imm => Sys2Proof.Machine.execLw c rd ra imm s
  | .lbu c rd ra imm => Sys2Proof.Machine.execLbu c rd ra imm s
  | .lhu c rd ra imm => Sys2Proof.Machine.execLhu c rd ra imm s
  | .sb c rd ra imm => Sys2Proof.Machine.execSb c rd ra imm s
  | .sh c rd ra imm => Sys2Proof.Machine.execSh c rd ra imm s
  | .sw c rd ra imm => Sys2Proof.Machine.execSw c rd ra imm s
  | .beq c ra rd off => Sys2Proof.Machine.execBeq c ra rd off s
  | .bne c ra rd off => Sys2Proof.Machine.execBne c ra rd off s
  | .blt c ra rd off => Sys2Proof.Machine.execBlt c ra rd off s
  | .bge c ra rd off => Sys2Proof.Machine.execBge c ra rd off s
  | .bltu c ra rd off => Sys2Proof.Machine.execBltu c ra rd off s
  | .bgeu c ra rd off => Sys2Proof.Machine.execBgeu c ra rd off s
  | .jump c imm => Sys2Proof.Machine.execJump c imm s
  | .jal c imm => Sys2Proof.Machine.execJal c imm s
  | .jalr c rd ra imm => Sys2Proof.Machine.execJalr c rd ra imm s
  | .trap c code => Sys2Proof.Machine.execTrap c code s
  | .rft c => Sys2Proof.Machine.execRft c s
  | .fenceIo c => Sys2Proof.Machine.execFenceIo c s
  | .wfe c => Sys2Proof.Machine.execWfe c s
  | .cclnD c ra => Sys2Proof.Machine.execCclnD c ra s
  | .cinvD c ra => Sys2Proof.Machine.execCinvD c ra s
  | .cinvI c ra => Sys2Proof.Machine.execCinvI c ra s
  | .cclnrD c ra rb => Sys2Proof.Machine.execCclnrD c ra rb s
  | .cinvrD c ra rb => Sys2Proof.Machine.execCinvrD c ra rb s
  | .cinvrI c ra rb => Sys2Proof.Machine.execCinvrI c ra rb s
  | .rtr c rd ra => Sys2Proof.Machine.execRtr c rd ra s
  | .rtw c ra rb => Sys2Proof.Machine.execRtw c ra rb s
  | .csrr c rd csr => Sys2Proof.Machine.execCsrr c rd csr s
  | .csrw c rd ra csr => Sys2Proof.Machine.execCsrw c rd ra csr s
  | .csrs c rd ra csr => Sys2Proof.Machine.execCsrs c rd ra csr s
  | .csrc c rd ra csr => Sys2Proof.Machine.execCsrc c rd ra csr s
  | .eventTrap x => Sys2Proof.Machine.execEventTrap x s
  | .watchdogExpiry x => Sys2Proof.Machine.execWatchdogExpiry x s
  | .wdtKick x => Sys2Proof.Machine.execWdtKick x s
  | .wbErrorResponse x fromCache => Sys2Proof.Machine.execWbErrorResponse x fromCache s
  | .page c ra rb mask => Sys2Proof.Machine.execPage c ra rb mask s
  | .endpg c => Sys2Proof.Machine.execEndpg c s
  | .stream c rd ra => Sys2Proof.Machine.execStream c rd ra s
  | .streamHeaderArrival k => Sys2Proof.Machine.execStreamHeaderArrival k s
  | .setport c mask => Sys2Proof.Machine.execSetport c mask s
  | .ldprof c ra rb fld => Sys2Proof.Machine.execLdprof c ra rb fld s
  | .buildn c rd ra rb => Sys2Proof.Machine.execBuildn c rd ra rb s
  | .fill c rd ra rb level => Sys2Proof.Machine.execFill c rd ra rb level s
  | .patt c rd ra rb => Sys2Proof.Machine.execPatt c rd ra rb s
  | .commit c rd ra rb => Sys2Proof.Machine.execCommit c rd ra rb s
  | .voidL c rd ra rb => Sys2Proof.Machine.execVoidL c rd ra rb s
  | .waitq c ra rb cond => Sys2Proof.Machine.execWaitq c ra rb cond s
  | .waitqTimeout k => Sys2Proof.Machine.execWaitqTimeout k s
  | .syncl c ra => Sys2Proof.Machine.execSyncl c ra s
  | .synclTimeout k => Sys2Proof.Machine.execSynclTimeout k s
  | .mark c ra rb => Sys2Proof.Machine.execMark c ra rb s
  | .epochq c rd ra => Sys2Proof.Machine.execEpochq c rd ra s
  | .fread c rd sel => Sys2Proof.Machine.execFread c rd sel s
  | .xclr c ra => Sys2Proof.Machine.execXclr c ra s
  | .bxs c cond off => Sys2Proof.Machine.execBxs c cond off s
  | .bxc c cond off => Sys2Proof.Machine.execBxc c cond off s
  | .portLineBuilt k => Sys2Proof.Machine.execPortLineBuilt k s
  | .go x k value => Sys2Proof.Machine.execGo x k value s
  | .hold x k value => Sys2Proof.Machine.execHold x k value s
  | .jobPush x k => Sys2Proof.Machine.execJobPush x k s
  | .jobPop k => Sys2Proof.Machine.execJobPop k s
  | .encTransition n input level => Sys2Proof.Machine.execEncTransition n input level s
  | .edgeConfirm n => Sys2Proof.Machine.execEdgeConfirm n s
  | .channelEnable x ch value => Sys2Proof.Machine.execChannelEnable x ch value s
  | .armCh x ch => Sys2Proof.Machine.execArmCh x ch s
  | .posWrite x ch pos => Sys2Proof.Machine.execPosWrite x ch pos s
  | .ssiReadStart n dataHigh => Sys2Proof.Machine.execSsiReadStart n dataHigh s
  | .ssiReadDone n raw => Sys2Proof.Machine.execSsiReadDone n raw s
  | .axisCfgWrite x a value => Sys2Proof.Machine.execAxisCfgWrite x a value s
  | .histSnap x ch => Sys2Proof.Machine.execHistSnap x ch s
  | .triggerEnable x t value => Sys2Proof.Machine.execTriggerEnable x t value s
  | .triggerPulse t => Sys2Proof.Machine.execTriggerPulse t s
  | .triggerPulseEnd t => Sys2Proof.Machine.execTriggerPulseEnd t s
  | .timeRateWrite x value => Sys2Proof.Machine.execTimeRateWrite x value s
  | .timeOffsetWrite x value => Sys2Proof.Machine.execTimeOffsetWrite x value s
  | .timeAdjWrite x value => Sys2Proof.Machine.execTimeAdjWrite x value s
  | .sync port clockId => Sys2Proof.Machine.execSync port clockId s
  | .syncTimeout => Sys2Proof.Machine.execSyncTimeout s
  | .timeCmpArm x n value => Sys2Proof.Machine.execTimeCmpArm x n value s
  | .timeCmp n => Sys2Proof.Machine.execTimeCmp n s
  | .tsPop x => Sys2Proof.Machine.execTsPop x s
  | .posFrameSend ch => Sys2Proof.Machine.execPosFrameSend ch s
  | .posFrameReceived f => Sys2Proof.Machine.execPosFrameReceived f s
  | .vencPairEntry v => Sys2Proof.Machine.execVencPairEntry v s
  | .planAdd x => Sys2Proof.Machine.execPlanAdd x s
  | .planDelete x => Sys2Proof.Machine.execPlanDelete x s
  | .planRead x n => Sys2Proof.Machine.execPlanRead x n s
  | .deadline p => Sys2Proof.Machine.execDeadline p s
  | .freeze p => Sys2Proof.Machine.execFreeze p s
  | .guardEntry p => Sys2Proof.Machine.execGuardEntry p s
  | .loadStart p => Sys2Proof.Machine.execLoadStart p s
  | .loadComplete p => Sys2Proof.Machine.execLoadComplete p s
  | .loadShort p => Sys2Proof.Machine.execLoadShort p s
  | .strobeRise p => Sys2Proof.Machine.execStrobeRise p s
  | .strobeFall p => Sys2Proof.Machine.execStrobeFall p s
  | .inhibitAssert held40ns => Sys2Proof.Machine.execInhibitAssert held40ns s
  | .inhibitDeassert => Sys2Proof.Machine.execInhibitDeassert s
  | .brakeCut p => Sys2Proof.Machine.execBrakeCut p s
  | .brakeOscCount count => Sys2Proof.Machine.execBrakeOscCount count s
  | .fschAbort x page => Sys2Proof.Machine.execFschAbort x page s
  | .reportWrite => Sys2Proof.Machine.execReportWrite s
  | .fschRptCtrlWrite x value => Sys2Proof.Machine.execFschRptCtrlWrite x value s
  | .portEnable x p value => Sys2Proof.Machine.execPortEnable x p value s
  | .statusWord p w => Sys2Proof.Machine.execStatusWord p w s
  | .statusBurst p => Sys2Proof.Machine.execStatusBurst p s
  | .headStLost p => Sys2Proof.Machine.execHeadStLost p s
  | .headFault p => Sys2Proof.Machine.execHeadFault p s
  | .headFaultClear p => Sys2Proof.Machine.execHeadFaultClear p s
  | .headPresent p => Sys2Proof.Machine.execHeadPresent p s
  | .headLost p => Sys2Proof.Machine.execHeadLost p s
  | .readHir x p => Sys2Proof.Machine.execReadHir x p s
  | .writeCal x p => Sys2Proof.Machine.execWriteCal x p s
  | .wrTimeout p => Sys2Proof.Machine.execWrTimeout p s
  | .i2cDone p result data => Sys2Proof.Machine.execI2cDone p result data s
  | .rankReqWrite x p value => Sys2Proof.Machine.execRankReqWrite x p value s
  | .retire x p now => Sys2Proof.Machine.execRetire x p now s
  | .return x p => Sys2Proof.Machine.execReturn x p s
  | .cancel x p => Sys2Proof.Machine.execCancel x p s
  | .dceDoorbell x e => Sys2Proof.Machine.execDceDoorbell x e s
  | .streamEnable x k value => Sys2Proof.Machine.execStreamEnable x k value s
  | .streamDisable x k value => Sys2Proof.Machine.execStreamDisable x k value s
  | .containerHeader k => Sys2Proof.Machine.execContainerHeader k s
  | .containerVerdict k => Sys2Proof.Machine.execContainerVerdict k s
  | .containerSkip k => Sys2Proof.Machine.execContainerSkip k s
  | .descriptorBusError e => Sys2Proof.Machine.execDescriptorBusError e s
  | .dceStart x k value => Sys2Proof.Machine.execDceStart x k value s
  | .dceStopped k => Sys2Proof.Machine.execDceStopped k s
  | .dceResume x k value => Sys2Proof.Machine.execDceResume x k value s
  | .dceRestore x k value => Sys2Proof.Machine.execDceRestore x k value s
  | .dceAbort x k value => Sys2Proof.Machine.execDceAbort x k value s
  | .dceJobDone k => Sys2Proof.Machine.execDceJobDone k s
  | .cmpStart x n value => Sys2Proof.Machine.execCmpStart x n value s
  | .cmpVerifyRedo n => Sys2Proof.Machine.execCmpVerifyRedo n s
  | .cmpBlockVerified n => Sys2Proof.Machine.execCmpBlockVerified n s
  | .cmpStop n => Sys2Proof.Machine.execCmpStop n s
  | .cmpResume x n value => Sys2Proof.Machine.execCmpResume x n value s
  | .cmpAbort x n value => Sys2Proof.Machine.execCmpAbort x n value s
  | .cmpJobDone n => Sys2Proof.Machine.execCmpJobDone n s
  | .frameStart n vc hdr => Sys2Proof.Machine.execFrameStart n vc hdr s
  | .frameEnd n vc hdr => Sys2Proof.Machine.execFrameEnd n vc hdr s
  | .longPacket n pk => Sys2Proof.Machine.execLongPacket n pk s
  | .capture x n value => Sys2Proof.Machine.execCapture x n value s
  | .ispStripeStart => Sys2Proof.Machine.execIspStripeStart s
  | .ispStripeDone => Sys2Proof.Machine.execIspStripeDone s
  | .bolterContainerFinished k => Sys2Proof.Machine.execBolterContainerFinished k s
  | .boltRecordWrite => Sys2Proof.Machine.execBoltRecordWrite s
  | .proposalPass => Sys2Proof.Machine.execProposalPass s
  | .claim x => Sys2Proof.Machine.execClaim x s
  | .claimCopyDone => Sys2Proof.Machine.execClaimCopyDone s
  | .csCommit x => Sys2Proof.Machine.execCsCommit x s
  | .discard x => Sys2Proof.Machine.execDiscard x s
  | .release x => Sys2Proof.Machine.execRelease x s
  | .heldToFree => Sys2Proof.Machine.execHeldToFree s
  | .linkEnable x p value => Sys2Proof.Machine.execLinkEnable x p value s
  | .retrain x p => Sys2Proof.Machine.execRetrain x p s
  | .linkTrained p r => Sys2Proof.Machine.execLinkTrained p r s
  | .initWord p => Sys2Proof.Machine.execInitWord p s
  | .ack p vc value => Sys2Proof.Machine.execAck p vc value s
  | .nak p vc value => Sys2Proof.Machine.execNak p vc value s
  | .credit p vc value => Sys2Proof.Machine.execCredit p vc value s
  | .linkResume p vc value => Sys2Proof.Machine.execLinkResume p vc value s
  | .lbReq p lanes => Sys2Proof.Machine.execLbReq p lanes s
  | .lbEnd p => Sys2Proof.Machine.execLbEnd p s
  | .frameReceived p f => Sys2Proof.Machine.execFrameReceived p f s
  | .frameTransmit p => Sys2Proof.Machine.execFrameTransmit p s
  | .replayTimeout p vc => Sys2Proof.Machine.execReplayTimeout p vc s
  | .los ln => Sys2Proof.Machine.execLos ln s
  | .losClear ln => Sys2Proof.Machine.execLosClear ln s
  | .losTimeExpiry p => Sys2Proof.Machine.execLosTimeExpiry p s
  | .failover x => Sys2Proof.Machine.execFailover x s
  | .resumeTimeout => Sys2Proof.Machine.execResumeTimeout s
  | .makeStandby x => Sys2Proof.Machine.execMakeStandby x s
  | .selfTest => Sys2Proof.Machine.execSelfTest s
  | .selfTestEnd pllOk feDone r => Sys2Proof.Machine.execSelfTestEnd pllOk feDone r s
  | .checkpoint => Sys2Proof.Machine.execCheckpoint s
  | .discStart x => Sys2Proof.Machine.execDiscStart x s
  | .discWaitExpiry => Sys2Proof.Machine.execDiscWaitExpiry s
  | .discover nextId origin => Sys2Proof.Machine.execDiscover nextId origin s
  | .discEnd lastId origin ring => Sys2Proof.Machine.execDiscEnd lastId origin ring s
  | .ddrInit x c => Sys2Proof.Machine.execDdrInit x c s
  | .initDone c => Sys2Proof.Machine.execInitDone c s
  | .trainCs x c rank => Sys2Proof.Machine.execTrainCs x c rank s
  | .trainCa x c rank => Sys2Proof.Machine.execTrainCa x c rank s
  | .trainWl x c rank => Sys2Proof.Machine.execTrainWl x c rank s
  | .trainGate x c rank => Sys2Proof.Machine.execTrainGate x c rank s
  | .trainRead x c rank => Sys2Proof.Machine.execTrainRead x c rank s
  | .trainWrite x c rank => Sys2Proof.Machine.execTrainWrite x c rank s
  | .trainOsc x c rank => Sys2Proof.Machine.execTrainOsc x c rank s
  | .trainDone c pass => Sys2Proof.Machine.execTrainDone c pass s
  | .phyImageWrite x c word value => Sys2Proof.Machine.execPhyImageWrite x c word value s
  | .ddrOnline x c => Sys2Proof.Machine.execDdrOnline x c s
  | .ddrSelfRefresh x c => Sys2Proof.Machine.execDdrSelfRefresh x c s
  | .dramRequest write addr data => Sys2Proof.Machine.execDramRequest write addr data s
  | .dramReadData c sub err => Sys2Proof.Machine.execDramReadData c sub err s
  | .refreshInterval c rank => Sys2Proof.Machine.execRefreshInterval c rank s
  | .tempPoll c rank need => Sys2Proof.Machine.execTempPoll c rank need s
  | .pdIdleExpiry c rank => Sys2Proof.Machine.execPdIdleExpiry c rank s
  | .scrubBurst c => Sys2Proof.Machine.execScrubBurst c s
  | .dqsTracking c sub osc => Sys2Proof.Machine.execDqsTracking c sub osc s
  | .dmaCopy x n value => Sys2Proof.Machine.execDmaCopy x n value s
  | .dmaFill x n value => Sys2Proof.Machine.execDmaFill x n value s
  | .dmaCompare x n value => Sys2Proof.Machine.execDmaCompare x n value s
  | .dmaReshuffle x n value => Sys2Proof.Machine.execDmaReshuffle x n value s
  | .dmaComplete n => Sys2Proof.Machine.execDmaComplete n s
  | .dmaLateErr n => Sys2Proof.Machine.execDmaLateErr n s
  | .dmaChAbort x n => Sys2Proof.Machine.execDmaChAbort x n s
  | .ringDoorbell x r => Sys2Proof.Machine.execRingDoorbell x r s
  | .ringAbort x r => Sys2Proof.Machine.execRingAbort x r s
  | .dataSlice p => Sys2Proof.Machine.execDataSlice p s
  | .localFrame p => Sys2Proof.Machine.execLocalFrame p s
  | .egressFrame => Sys2Proof.Machine.execEgressFrame s
  | .ring3Flush => Sys2Proof.Machine.execRing3Flush s
  | .governorStep => Sys2Proof.Machine.execGovernorStep s
  | .spdreq => Sys2Proof.Machine.execSpdreq s
  | .govEnable x value => Sys2Proof.Machine.execGovEnable x value s
  | .weirRequest r => Sys2Proof.Machine.execWeirRequest r s
  | .weirDecision => Sys2Proof.Machine.execWeirDecision s
  | .weirRelease r => Sys2Proof.Machine.execWeirRelease r s
  | .fwReq x j value => Sys2Proof.Machine.execFwReq x j value s
  | .fwRel x j value => Sys2Proof.Machine.execFwRel x j value s
  | .fwDurExpiry j => Sys2Proof.Machine.execFwDurExpiry j s
  | .tollWindow act => Sys2Proof.Machine.execTollWindow act s
  | .headPowerWindow => Sys2Proof.Machine.execHeadPowerWindow s
  | .porAssert => Sys2Proof.Machine.execPorAssert s
  | .brownOut => Sys2Proof.Machine.execBrownOut s
  | .porRelease balls => Sys2Proof.Machine.execPorRelease balls s
  | .oscDlyExpiry => Sys2Proof.Machine.execOscDlyExpiry s
  | .refAcceptCount count => Sys2Proof.Machine.execRefAcceptCount count s
  | .nvesScanDone => Sys2Proof.Machine.execNvesScanDone s
  | .sc0Release => Sys2Proof.Machine.execSc0Release s
  | .wrstNAssert => Sys2Proof.Machine.execWrstNAssert s
  | .warmResetRelease => Sys2Proof.Machine.execWarmResetRelease s
  | .coreReset x value => Sys2Proof.Machine.execCoreReset x value s
  | .refMonCount count absent => Sys2Proof.Machine.execRefMonCount count absent s
  | .refRetry x => Sys2Proof.Machine.execRefRetry x s
  | .pllLock n stuck => Sys2Proof.Machine.execPllLock n stuck s
  | .pllUnlock n => Sys2Proof.Machine.execPllUnlock n s
  | .pllMonCount n count => Sys2Proof.Machine.execPllMonCount n count s
  | .clockSwitch x value stuck => Sys2Proof.Machine.execClockSwitch x value stuck s
  | .clkEnWrite x w value => Sys2Proof.Machine.execClkEnWrite x w value s
  | .thermalSample n reading => Sys2Proof.Machine.execThermalSample n reading s
  | .thermTripTimeout => Sys2Proof.Machine.execThermTripTimeout s
  | .hcritClear x p => Sys2Proof.Machine.execHcritClear x p s
  | .calRun x => Sys2Proof.Machine.execCalRun x s
  | .calRetryExpiry => Sys2Proof.Machine.execCalRetryExpiry s
  | .tenterTablesComplete rings deskew => Sys2Proof.Machine.execTenterTablesComplete rings deskew s
  | .calTimeout => Sys2Proof.Machine.execCalTimeout s
  | .portDeskew x port taps => Sys2Proof.Machine.execPortDeskew x port taps s
  | .permit x => Sys2Proof.Machine.execPermit x s
  | .withdraw x => Sys2Proof.Machine.execWithdraw x s
  | .nvesAck x => Sys2Proof.Machine.execNvesAck x s
  | .log x => Sys2Proof.Machine.execLog x s
  | .warmReset x => Sys2Proof.Machine.execWarmReset x s
  | .mbxDone => Sys2Proof.Machine.execMbxDone s
  | .nvesWrite => Sys2Proof.Machine.execNvesWrite s
  | .nvesTokenRefill => Sys2Proof.Machine.execNvesTokenRefill s
  | .bootImageCheck img slot => Sys2Proof.Machine.execBootImageCheck img slot s
  | .bootReq => Sys2Proof.Machine.execBootReq s
  | .secVerGo x => Sys2Proof.Machine.execSecVerGo x s
  | .rollbackSet x value => Sys2Proof.Machine.execRollbackSet x value s
  | .secRevoke x value => Sys2Proof.Machine.execSecRevoke x value s
  | .debugChallenge => Sys2Proof.Machine.execDebugChallenge s
  | .debugUnlock kx ky r q => Sys2Proof.Machine.execDebugUnlock kx ky r q s
  | .extest => Sys2Proof.Machine.execExtest s
  | .evtRaise m value => Sys2Proof.Machine.execEvtRaise m value s
  | .evtQPop x queue => Sys2Proof.Machine.execEvtQPop x queue s
  | .eventDelivery => Sys2Proof.Machine.execEventDelivery s
  | .illegalInstruction c word => Sys2Proof.Machine.execIllegalInstruction c word s
  | .lwErr p => Sys2Proof.Machine.execLwErr p s
  | .prbsLock ln got => Sys2Proof.Machine.execPrbsLock ln got s
  | .selfRefreshEntered c => Sys2Proof.Machine.execSelfRefreshEntered c s
  | .brownOutRelease balls => Sys2Proof.Machine.execBrownOutRelease balls s
  | .otpWriteDone => Sys2Proof.Machine.execOtpWriteDone s
  | .secVerDone => Sys2Proof.Machine.execSecVerDone s
  | .scanInstructionLoad => Sys2Proof.Machine.execScanInstructionLoad s

end Sys2Proof.Machine
end

