-- ==== Sys2Proof/Safety.lean ====
section
/-!
DEFINITION. The words that claims about runs use: a command that completes, a processor that executes, and what stays as it was. The block never
stops (Fault has no reason and no command is refused), so a safe run is one whose every step completes.
-/
namespace Sys2Proof.Machine

/-- A command completes: exec answers a next state, and it has the property. -/
def Answers (i : Instr) (s : State) (P : State → Prop) : Prop := ∃ t, exec i s = .next t ∧ P t

/-- A step completes. -/
def StepCompletes (s : State) : Prop := ∃ t, step s = .next t

/-- Processor `c` executes an instruction of extension `ext` that names the registers `rs`: it is ready once its waits have been looked
at, no EVENT trap comes first, its fetch succeeds and leaves `u`, it has the extension, and no queued build owns one of the registers. -/
def Executes (s : State) (c : CoreId) (ext : Nat) (rs : List (Fin 32)) (u : State) : Prop :=
  (s.settleWait c).ready c = true ∧ (s.settleWait c).eventDue c = false ∧ (s.settleWait c).fetch c = .ok () u ∧ hasExt c ext = true ∧ u.buildPends c rs = false

/-- Nothing but processor `c`'s own registers, pc and cycle count differs. -/
def OnlyCore (c : CoreId) (s t : State) : Prop := t = s.modCore c (fun _ => t.core c)

/-- `v` is in g[rd], every other register is as before, g0 is zero, the pc has moved to the next instruction, `n` cycles have been counted, and
nothing else has changed. -/
def WritesG (c : CoreId) (rd : Fin 32) (v : Word) (n : Nat) (s t : State) : Prop :=
  (∀ r, t.gr c r = if r = rd ∧ rd ≠ 0 then v else s.gr c r) ∧ t.pcOf c = s.pcOf c + 4 ∧
    (t.core c).cycle = (s.core c).cycle + BitVec.ofNat 64 n ∧ OnlyCore c s t

/-- The pc is `v`, `n` cycles have been counted, and nothing else has changed. -/
def JumpsTo (c : CoreId) (v : Word) (n : Nat) (s t : State) : Prop :=
  (∀ r, t.gr c r = s.gr c r) ∧ t.pcOf c = v ∧ (t.core c).cycle = (s.core c).cycle + BitVec.ofNat 64 n ∧ OnlyCore c s t

/-- Every register but those listed reads as before. -/
def RegsBut (l : List Nat) (s t : State) : Prop := ∀ a, a ∉ l → t.rd a = s.rd a

/-- Every byte of memory outside `n` bytes from `a` reads as before. -/
def MemBut (a n : Nat) (s t : State) : Prop := ∀ b, (b < a ∨ a + n ≤ b) → t.byte b = s.byte b

/-- Every byte of memory reads as before. -/
def MemSame (s t : State) : Prop := ∀ b, t.byte b = s.byte b

/-- An event with this number, source, value, page and line has been raised, stamped with the time of `s`, beside the records in flight. -/
def Raised (ev src : Nat) (v pg ln : Word) (s t : State) : Prop :=
  s.eventRec ev src v pg ln none ∈ t.evt.flight

/-- Sequencer `k` has completed its instruction: no wait, the pc on the next instruction, g[rd] = `v` where a register is named and every other
register as before, and no other sequencer changed. -/
def SqDone (k : Fin 12) (res : Option (Fin 32 × Word)) (s t : State) : Prop :=
  t.pcOf (.sq k) = s.pcOf (.sq k) + 4 ∧ t.sqs[k].wait = .none ∧ t.sqs[k].stall = 0 ∧ (∀ j ≠ k, t.sqs[j] = s.sqs[j]) ∧
    (∀ r, t.gr (.sq k) r = match res with
      | some (rd, v) => if r = rd ∧ rd ≠ 0 then v else s.gr (.sq k) r
      | none => s.gr (.sq k) r)

/-- Nothing but the sequencers and the events has changed. -/
def OnlySqs (s t : State) : Prop := t = { s with sqs := t.sqs, evt := t.evt }

/-- The conditions in XSTAT of a sequencer are those of `s` and those of the list. -/
def CondsAdd (k : Fin 12) (l : List Nat) (s t : State) : Prop :=
  ∀ i < 16, t.sqs[k].xstat.getLsbD i = (s.sqs[k].xstat.getLsbD i || l.contains i)

/-- An event with this number and source is in flight, stamped with the time of `s`. -/
def Rose (ev src : Nat) (s t : State) : Prop := ∃ e ∈ t.evt.flight, e.event = ev ∧ e.source = src ∧ e.tbc = s.tbc

/-- The open report of a page waits for more than one outcome, so the next one does not close it. -/
def MoreToCome (page : Word) (s : State) : Prop :=
  ∃ r, s.reportOf page = some r ∧ r.resolved + 1 < r.lines * (portsOf r.portSet).length

/-- One outcome has been counted in the open report of a page, with the time of `s` as its last. -/
def Counted (page : Word) (o : Outc) (s t : State) : Prop :=
  ∃ r u, s.reportOf page = some r ∧ t.reportOf page = some u ∧ u.counts[o.idx] = r.counts[o.idx] + 1 ∧ (∀ i ≠ o.idx, u.counts[i] = r.counts[i]) ∧
    u.resolved = r.resolved + 1 ∧ u.last = s.tbc

/-- A register write by a supervisor core was answered OK. -/
def BusOk (t : State) : Prop := t.busResp = .ok

/-- What every step keeps: the register table and memory in canonical form, every pc a multiple of 4 (R57), and the low bits of every trap
vector zero (R73). -/
def State.Inv (s : State) : Prop :=
  Table.wf resetWord s.regs = true ∧ Memory.wf s.mem = true ∧ (∀ c, s.pcOf c &&& 3 = 0) ∧ ∀ x : Fin 2, s.scs[x].tvec &&& 0x3F = 0

end Sys2Proof.Machine
end

