-- ==== Sys2Proof/WellFormed.lean ====
section
/-!
DEFINITION. Well-formed commands: an instruction whose word is legal on the processor that it names (R56, R59, R60, R72), a register read
of the kind that its row says, and events within the limits that the manual sets. exec does not need it: it gives every term an effect.
-/
namespace Sys2Proof

/-- The processor that an instruction command names; none for the other commands. -/
def coreOf : Instr → Option CoreId
  | .add c _ _ _ | .sub c _ _ _ | .andR c _ _ _ | .orR c _ _ _ | .xorR c _ _ _ | .norR c _ _ _ | .slt c _ _ _ | .sltu c _ _ _
  | .sll c _ _ _ | .srl c _ _ _ | .sra c _ _ _ | .slli c _ _ _ | .srli c _ _ _ | .srai c _ _ _ | .clz c _ _ | .mul c _ _ _
  | .mulh c _ _ _ | .mulhu c _ _ _ | .div c _ _ _ | .divu c _ _ _ | .rem c _ _ _ | .remu c _ _ _ | .bextu c _ _ _ _
  | .bexts c _ _ _ _ | .bins c _ _ _ _ | .addi c _ _ _ | .andi c _ _ _ | .ori c _ _ _ | .xori c _ _ _ | .slti c _ _ _
  | .sltiu c _ _ _ | .lui c _ _ | .auipc c _ _ | .lb c _ _ _ | .lh c _ _ _ | .lw c _ _ _ | .lbu c _ _ _ | .lhu c _ _ _
  | .sb c _ _ _ | .sh c _ _ _ | .sw c _ _ _ | .beq c _ _ _ | .bne c _ _ _ | .blt c _ _ _ | .bge c _ _ _ | .bltu c _ _ _
  | .bgeu c _ _ _ | .jump c _ | .jal c _ | .jalr c _ _ _ | .trap c _ | .rft c | .fenceIo c | .wfe c | .cclnD c _ | .cinvD c _
  | .cinvI c _ | .cclnrD c _ _ | .cinvrD c _ _ | .cinvrI c _ _ | .rtr c _ _ | .rtw c _ _ | .csrr c _ _ | .csrw c _ _ _
  | .csrs c _ _ _ | .csrc c _ _ _ | .page c _ _ _ | .endpg c | .stream c _ _ | .setport c _ | .ldprof c _ _ _
  | .buildn c _ _ _ | .fill c _ _ _ _ | .patt c _ _ _ | .commit c _ _ _ | .voidL c _ _ _ | .waitq c _ _ _ | .syncl c _
  | .mark c _ _ | .epochq c _ _ | .fread c _ _ | .xclr c _ | .bxs c _ _ | .bxc c _ _ => some c
  | _ => none

/-- Whether an address is that of a register of a 64-bit pair (R17). -/
def pairAddr (a : Nat) : Bool :=
  match Machine.blockAt a with
  | some (b, off) => b.isLo off || b.isHi off
  | none => false

/-- Whether the register at an address has an RC field (R14). -/
def rcAddr (a : Nat) : Bool :=
  match Machine.blockAt a with
  | some (b, off) => match Machine.rowAt b.table off with
    | some r => decide (r.mask .rc ≠ 0)
    | none => false
  | none => false

/-- Well-formedness. -/
def wellFormed (i : Instr) : Bool :=
  match i with
  | .loReadCapture _ a => pairAddr a.toNat
  | .rcReadClear _ a => rcAddr a.toNat
  | .illegalInstruction c w => !Machine.legalWord c w
  | .posFrameReceived f => decide (1 ≤ f.pairs.length ∧ f.pairs.length ≤ 4)
  | .i2cDone _ result _ => decide (result = 0 ∨ result = 1 ∨ result = 2 ∨ result = 3 ∨ result = 5)
  | i => match coreOf i with
    | some c => Machine.legalWord c (Machine.encode i)
    | none => true

end Sys2Proof
end

