-- ==== Sys2Proof/Certificates/Slice0/Obligations.lean ====
section
/-!
DEFINITION. The statements for the provers, from the numbered rules of the spec, family by family.
-/
open Sys2Proof Sys2Proof.Machine

/-- R61: ADD, SUB, AND, OR, XOR, NOR, SLT, SLTU, the shifts and CLZ put their result into g[rd] in one cycle (R69), and change nothing else. A shift by a register
uses its low five bits. CLZ counts the leading zero bits: the first `n` bits from the top are zero, and the next, if there is one, is not. -/
def Obligations.IntegerLogicShiftResults : Prop :=
  (∀ (c : CoreId) (rd ra rb : Fin 32) (s u : State), Executes s c 0 [rd, ra, rb] u →
      let a := u.gr c ra
      let b := u.gr c rb
      Answers (.add c rd ra rb) s (WritesG c rd (a + b) 1 u) ∧
      Answers (.sub c rd ra rb) s (WritesG c rd (a - b) 1 u) ∧
      Answers (.andR c rd ra rb) s (WritesG c rd (a &&& b) 1 u) ∧
      Answers (.orR c rd ra rb) s (WritesG c rd (a ||| b) 1 u) ∧
      Answers (.xorR c rd ra rb) s (WritesG c rd (a ^^^ b) 1 u) ∧
      Answers (.norR c rd ra rb) s (WritesG c rd (~~~(a ||| b)) 1 u) ∧
      Answers (.slt c rd ra rb) s (WritesG c rd (if a.toInt < b.toInt then 1 else 0) 1 u) ∧
      Answers (.sltu c rd ra rb) s (WritesG c rd (if a.toNat < b.toNat then 1 else 0) 1 u)) ∧
  (∀ (c : CoreId) (rd ra rb sh : Fin 32) (s u : State),
      let a := u.gr c ra
      let b := (u.gr c rb).toNat % 32
      (Executes s c 0 [rd, ra, rb] u →
        Answers (.sll c rd ra rb) s (WritesG c rd (a <<< b) 1 u) ∧
        Answers (.srl c rd ra rb) s (WritesG c rd (a >>> b) 1 u) ∧
        Answers (.sra c rd ra rb) s (WritesG c rd (a.sshiftRight b) 1 u)) ∧
      (Executes s c 0 [rd, ra] u →
        Answers (.slli c rd ra sh) s (WritesG c rd (a <<< sh.val) 1 u) ∧
        Answers (.srli c rd ra sh) s (WritesG c rd (a >>> sh.val) 1 u) ∧
        Answers (.srai c rd ra sh) s (WritesG c rd (a.sshiftRight sh.val) 1 u) ∧
        ∃ n : Nat, n ≤ 32 ∧ (∀ i < n, a.getLsbD (31 - i) = false) ∧ (n < 32 → a.getLsbD (31 - n) = true) ∧
          Answers (.clz c rd ra) s (WritesG c rd (BitVec.ofNat 32 n) 1 u)))

/-- R62, R63: MUL puts the low 32 bits of the product into g[rd], MULH and MULHU bits 63 to 32 of the signed and the unsigned product; three cycles, on
Fantail two (R69). With a divisor that is not zero DIV and DIVU put the quotient into g[rd], truncated toward zero, and REM and REMU the remainder, whose
sign is the dividend's; the most negative number by −1 gives itself and 0. With a divisor of zero all four take DIV_ZERO and write no register; on Fantail the trap's
restart follows (R82). -/
def Obligations.MultiplyDivideResults : Prop :=
  (∀ (c : CoreId) (rd ra rb : Fin 32) (s u : State), Executes s c 0 [rd, ra, rb] u →
      let a := u.gr c ra
      let b := u.gr c rb
      Answers (.mul c rd ra rb) s (WritesG c rd ((a.setWidth 64 * b.setWidth 64).setWidth 32) (perCore c 3 3 2) u) ∧
      Answers (.mulh c rd ra rb) s (WritesG c rd ((a.signExtend 64 * b.signExtend 64).extractLsb' 32 32) (perCore c 3 3 2) u) ∧
      Answers (.mulhu c rd ra rb) s (WritesG c rd ((a.setWidth 64 * b.setWidth 64).extractLsb' 32 32) (perCore c 3 3 2) u)) ∧
  (∀ (c : CoreId) (rd ra rb : Fin 32) (s u : State), Executes s c 0 [rd, ra, rb] u →
      let a := u.gr c ra
      let b := u.gr c rb
      (b ≠ 0 →
        (∃ q r : Word, Answers (.div c rd ra rb) s (WritesG c rd q 34 u) ∧ Answers (.rem c rd ra rb) s (WritesG c rd r 34 u) ∧
          a = q * b + r ∧ (a = 0x80000000#32 → b = 0xFFFFFFFF#32 → q = a ∧ r = 0) ∧
          (¬ (a = 0x80000000#32 ∧ b = 0xFFFFFFFF#32) → a.toInt = q.toInt * b.toInt + r.toInt ∧ r.toInt.natAbs < b.toInt.natAbs ∧
            0 ≤ r.toInt * a.toInt)) ∧
        Answers (.divu c rd ra rb) s (WritesG c rd (BitVec.ofNat 32 (a.toNat / b.toNat)) 34 u) ∧
        Answers (.remu c rd ra rb) s (WritesG c rd (BitVec.ofNat 32 (a.toNat % b.toNat)) 34 u)) ∧
      (b = 0 → ∀ i ∈ [Instr.div c rd ra rb, .divu c rd ra rb, .rem c rd ra rb, .remu c rd ra rb],
        Answers i s (fun t => t = u.trapTo c (trapOf tDIV_ZERO 0) ∧ (c ≠ .fantail → ∀ r, t.gr c r = u.gr c r))))

/-- R64, R59: bit-field instructions take `w + 1` bits from bit `pos`: BEXTU zero-extends them, BEXTS sign-extends them, BINS replaces those bits of
g[rd] by the low bits of g[ra]. A field that goes past bit 31 takes ILLEGAL with the word as TVAL. -/
def Obligations.BitFieldResults : Prop :=
  ∀ (c : CoreId) (rd ra pos w : Fin 32) (s u : State),
    (pos.val + w.val + 1 ≤ 32 → Executes s c 0 [rd, ra] u →
      let a := u.gr c ra
      let d := u.gr c rd
      Answers (.bextu c rd ra pos w) s (WritesG c rd ((a.extractLsb' pos.val (w.val + 1)).setWidth 32) 1 u) ∧
      Answers (.bexts c rd ra pos w) s (WritesG c rd ((a.extractLsb' pos.val (w.val + 1)).signExtend 32) 1 u) ∧
      ∃ v : Word, Answers (.bins c rd ra pos w) s (WritesG c rd v 1 u) ∧
        ∀ i < 32, v.getLsbD i = if pos.val ≤ i ∧ i ≤ pos.val + w.val then a.getLsbD (i - pos.val) else d.getLsbD i) ∧
    (32 < pos.val + w.val + 1 → Executes s c 0 [] u →
      ∀ i ∈ [Instr.bextu c rd ra pos w, .bexts c rd ra pos w, .bins c rd ra pos w],
        Answers i s (fun t => t = u.trapTo c (trapOf tILLEGAL (encode i))))

/-- R65: the immediate instructions: ADDI, SLTI and SLTIU take the immediate sign-extended, ANDI, ORI and XORI zero-extended; LUI puts it into the
upper half, AUIPC adds that to the address of the instruction. -/
def Obligations.ImmediateResults : Prop :=
  ∀ (c : CoreId) (rd ra : Fin 32) (imm : BitVec 16) (s u : State),
    let a := u.gr c ra
    let sx : Word := imm.signExtend 32
    let zx : Word := imm.setWidth 32
    (Executes s c 0 [rd, ra] u →
      Answers (.addi c rd ra imm) s (WritesG c rd (a + sx) 1 u) ∧
      Answers (.andi c rd ra imm) s (WritesG c rd (a &&& zx) 1 u) ∧
      Answers (.ori c rd ra imm) s (WritesG c rd (a ||| zx) 1 u) ∧
      Answers (.xori c rd ra imm) s (WritesG c rd (a ^^^ zx) 1 u) ∧
      Answers (.slti c rd ra imm) s (WritesG c rd (if a.toInt < sx.toInt then 1 else 0) 1 u) ∧
      Answers (.sltiu c rd ra imm) s (WritesG c rd (if a.toNat < sx.toNat then 1 else 0) 1 u)) ∧
    (Executes s c 0 [rd] u →
      Answers (.lui c rd imm) s (WritesG c rd (imm ++ 0#16) 1 u) ∧
      Answers (.auipc c rd imm) s (WritesG c rd (u.pcOf c + (imm ++ 0#16)) 1 u))

/-- R67, R68: a branch compares g[ra] with g[rd] and jumps by four times its signed offset from its own address, or goes on; no register changes. J jumps
by four times its signed field; JAL also puts the address of the next instruction into g31; JALR jumps to g[ra] plus its immediate, read before g[rd]
takes the return address, and a target that is no multiple of 4 takes MISALIGN of a fetch with the target as TVAL and writes no register. -/
def Obligations.BranchAndJumpResults : Prop :=
  (∀ (c : CoreId) (ra rd : Fin 32) (off : BitVec 16) (s u : State), Executes s c 0 [ra, rd] u →
      let a := u.gr c ra
      let b := u.gr c rd
      let go := fun (taken : Prop) (t : State) =>
        (taken → JumpsTo c (u.pcOf c + BitVec.ofInt 32 (4 * off.toInt)) (perCore c 3 2 2) u t) ∧ (¬ taken → JumpsTo c (u.pcOf c + 4) 1 u t)
      Answers (.beq c ra rd off) s (go (a = b)) ∧ Answers (.bne c ra rd off) s (go (a ≠ b)) ∧
      Answers (.blt c ra rd off) s (go (a.toInt < b.toInt)) ∧ Answers (.bge c ra rd off) s (go (b.toInt ≤ a.toInt)) ∧
      Answers (.bltu c ra rd off) s (go (a.toNat < b.toNat)) ∧ Answers (.bgeu c ra rd off) s (go (b.toNat ≤ a.toNat))) ∧
  (∀ (c : CoreId) (rd ra : Fin 32) (imm : BitVec 16) (far : BitVec 26) (s u : State),
      (Executes s c 0 [] u → Answers (.jump c far) s (JumpsTo c (u.pcOf c + BitVec.ofInt 32 (4 * far.toInt)) (perCore c 3 2 2) u)) ∧
      (Executes s c 0 [31] u → Answers (.jal c far) s (fun t =>
        t.pcOf c = u.pcOf c + BitVec.ofInt 32 (4 * far.toInt) ∧ (∀ r, t.gr c r = if r = 31 then u.pcOf c + 4 else u.gr c r) ∧
        (t.core c).cycle = (u.core c).cycle + BitVec.ofNat 64 (perCore c 3 2 2) ∧ OnlyCore c u t)) ∧
      (Executes s c 0 [rd, ra] u →
        let target := u.gr c ra + imm.signExtend 32
        (target.toNat % 4 = 0 → Answers (.jalr c rd ra imm) s (fun t =>
          t.pcOf c = target ∧ (∀ r, t.gr c r = if r = rd ∧ rd ≠ 0 then u.pcOf c + 4 else u.gr c r) ∧
          (t.core c).cycle = (u.core c).cycle + BitVec.ofNat 64 (perCore c 3 3 2) ∧ OnlyCore c u t)) ∧
        (target.toNat % 4 ≠ 0 → Answers (.jalr c rd ra imm) s (fun t =>
          t = u.trapTo c { code := tMISALIGN, kind := kFETCH, resp := 0, async := false, multi := false, tval := target, tpa := 0 }))))

/-- R66, R10, R69: a load puts the value at ea = g[ra] + sext(imm16) into g[rd], LB and LH sign-extended, LBU and LHU zero-extended. A sequencer reads its own local memory
in two cycles, its bytes least significant first, and changes no byte of memory; any other access that is answered gives the value that it brought. -/
def Obligations.LoadResults : Prop :=
  ∀ (c : CoreId) (rd ra : Fin 32) (imm : BitVec 16) (s u : State), Executes s c 0 [rd, ra] u →
    let ea := u.gr c ra + imm.signExtend 32
    (∀ (v : Word) (w : State) (n : Nat), n = u.loadCycles c ea →
      (u.load c ea .byte = .ok v w →
        Answers (.lb c rd ra imm) s (WritesG c rd ((v.extractLsb' 0 8).signExtend 32) n w.advance) ∧
        Answers (.lbu c rd ra imm) s (WritesG c rd v n w.advance)) ∧
      (u.load c ea .half = .ok v w →
        Answers (.lh c rd ra imm) s (WritesG c rd ((v.extractLsb' 0 16).signExtend 32) n w.advance) ∧
        Answers (.lhu c rd ra imm) s (WritesG c rd v n w.advance)) ∧
      (u.load c ea .word = .ok v w → Answers (.lw c rd ra imm) s (WritesG c rd v n w.advance))) ∧
    (∀ k : Fin 12, c = .sq k → 0x8000000 + 0x40000 * k.val ≤ ea.toNat → ea.toNat < 0x8000000 + 0x40000 * (k.val + 1) →
      let b := fun (i : Nat) => u.byte (ea.toNat + i)
      Answers (.lb c rd ra imm) s (fun t => WritesG c rd ((b 0).signExtend 32) 2 u.advance t ∧ MemSame u t) ∧
      Answers (.lbu c rd ra imm) s (fun t => WritesG c rd ((b 0).setWidth 32) 2 u.advance t ∧ MemSame u t) ∧
      (ea.toNat % 2 = 0 →
        Answers (.lh c rd ra imm) s (fun t => WritesG c rd ((b 1 ++ b 0).signExtend 32) 2 u.advance t ∧ MemSame u t) ∧
        Answers (.lhu c rd ra imm) s (fun t => WritesG c rd ((b 1 ++ b 0).setWidth 32) 2 u.advance t ∧ MemSame u t)) ∧
      (ea.toNat % 4 = 0 → Answers (.lw c rd ra imm) s (fun t => WritesG c rd (b 3 ++ b 2 ++ b 1 ++ b 0) 2 u.advance t ∧ MemSame u t)))

/-- R66, R10: a store writes the low bytes of g[rd] at ea = g[ra] + sext(imm16) and changes no register of its processor. In the local memory of a sequencer those
bytes, least significant first, are all that changes in memory; elsewhere the access has the effect that its answer has. -/
def Obligations.StoreResults : Prop :=
  ∀ (c : CoreId) (rd ra : Fin 32) (imm : BitVec 16) (s u : State), Executes s c 0 [rd, ra] u →
    let ea := u.gr c ra + imm.signExtend 32
    let v := u.gr c rd
    (∀ (w : State) (n : Nat), n = u.storeCycles c ea →
      (u.store c ea .byte v = .ok () w → Answers (.sb c rd ra imm) s (JumpsTo c (w.pcOf c + 4) n w.advance)) ∧
      (u.store c ea .half v = .ok () w → Answers (.sh c rd ra imm) s (JumpsTo c (w.pcOf c + 4) n w.advance)) ∧
      (u.store c ea .word v = .ok () w → Answers (.sw c rd ra imm) s (JumpsTo c (w.pcOf c + 4) n w.advance))) ∧
    (∀ k : Fin 12, c = .sq k → 0x8000000 + 0x40000 * k.val ≤ ea.toNat → ea.toNat < 0x8000000 + 0x40000 * (k.val + 1) →
      let put := fun (n : Nat) (t : State) =>
        (∀ i < n, t.byte (ea.toNat + i) = v.extractLsb' (8 * i) 8) ∧ MemBut ea.toNat n u t ∧
        (∀ r, t.gr c r = u.gr c r) ∧ t.pcOf c = u.pcOf c + 4 ∧ t = { u with mem := t.mem, free := t.free, sqs := t.sqs } ∧
        ∀ j ≠ k, t.sqs[j] = u.sqs[j]
      Answers (.sb c rd ra imm) s (put 1) ∧ (ea.toNat % 2 = 0 → Answers (.sh c rd ra imm) s (put 2)) ∧
      (ea.toNat % 4 = 0 → Answers (.sw c rd ra imm) s (put 4)))

/-- R66: a halfword access at an odd address and a word access at one that is no multiple of 4 take MISALIGN and make no access; a response other than OK takes
BUS_ERROR, as a region fault takes its own trap: the state is that of the trap taken where the access ended. -/
def Obligations.AccessTraps : Prop :=
  ∀ (c : CoreId) (rd ra : Fin 32) (imm : BitVec 16) (s u : State), Executes s c 0 [rd, ra] u →
    let ea := u.gr c ra + imm.signExtend 32
    let misaligned := fun (kind : Nat) =>
      ({ code := tMISALIGN, kind := kind, resp := 0, async := false, multi := false, tval := ea, tpa := 0 } : TrapInfo)
    (ea.toNat % 2 = 1 → ∀ i ∈ [Instr.lh c rd ra imm, .lhu c rd ra imm], Answers i s (fun t => t = u.trapTo c (misaligned kLOAD))) ∧
    (ea.toNat % 2 = 1 → Answers (.sh c rd ra imm) s (fun t => t = u.trapTo c (misaligned kSTORE))) ∧
    (ea.toNat % 4 ≠ 0 → Answers (.lw c rd ra imm) s (fun t => t = u.trapTo c (misaligned kLOAD))) ∧
    (ea.toNat % 4 ≠ 0 → Answers (.sw c rd ra imm) s (fun t => t = u.trapTo c (misaligned kSTORE))) ∧
    (∀ (e : TrapInfo) (w : State), u.load c ea .word = .trap e w → Answers (.lw c rd ra imm) s (fun t => t = w.trapTo c e)) ∧
    (∀ (e : TrapInfo) (w : State), u.store c ea .word (u.gr c rd) = .trap e w → Answers (.sw c rd ra imm) s (fun t => t = w.trapTo c e))

/-- R71, R76, R77, R59: on a supervisor core outside a trap, TRAP takes SOFTWARE with its code in TVAL, an illegal word takes ILLEGAL with the word in TVAL, and an EVENT trap is
taken with TIE = 1 and the EVT line asserted: EPC is the pc, PTIE is the old TIE, TIE is 0, IN_TRAP is 1, the pc is TVEC, CYCLE counts the entry (an unknown number of cycles, log 80), and nothing else of the device changes. An instruction
that is presented while TIE = 1 and the EVT line is asserted is not executed: the EVENT trap is taken before it, with its address as EPC. -/
def Obligations.SupervisorTrapEntry : Prop :=
  ∀ (x : Fin 2) (s u : State),
    let entered := fun (code : Nat) (tval : Word) (u t : State) =>
      t = u.modSup x (fun v => { v with
        epc := v.core.pc, cause := BitVec.ofNat 32 code, tval := tval, ptie := v.tie, tie := false, inTrap := true, wfe := false,
        core := { v.core with pc := v.tvec, cycle := v.core.cycle + BitVec.ofNat 64 Config.trapCycles } })
    (∀ code : Fin 32, Executes s (.sc x) 1 [] u → u.scs[x].inTrap = false →
      Answers (.trap (.sc x) code) s (entered 8 (BitVec.ofNat 32 code.val) u)) ∧
    (∀ word : Word, legalWord (.sc x) word = false → Executes s (.sc x) 0 [] u → u.scs[x].inTrap = false →
      Answers (.illegalInstruction (.sc x) word) s (entered 1 word u)) ∧
    (s.ready (.sc x) = true → s.scs[x].tie = true → s.evt.queues[x] ≠ [] → Answers (.eventTrap x) s (entered 6 0 s)) ∧
    (∀ (rd ra rb : Fin 32), let v := s.settleWait (.sc x)
      v.ready (.sc x) = true → v.scs[x].tie = true → v.evt.queues[x] ≠ [] → Answers (.add (.sc x) rd ra rb) s (entered 6 0 v))

/-- R80, R82: inside a trap, a synchronous trap halts a supervisor core: CAUSE has DOUBLE with the new code, TVAL is new, EPC stays, and CORE_HALT is raised. A trap on a sequencer
halts it with the cause, TVAL and pc in its control block and raises SQ_TRAP with its page and last committed line. A trap on Fantail restarts Fantail from its ROM and raises FANTAIL_TRAP. -/
def Obligations.OtherTrapEntries : Prop :=
  ∀ (word : Word) (s u : State),
    (∀ (x : Fin 2) (code : Fin 32), Executes s (.sc x) 1 [] u → u.scs[x].inTrap = true →
      Answers (.trap (.sc x) code) s (fun t =>
        t.scs[x] = { u.scs[x] with cause := 0x80000008#32, tval := BitVec.ofNat 32 code.val, halted := true } ∧
        (∀ y ≠ x, t.scs[y] = u.scs[y]) ∧ (∃ pg ln, Raised evCORE_HALT x.val 0 pg ln u t) ∧ t = { u with scs := t.scs, evt := t.evt })) ∧
    (∀ k : Fin 12, legalWord (.sq k) word = false → Executes s (.sq k) 0 [] u →
      Answers (.illegalInstruction (.sq k) word) s (fun t =>
        t.sqs[k] = { u.sqs[k] with st := .halted } ∧ (∀ j ≠ k, t.sqs[j] = u.sqs[j]) ∧
        t.get (SQ_TRAP_INFO_CODE k) = 1 ∧ t.rd (SQ_TRAP_TVAL k) = word ∧ t.rd (SQ_TRAP_PC k) = u.sqs[k].core.pc ∧
        RegsBut [SQ_TRAP_INFO k, SQ_TRAP_TVAL k, SQ_TRAP_PC k] u t ∧
        Raised evSQ_TRAP k.val 0 u.sqs[k].page (BitVec.ofNat 32 u.sqs[k].lastCommitted) u t ∧
        t = { u with regs := t.regs, sqs := t.sqs, evt := t.evt })) ∧
    (legalWord .fantail word = false → Executes s .fantail 0 [] u →
      Answers (.illegalInstruction .fantail word) s (fun t =>
        t.fan.core.pc = fanStart ∧ t.fan.trapRecord = true ∧ t.fan.ram = u.fan.ram ∧
        (∀ p : Fin 48, t.flag (HP_STAT_PERMIT p) = false) ∧ (∃ e ∈ t.evt.flight, e.event = evFANTAIL_TRAP ∧ e.tbc = u.tbc)))

/-- R79, R81, R91: RFT restores the pc and TIE and leaves the trap; WFE clears EVL and completes, or waits with the pc on it; FENCE.IO with both buffers empty completes, or takes the
ASYNC BUS_ERROR of the first failed write, which clears the condition. -/
def Obligations.ReturnWaitAndFence : Prop :=
  ∀ (x : Fin 2) (s u : State), Executes s (.sc x) 1 [] u →
    (u.scs[x].inTrap = true → Answers (.rft (.sc x)) s (fun t =>
      t = u.modSup x (fun v => { v with tie := v.ptie, inTrap := false, core := { v.core with pc := v.epc &&& 0xFFFFFFFC#32, cycle := v.core.cycle + 1 } }))) ∧
    (u.scs[x].inTrap = false → Answers (.rft (.sc x)) s (fun t => t = u.supTrap x (trapOf tILLEGAL (encode (.rft (.sc x)))))) ∧
    (u.scs[x].evl = true → Answers (.wfe (.sc x)) s (fun t =>
      t = u.modSup x (fun v => { v with evl := false, core := { v.core with pc := v.core.pc + 4, cycle := v.core.cycle + 1 } }))) ∧
    (u.scs[x].evl = false → Answers (.wfe (.sc x)) s (fun t => t = u.modSup x (fun v => { v with wfe := true }))) ∧
    (u.scs[x].wbuf = [] → u.scs[x].wback = [] →
      (u.scs[x].asyncErr = none → Answers (.fenceIo (.sc x)) s (fun t =>
        t = u.modSup x (fun v => { v with core := { v.core with pc := v.core.pc + 4, cycle := v.core.cycle + 1 } }))) ∧
      (∀ e : AsyncErr, u.scs[x].asyncErr = some e → u.scs[x].inTrap = false → Answers (.fenceIo (.sc x)) s (fun t =>
        t.scs[x].asyncErr = none ∧ t.scs[x].epc = u.scs[x].core.pc ∧ t.scs[x].inTrap = true ∧ t.scs[x].core.pc = u.scs[x].tvec ∧
        field t.scs[x].cause 7 0 = tBUS_ERROR ∧ t.scs[x].cause.getLsbD 30 = true ∧ t.scs[x].cause.getLsbD 29 = e.multi ∧
        t.scs[x].tval = BitVec.ofNat 32 e.addr ∧ t.scs[x].tpa = BitVec.ofNat 32 (e.addr / 2 ^ 32 % 256) ∧
        (∀ r, t.gr (.sc x) r = u.gr (.sc x) r) ∧ t = { u with scs := t.scs })))

/-- R72, R73: CSRR reads a CSR into g[rd]; CSRW, CSRS and CSRC put its old value into g[rd] and write g[ra], the old value with the bits of g[ra] set, or with them cleared, here for SCRATCH,
EPC and TVEC, whose low six bits stay zero; a write of a read-only CSR takes ILLEGAL. -/
def Obligations.CsrResults : Prop :=
  ∀ (x : Fin 2) (rd ra : Fin 32) (s u : State), Executes s (.sc x) 1 [] u →
    let w := u.scs[x]
    let a := u.gr (.sc x) ra
    let wrote := fun (old : Word) (f : Sup → Sup) (t : State) => WritesG (.sc x) rd old 1 (u.modSup x f) t
    let writes := fun (i : BitVec 12 → Instr) (f : Word → Word) =>
      Answers (i 0x005) s (wrote w.scratch (fun v => { v with scratch := f w.scratch })) ∧
      Answers (i 0x001) s (wrote w.epc (fun v => { v with epc := f w.epc })) ∧
      Answers (i 0x004) s (wrote w.tvec (fun v => { v with tvec := f w.tvec &&& 0xFFFFFFC0#32 }))
    (∀ p ∈ [(0x001#12, w.epc), (0x002#12, w.cause), (0x003#12, w.tval), (0x004#12, w.tvec), (0x005#12, w.scratch), (0x006#12, w.tpa),
        (0x009#12, BitVec.ofNat 32 w.wdtCount), (0x020#12, BitVec.ofNat 32 (b2n w.rtEn + 2 * b2n w.icEn + 4 * b2n w.dcEn)),
        (0x000#12, BitVec.ofNat 32 (x.val * 2 ^ 24 + b2n w.evl * 8 + b2n w.inTrap * 4 + b2n w.ptie * 2 + b2n w.tie))],
      Answers (.csrr (.sc x) rd p.1) s (WritesG (.sc x) rd p.2 1 u)) ∧
    writes (fun n => .csrw (.sc x) rd ra n) (fun _ => a) ∧
    (ra ≠ 0 → writes (fun n => .csrs (.sc x) rd ra n) (fun o => o ||| a) ∧ writes (fun n => .csrc (.sc x) rd ra n) (fun o => o &&& ~~~a)) ∧
    (∀ i ∈ [Instr.csrs (.sc x) rd 0 0x002, .csrc (.sc x) rd 0 0x002], Answers i s (WritesG (.sc x) rd w.cause 1 u)) ∧
    (∀ n ∈ [0x002#12, 0x003#12, 0x006#12, 0x009#12, 0x010#12, 0x011#12, 0x014#12, 0x015#12],
      Answers (.csrw (.sc x) rd ra n) s (fun t => t = u.supTrap x (trapOf tILLEGAL (encode (.csrw (.sc x) rd ra n)))))

/-- R71, R85: RTR puts the region-table word that g[ra] selects, entry [3:0] and word [5:4], into g[rd]; RTW writes g[rb] to it, with the reserved bits zero and a size below 4 KiB as 4 KiB. -/
def Obligations.RegionTableResults : Prop :=
  ∀ (x : Fin 2) (rd ra rb : Fin 32) (s u : State), Executes s (.sc x) 1 [] u →
    ∀ (e : Fin 16) (w : Fin 4), (u.gr (.sc x) ra).extractLsb' 0 4 = BitVec.ofNat 4 e.val → (u.gr (.sc x) ra).extractLsb' 4 2 = BitVec.ofNat 2 w.val →
      Answers (.rtr (.sc x) rd ra) s (WritesG (.sc x) rd u.scs[x].rt[e][w] 1 u) ∧
      ∃ v : Word,
        Answers (.rtw (.sc x) ra rb) s (fun t => JumpsTo (.sc x) (u.pcOf (.sc x) + 4) 1
          (u.modSup x (fun z => { z with rt := vset z.rt e (vset z.rt[e] w v) })) t) ∧
        (w.val < 2 → v = u.gr (.sc x) rb &&& 0xFFFFF000#32) ∧ (w.val = 2 → v = u.gr (.sc x) rb &&& 0xFF#32) ∧
        (w.val = 3 → v &&& 0xFFE0FFE0#32 = u.gr (.sc x) rb &&& 0x80000000#32 ∧ v &&& 0x1F#32 = u.gr (.sc x) rb &&& 0x1F#32 ∧
          field v 20 16 = max 12 (field (u.gr (.sc x) rb) 20 16))

/-- R89: a maintenance instruction acts on the line of an address that the region table maps: CCLN.D leaves a dirty line in the cache, clean, and puts it
into the write-back buffer, which, where it holds its 8 entries, gives up its oldest first or stalls the instruction; CINV.D removes the line with its data; CINV.I removes it from the instruction cache. A range instruction acts on every line that
overlaps [g[ra], g[ra] + g[rb]), here of up to 32 KiB without translation: CINVR.D and CINVR.I leave none of them in their cache, CCLNR.D leaves none of them
dirty, here where the buffer has room for them; a range of length zero does nothing; no line outside the range leaves a cache. -/
def Obligations.CacheMaintenance : Prop :=
  (∀ (x : Fin 2) (ra : Fin 32) (s u : State) (m : Mapped), Executes s (.sc x) 1 [] u → u.scs[x].translate (u.gr (.sc x) ra) kMAINT = some m →
      let line := m.pa / 64
      let noStore := fun (f : Nat → Bool) => ∀ b ∈ u.scs[x].wbuf, f (b.addr / 64) = false
      Answers (.cinvD (.sc x) ra) s (fun t => JumpsTo (.sc x) (u.pcOf (.sc x) + 4) 1
        (u.modSup x (fun v => { v with dcache := v.dcache.filter (fun l => decide (l.line ≠ line)) })) t) ∧
      Answers (.cinvI (.sc x) ra) s (fun t => JumpsTo (.sc x) (u.pcOf (.sc x) + 4) 1
        (u.modSup x (fun v => { v with icache := v.icache.filter (fun (n : Nat) => decide (n ≠ line)) })) t) ∧
      (∀ l : CacheLine, u.scs[x].dcache.find? (fun c => decide (c.line = line)) = some l →
        (l.dirty = false → Answers (.cclnD (.sc x) ra) s (JumpsTo (.sc x) (u.pcOf (.sc x) + 4) 1 u)) ∧
        (l.dirty = true → u.scs[x].wback.length < 8 → noStore (fun n => decide (n = line)) → Answers (.cclnD (.sc x) ra) s (fun t =>
          t.scs[x].wback = u.scs[x].wback ++ [l] ∧ t.scs[x].dcache.find? (fun c => decide (c.line = line)) = some { l with dirty := false } ∧
          t.scs[x].dcache.map (fun c => (c.line, c.data)) = u.scs[x].dcache.map (fun c => (c.line, c.data)) ∧
          (∀ r, t.gr (.sc x) r = u.gr (.sc x) r) ∧ t.pcOf (.sc x) = u.pcOf (.sc x) + 4 ∧ t = { u with scs := t.scs })) ∧
        (l.dirty = true → u.scs[x].wback.length = 8 → noStore (fun n => decide (n = line)) →
          (u.drainBack x = none → Answers (.cclnD (.sc x) ra) s (fun t => t = u)) ∧
          (∀ r w, u.drainBack x = some (r, w) → Answers (.cclnD (.sc x) ra) s (fun t =>
            t.scs[x].wback = w.scs[x].wback ++ [l] ∧ t.mem = w.mem ∧ t.pcOf (.sc x) = w.pcOf (.sc x) + 4)))) ∧
      (u.scs[x].dcache.find? (fun c => decide (c.line = line)) = none → Answers (.cclnD (.sc x) ra) s (JumpsTo (.sc x) (u.pcOf (.sc x) + 4) 1 u))) ∧
  (∀ (x : Fin 2) (ra rb : Fin 32) (s u : State), Executes s (.sc x) 1 [] u →
      let a := u.gr (.sc x) ra
      let len := (u.gr (.sc x) rb).toNat
      let covers := fun (l : Nat) => decide (a.toNat / 64 ≤ l ∧ l ≤ (a.toNat + len - 1) / 64)
      (len = 0 → ∀ i ∈ [Instr.cclnrD (.sc x) ra rb, .cinvrD (.sc x) ra rb, .cinvrI (.sc x) ra rb],
        Answers i s (JumpsTo (.sc x) (u.pcOf (.sc x) + 4) 1 u)) ∧
      (0 < len → len ≤ 32768 → a.toNat + len ≤ 2 ^ 32 → u.scs[x].rtEn = false →
        Answers (.cinvrD (.sc x) ra rb) s (fun t =>
          t.scs[x].dcache = u.scs[x].dcache.filter (fun l => !covers l.line) ∧ t.pcOf (.sc x) = u.pcOf (.sc x) + 4 ∧
          (∀ r, t.gr (.sc x) r = u.gr (.sc x) r) ∧ MemSame u t ∧ t = { u with scs := t.scs }) ∧
        Answers (.cinvrI (.sc x) ra rb) s (fun t =>
          t.scs[x].icache = u.scs[x].icache.filter (fun l => !covers l) ∧ t.pcOf (.sc x) = u.pcOf (.sc x) + 4 ∧
          (∀ r, t.gr (.sc x) r = u.gr (.sc x) r) ∧ MemSame u t ∧ t = { u with scs := t.scs }) ∧
        (u.scs[x].wback.length + (u.scs[x].dcache.filter (fun l => l.dirty && covers l.line)).length ≤ 8 →
            (∀ b ∈ u.scs[x].wbuf, covers (b.addr / 64) = false) → Answers (.cclnrD (.sc x) ra rb) s (fun t =>
          (∀ n l, covers n = true → t.scs[x].dcache.find? (fun c => decide (c.line = n)) = some l → l.dirty = false) ∧
          t.scs[x].dcache.map (fun c => (c.line, c.data)) = u.scs[x].dcache.map (fun c => (c.line, c.data)) ∧
          t.pcOf (.sc x) = u.pcOf (.sc x) + 4 ∧ (∀ r, t.gr (.sc x) r = u.gr (.sc x) r) ∧ MemSame u t ∧ t = { u with scs := t.scs }))))

/-- R83, R91: a kick reloads the count and arms the first expiry; an expiry outside a trap takes WATCHDOG whatever TIE says and reloads the count; one inside a trap, or a second one, resets that core alone and
raises WDT_BITE; a buffered store or a write-back that fails is kept as the first error, a later one as MULTI, and raises DC_WB_ERR. CYCLE counts the entry (log 80). -/
def Obligations.WatchdogAndWriteErrors : Prop :=
  ∀ (x : Fin 2) (s : State),
    let w := s.scs[x]
    Answers (.wdtKick x) s (fun t => t = s.modSup x (fun v => { v with wdtCount := v.wdtLoad, wdtFirst := false })) ∧
    (w.running = true → w.wdtEn = true → w.wdtCount = 0 →
      (w.inTrap = false → w.wdtFirst = false → Answers (.watchdogExpiry x) s (fun t =>
        t.scs[x].epc = w.core.pc ∧ t.scs[x].cause = 7 ∧ t.scs[x].tval = 0 ∧ t.scs[x].ptie = w.tie ∧ t.scs[x].tie = false ∧ t.scs[x].inTrap = true ∧
        t.scs[x].core = { w.core with pc := w.tvec, cycle := w.core.cycle + BitVec.ofNat 64 Config.trapCycles } ∧ t.scs[x].wdtCount = w.wdtLoad ∧ t = { s with scs := t.scs } ∧ ∀ y ≠ x, t.scs[y] = s.scs[y])) ∧
      (w.inTrap = true ∨ w.wdtFirst = true → Answers (.watchdogExpiry x) s (fun t =>
        t.scs[x].wdtEn = false ∧ t.scs[x].inTrap = false ∧ (∀ r, t.gr (.sc x) r = 0) ∧ (∀ y ≠ x, t.scs[y] = s.scs[y]) ∧
        t.bit SYS_RST_CAUSE (4 + x.val) = true ∧ RegsBut [SYS_RST_CAUSE] s t ∧ (∃ e ∈ t.evt.flight, e.event = evWDT_BITE ∧ e.source = x.val)))) ∧
    let failed := fun (addr : Nat) (r : Resp) => match w.asyncErr with
      | none => ({ addr := addr, resp := r, multi := false } : AsyncErr)
      | some e => { e with multi := true }
    let told := fun (u t : State) => (∀ y ≠ x, t.scs[y] = s.scs[y]) ∧ (∃ e ∈ t.evt.flight, e.event = evDC_WB_ERR ∧ e.source = x.val) ∧
      t = { u with scs := t.scs, evt := t.evt }
    (∀ (b : BufStore) (rest : List BufStore) (r : Resp) (u : State), w.wbuf = b :: rest → b.size = 4 → r ≠ .ok →
      s.busWrite (.sc x) b.addr .word b.data = some (r, u) → u.scs = s.scs →
      Answers (.wbErrorResponse x false) s (fun t => t.scs[x] = { w with wbuf := rest, asyncErr := some (failed b.addr r) } ∧ told u t)) ∧
    (∀ (l : CacheLine) (rest : List CacheLine) (r : Resp) (u : State), w.wback = l :: rest → r ≠ .ok →
      s.memWrite (64 * l.line) (lineBytes64 l.data) = some (r, u) → u.scs = s.scs →
      Answers (.wbErrorResponse x true) s (fun t => t.scs[x] = { w with wback := rest, asyncErr := some (failed (64 * l.line) r) } ∧ told u t))
/-- R103, R106, R107, R101: PAGE opens a new page with its length, port mask and AM, with NEXT_SEG and NB of its ports at 0, in the scheduler too; ENDPG without an open segment closes it and discards its
uncommitted entries; SETPORT sets AM to a part of PMASK; each sets its condition, and changes nothing else of the page, where the rule names one. -/
def Obligations.PageEndpgSetport : Prop :=
  ∀ (k : Fin 12) (ra rb : Fin 32) (mask : BitVec 4) (s u : State),
    let q := u.sqs[k]
    let page := u.gr (.sq k) ra
    let lines := u.gr (.sq k) rb
    (Executes s (.sq k) 2 [ra, rb] u → q.pageOpen = false → u.flag (SQ_CTRL_PARK_REQ k) = false →
      (lines ≠ 0 → mask ≠ 0 → u.reportOf page = none → Answers (.page (.sq k) ra rb mask) s (fun t =>
        SqDone k none u t ∧ t.sqs[k].pageOpen = true ∧ t.sqs[k].page = page ∧ t.sqs[k].lines = lines ∧ t.sqs[k].pmask = mask ∧ t.sqs[k].am = mask ∧
        t.sqs[k].nextSeg = 0 ∧ (∀ j : Fin 4, t.sqs[k].nb[j] = if mask.getLsbD j.val then 0 else q.nb[j]) ∧ t.sqs[k].fifo = q.fifo ∧
        (t.reportOf page).map (fun r => (r.lines, r.portSet)) = some (lines.toNat, portMask k mask) ∧
        (∀ j : Fin 4, mask.getLsbD j.val = true → ∃ pg ∈ t.fsch.ports[portOf k j].pages, pg.page = page) ∧ CondsAdd k [] u t ∧ MemSame u t)) ∧
      (lines = 0 ∨ mask = 0 → Answers (.page (.sq k) ra rb mask) s (fun t =>
        SqDone k none u t ∧ t.sqs[k].pageOpen = false ∧ CondsAdd k ((if lines = 0 then [xRANGE] else []) ++ (if mask = 0 then [xMASK] else [])) u t ∧ OnlySqs u t))) ∧
    (Executes s (.sq k) 2 [] u → q.pageOpen = true → q.builds = [] → q.seg = none → Answers (.endpg (.sq k)) s (fun t =>
      SqDone k none u t ∧ t.sqs[k].pageOpen = false ∧
      (∀ j : Fin 4, t.sqs[k].fifo[j] = q.fifo[j].filter (fun e => decide (e.page ≠ q.page) || e.committed)) ∧ CondsAdd k [] u t ∧
      t = { u with sqs := t.sqs, fsch := t.fsch })) ∧
    (Executes s (.sq k) 2 [] u → q.pageOpen = false → q.builds = [] → Answers (.endpg (.sq k)) s (fun t =>
      SqDone k none u t ∧ CondsAdd k [xPAGE_STATE] u t ∧ OnlySqs u t)) ∧
    (Executes s (.sq k) 2 [] u → Answers (.setport (.sq k) mask) s (fun t =>
      let ok := q.pageOpen = true ∧ mask ≠ 0 ∧ mask &&& ~~~ q.pmask = 0
      SqDone k none u t ∧ OnlySqs u t ∧ (ok → t.sqs[k].am = mask ∧ CondsAdd k [] u t) ∧
      (¬ ok → t.sqs[k].am = q.am ∧ CondsAdd k [if q.pageOpen then xMASK else xPAGE_STATE] u t)))

/-- R105, R104, R102: STREAM takes its stream, discards what is left of an open segment, with RESIDUE where that is anything, and once the segment has its verdict waits for the next header. A header of the page and
stream gives g[rd] the segment number and lines, opens the segment, and sets SEQ where the number is not NEXT_SEG; one of another page or stream is skipped, with HDR and g[rd] = 0. -/
def Obligations.StreamAndHeader : Prop :=
  ∀ (k : Fin 12) (rd ra : Fin 32) (s u : State),
    (Executes s (.sq k) 2 [ra] u → u.sqs[k].builds = [] → u.sqs[k].pageOpen = true →
      let left : List Byte := match u.sqs[k].seg with
        | some g => g.data
        | none => []
      (∀ g, u.sqs[k].seg = some g → g.verdict = some .pass) → Answers (.stream (.sq k) rd ra) s (fun t =>
        t.sqs[k].streamId = (u.gr (.sq k) ra).setWidth 16 ∧ t.sqs[k].wait = .header rd (u.gr (.sq k) ra) ∧ t.sqs[k].seg = none ∧
        CondsAdd k (if left.isEmpty then [] else [xRESIDUE]) u t ∧ t.pcOf (.sq k) = u.pcOf (.sq k) ∧ (∀ r, t.gr (.sq k) r = u.gr (.sq k) r) ∧ OnlySqs u t)) ∧
    (∀ (id : Word) (e : Fin 16) (c : Cont), s.sqs[k].wait = .header rd id → s.feeder k = some e → s.engines[e].nextCont = some c → c.hdrBad = false →
      s.sqs[k].lastAborted ≠ some c.page →
      let q := s.sqs[k]
      (c.page = q.page → c.stream.setWidth 32 = id → Answers (.streamHeaderArrival k) s (fun t =>
        SqDone k (some (rd, BitVec.ofNat 32 (c.segment * 256 + c.lines))) s t ∧
        (t.sqs[k].seg.map (fun g => (g.page, g.number, g.data))) = some (c.page, c.segment, c.data) ∧
        t.sqs[k].nextSeg = BitVec.ofNat 24 (c.segment + 1) ∧ CondsAdd k (if q.nextSeg = BitVec.ofNat 24 c.segment then [] else [xSEQ]) s t)) ∧
      (c.page ≠ q.page ∨ c.stream.setWidth 32 ≠ id → Answers (.streamHeaderArrival k) s (fun t =>
        SqDone k (some (rd, 0)) s t ∧ t.sqs[k].seg = q.seg ∧ t.sqs[k].nextSeg = q.nextSeg ∧ CondsAdd k [xHDR] s t)))

/-- R109, R112, R113, R123, R124: with a page open, a build enters a queue that has room, behind a build with a line in work, with AM as it stands, and its sequencer goes on; with no page open it sets PAGE_STATE and
g[rd] = 0; with four builds queued it waits and nothing else happens. PATT takes its count, level, phase and period from one register. -/
def Obligations.BuildsEnterTheQueue : Prop :=
  ∀ (k : Fin 12) (rd ra rb : Fin 32) (level : BitVec 4) (s u : State), Executes s (.sq k) 2 [ra, rb] u →
    let q := u.sqs[k]
    let a := u.gr (.sq k) ra
    let b := u.gr (.sq k) rb
    let n := if b = 0 then 1 else b.toNat
    let op := fun (kind : LineKind) (count level phase period : Nat) =>
      ({ kind := kind, rd := rd, first := a.toNat, count := count, am := q.am, level := level, phase := phase, period := period, checked := false,
         done := 0, rest := [] } : BuildOp)
    ∀ p ∈ [(Instr.buildn (.sq k) rd ra rb, op .stream n 0 0 0), (.fill (.sq k) rd ra rb level, op .fill n level.toNat 0 0),
        (.patt (.sq k) rd ra rb, op .patt (b.extractLsb' 24 8).toNat (b.extractLsb' 20 4).toNat (b.extractLsb' 8 8).toNat (b.extractLsb' 0 8).toNat)],
      (∀ h l, q.builds = h :: l → h.rest ≠ [] → l.length < 3 → q.pageOpen = true → Answers p.1 s (fun t =>
        t.sqs[k].builds = q.builds ++ [p.2] ∧ t.pcOf (.sq k) = u.pcOf (.sq k) + 4 ∧ t.sqs[k].stall = 0 ∧
        (∀ r, t.gr (.sq k) r = u.gr (.sq k) r) ∧ CondsAdd k [] u t ∧ OnlySqs u t)) ∧
      (q.builds = [] → q.pageOpen = false → Answers p.1 s (fun t => SqDone k (some (rd, 0)) u t ∧ CondsAdd k [xPAGE_STATE] u t ∧ OnlySqs u t)) ∧
      (q.builds.length = 4 → Answers p.1 s (fun t =>
        t.sqs[k].stall = 4 ∧ t.sqs[k].builds = q.builds ∧ t.pcOf (.sq k) = u.pcOf (.sq k) ∧ (∀ r, t.gr (.sq k) r = u.gr (.sq k) r) ∧ OnlySqs u t))

/-- R110, R114, R124, R127: when the last port-line of a line is built before its deadline, off the fall-back path, its FIFO gets one entry of that page, line and kind with the levels computed, not committed; NB of every port of the
build becomes the line plus 1. -/
def Obligations.PortLineBuiltIsPlaced : Prop :=
  ∀ (k : Fin 12) (s : State) (b : BuildOp) (more : List BuildOp) (x : BuiltLine),
    let q := s.sqs[k]
    q.builds = b :: more → b.rest = [x] → b.done + 1 < b.count → b.checked = true → s.fallback k x.lane = false → q.fbWait = [] →
    q.fifo[x.lane].length < 63 → s.deadlinePast (portOf k x.lane) q.page (b.first + b.done) = false → (∀ j : Fin 4, j ≠ x.lane → q.fifo[j].length < 64) → b.kind ≠ .stream →
      Answers (.portLineBuilt k) s (fun t =>
        (∃ e : Entry, t.sqs[k].fifo[x.lane] = q.fifo[x.lane] ++ [e] ∧ e.page = q.page ∧ e.line = b.first + b.done ∧ e.kind = b.kind ∧ e.levels = x.levels ∧
          e.committed = false ∧ e.expired = false ∧ e.released = true ∧ e.bad = x.bad) ∧
        (∀ j : Fin 4, j ≠ x.lane → t.sqs[k].fifo[j] = q.fifo[j]) ∧
        (∀ j : Fin 4, t.sqs[k].nb[j] = if b.am.getLsbD j.val then b.first + b.done + 1 else q.nb[j]) ∧
        (∃ b', t.sqs[k].builds = b' :: more ∧ b'.done = b.done + 1 ∧ b'.rest = []) ∧ CondsAdd k [] s t ∧ MemSame s t ∧ ∀ j ≠ k, t.sqs[j] = s.sqs[j])

/-- R115, R116, R29: COMMIT of one line on one port, where that line is the oldest entry not yet committed, commits it, sends the commit to the fire scheduler and gives g[rd] = 1; where it is not, ORDER is set and g[rd] = 0.
R117: VOID of the next line of a port with nothing uncommitted sends its mark, moves NB past it and gives g[rd] = 1. Beyond the page's length both set RANGE; that they then do nothing, not a valid part of the range, is the model's choice (log 96). -/
def Obligations.CommitAndVoid : Prop :=
  ∀ (k : Fin 12) (rd ra rb : Fin 32) (j : Fin 4) (s u : State), Executes s (.sq k) 2 [ra, rb] u →
    let q := u.sqs[k]
    let line := (u.gr (.sq k) ra).toNat
    q.pageOpen = true → q.builds = [] → q.am = BitVec.ofNat 4 (2 ^ j.val) → u.gr (.sq k) rb = 1 →
      (line < q.lines.toNat →
        (∀ e, q.oldestOpen j = some e →
          (e.line = line → e.page = q.page → e.expired = false → Answers (.commit (.sq k) rd ra rb) s (fun t =>
            SqDone k (some (rd, 1)) u t ∧ CondsAdd k [] u t ∧ t.sqs[k].lastCommitted = line ∧
            (∀ x ∈ t.sqs[k].fifo[j], x.page = q.page → x.line = line → x.committed = true) ∧ { e with committed := true } ∈ t.sqs[k].fifo[j] ∧
            t.seqTb = u.seqTb ++ [{ tick := u.now, word := .commit (portOf k j) q.page line }] ∧ t = { u with sqs := t.sqs, seqTb := t.seqTb })) ∧
          (e.line ≠ line → Answers (.commit (.sq k) rd ra rb) s (fun t => SqDone k (some (rd, 0)) u t ∧ CondsAdd k [xORDER] u t ∧ OnlySqs u t))) ∧
        (q.oldestOpen j = none → q.nb[j] ≤ line → Answers (.voidL (.sq k) rd ra rb) s (fun t =>
          SqDone k (some (rd, 1)) u t ∧ CondsAdd k [] u t ∧ t.sqs[k].nb[j] = line + 1 ∧ t.sqs[k].fifo[j] = q.fifo[j] ∧
          t.seqTb = u.seqTb ++ [{ tick := u.now, word := .void (portOf k j) { page := q.page, line := line, program := true, entry := none } }] ∧
          t = { u with sqs := t.sqs, seqTb := t.seqTb }))) ∧
      (q.lines.toNat ≤ line → ∀ i ∈ [Instr.commit (.sq k) rd ra rb, .voidL (.sq k) rd ra rb],
        Answers i s (fun t => SqDone k (some (rd, 0)) u t ∧ CondsAdd k [xRANGE] u t ∧ OnlySqs u t))

/-- R118, R119: WAITQ ends at once where its condition holds on every port of AM, and else waits; its timeout sets WAIT_TO and ends it. SYNCL publishes its arrival and ends at once where every member of the barrier group
has arrived with the same page and line, here a group of its own; its timeout sets SYNC. -/
def Obligations.WaitqAndSyncl : Prop :=
  ∀ (k : Fin 12) (ra rb : Fin 32) (cond : BitVec 4) (s u : State),
    let q := u.sqs[k]
    let n := if u.gr (.sq k) rb = 0 then 1 else (u.gr (.sq k) rb).toNat
    (Executes s (.sq k) 2 [ra, rb] u → q.pageOpen = true → cond.toNat < 3 → (cond = 0 → n ≤ 64) →
      let holds := ∀ j : Fin 4, q.am.getLsbD j.val = true →
        (cond = 0 → n + q.fifo[j].length ≤ 64) ∧ (cond = 1 → ∀ e ∈ q.fifo[j], e.committed = true → e.released = true ∧ e.fbPending = false) ∧
        (cond = 2 → q.fifo[j] = [])
      Answers (.waitq (.sq k) ra rb cond) s (fun t => OnlySqs u t ∧ CondsAdd k [] u t ∧ (holds → SqDone k none u t) ∧
        (¬ holds → t.sqs[k].wait = .waitq n cond.toNat (u.gr (.sq k) ra ≠ 0) ∧ t.pcOf (.sq k) = u.pcOf (.sq k) ∧ ∀ r, t.gr (.sq k) r = u.gr (.sq k) r))) ∧
    (∀ need c, s.sqs[k].wait = .waitq need c true → s.sqs[k].waitHolds need c = false → Answers (.waitqTimeout k) s (fun t =>
      SqDone k none s t ∧ CondsAdd k [xWAIT_TO] s t ∧ OnlySqs s t)) ∧
    (Executes s (.sq k) 2 [ra] u → q.pageOpen = true → u.get (SQ_SYNC_MASK k) = 2 ^ k.val → (∀ j ≠ k, u.sqs[j].atSync = false) →
      Answers (.syncl (.sq k) ra) s (fun t => SqDone k none u t ∧ t.sqs[k].arrival = some (q.page, u.gr (.sq k) ra) ∧ CondsAdd k [] u t ∧ OnlySqs u t)) ∧
    (∀ j : Fin 12, j ≠ k → s.sqs[k].wait = .syncl true → s.get (SQ_SYNC_MASK k) = 2 ^ k.val + 2 ^ j.val → s.sqs[j].arrival ≠ s.sqs[k].arrival →
      s.sqs[j].atSync = false → s.sqs[j].st = .run → Answers (.synclTimeout k) s (fun t => SqDone k none s t ∧ CondsAdd k [xSYNC] s t ∧ OnlySqs s t))

/-- R108, R120, R121, R101: LDPROF adds a waveform select, of at most eight bits, or a strobe width in range from a line on for the ports of AM, and sets PROF for a value out of range, a line already built or an unknown field; MARK raises SQ_MARK
with its code and counts in the page's report; EPOCHQ gives the epoch in force for a line; FREAD gives the state that it selects; XCLR clears the conditions of a mask; BXS and BXC branch on a condition set and clear. With no page open LDPROF and MARK
set PAGE_STATE and do nothing else. LDPROF, XCLR, BXS, BXC and the FREAD of XSTAT and of NB execute once no build is queued; that they wait for it is the model's choice (log 10). -/
def Obligations.OtherFireInstructions : Prop :=
  ∀ (k : Fin 12) (rd ra rb : Fin 32) (fld : BitVec 4) (off : BitVec 16) (s u : State),
    let q := u.sqs[k]
    let a := u.gr (.sq k) ra
    let b := u.gr (.sq k) rb
    let onAm := fun (f : Fin 4 → Prop) => ∀ j : Fin 4, q.am.getLsbD j.val = true → f j
    let width := fun (j : Fin 4) => min 8 (u.get (HP_PROFILE_WSEL_W (portOf k j)))
    let ok := onAm (fun j => q.nb[j] ≤ a.toNat) ∧
      ((fld = 0 ∧ onAm (fun j => b.toNat < 2 ^ width j)) ∨
       (fld = 1 ∧ onAm (fun j => u.get (HP_STROBE_SW_MIN (portOf k j)) ≤ b.toNat ∧ b.toNat ≤ u.get (HP_STROBE_SW_MAX (portOf k j)))))
    let with' := fun (f : BitVec 4) (l : Vector (List (Nat × Nat)) 4) (j : Fin 4) =>
      if fld = f ∧ q.am.getLsbD j.val = true then (a.toNat, b.toNat) :: l[j] else l[j]
    (Executes s (.sq k) 2 [ra, rb] u → q.builds = [] → q.am ≠ 0 → Answers (.ldprof (.sq k) ra rb fld) s (fun t =>
      SqDone k none u t ∧ OnlySqs u t ∧
      (q.pageOpen = true → ok → CondsAdd k [] u t ∧ ∀ j : Fin 4, t.sqs[k].ldWsel[j] = with' 0 q.ldWsel j ∧ t.sqs[k].ldSw[j] = with' 1 q.ldSw j) ∧
      (q.pageOpen = true → ¬ ok → CondsAdd k [xPROF] u t ∧ t.sqs[k].ldWsel = q.ldWsel ∧ t.sqs[k].ldSw = q.ldSw) ∧
      (q.pageOpen = false → CondsAdd k [xPAGE_STATE] u t ∧ t.sqs[k].ldWsel = q.ldWsel ∧ t.sqs[k].ldSw = q.ldSw))) ∧
    (Executes s (.sq k) 2 [ra, rb] u → Answers (.mark (.sq k) ra rb) s (fun t =>
      SqDone k none u t ∧
      (q.pageOpen = true → Raised evSQ_MARK k.val a q.page b u t ∧ CondsAdd k [] u t ∧
        (t.reportOf q.page).map (fun r => r.marks) = (u.reportOf q.page).map (fun r => r.marks + 1) ∧
        (∀ g ≠ q.page, t.reportOf g = u.reportOf g) ∧ t = { u with sqs := t.sqs, evt := t.evt, fsch := t.fsch }) ∧
      (q.pageOpen = false → CondsAdd k [xPAGE_STATE] u t ∧ OnlySqs u t))) ∧
    (Executes s (.sq k) 2 [rd, ra] u → q.pageOpen = true →
      ∀ (e : EpochRec) (l : List EpochRec), u.corr.log = e :: l → (e.serial < q.serial ∨ (e.serial = q.serial ∧ e.line ≤ a.toNat)) →
        Answers (.epochq (.sq k) rd ra) s (fun t => SqDone k (some (rd, e.epoch)) u t ∧ CondsAdd k [] u t ∧ OnlySqs u t)) ∧
    (Executes s (.sq k) 2 [rd] u →
      let gives := fun (sel : Fin 32) (v : Word) =>
        Answers (.fread (.sq k) rd sel) s (fun t => SqDone k (some (rd, v)) u t ∧ CondsAdd k [] u t ∧ OnlySqs u t)
      gives 1 (BitVec.ofNat 32 (q.am.toNat + 16 * q.pmask.toNat + 256 * b2n q.pageOpen)) ∧ gives 2 q.page ∧ gives 3 q.lines ∧
      gives 4 (q.nextSeg.setWidth 32) ∧ gives 13 (u.tbc.setWidth 32) ∧ (q.builds = [] → gives 0 (q.xstat.setWidth 32)) ∧
      ∀ j : Fin 4, gives ⟨5 + j.val, by omega⟩ (BitVec.ofNat 32 (64 - q.fifo[j].length)) ∧
        (q.builds = [] → gives ⟨9 + j.val, by omega⟩ (BitVec.ofNat 32 q.nb[j]))) ∧
    (Executes s (.sq k) 2 [ra] u → q.builds = [] → Answers (.xclr (.sq k) ra) s (fun t =>
      SqDone k none u t ∧ t.sqs[k].xstat = q.xstat &&& ~~~(a.setWidth 16) ∧ OnlySqs u t)) ∧
    (Executes s (.sq k) 2 [] u → q.builds = [] → ∀ c : Fin 32, c.val < 16 →
      let far := u.pcOf (.sq k) + BitVec.ofInt 32 (4 * off.toInt)
      let near := u.pcOf (.sq k) + 4
      let branches := fun (target : Word) (t : State) => t.pcOf (.sq k) = target ∧ (∀ r, t.gr (.sq k) r = u.gr (.sq k) r) ∧ CondsAdd k [] u t ∧ OnlySqs u t
      Answers (.bxs (.sq k) c off) s (branches (if q.xstat.getLsbD c.val then far else near)) ∧
      Answers (.bxc (.sq k) c off) s (branches (if q.xstat.getLsbD c.val then near else far)))

/-- R97, R130, R132: GO starts a sequencer held in RESET at SQk_ENTRY with its registers zero and its fire state cleared, and a FRESH one from PARKED; HOLD returns it to RESET and closes its page, with RESIDUE where the open segment had data left; a job pushed goes behind those that wait, and
is discarded with OVF where four do; a pop removes the oldest. -/
def Obligations.SequencerRunControl : Prop :=
  ∀ (x : Fin 2) (k : Fin 12) (value : Word) (s : State), s.bit CLK_EN1 k.val = true →
    let q := s.sqs[k]
    (value.getLsbD 3 = false → (q.st = .reset ∨ (q.st = .parked ∧ value.getLsbD 1 = true)) → Answers (.go x k value) s (fun t =>
      BusOk t ∧ t.sqs[k].st = .run ∧ t.sqs[k].core.pc = s.rd (SQ_ENTRY k) &&& 0xFFFFFFFC#32 ∧ (∀ r, t.gr (.sq k) r = 0) ∧ t.sqs[k].pageOpen = false ∧
      t.sqs[k].xstat = 0 ∧ t.sqs[k].builds = [] ∧ t.sqs[k].fifo = q.fifo ∧ t.sqs[k].jobs = q.jobs ∧ (∀ j ≠ k, t.sqs[j] = s.sqs[j]) ∧
      RegsBut [SQ_CTRL k] s t ∧ t = { s with sqs := t.sqs, regs := t.regs, busResp := t.busResp, busData := t.busData })) ∧
    (value.getLsbD 0 = false → Answers (.hold x k value) s (fun t =>
      BusOk t ∧ t.sqs[k].st = .reset ∧ t.sqs[k].builds = [] ∧ t.sqs[k].seg = none ∧ t.sqs[k].pageOpen = false ∧ t.sqs[k].core = q.core ∧
      t.sqs[k].jobs = q.jobs ∧ (∀ j ≠ k, t.sqs[j] = s.sqs[j]) ∧ t.flag (SQ_CTRL_HOLD k) = true ∧ RegsBut [SQ_CTRL k] s t ∧
      (∀ g, q.seg = some g → q.pageOpen = true → g.data ≠ [] → t.sqs[k].xstat.getLsbD xRESIDUE = true) ∧
      t = { s with sqs := t.sqs, fsch := t.fsch, regs := t.regs, evt := t.evt, busResp := t.busResp, busData := t.busData })) ∧
    Answers (.jobPush x k) s (fun t => BusOk t ∧
      (q.jobs.length < 4 → t.sqs[k] = { q with jobs := q.jobs ++ [Vector.ofFn (fun i : Fin 4 => s.rd (SQ_JOB_IN k i))] } ∧
        t.get (SQ_JOB_STAT_COUNT k) = q.jobs.length + 1) ∧
      (4 ≤ q.jobs.length → t.sqs[k] = q ∧ t.flag (SQ_JOB_STAT_OVF k) = true) ∧ RegsBut [SQ_JOB_STAT k] s t ∧
      t = { s with sqs := t.sqs, regs := t.regs, busResp := t.busResp, busData := t.busData }) ∧
    Answers (.jobPop k) s (fun t => t.sqs[k] = { q with jobs := q.jobs.drop 1 } ∧ RegsBut [SQ_JOB_STAT k] s t ∧
      (q.jobs.length ≤ 5 → t.get (SQ_JOB_STAT_COUNT k) = q.jobs.length - 1) ∧ t = { s with sqs := t.sqs, regs := t.regs })

/-- R136, R137, R138, R140, R142: an input transition that had reached the ball by the tick in which the channel was enabled belongs to its starting levels; a later one joins the candidates with the stamp of the tick in which it reached the ball, and one that returns within MIN_EDGE discards both and counts in CNT_B. A confirmed edge of A alone or B alone
moves POS and REV_POS by one count; edges of A and B with one stamp set ILLEGAL, count in CNT_A, raise ENC_ILLEGAL and leave POS. -/
def Obligations.EncoderEdges : Prop :=
  ∀ (n : Fin 4) (input : Fin 3) (level : Bool) (s : State),
    let c := encCh n
    let q := s.pos[c]
    let stamp := s.tbc - 3
    let near := fun (e : Candidate) => decide (e.input = input ∧ (stamp - e.stamp).toNat < s.get (CH_CFG_MIN_EDGE c))
    (q.balls[input] ≠ level → s.flag (CH_CFG_EN c) = true → (∀ t0, q.startAt = some t0 → s.now ≤ t0 + 3) → q.startAt ≠ none → Answers (.encTransition n input level) s (fun t =>
      t.pos[c] = { q with balls := vset q.balls input level, levels := vset q.levels input level } ∧ (∀ d ≠ c, t.pos[d] = s.pos[d]) ∧ t = { s with pos := t.pos })) ∧
    (q.balls[input] ≠ level → s.flag (CH_CFG_EN c) = true → (∀ t0, q.startAt = some t0 → t0 + 3 < s.now) → Answers (.encTransition n input level) s (fun t =>
      t.pos[c] = { q with balls := vset q.balls input level,
                          cands := if q.cands.any near then q.cands.filter (fun e => !near e) else q.cands ++ [{ input := input, stamp := stamp, level := level }] } ∧
      (∀ d ≠ c, t.pos[d] = s.pos[d]) ∧ t.get (CH_ERR_CNT_CNT_B c) = (if q.cands.any near then min (s.get (CH_ERR_CNT_CNT_B c) + 1) 65535 else s.get (CH_ERR_CNT_CNT_B c)) ∧
      RegsBut [CH_ERR_CNT c] s t ∧ t = { s with pos := t.pos, regs := t.regs })) ∧
    (∀ (e : Candidate) (rest : List Candidate), q.cands = e :: rest → s.flag (CH_CFG_EN c) = true → e.stamp.toNat + s.get (CH_CFG_MIN_EDGE c) + 4 ≤ s.now →
      (e.input.val < 2 → e.level ≠ q.levels[e.input] → (∀ f ∈ rest, f.stamp ≠ e.stamp) → Answers (.edgeConfirm n) s (fun t =>
        (t.pos[c].pos = q.pos + 1 ∧ t.pos[c].rev = q.rev + 1 ∨ t.pos[c].pos = q.pos - 1 ∧ t.pos[c].rev = q.rev - 1) ∧
        t.pos[c].levels[e.input] = e.level ∧ t.pos[c].cands = rest ∧ (∀ d ≠ c, t.pos[d] = s.pos[d]) ∧ RegsBut [CH_STAT c] s t ∧
        t = { s with pos := t.pos, axes := t.axes, regs := t.regs })) ∧
      (∀ f, e.input = 0 → f.input = 1 → f.stamp = e.stamp → rest = [f] → Answers (.edgeConfirm n) s (fun t =>
        t.flag (CH_STAT_ILLEGAL c) = true ∧ t.get (CH_ERR_CNT_CNT_A c) = min (s.get (CH_ERR_CNT_CNT_A c) + 1) 65535 ∧ t.pos[c].pos = q.pos ∧
        t.pos[c].rev = q.rev ∧ t.pos[c].cands = [] ∧ t.pos[c].levels[0] = e.level ∧ t.pos[c].levels[1] = f.level ∧
        (∃ r ∈ t.evt.flight, r.event = evENC_ILLEGAL ∧ r.source = c.val ∧ r.tbc = s.tbc) ∧ t = { s with pos := t.pos, regs := t.regs, evt := t.evt })))

/-- R138, R141, R144, R168: enabling a channel takes its starting levels from the balls, with nothing pending and its history cleared; while EN = 1 another change than of EN and ARM gets ERR_UNIT and nothing happens; ARM arms the
channel at this tick; a write of POS with EN = 0 sets it and clears the history, and with EN = 1 gets ERR_UNIT; the snapshot is a copy of the live history. -/
def Obligations.ChannelCommands : Prop :=
  ∀ (x : Fin 2) (ch : Fin 10) (value : Word) (pos : BitVec 48) (s : State),
    let q := s.pos[ch]
    let others := fun (t : State) => ∀ d ≠ ch, t.pos[d] = s.pos[d]
    (s.flag (CH_CFG_EN ch) = false → value.getLsbD 3 = false → Answers (.channelEnable x ch value) s (fun t =>
      BusOk t ∧ t.flag (CH_CFG_EN ch) = true ∧ t.pos[ch].hist = [] ∧ t.pos[ch].cands = [] ∧ t.pos[ch].levels = q.balls ∧ t.pos[ch].pos = q.pos ∧ others t ∧
      RegsBut [CH_CFG ch] s t ∧ t = { s with pos := t.pos, axes := t.axes, regs := t.regs, busResp := t.busResp, busData := t.busData })) ∧
    (s.flag (CH_CFG_EN ch) = true → 2 ≤ field value 19 10 → (value ||| 1#32) &&& 0xFFFFFFF6#32 ≠ s.rd (CH_CFG ch) &&& 0xFFFFFFF6#32 →
      Answers (.channelEnable x ch value) s (fun t => t = { s with busResp := .errUnit, busData := 0 })) ∧
    (2 ≤ s.get (CH_CFG_MIN_EDGE ch) → Answers (.armCh x ch) s (fun t =>
      BusOk t ∧ t.pos[ch] = { q with armed := q.isArmed s.now, armAt := some s.tbc } ∧ (∀ n, s.now < n → t.pos[ch].isArmed n = true) ∧ others t ∧ t.flag (CH_CFG_EN ch) = s.flag (CH_CFG_EN ch) ∧ RegsBut [CH_CFG ch] s t ∧
      t = { s with pos := t.pos, regs := t.regs, busResp := t.busResp, busData := t.busData })) ∧
    Answers (.posWrite x ch pos) s (fun t =>
      (s.flag (CH_CFG_EN ch) = false → BusOk t ∧ t.pos[ch].pos = pos ∧ t.pos[ch].hist = [] ∧ others t ∧
        t = { s with pos := t.pos, axes := t.axes, stage := t.stage, busResp := t.busResp, busData := t.busData }) ∧
      (s.flag (CH_CFG_EN ch) = true → t = { s with busResp := .errUnit, busData := 0 })) ∧
    Answers (.histSnap x ch) s (fun t => BusOk t ∧ t.pos[ch] = { q with snap := q.hist } ∧ others t ∧ t = { s with pos := t.pos, busResp := t.busResp, busData := t.busData })

/-- R143, R448: with the clock pair driven, a read that is due, PERIOD µs after the last or the first since EN, starts a frame stamped with this tick where DATA is high, and else sets SSI_ERR and counts in CNT_A; while a frame runs it is skipped. A frame's end, 4 ticks after its
last sample at the rate of CLK_DIV, stores its raw value, Gray-decoded with GRAY = 1: the first read sets POS to it, a later one adds the difference, sign-extended from the frame's width, and the pair joins the history. That the first read may start at once is the model's choice (log 110). -/
def Obligations.SsiReads : Prop :=
  ∀ (n : Fin 2) (high : Bool) (raw : BitVec 40) (s : State),
    let c := ssiCh n
    let q := s.pos[c]
    let period := field (s.rd (CH_AUX c)) 31 24
    let frame (stamp : Dword) := stamp.toNat + field (s.rd (CH_AUX c)) 5 0 * (2 * (field (s.rd (CH_AUX c)) 23 12 + 1)) + 4
    (s.flag (CH_CFG_EN c) = true → s.outOfReset = true → period ≠ 0 → (∀ t0, q.ssiLast = some t0 → t0 + 800 * period ≤ s.now) →
      Answers (.ssiReadStart n high) s (fun t =>
        (∀ d ≠ c, t.pos[d] = s.pos[d]) ∧ t.pos[c].ssiLast = some s.now ∧
        (q.ssiFrame ≠ none → t.pos[c] = { q with ssiLast := some s.now } ∧ t = { s with pos := t.pos }) ∧
        (q.ssiFrame = none → high = true → t.pos[c] = { q with ssiLast := some s.now, ssiFrame := some s.tbc } ∧ t = { s with pos := t.pos }) ∧
        (q.ssiFrame = none → high = false → t.pos[c] = { q with ssiLast := some s.now } ∧ t.flag (CH_STAT_SSI_ERR c) = true ∧
          t.get (CH_ERR_CNT_CNT_A c) = min (s.get (CH_ERR_CNT_CNT_A c) + 1) 65535 ∧
          RegsBut [CH_STAT c, CH_ERR_CNT c] s t ∧ t = { s with pos := t.pos, regs := t.regs }))) ∧
    (∀ stamp, q.ssiFrame = some stamp → frame stamp ≤ s.now →
      let w := field (s.rd (CH_AUX c)) 5 0
      ∃ v : Nat, ((s.rd (CH_AUX c)).getLsbD 11 = false → v = raw.toNat % 2 ^ w) ∧
        ((s.rd (CH_AUX c)).getLsbD 11 = true → v < 2 ^ w ∧ v ^^^ (v / 2) = raw.toNat % 2 ^ w) ∧
        Answers (.ssiReadDone n raw) s (fun t =>
          let p : BitVec 48 := match q.ssiPrev with
            | none => BitVec.ofNat 48 v
            | some prev => q.pos + BitVec.ofInt 48 (BitVec.ofInt w ((v : Int) - prev)).toInt
          t.pos[c].pos = p ∧ t.pos[c].rev = BitVec.ofNat 32 v ∧ t.pos[c].ssiPrev = some v ∧ t.pos[c].ssiFrame = none ∧
          t.pos[c].hist = ({ p := p, t := stamp * 16 } :: q.hist).take 16 ∧ (∀ d ≠ c, t.pos[d] = s.pos[d]) ∧ t = { s with pos := t.pos, axes := t.axes }))

/-- R144, R145, R146, R148, R149: a write of AXa_CFG of an axis in use gets ERR_UNIT and nothing happens; else it restarts the estimator: with EN = 0 the axis shows STALL, VEL = 0 and no anchor, and with EN = 1 its outputs come into force after the latency
of the estimator, computed from the history held: without an entry STALL and no anchor, with one STALL and that entry as anchor, with two or more valid ones the two-point estimator's velocity of the newest two. A trigger enabled on an axis that stalls without an anchor starts
at k = 0, and else at the first position that does not lie behind the anchor (with PITCH = 0 at k = 0, the model's choice, log 104). A frozen position whose tick has come pulses for WIDTH ticks, at least one, its record goes to its camera port, and the next k follows; a position frozen
with its time already past pulses from that time (the model's choice, log 103). While the previous pulse lasts the position is skipped, counted and reported; a pulse ends at its end. -/
def Obligations.AxesAndTriggers : Prop :=
  ∀ (x : Fin 2) (a : Fin 4) (g : Fin 16) (value : Word) (s : State),
    let r := s.trigs[g]
    Answers (.axisCfgWrite x a value) s (fun t =>
      (s.axisUsed a = true → t = { s with busResp := .errUnit, busData := 0 }) ∧
      (s.axisUsed a = false → BusOk t ∧ t.rd (AX_CFG a) = value &&& 0x800F0330#32 ∧ RegsBut [AX_CFG a] s t ∧ (∀ b ≠ a, t.axes[b] = s.axes[b]) ∧
        (value.getLsbD 31 = false → t.axes[a].at t.now = { tick := t.now, stall := true, vel := 0, ap := 0, at_ := 0 }) ∧
        (value.getLsbD 31 = true →
          let o := t.axes[a].at (s.now + t.axLatency a)
          let hist := s.pos[t.axSrc a].hist
          (hist = [] → o.stall = true ∧ o.vel = 0 ∧ o.ap = 0 ∧ o.at_ = 0) ∧
          (∀ h, hist = [h] → o.stall = true ∧ o.vel = 0 ∧ o.ap = BitVec.ofInt 64 (h.p.toInt * 65536) ∧ o.at_ = h.t) ∧
          (∀ h e l, hist = h :: e :: l → (h.t - e.t).toNat ≤ 2 ^ 36 → t.get (AX_CFG_EST a) = 0 → o.stall = false ∧
            o.vel = BitVec.ofInt 64 (Int.tdiv ((h.p.toInt - e.p.toInt) * 2 ^ 52) (h.t - e.t).toInt) ∧ o.ap = BitVec.ofInt 64 (h.p.toInt * 65536) ∧ o.at_ = h.t)) ∧
        t = { s with axes := t.axes, regs := t.regs, busResp := t.busResp, busData := t.busData })) ∧
    Answers (.triggerEnable x g value) s (fun t =>
      let o := s.axes[finOf 4 (by decide) (t.get (PTRG_CFG_AX g))].at s.now
      let d := (o.ap - s.rd64 (PTRG_START_LO g) (PTRG_START_HI g)).toInt
      let pitch := (s.rd (PTRG_PITCH g)).toNat * 16
      let count := (s.rd (PTRG_COUNT g)).toNat
      BusOk t ∧ t.rd (PTRG_CFG g) = value ||| 0x80000000#32 ∧ t.trigs[g].frozen = none ∧ t.trigs[g].pulseEnd = r.pulseEnd ∧ (∀ h ≠ g, t.trigs[h] = s.trigs[h]) ∧
      let none' := o.stall = true ∧ o.ap = 0 ∧ o.at_ = 0
      (none' → t.trigs[g].k = 0) ∧ (d ≤ 0 → t.trigs[g].k = 0) ∧ (pitch = 0 → t.trigs[g].k = 0) ∧
      (¬ none' → 0 < d → pitch ≠ 0 → t.trigs[g].k * pitch < d.toNat + pitch ∧ (count = 0 ∨ t.trigs[g].k < count → d.toNat ≤ t.trigs[g].k * pitch)) ∧
      (count ≠ 0 → t.trigs[g].k ≤ count) ∧ RegsBut [PTRG_CFG g] s t ∧
      t = { s with trigs := t.trigs, regs := t.regs, busResp := t.busResp, busData := t.busData }) ∧
    (∀ T : Dword, r.frozen = some T → s.flag (PTRG_CFG_EN g) = true → T.toNat / 16 ≤ s.now →
      let others := fun (t : State) => (∀ h ≠ g, t.trigs[h] = s.trigs[h]) ∧ t.pos = s.pos ∧ t.axes = s.axes ∧ t.fsch = s.fsch
      ((∀ e, r.pulseEnd = some e → e ≤ T.toNat / 16) → Answers (.triggerPulse g) s (fun t =>
        t.trigs[g] = { k := r.k + 1, frozen := none, pulseEnd := some (T.toNat / 16 + max 1 (s.get (PTRG_CFG_WIDTH g))) } ∧ others t ∧
        ∀ n : Fin 8, n.val = g.val → { k := r.k, tp := s.trigPos g r.k, tick := T.toNat / 16 : TrigRec } ∈ t.cams[n].trigs)) ∧
      (∀ e, r.pulseEnd = some e → T.toNat / 16 < e → Answers (.triggerPulse g) s (fun t =>
        t.trigs[g] = { k := r.k + 1, frozen := none, pulseEnd := some e } ∧ others t ∧ t.cams = s.cams ∧
        t.get (PTRG_SKIP_SKIP_CNT g) = min (s.get (PTRG_SKIP_SKIP_CNT g) + 1) 65535 ∧
        (∃ y ∈ t.evt.flight, y.event = evTRG_SKIP ∧ y.source = g.val ∧ y.value = BitVec.ofNat 32 (min r.k 0xFFFFFFFF))))) ∧
    (∀ e, r.pulseEnd = some e → e ≤ s.now → Answers (.triggerPulseEnd g) s (fun t =>
      t.trigs[g] = { r with pulseEnd := none } ∧ (∀ h ≠ g, t.trigs[h] = s.trigs[h]) ∧ t = { s with trigs := t.trigs }))

/-- R151, R152: outside HOLDOVER a write of TIME_RATE installs the rate, clamped to ±549,755,813 with RATE_CLAMPED, and changes OFFSET so that network time is continuous: NT before and after is the same. In HOLDOVER it sets HOLD_WR alone. -/
def Obligations.RateChangeKeepsNetworkTime : Prop :=
  ∀ (x : Fin 2) (value : Word) (s : State), Answers (.timeRateWrite x value) s (fun t =>
    BusOk t ∧
    (s.flag TIME_STAT_HOLDOVER = false →
      t.nt = s.nt ∧ t.rate = max (-549755813) (min 549755813 value.toInt) ∧ (t.rate ≠ value.toInt → t.flag TIME_STAT_RATE_CLAMPED = true) ∧
      RegsBut [TIME_RATE, TIME_STAT] s t ∧ t = { s with offset := t.offset, regs := t.regs, busResp := t.busResp, busData := t.busData }) ∧
    (s.flag TIME_STAT_HOLDOVER = true →
      t.flag TIME_STAT_HOLD_WR = true ∧ t.offset = s.offset ∧ RegsBut [TIME_STAT] s t ∧ t = { s with regs := t.regs, busResp := t.busResp, busData := t.busData }))

/-- R153, R154: a write of TIME_OFFSET installs the OFFSET written, and one of TIME_ADJ adds to it, when the step is at most TIME_JUMP_MAX or STEP_ALLOW is set: TSTEP counts, LAST_STEP holds the step, and STEP_ALLOW clears. A larger step is refused with
JUMP_REFUSED and its event, and one in HOLDOVER sets HOLD_WR; both leave OFFSET. -/
def Obligations.OffsetSteps : Prop :=
  ∀ (x : Fin 2) (value : Word) (s : State),
    let new : BitVec 80 := s.staged TIME_OFFSET_HI ++ value ++ (s.staged TIME_OFFSET_FRAC).extractLsb' 0 16
    ∀ p ∈ [(Instr.timeOffsetWrite x value, (new - s.offset).toInt), (.timeAdjWrite x value, value.toInt)],
      let big := (s.rd TIME_JUMP_MAX).toNat * 65536 < p.2.natAbs
      Answers p.1 s (fun t =>
        BusOk t ∧ t.flag TIME_CTRL_STEP_ALLOW = false ∧
        (s.flag TIME_STAT_HOLDOVER = true → t.offset = s.offset ∧ t.flag TIME_STAT_HOLD_WR = true) ∧
        (s.flag TIME_STAT_HOLDOVER = false → big → s.flag TIME_CTRL_STEP_ALLOW = false →
          t.offset = s.offset ∧ t.flag TIME_STAT_JUMP_REFUSED = true ∧ (∃ e ∈ t.evt.flight, e.event = evTIME_JUMP_REFUSED ∧ e.tbc = s.tbc)) ∧
        (s.flag TIME_STAT_HOLDOVER = false → (¬ big ∨ s.flag TIME_CTRL_STEP_ALLOW = true) →
          t.offset = s.offset + BitVec.ofInt 80 p.2 ∧ t.get TIME_STAT_TSTEP = (s.get TIME_STAT_TSTEP + 1) % 256 ∧
          (-0x7FFFFFFF ≤ p.2 → p.2 ≤ 0x7FFFFFFF → (t.rd TIME_LAST_STEP).toInt = p.2)) ∧
        RegsBut [TIME_CTRL, TIME_STAT, TIME_LAST_STEP] s t ∧
        t = { s with offset := t.offset, pos := t.pos, regs := t.regs, evt := t.evt, busResp := t.busResp, busData := t.busData })

/-- R155, R156, R157: a SYNC on the watched port from the first master takes its ID, and from another enters HOLDOVER with cause 1; none for SYNC_TO ms enters it with cause 2. Arming a compare unit whose value has passed fires at once with LATE, else it waits; an
armed one fires when its value comes: EN clears, FIRED is set and its event raised. A pop removes the oldest stamp. -/
def Obligations.SyncCompareAndStamps : Prop :=
  ∀ (x : Fin 2) (port : Fin 4) (n : Fin 8) (clock : Dword) (value : Word) (s : State),
    let master := s.rd64 TIME_MASTER_ID_LO TIME_MASTER_ID_HI
    (s.syncPort = some port → Answers (.sync port clock) s (fun t =>
      t.links.syncAt = s.now ∧ (master = 0 → t.rd64 TIME_MASTER_ID_LO TIME_MASTER_ID_HI = clock) ∧
      (master ≠ 0 → t.rd64 TIME_MASTER_ID_LO TIME_MASTER_ID_HI = master) ∧
      (master ≠ 0 → master ≠ clock → s.flag TIME_STAT_HOLDOVER = false →
        t.flag TIME_STAT_HOLDOVER = true ∧ t.get TIME_STAT_HOLD_CAUSE = 1 ∧ (∃ e ∈ t.evt.flight, e.event = evTIME_HOLDOVER ∧ e.tbc = s.tbc)) ∧
      t = { s with links := t.links, regs := t.regs, evt := t.evt })) ∧
    (s.syncPort.isSome = true → s.get TIME_CTRL_SYNC_TO ≠ 0 → s.get TIME_CTRL_SYNC_TO * 800000 ≤ s.now - s.links.syncAt → s.flag TIME_STAT_HOLDOVER = false →
      Answers .syncTimeout s (fun t => t.flag TIME_STAT_HOLDOVER = true ∧ t.get TIME_STAT_HOLD_CAUSE = 2 ∧ (∃ e ∈ t.evt.flight, e.event = evTIME_HOLDOVER) ∧
        RegsBut [TIME_STAT] s t ∧ t = { s with regs := t.regs, evt := t.evt })) ∧
    Answers (.timeCmpArm x n value) s (fun t =>
      let now : Word := if value.getLsbD 0 then s.tbc.setWidth 32 else s.nt.extractLsb' 16 32
      let due := 0 ≤ (now - s.rd (TIME_CMP_VAL n)).toInt
      BusOk t ∧ (due → t.flag (TIME_CMP_CTRL_EN n) = false ∧ t.flag (TIME_CMP_CTRL_FIRED n) = true ∧ t.flag (TIME_CMP_CTRL_LATE n) = true ∧
        ∃ e ∈ t.evt.flight, e.event = evTIME_CMP0 + n.val ∧ e.source = n.val) ∧
      (¬ due → t.flag (TIME_CMP_CTRL_EN n) = true ∧ t.evt = s.evt) ∧ RegsBut [TIME_CMP_CTRL n] s t ∧
      t = { s with regs := t.regs, evt := t.evt, busResp := t.busResp, busData := t.busData }) ∧
    (s.flag (TIME_CMP_CTRL_EN n) = true → 0 ≤ (s.tCmpNow n - s.rd (TIME_CMP_VAL n)).toInt → Answers (.timeCmp n) s (fun t =>
      t.flag (TIME_CMP_CTRL_EN n) = false ∧ t.flag (TIME_CMP_CTRL_FIRED n) = true ∧ t.flag (TIME_CMP_CTRL_LATE n) = s.flag (TIME_CMP_CTRL_LATE n) ∧
      (∃ e ∈ t.evt.flight, e.event = evTIME_CMP0 + n.val ∧ e.source = n.val ∧ e.tbc = s.tbc) ∧ RegsBut [TIME_CMP_CTRL n] s t ∧ t = { s with regs := t.regs, evt := t.evt })) ∧
    Answers (.tsPop x) s (fun t => t = { s with ts := s.ts.drop 1, busResp := .ok, busData := 0 })

/-- R160, R161, R162, R163, R164, R23: a relayed channel that holds four pairs, or whose first pair is 200 ns old, sends up to four of them, oldest first, in one POS frame with its sequence number, queued on U and on D; a ring break on D discards the copy there as NO_ROUTE. The next frame has the next number. A
frame's pair on a VENC channel that names its source waits for its tick, converted to local time; when that comes the waiting pair with the earliest stamp becomes the newest of the history, or is dropped with ORDER where a newer stamp stands there. -/
def Obligations.PositionRelay : Prop :=
  ∀ (ch : Fin 6) (v : Fin 4) (f : PosFrame) (s : State),
    let c : Fin 10 := ⟨ch.val, by omega⟩
    let d : Fin 10 := ⟨6 + v.val, by omega⟩
    let q := s.pos[c]
    let sent : PosFrame := {
      src := BitVec.ofNat 12 s.chipId, ch := c, seq := q.relaySeq, tstep := BitVec.ofNat 8 (s.get TIME_STAT_TSTEP), lastStep := s.rd TIME_LAST_STEP,
      illegal := q.relayIllegal,
      pairs := (q.relay.take 4).map (fun e => (e.2.p, BitVec.ofInt 80 (Int.fdiv (ntQ16 e.2.t.toNat s.rate (s.offset.toInt * 16)) 16))) }
    let item : QItem := { frame := { type := 4, flags := 1, dst := 0xFFF, src := s.chipId, hops := 0, payload := posFrameBytes sent }, from_ := none, desc := none }
    let broken := s.flag (PX_STAT_RING_BREAK 3)
    (∀ (t0 : Nat) (e : Pair) (l : List (Nat × Pair)), q.relay = (t0, e) :: l → (4 ≤ q.relay.length ∨ t0 + 160 ≤ s.now) → Answers (.posFrameSend ch) s (fun t =>
      t.pos[c] = { q with relay := q.relay.drop 4, relaySeq := q.relaySeq + 1, relayIllegal := false } ∧
      (t.vc 2 1).queue = (s.vc 2 1).queue ++ [item] ∧ (t.vc 3 1).queue = (s.vc 3 1).queue ++ (if broken then [] else [item]) ∧
      (∀ e ≠ c, t.pos[e] = s.pos[e]) ∧ (broken = false → RegsBut [] s t) ∧ t = { s with pos := t.pos, links := t.links, regs := t.regs })) ∧
    (∀ p : BitVec 48 × BitVec 80, f.pairs = [p] → s.flag (CH_CFG_EN d) = true → field (s.rd (CH_AUX d)) 15 4 = f.src.toNat → field (s.rd (CH_AUX d)) 3 0 = f.ch →
      s.pos[d].vencSeq = some (f.seq - 1) → s.pos[d].vencTstep = some f.tstep →
      let e : Pair := { p := p.1, t := tbc16Of p.2.toInt s.rate s.offset.toInt }
      s.now < s.vencTick d e.t → Answers (.posFrameReceived f) s (fun t =>
        t.pos[d] = { s.pos[d] with vencSeq := some f.seq, vencTstep := some f.tstep, vencWait := s.pos[d].vencWait ++ [e] } ∧
        ∀ g : Fin 10, g.val < 6 → t.pos[g] = s.pos[g])) ∧
    (∀ e ∈ s.pos[d].vencWait, (∀ g ∈ s.pos[d].vencWait, g = e ∨ e.t.toNat < g.t.toNat) → s.vencTick d e.t ≤ s.now →
      let rest := s.pos[d].vencWait.erase e
      ((∀ h l, s.pos[d].hist = h :: l → h.t.toNat < e.t.toNat) → Answers (.vencPairEntry v) s (fun t =>
        t.pos[d].pos = e.p ∧ t.pos[d].hist = (e :: s.pos[d].hist).take 16 ∧ t.pos[d].vencWait = rest ∧ (∀ g ≠ d, t.pos[g] = s.pos[g]) ∧
        t = { s with pos := t.pos, axes := t.axes })) ∧
      (∀ h l, s.pos[d].hist = h :: l → e.t.toNat ≤ h.t.toNat → Answers (.vencPairEntry v) s (fun t =>
        t.flag (CH_STAT_ORDER d) = true ∧ t.pos[d] = { s.pos[d] with vencWait := rest } ∧ (∀ g ≠ d, t.pos[g] = s.pos[g]) ∧ RegsBut [CH_STAT d] s t ∧
        t = { s with pos := t.pos, regs := t.regs })))

/-- R169, R170: ADD puts a plan into a free entry, and is refused FULL, DUP or PITCH0 with PLAN_REFUSED; DELETE removes the plan of a page that has no open report, and is refused IN_USE or NONE; READ copies an entry into the plan registers, or answers NONE. -/
def Obligations.PagePlans : Prop :=
  ∀ (x : Fin 2) (i : Fin 16) (s : State),
    let page := s.rd FSCH_PLAN_ID
    let plan : Plan := { page := page, origin := s.rd64 FSCH_PLAN_ORIGIN_LO FSCH_PLAN_ORIGIN_HI, pitch := s.rd FSCH_PLAN_PITCH }
    let refused := fun (code : Nat) (t : State) => BusOk t ∧ t.get FSCH_PLAN_RES_RESULT = code ∧ t.flag FSCH_STAT_PLAN_REFUSED = true ∧
      RegsBut [FSCH_PLAN_RES, FSCH_STAT] s t ∧ t = { s with regs := t.regs, busResp := t.busResp, busData := t.busData }
    (s.planCount < 16 → s.planOf page = none → plan.pitch ≠ 0 → Answers (.planAdd x) s (fun t =>
      BusOk t ∧ t.planOf page = some plan ∧ t.planCount = s.planCount + 1 ∧ (∀ g ≠ page, t.planOf g = s.planOf g) ∧ t.get FSCH_PLAN_RES_RESULT = 0 ∧
      t = { s with fsch := { s.fsch with plans := t.fsch.plans }, bolt := t.bolt, regs := t.regs, busResp := t.busResp, busData := t.busData })) ∧
    (s.planCount = 16 → Answers (.planAdd x) s (refused 1)) ∧
    (s.planCount < 16 → (s.planOf page).isSome = true → Answers (.planAdd x) s (refused 2)) ∧
    (s.planCount < 16 → s.planOf page = none → plan.pitch = 0 → Answers (.planAdd x) s (refused 3)) ∧
    ((s.planOf page).isSome = true → s.reportOf page = none → Answers (.planDelete x) s (fun t =>
      BusOk t ∧ t.planOf page = none ∧ (∀ g ≠ page, t.planOf g = s.planOf g) ∧ t.get FSCH_PLAN_RES_RESULT = 0 ∧ RegsBut [FSCH_PLAN_RES] s t ∧
      t = { s with fsch := { s.fsch with plans := t.fsch.plans }, regs := t.regs, busResp := t.busResp, busData := t.busData })) ∧
    ((s.planOf page).isSome = true → (s.reportOf page).isSome = true → Answers (.planDelete x) s (refused 4)) ∧
    (s.planOf page = none → Answers (.planDelete x) s (refused 5)) ∧
    (∀ q, s.fsch.plans[i] = some q → Answers (.planRead x i) s (fun t =>
      BusOk t ∧ t.rd FSCH_PLAN_ID = q.page ∧ t.rd64 FSCH_PLAN_ORIGIN_LO FSCH_PLAN_ORIGIN_HI = q.origin ∧ t.rd FSCH_PLAN_PITCH = q.pitch ∧ t.get FSCH_PLAN_RES_RESULT = 0 ∧
      RegsBut [FSCH_PLAN_ID, FSCH_PLAN_ORIGIN_LO, FSCH_PLAN_ORIGIN_HI, FSCH_PLAN_PITCH, FSCH_PLAN_RES] s t ∧
      t = { s with regs := t.regs, busResp := t.busResp, busData := t.busData })) ∧
    (s.fsch.plans[i] = none → Answers (.planRead x i) s (refused 5))

/-- R176, R178, R180, R182: at its deadline a line with no mark is tracked as THERMAL, handed over or LATE, the port goes on to the page's next line, and an uncommitted entry expires and loses its data; a freeze in time records TF; guard entry of a line that may
strobe places the strobe at TG, which the group and the port's registers then show, and one while INHIBIT_N is asserted counts VOID_INHIBIT. -/
def Obligations.DeadlineToGuard : Prop :=
  ∀ (p : Fin 48) (s : State),
    let f := s.fsch.ports[p]
    let others := fun (t : State) => ∀ q ≠ p, t.fsch.ports[q] = s.fsch.ports[q]
    (∀ (g : Word) (l : Nat), s.deadlineDue p = some (g, l) → f.voids = [] → Answers (.deadline p) s (fun t =>
      let e := s.fifoAt p g l
      let ready := e.any Entry.readyAtTb
      (∃ k : Tracked, t.fsch.ports[p].tracked = f.tracked ++ [k] ∧ k.page = g ∧ k.line = l ∧ k.thermal = s.thermalAt p ∧ k.handed = (!s.thermalAt p && ready) ∧
        k.late = (!s.thermalAt p && !ready) ∧ k.entry = e ∧ k.handTick = s.now ∧ k.tf = none ∧ k.outcome = none) ∧
      t.fsch.ports[p].pages = f.pages.map (fun q => if q.page = g then { q with next := q.next + 1 } else q) ∧
      t.sqs[sqOf p].fifo[laneOf p] = s.sqs[sqOf p].fifo[laneOf p].map (fun x => if x.page = g ∧ x.line = l then
        (if !s.thermalAt p && ready then { x with handed := true } else if x.committed then x else { x with expired := true, levels := [], raw := none }) else x) ∧
      others t ∧ t = { s with fsch := t.fsch, sqs := t.sqs })) ∧
    (∀ (k : Tracked) (tf : Dword), s.freezeDue p = some (k, tf) → s.now + 16 ≤ tickOf tf → Answers (.freeze p) s (fun t =>
      t.fsch.ports[p] = { f with tracked := f.tracked.map (fun u => if u.page = k.page ∧ u.line = k.line then { k with tf := some tf, missed := false } else u) } ∧
      others t ∧ t = { s with fsch := { s.fsch with ports := t.fsch.ports } })) ∧
    (∀ (k : Tracked) (tf : Dword), s.guardDue p = some (k, tf) → s.guardFirst p tf = true → s.cal.phase ≠ .committing → s.hps[p].svc = none →
      (∀ tg, s.guardRow p k tf = .strobe tg → Answers (.guardEntry p) s (fun t =>
        t.rd64 (FSCH_P_TG_LO p) (FSCH_P_TG_HI p) = tg ∧ t.fsch.groupTg[s.groupOf p] = some tg ∧ t.fsch.ports[p].lastTg = some tg ∧
        t.fsch.ports[p].prevEnd = tg.toNat + 16 * k.swTicks ∧
        (∀ u ∈ t.fsch.ports[p].tracked, u.page = k.page → u.line = k.line → u.strobe = .placed ∧ u.tg = some tg ∧ u.guarded = true) ∧
        others t ∧ RegsBut [FSCH_GRP (s.groupOf p), FSCH_P_TG_LO p, FSCH_P_TG_HI p] s t ∧ t = { s with fsch := t.fsch, regs := t.regs })) ∧
      (s.flag FSCH_STAT_INHIBIT = true → MoreToCome k.page s → Answers (.guardEntry p) s (Counted k.page .voidInhibit s)))

/-- R177, R184, R185, R200: a load begins on the shift register with the line's bits, and HPn_CK runs for its burst; it ends with the line loaded, if in time, and its entry free. A placed strobe rises at TG only with its load done, at the tap that the port's table
gives for TG's fine step, and marks the page's report STALE_CAL while STALE is set; else the line counts VOID_LATE with LOAD_SHORT and MISS_CNT. A strobe that has lasted its width falls: the line ends there as FIRED, and the oldest line's record goes to the inspection
at once. -/
def Obligations.LoadsAndStrobes : Prop :=
  ∀ (p : Fin 48) (k : Tracked) (s : State),
    let f := s.fsch.ports[p]
    let others := fun (t : State) => ∀ q ≠ p, t.fsch.ports[q] = s.fsch.ports[q]
    let mark := fun (u v : Tracked) => f.tracked.map (fun x => if x.page = u.page ∧ x.line = u.line then v else x)
    (∀ e : Entry, s.loadNext p = some k → k.entry = some e → (∀ u ∈ f.tracked, u.page = k.page → u.line = k.line → u = k) → Answers (.loadStart p) s (fun t =>
      t.fsch.ports[p] = { f with shifting := some (k.page, k.line, s.now), tracked := mark k { k with load := .shifting } } ∧ t.hps[p].shift = s.entryStreams p e ∧
      t.hps[p].ck = ckEdges (s.flag (HP_LINK_CKMODE p)) (((s.entryStreams p e).map List.length).foldl max 0) ∧
      (∀ q ≠ p, t.hps[q] = s.hps[q]) ∧ others t ∧ t = { s with fsch := t.fsch, sqs := t.sqs, hps := t.hps })) ∧
    (∀ start, f.shifting = some (k.page, k.line, start) → start + s.tLoad p ≤ s.now → Answers (.loadComplete p) s (fun t =>
      t.fsch.ports[p].shifting = none ∧ (∀ u ∈ t.fsch.ports[p].tracked, u.page = k.page → u.line = k.line →
        (∀ tg, u.tg = some tg → s.now + s.tLsu p ≤ tickOf tg) → u.load = .done) ∧
      (∀ e ∈ t.sqs[sqOf p].fifo[laneOf p], e.page = k.page → e.line = k.line → e.expired = true) ∧ others t ∧ t = { s with fsch := t.fsch, sqs := t.sqs })) ∧
    (∀ tg, s.placedLine p = some k → k.tg = some tg → tickOf tg ≤ s.now → k.caughtInh = false → k.caughtCrit = false → s.brakeCut p = false →
      (k.load = .done → (∀ u ∈ f.tracked, u.page = k.page → u.line = k.line → u = k) → Answers (.strobeRise p) s (fun t =>
        t.fsch.ports[p] = { f with tracked := mark k { k with strobe := .high } } ∧ t.hps[p] = { s.hps[p] with lt := some (s.strobeTap p (tg.toNat % 16)) } ∧
        (∀ q ≠ p, t.hps[q] = s.hps[q]) ∧ (s.flag (FSCH_P_STAT_STALE p) = true → ∀ r, t.reportOf k.page = some r → r.staleCal = true) ∧
        others t ∧ t = { s with fsch := t.fsch, hps := t.hps, regs := t.regs, toll := t.toll })) ∧
      (k.load ≠ .done → s.guardDue p = none → MoreToCome k.page s → Answers (.loadShort p) s (fun t =>
        t.flag (FSCH_P_STAT_LOAD_SHORT p) = true ∧ t.get (FSCH_P_CNT_MISS_CNT p) = min (s.get (FSCH_P_CNT_MISS_CNT p) + 1) 65535 ∧ Counted k.page .voidLate s t))) ∧
    (s.highLine p = some k → k.fallTick ≤ s.now → MoreToCome k.page s → Answers (.strobeFall p) s (fun t =>
      Counted k.page .fired s t ∧ t.fsch.ports[p].prevEnd = max f.prevEnd (16 * s.now) ∧ t.hps[p] = { s.hps[p] with lt := none } ∧ (∀ q ≠ p, t.hps[q] = s.hps[q]) ∧
      (f.tracked.head? = some k → (f.pages.head?).map (fun q => q.page) = some k.page → ∃ y ∈ t.tbDsp, y.tick = s.now ∧ ∃ r, y.word = .fired r ∧ r.port = p.val ∧ r.page = k.page ∧ r.line = k.line ∧ r.outcome = .fired ∧
        r.tg = k.tg.getD 0)))

/-- R45, R187, R188, R189, R190, R196: INHIBIT_N low cuts the active strobes, catches every placed line, counts and raises INHIBIT_ON, and high raises INHIBIT_OFF; a strobe that may have lasted its Brake limit is cut, and the port's BRAKE_STAT bit is set and its
permission withdrawn. A strobe that is cut is inactive at once; of the cuts of one tick CUT_CRIT comes first, then CUT_BRAKE, then CUT_INHIBIT, and the tick's end counts that outcome. An oscillator count out of range sets OSC_FAIL and withdraws every permission. An abort
marks the page's report, closes the page on the sequencers and leaves unresolved only lines whose strobe has risen; without an open report it is refused. -/
def Obligations.InhibitBrakeAndAbort : Prop :=
  ∀ (p : Fin 48) (x : Fin 2) (held : Bool) (count : BitVec 16) (page : Word) (s : State),
    (s.fsch.inhBall = false → Answers (.inhibitAssert held) s (fun t =>
      t.fsch.inhBall = true ∧ (held = true → t.fsch.blank = true) ∧ t.flag FSCH_STAT_INHIBIT = true ∧ t.flag FSCH_STAT_INH_SEEN = true ∧
      t.get FSCH_INH_CNT_INH_CNT = min (s.get FSCH_INH_CNT_INH_CNT + 1) 65535 ∧ Rose evINHIBIT_ON 0 s t ∧
      (∀ q : Fin 48, ∀ u ∈ t.fsch.ports[q].tracked, u.strobe = .placed → u.caughtInh = true) ∧
      ∀ (q : Fin 48) (k : Tracked), s.liveLine q = some k → (∀ u ∈ s.fsch.ports[q].tracked, u.strobe.live = true → u = k) →
        t.hps[q].lt = none ∧ (∃ u ∈ t.fsch.ports[q].tracked, u.page = k.page ∧ u.line = k.line ∧ u.strobe = k.strobe.onCut .cutInhibit) ∧
        ∀ u ∈ t.fsch.ports[q].tracked, u.strobe ≠ .high)) ∧
    (s.fsch.inhBall = true → Answers .inhibitDeassert s (fun t =>
      t.fsch = { s.fsch with inhBall := false, blank := false } ∧ t.flag FSCH_STAT_INHIBIT = false ∧ Rose evINHIBIT_OFF 0 s t ∧ RegsBut [FSCH_STAT] s t ∧
      t = { s with fsch := t.fsch, regs := t.regs, evt := t.evt })) ∧
    (∀ k, s.liveLine p = some k → s.get (BRAKE_LIM_LIMIT p) ≠ 0 →
      (s.tbRuns = false ∨ 608 * s.get (BRAKE_LIM_LIMIT p) ≤ 25 * (16 * (s.now + 1) - (k.tg.getD 0).toNat)) → Answers (.brakeCut p) s (fun t =>
        t.brakeCut p = true ∧ t.flag (HP_STAT_PERMIT p) = false ∧ Rose evBRAKE_CUT p s t ∧ t.hps[p].lt = none ∧ t.fsch.ports[p].prevEnd = 16 * s.now ∧
        ∃ u ∈ t.fsch.ports[p].tracked, u.page = k.page ∧ u.line = k.line ∧ u.strobe = k.strobe.onCut .cutBrake)) ∧
    (∀ o ∈ [Outc.cutCrit, .cutBrake, .cutInhibit], Strobe.onCut .high o = .cut o ∧ Strobe.onCut (.cut .cutCrit) o = .cut .cutCrit ∧
      Strobe.onCut (.cut o) .cutCrit = .cut .cutCrit ∧ (o ≠ .cutCrit → Strobe.onCut (.cut .cutBrake) o = .cut .cutBrake ∧ Strobe.onCut (.cut o) .cutBrake = .cut .cutBrake)) ∧
    (∀ (k : Tracked) (o : Outc), s.liveLine p = some k → k.strobe = .cut o → MoreToCome k.page s → Counted k.page o s (s.settleCut p)) ∧
    Answers (.brakeOscCount count) s (fun t =>
      t.get BRAKE_OSC_RATE = count.toNat ∧ (s.flag CLK_STAT_REF_OK = true → (count.toNat < 4762 ∨ 5263 < count.toNat) →
        t.flag BRAKE_OSC_OSC_FAIL = true ∧ Rose evOSC_FAIL 0 s t ∧ ∀ q : Fin 48, t.flag (HP_STAT_PERMIT q) = false) ∧
      ((s.flag CLK_STAT_REF_OK = false ∨ (4762 ≤ count.toNat ∧ count.toNat ≤ 5263)) → RegsBut [BRAKE_OSC] s t ∧ t = { s with regs := t.regs, boot := t.boot })) ∧
    Answers (.fschAbort x page) s (fun t =>
      BusOk t ∧
      (s.reportOf page = none → t.flag FSCH_STAT_ABORT_REFUSED = true ∧ RegsBut [FSCH_STAT] s t ∧ t = { s with regs := t.regs, busResp := .ok, busData := 0 }) ∧
      (∀ r, s.reportOf page = some r → (∀ u, t.reportOf page = some u → u.aborted = true) ∧
        (∀ k : Fin 12, s.sqs[k].pageOpen = true → s.sqs[k].page = page → t.sqs[k].pageOpen = false ∧ t.sqs[k].lastAborted = some page) ∧
        (∀ (q : Fin 48) (g : PortPage), r.portSet.getLsbD q.val = true → s.fsch.ports[q].pages.find? (fun x => decide (x.page = page)) = some g → g.abortFrom = none →
          ∀ u ∈ t.fsch.ports[q].tracked, u.page = page → u.outcome = none → u.strobe.live = true)))

/-- R52, R53, R277: the oldest held page report, or Bolter record, is written to the ring's next place, WIDX advances and its event follows, while EN is set, an entry is free and memory takes it. The page ring's control takes SIZE only while EN is 0, and setting EN
clears both indices. -/
def Obligations.RecordRings : Prop :=
  ∀ (x : Fin 2) (value : Word) (s u : State),
    (∀ h t', s.fsch.held = h :: t' → s.rptOpen rptFsch = true → s.dmaWrite 10 (s.rptSlot rptFsch 512) (h.report.bytes h.chip) 0 = some (none, u) →
      Answers .reportWrite s (fun t =>
        t.fsch = { u.fsch with held := t' } ∧ t.get FSCH_RPT_IDX_WIDX = (u.get FSCH_RPT_IDX_WIDX + 1) % 65536 ∧ t.mem = u.mem ∧
        (∃ e ∈ t.evt.flight, e.event = evPAGE_REPORT ∧ e.page = h.report.page) ∧ t = { u with fsch := t.fsch, regs := t.regs, evt := t.evt })) ∧
    (∀ h t', s.bolt.held = h :: t' → s.rptOpen rptBolt = true → s.dmaWrite 3 (s.rptSlot rptBolt 64) h 0 = some (none, u) →
      Answers .boltRecordWrite s (fun t =>
        t.bolt = { u.bolt with held := t' } ∧ t.get BOLT_RPT_IDX_WIDX = (u.get BOLT_RPT_IDX_WIDX + 1) % 65536 ∧ t.mem = u.mem ∧
        (∃ e ∈ t.evt.flight, e.event = evBOLT_RECORD) ∧ t = { u with bolt := t.bolt, regs := t.regs, evt := t.evt })) ∧
    Answers (.fschRptCtrlWrite x value) s (fun t =>
      let was := s.flag FSCH_RPT_CTRL_EN
      (was = true → field value 2 0 ≠ s.get FSCH_RPT_CTRL_SIZE → t = { s with busResp := .errUnit, busData := 0 }) ∧
      ((was = false ∨ field value 2 0 = s.get FSCH_RPT_CTRL_SIZE) →
        BusOk t ∧ t.get FSCH_RPT_CTRL_SIZE = field value 2 0 ∧ t.flag FSCH_RPT_CTRL_EN = value.getLsbD 31 ∧ t.get FSCH_RPT_CTRL_PENDING = s.get FSCH_RPT_CTRL_PENDING ∧
        (was = false → value.getLsbD 31 = true → t.rd FSCH_RPT_IDX = 0) ∧ RegsBut [FSCH_RPT_CTRL, FSCH_RPT_IDX] s t ∧
        t = { s with regs := t.regs, busResp := t.busResp, busData := t.busData }))

/-- R205, R207, R208, R209, R210, R211, R221, R222, R223, R448: enabling a port runs its checks and sets EN only where all pass, else ENABLE_REFUSED and HEAD_REFUSED with the code in CHECK. A whole valid status word of TYPE 0 is kept, counted and its TEMP read as the head's
temperature, a valid one of another type only counted, an invalid one counted as an error; a retired port ignores it, and one whose stop bit is 0 (ASYNC) or whose burst is too short (CLOCKED) is discarded. In CLOCKED mode a status burst of 32 × ST_DIV bit periods with the pairs
low runs while no line is loading. ST_LOST of an eligible port raises its level to LIMIT at least. FAULT follows its pin; presence and its loss set PRS_CHG with their events, and a loss makes the record stale, voids the deskew, withdraws permission and, with no page open,
retires the port. -/
def Obligations.HeadSignals : Prop :=
  ∀ (x : Fin 2) (p : Fin 48) (value w : Word) (stop : Bool) (s : State),
    let c := s.enableCheck p
    let whole := (s.flag (HP_LINK_ST_FMT p) = false → stop = true) ∧
      (s.flag (HP_LINK_ST_FMT p) = true → ∃ l ∈ s.hps[p].shift, 32 * s.get (HP_LINK_ST_DIV p) ≤ l.length)
    (s.clocked (.hp p.val) = true → s.hpEn p = false → Answers (.portEnable x p value) s (fun t =>
      BusOk t ∧ t.get (HP_HIR_STAT_CHECK p) = c ∧ t.hpEn p = decide (c = 0) ∧ (c ≠ 0 → t.flag (HP_STAT_ENABLE_REFUSED p) = true ∧ Rose evHEAD_REFUSED p s t) ∧
      RegsBut [HP_CTRL p, HP_HIR_STAT p, HP_STAT p] s t ∧ t = { s with regs := t.regs, thm := t.thm, evt := t.evt, busResp := t.busResp, busData := t.busData })) ∧
    Answers (.statusWord p { word := w, stop := stop }) s (fun t =>
      ((s.retired p = true ∨ (s.flag (HP_LINK_ST_FMT p) = false ∧ stop = false) ∨
        (s.flag (HP_LINK_ST_FMT p) = true ∧ s.get (HP_LINK_ST_DIV p) ≠ 0 ∧ ∀ l ∈ s.hps[p].shift, l.length < 32 * s.get (HP_LINK_ST_DIV p))) → t = s) ∧
      (s.retired p = false → whole → statusOk w = false → t.flag (HP_STAT_ST_ERR p) = true ∧ t.get (HP_ST_CNT_ERR_CNT p) = min (s.get (HP_ST_CNT_ERR_CNT p) + 1) 65535 ∧
        RegsBut [HP_STAT p, HP_ST_CNT p] s t ∧ t = { s with regs := t.regs }) ∧
      (s.retired p = false → whole → statusOk w = true → field w 29 28 ≠ 0 →
        t.get (HP_ST_CNT_OK_CNT p) = min (s.get (HP_ST_CNT_OK_CNT p) + 1) 65535 ∧ RegsBut [HP_ST_CNT p] s t ∧ t = { s with regs := t.regs }) ∧
      (s.retired p = false → whole → statusOk w = true → field w 29 28 = 0 →
        t.rd (HP_ST_LAST p) = w ∧ t.get (HP_ST_CNT_OK_CNT p) = min (s.get (HP_ST_CNT_OK_CNT p) + 1) 65535 ∧ t.thm[p.val].reading = some (sext 12 (field w 27 16)) ∧
        t.hps[p] = { s.hps[p] with stFault := w.getLsbD 15 || w.getLsbD 13 } ∧ t.flag (HP_STAT_ST_LOST p) = false ∧
        (s.flag (HP_STAT_ST_LOST p) = false → RegsBut [HP_STAT p, HP_ST_CNT p, HP_ST_LAST p] s t ∧
          t = { s with regs := t.regs, hps := t.hps, thm := t.thm, evt := t.evt }))) ∧
    (s.flag (HP_LINK_ST_FMT p) = true → s.fsch.ports[p].shifting = none → s.retired p = false → s.hpDriven p = true → Answers (.statusBurst p) s (fun t =>
      t.hps[p].shift = List.replicate (s.get (HP_GEOM_PAIRS p)) (List.replicate (32 * s.get (HP_LINK_ST_DIV p)) false) ∧
      (s.get (HP_GEOM_PAIRS p) ≠ 0 → t.hps[p].ck = ckEdges (s.flag (HP_LINK_CKMODE p)) (32 * s.get (HP_LINK_ST_DIV p))) ∧ (∀ q ≠ p, t.hps[q] = s.hps[q]) ∧
      t = { s with hps := t.hps })) ∧
    (s.eligible p = true → s.flag (HP_STAT_ST_LOST p) = false → Answers (.headStLost p) s (fun t =>
      t.flag (HP_STAT_ST_LOST p) = true ∧ 2 ≤ t.level p ∧ Rose evHEAD_ST_LOST p s t)) ∧
    (s.retired p = false → Answers (.headFault p) s (fun t =>
      t.flag (HP_STAT_FAULT p) = true ∧ t.hps[p].fltPin = true ∧ (s.flag (HP_STAT_FAULT p) = false → t.flag (HP_STAT_FLT_SEEN p) = true ∧ Rose evHEAD_FAULT p s t) ∧
      RegsBut [HP_STAT p] s t ∧ t = { s with regs := t.regs, hps := t.hps, evt := t.evt })) ∧
    (s.hps[p].stFault = false → Answers (.headFaultClear p) s (fun t =>
      t.flag (HP_STAT_FAULT p) = false ∧ t.hps[p].fltPin = false ∧ RegsBut [HP_STAT p] s t ∧ t = { s with regs := t.regs, hps := t.hps })) ∧
    (s.flag (HP_STAT_PRESENT p) = false → Answers (.headPresent p) s (fun t =>
      t.flag (HP_STAT_PRESENT p) = true ∧ t.flag (HP_STAT_PRS_CHG p) = true ∧ Rose evHEAD_PRESENT p s t ∧ RegsBut [HP_STAT p] s t ∧
      t = { s with regs := t.regs, thm := t.thm, evt := t.evt })) ∧
    (s.flag (HP_STAT_PRESENT p) = true → Answers (.headLost p) s (fun t =>
      t.flag (HP_STAT_PRESENT p) = false ∧ t.flag (HP_STAT_PRS_CHG p) = true ∧ t.flag (HP_HIR_STAT_FRESH p) = false ∧ t.hps[p].deskewed = false ∧
      Rose evHEAD_LOST p s t ∧ (s.retired p = false → s.portPageOpen p = false →
        t.retired p = true ∧ t.flag (HP_STAT_PERMIT p) = false ∧ Rose evHEAD_RETIRED p s t)))

/-- R214, R215, R218, R219, R221, R224: a head-memory command sets BUSY, and while one runs is refused with RESULT 6. A READ_HIR that completes stores the record with VERDICT, CAL and FRESH, one that fails gives VERDICT I2C, both with their two events; a WRITE_CAL ends with
RESULT OK and the section in the window where the read-back is what was written, else with VERIFY, and with WR_TIMEOUT after WR_TO. RETIRE and RETURN are answered by their conditions in order, pend at the stated line, and take effect at once where the manual says; CANCEL drops a
pending one. -/
def Obligations.HeadMemoryAndService : Prop :=
  ∀ (x : Fin 2) (p : Fin 48) (value : Word) (data sec : List Byte) (s : State), s.clocked (.hp p.val) = true →
    let ok := fun (r : List Nat) (t : State) => BusOk t ∧ RegsBut r s t ∧ t = { s with regs := t.regs, hps := t.hps, busResp := t.busResp, busData := t.busData }
    let pend := fun (ret : Bool) (t : State) => t.get (HP_SVC_STAT_RESULT p) = 0 ∧ t.flag (HP_SVC_STAT_PENDING p) = true ∧ ∃ v, t.hps[p].svc = some v ∧
      v.ret = ret ∧ v.now = false ∧ v.page = s.rd (HP_SVC_PAGE p) ∧ v.line = (s.rd (HP_SVC_LINE p)).toNat
    let late := s.svcLate p (s.rd (HP_SVC_PAGE p)) (s.rd (HP_SVC_LINE p)).toNat
    (∀ i c, (i, c) ∈ [(Instr.readHir x p, I2cCmd.read), (.writeCal x p, .write (s.calSection p))] → Answers i s (fun t =>
      ok [HP_I2C_STAT p] t ∧
      (s.flag (HP_I2C_STAT_BUSY p) = false → t.flag (HP_I2C_STAT_BUSY p) = true ∧ t.hps[p] = { s.hps[p] with i2c := some c }) ∧
      (s.flag (HP_I2C_STAT_BUSY p) = true → t.get (HP_I2C_STAT_RESULT p) = 6 ∧ t.hps = s.hps))) ∧
    (s.hps[p].i2c = some .read → Answers (.i2cDone p 0 data) s (fun t =>
      t.flag (HP_I2C_STAT_BUSY p) = false ∧ t.get (HP_I2C_STAT_RESULT p) = 0 ∧ t.hps[p] = { s.hps[p] with i2c := none, hir := hirPut s.hps[p].hir 0 (slice data 0 576) } ∧
      t.get (HP_HIR_STAT_VERDICT p) = t.hirVerdict p ∧ t.flag (HP_HIR_STAT_FRESH p) = true ∧ Rose evI2C_DONE p s t ∧ Rose evHIR_DONE p s t ∧
      t.get (HP_HIR_STAT_CAL p) = t.hirCal p ∧ RegsBut [HP_I2C_STAT p, HP_HIR_STAT p] s t ∧ t = { s with regs := t.regs, hps := t.hps, evt := t.evt })) ∧
    (∀ r : Fin 8, r ≠ 0 → s.hps[p].i2c = some .read → Answers (.i2cDone p r data) s (fun t =>
      t.flag (HP_I2C_STAT_BUSY p) = false ∧ t.get (HP_I2C_STAT_RESULT p) = r ∧ t.hps[p] = { s.hps[p] with i2c := none } ∧ t.get (HP_HIR_STAT_VERDICT p) = 2 ∧
      t.flag (HP_HIR_STAT_FRESH p) = true ∧ Rose evI2C_DONE p s t ∧ Rose evHIR_DONE p s t)) ∧
    (s.hps[p].i2c = some (.write sec) → Answers (.i2cDone p 0 data) s (fun t =>
      t.flag (HP_I2C_STAT_BUSY p) = false ∧ Rose evI2C_DONE p s t ∧
      (data.take 64 = sec → t.get (HP_I2C_STAT_RESULT p) = 0 ∧ t.hps[p] = { s.hps[p] with i2c := none, hir := hirPut s.hps[p].hir 0x200 sec } ∧ t.get (HP_HIR_STAT_CAL p) = 1) ∧
      (data.take 64 ≠ sec → t.get (HP_I2C_STAT_RESULT p) = 5 ∧ t.hps[p] = { s.hps[p] with i2c := none }))) ∧
    (s.hps[p].i2c = some (.write sec) → Answers (.wrTimeout p) s (fun t =>
      t.flag (HP_I2C_STAT_BUSY p) = false ∧ t.get (HP_I2C_STAT_RESULT p) = 4 ∧ t.hps[p] = { s.hps[p] with i2c := none } ∧ Rose evI2C_DONE p s t ∧
      RegsBut [HP_I2C_STAT p] s t ∧ t = { s with regs := t.regs, hps := t.hps, evt := t.evt })) ∧
    Answers (.rankReqWrite x p value) s (fun t =>
      ok [HP_RANK_REQ p, HP_HIR_STAT p] t ∧ t.rd (HP_RANK_REQ p) = value &&& 0x000FFFFF#32 ∧
      t.flag (HP_HIR_STAT_RANK_OK p) = ((t.get (HP_RANK_REQ_VOL_MASK p)).testBit (s.hir p 0x1C 1) && decide (t.get (HP_RANK_REQ_SPEED_MIN p) ≤ s.hir p 0x1D 1))) ∧
    (∀ now, s.flag (HP_SVC_STAT_PENDING p) = false →
      (s.retired p = true → Answers (.retire x p now) s (fun t => ok [HP_SVC_STAT p] t ∧ t.hps = s.hps ∧ t.get (HP_SVC_STAT_RESULT p) = 3)) ∧
      (s.retired p = false → now = false → late = true → Answers (.retire x p now) s (fun t => ok [HP_SVC_STAT p] t ∧ t.hps = s.hps ∧ t.get (HP_SVC_STAT_RESULT p) = 1)) ∧
      (s.retired p = false → now = false → late = false → Answers (.retire x p now) s (fun t => ok [HP_SVC_STAT p] t ∧ pend false t)) ∧
      (s.retired p = false → now = true → s.portPageOpen p = false → Answers (.retire x p now) s (fun t =>
        BusOk t ∧ t.retired p = true ∧ t.get (HP_SVC_STAT_RESULT p) = 0 ∧ t.hps[p].svc = none ∧ Rose evHEAD_RETIRED p s t))) ∧
    (∀ i, i ∈ [Instr.retire x p false, .retire x p true, .return x p] → s.flag (HP_SVC_STAT_PENDING p) = true →
      Answers i s (fun t => ok [HP_SVC_STAT p] t ∧ t.hps = s.hps ∧ t.get (HP_SVC_STAT_RESULT p) = 2)) ∧
    (s.flag (HP_SVC_STAT_PENDING p) = false → s.retired p = true → s.enableCheck p = 0 → s.hps[p].deskewed = true → s.flag (HP_STAT_PERMIT p) = true → late = false →
      Answers (.return x p) s (fun t => ok [HP_SVC_STAT p, HP_HIR_STAT p] t ∧ t.get (HP_HIR_STAT_CHECK p) = 0 ∧ pend true t)) ∧
    (s.flag (HP_SVC_STAT_PENDING p) = false → Answers (.return x p) s (fun t =>
      (s.retired p = false → t.get (HP_SVC_STAT_RESULT p) = 3 ∧ t.hps = s.hps) ∧
      (s.retired p = true → s.enableCheck p ≠ 0 → t.get (HP_SVC_STAT_RESULT p) = 4 ∧ t.get (HP_HIR_STAT_CHECK p) = s.enableCheck p ∧ t.hps = s.hps) ∧
      (s.retired p = true → s.enableCheck p = 0 → s.hps[p].deskewed = false → t.get (HP_SVC_STAT_RESULT p) = 5 ∧ t.hps = s.hps) ∧
      (s.retired p = true → s.enableCheck p = 0 → s.hps[p].deskewed = true → s.flag (HP_STAT_PERMIT p) = false → t.get (HP_SVC_STAT_RESULT p) = 6 ∧ t.hps = s.hps) ∧
      (s.retired p = true → s.enableCheck p = 0 → s.hps[p].deskewed = true → s.flag (HP_STAT_PERMIT p) = true → late = true →
        t.get (HP_SVC_STAT_RESULT p) = 1 ∧ t.hps = s.hps))) ∧
    (s.flag (HP_SVC_STAT_PENDING p) = true → Answers (.cancel x p) s (fun t =>
      ok [HP_SVC_STAT p] t ∧ t.flag (HP_SVC_STAT_PENDING p) = false ∧ t.get (HP_SVC_STAT_RESULT p) = 0 ∧ t.hps[p] = { s.hps[p] with svc := none }))

/-- R256, R257, R259, R260, R266, R267, R269: on an enabled camera and its virtual channel, a Frame Start counts, takes the oldest trigger record of its window and opens a frame, untriggered without one, rotated away by SKIP and PHASE, and captured if CAPTURE is set; an open frame ends
first, as SHORT. A Frame End closes the frame, SHORT if rows are missing. A good row joins it, its stripes filling at 32 rows and at HEIGHT; a row beyond HEIGHT is LONG; a bad packet, or no free slot, drops the rest of the frame with OVERFLOW. CAPTURE is armed. The free ISP, with its leave, takes
the ready stripe of the earliest frame, then of the lower port, and at its end adds its rows to those analysed. -/
def Obligations.CamerasAndIsp : Prop :=
  ∀ (x : Fin 2) (n : Fin 8) (vc : Fin 4) (pk : RowPacket) (f : Frame) (value : Word) (s : State),
    let near := s.cams[n].trigs.filter (fun r => decide (s.now ≤ r.tick + s.get (CAM_TRIG_WIN_WIN n)))
    let turned := match near.head? with
      | some r => decide ((r.k + s.get (CAM_CTRL_PHASE n)) % (s.get (CAM_CTRL_SKIP n) + 1) ≠ 0)
      | none => false
    (s.flag (CAM_CTRL_EN n) = true → s.get (CAM_CTRL_VC n) = vc.val →
      (s.openFrame n = none → Answers (.frameStart n vc .ok) s (fun t =>
        t.get (CAM_CNT_FRAMES n) = min (s.get (CAM_CNT_FRAMES n) + 1) 65535 ∧ t.cams[n].trigs = near.drop 1 ∧ t.cams[n].dropping = false ∧
        (∃ g, t.cams[n].frames = s.cams[n].frames ++ [g] ∧ g.fsTbc = s.now ∧ g.trig = near.head?.map (fun r => (r.k, r.tp)) ∧ g.rotated = turned ∧ g.rows = 0 ∧ g.open_ = true) ∧
        (near = ([] : List TrigRec) → t.flag (CAM_STAT_UNTRIG n) = true) ∧
        t.get (CAM_CNT_DROPPED n) = (if near = ([] : List TrigRec) ∨ turned = true then min (s.get (CAM_CNT_DROPPED n) + 1) 65535 else s.get (CAM_CNT_DROPPED n)) ∧
        (near ≠ ([] : List TrigRec) → turned = false → s.flag (CAM_CTRL_CAPTURE n) = true → t.flag (CAM_CTRL_CAPTURE n) = false ∧
          t.cams[n].captures = s.cams[n].captures ++ [{ fsTbc := s.now, raw := s.flag (CAM_CTRL_CAP_RAW n), next := 0 }]) ∧
        (∀ m ≠ n, t.cams[m] = s.cams[m]) ∧ RegsBut [CAM_CNT n, CAM_STAT n, CAM_CTRL n] s t ∧ t = { s with cams := t.cams, regs := t.regs })) ∧
      (s.openFrame n = some f → Answers (.frameStart n vc .ok) s (fun t =>
        t.flag (CAM_STAT_SHORT n) = true ∧ (∃ g, t.cams[n].frames.getLast? = some g ∧ g.fsTbc = s.now ∧ g.rows = 0 ∧ g.open_ = true) ∧ (∀ y ∈ t.cams[n].frames.dropLast, y.open_ = false) ∧ ∀ m ≠ n, t.cams[m] = s.cams[m])) ∧
      (s.openFrame n = some f → Answers (.frameEnd n vc .ok) s (fun t =>
        (f.rows < f.height → t.flag (CAM_STAT_SHORT n) = true) ∧ (∀ g ∈ t.cams[n].frames, g.open_ = false) ∧ ∀ m ≠ n, t.cams[m] = s.cams[m]))) ∧
    (s.flag (CAM_CTRL_EN n) = true → s.get (CAM_CTRL_VC n) = pk.vc.val → pk.hdr = .ok →
      (pk.dt.toNat ≠ dtNumber (s.get (CAM_CTRL_DT n)) → Answers (.longPacket n pk) s (fun t =>
        t.flag (CAM_STAT_DT_IGN n) = true ∧ RegsBut [CAM_STAT n] s t ∧ t = { s with regs := t.regs })) ∧
      (pk.dt.toNat = dtNumber (s.get (CAM_CTRL_DT n)) → s.openFrame n = some f →
        let good := pk.crcOk = true ∧ pk.bytes * 8 = s.get (CAM_SIZE_WIDTH n) * dtBits (s.get (CAM_CTRL_DT n)) ∧ pk.row.length = s.get (CAM_SIZE_WIDTH n)
        let cut := fun (t : State) => t.flag (CAM_STAT_OVERFLOW n) = true ∧ t.openFrame n = none ∧ t.cams[n].dropping = true ∧ ∀ m ≠ n, t.cams[m] = s.cams[m]
        (¬ good → Answers (.longPacket n pk) s (fun t =>
          cut t ∧ t.get (CAM_ERR_CSI_ERR n) = min (s.get (CAM_ERR_CSI_ERR n) + 1) 65535 ∧ t.flag (CAM_STAT_CSI_ERR n) = true)) ∧
        (good → f.height ≤ f.rows → Answers (.longPacket n pk) s (fun t =>
          t.flag (CAM_STAT_LONG n) = true ∧ (∃ g, t.openFrame n = some g ∧ g.rows = f.rows ∧ g.cur = f.cur ∧ g.ready = f.ready) ∧ RegsBut [CAM_STAT n] s t)) ∧
        (good → f.rows < f.height → f.taken = true → f.cur = [] → 2 ≤ s.cams[n].busySlots → Answers (.longPacket n pk) s cut) ∧
        (good → f.rows < f.height → f.taken = true → (f.cur ≠ [] ∨ s.cams[n].busySlots < 2) →
          Answers (.longPacket n pk) s (fun t => ∃ g, t.openFrame n = some g ∧ g.rows = f.rows + 1 ∧
            (f.cur.length = 31 ∨ f.rows + 1 = f.height → g.cur = [] ∧ g.ready = f.ready ++ [f.cur ++ [pk.row]]) ∧
            (f.cur.length ≠ 31 → f.rows + 1 ≠ f.height → g.cur = f.cur ++ [pk.row] ∧ g.ready = f.ready) ∧ (∀ m ≠ n, t.cams[m] = s.cams[m]) ∧
            t = { s with cams := t.cams })))) ∧
    (∀ m g, s.nextStripe = some (n, f) → s.cams[m].frames.find? (fun y => !y.ready.isEmpty) = some g → f.fsTbc < g.fsTbc ∨ (f.fsTbc = g.fsTbc ∧ n ≤ m)) ∧
    (s.clocked (.cam n.val) = true → (s.flag (CAM_CTRL_EN n) = false ∨ value.getLsbD 31 = true) → Answers (.capture x n value) s (fun t =>
      BusOk t ∧ t.rd (CAM_CTRL n) = (value ||| 0x40000000#32) &&& 0xE330FF00#32 ∧ RegsBut [CAM_CTRL n] s t ∧
      t = { s with regs := t.regs, busResp := t.busResp, busData := t.busData })) ∧
    (s.flag ISP_CTRL_EN = true → s.weirHolds 18 = true → s.flag ISP_STAT_BUSY = false → s.nextStripe = some (n, f) → Answers .ispStripeStart s (fun t =>
      t.flag ISP_STAT_BUSY = true ∧ t.get ISP_STAT_CAM = n.val ∧ t.ispCam = some n ∧
      t.cams[n].frames = s.cams[n].frames.map (fun g => if g = f then { g with ready := g.ready.drop 1, inIsp := g.ready.head? } else g) ∧
      (∀ m ≠ n, t.cams[m] = s.cams[m]) ∧ RegsBut [ISP_STAT, ISP_SWITCH] s t ∧ t = { s with cams := t.cams, ispCam := t.ispCam, regs := t.regs })) ∧
    (s.ispCam = some n → s.cams[n].frames.find? (fun g => g.inIsp.isSome) = some f → s.cams[n].captures = [] → Answers .ispStripeDone s (fun t =>
      t.flag ISP_STAT_BUSY = false ∧ (f.open_ = true → ∃ g ∈ t.cams[n].frames, g.fsTbc = f.fsTbc ∧ g.analysed = f.analysed ++ f.inIsp.getD [] ∧ g.inIsp = none)))

/-- R282, R283, R285, R286: CLAIM takes the free shadow and copies the active set; COMMIT at a line not yet built makes the shadow active as the next epoch and holds the old set, and is refused STATE, NO_PAGE or EPOCH_LATE, the last with its event; DISCARD and
RELEASE free the shadow in their states; a held shadow frees itself once no page before the epoch line is open and the Bolter is done; a pass claims the free shadow, and with the copy in place writes its first MAX_CHANGE proposals and is READY, or frees it where it has none. -/
def Obligations.CorrectionSets : Prop :=
  ∀ (x : Fin 2) (s : State), s.clocked .cs = true →
    let g := s.rd CS_EP_PAGE
    let l := (s.rd CS_EP_LINE).toNat
    let mine := s.shadow = shFW ∨ s.shadow = shREADY
    let regs := fun (t : State) => RegsBut [CS_STAT, BOLT_STAT] s t ∧ t = { s with corr := t.corr, regs := t.regs, busResp := t.busResp, busData := t.busData }
    let refused := fun (c : Nat) (t : State) => BusOk t ∧ t.get CS_STAT_RESULT = c ∧ t.shadow = s.shadow ∧ t.corr = s.corr ∧ regs t
    let freed := fun (t : State) => BusOk t ∧ t.get CS_STAT_RESULT = 0 ∧ t.shadow = shFREE ∧ t.corr = s.corr ∧ regs t
    (s.shadow = shFREE → Answers (.claim x) s (fun t =>
      BusOk t ∧ t.get CS_STAT_RESULT = 0 ∧ t.shadow = shCOPYING ∧ t.corr = { s.corr with byBolter := false } ∧ regs t)) ∧
    (s.shadow ≠ shFREE → Answers (.claim x) s (refused 3)) ∧
    (s.shadow = shCOPYING → Answers .claimCopyDone s (fun t =>
      t.corr = { s.corr with shadow := s.corr.active } ∧ t.shadow = (if s.corr.byBolter then shBOLTER else shFW) ∧ regs t)) ∧
    (¬ mine → Answers (.csCommit x) s (refused 3)) ∧
    (mine → s.reportOf g = none → Answers (.csCommit x) s (refused 2)) ∧
    (∀ r, mine → s.reportOf g = some r →
      (∀ a b, s.corr.maxBuilt = some (a, b) → lineGe a b r.serial l = true → Answers (.csCommit x) s (fun t =>
        BusOk t ∧ t.get CS_STAT_RESULT = 1 ∧ t.flag CS_STAT_EPOCH_LATE = true ∧ t.corr = s.corr ∧
        (∃ e ∈ t.evt.flight, e.event = evEPOCH_LATE ∧ e.page = g ∧ e.line = BitVec.ofNat 32 l) ∧ ∀ q, t.reportOf g = some q → q.epochRefused = true)) ∧
      ((∀ a b, s.corr.maxBuilt = some (a, b) → lineGe a b r.serial l = false) → Answers (.csCommit x) s (fun t =>
        BusOk t ∧ t.get CS_STAT_RESULT = 0 ∧ t.shadow = shHELD ∧ t.rd CS_EPOCH = s.rd CS_EPOCH + 1 ∧ t.corr.active = s.corr.shadow ∧ t.corr.shadow = s.corr.active ∧
        t.corr.log = ({ epoch := s.rd CS_EPOCH + 1, page := g, serial := r.serial, line := l, key := s.corr.shadow.key } :: s.corr.log).take 16 ∧
        (∀ q, t.reportOf g = some q → q.epochs = r.epochs + 1) ∧ RegsBut [CS_STAT, CS_EPOCH, BOLT_STAT] s t))) ∧
    (mine → Answers (.discard x) s freed) ∧
    (¬ mine → Answers (.discard x) s (refused 3)) ∧
    (s.shadow = shHELD → s.heldPages = true → Answers (.release x) s freed) ∧
    ((s.shadow ≠ shHELD ∨ s.heldPages = false) → Answers (.release x) s (refused 3)) ∧
    (s.shadow = shHELD → s.heldPages = true → s.heldConts = true → Answers .heldToFree s (fun t => t.shadow = shFREE ∧ t.corr = s.corr ∧ regs t)) ∧
    (s.shadow = shFREE → s.corr.wanted = true → s.flag BOLT_CTRL_PROPOSE = true → Answers .proposalPass s (fun t =>
      t.shadow = shCOPYING ∧ t.corr = { s.corr with wanted := false, byBolter := true } ∧ regs t)) ∧
    (s.shadow = shBOLTER → s.proposals.take (s.get BOLT_LIM_MAX_CHANGE) = [] → Answers .proposalPass s (fun t => t.shadow = shFREE ∧ t.corr.shadow = s.corr.shadow ∧ t.corr.active = s.corr.active)) ∧
    (s.shadow = shBOLTER → 0 < (s.proposals.take (s.get BOLT_LIM_MAX_CHANGE)).length → Answers .proposalPass s (fun t =>
      t.shadow = shREADY ∧ t.corr.active = s.corr.active ∧ (s.get BOLT_LIM_MAX_CHANGE < s.proposals.length → t.flag BOLT_STAT_PROP_TRUNC = true) ∧
      (∃ e ∈ t.evt.flight, e.event = evBOLT_PROPOSAL ∧ e.tbc = s.tbc ∧ e.value = BitVec.ofNat 32 (s.proposals.take (s.get BOLT_LIM_MAX_CHANGE)).length) ∧
      ((s.proposals.map (fun p => p.1)).Nodup → ∀ p ∈ s.proposals.take (s.get BOLT_LIM_MAX_CHANGE), t.corr.shadow.entries.get zeroWord p.1 = p.2) ∧
      ∀ n, (∀ p ∈ s.proposals.take (s.get BOLT_LIM_MAX_CHANGE), p.1 ≠ n) → t.corr.shadow.entries.get zeroWord n = s.corr.shadow.entries.get zeroWord n))
/-- R234 to R239, R252, R276: a doorbell wakes an engine that waits; enabling a stream engine asks leave of Weir and disabling it abandons its containers and frees its grant; the engine takes the next container of its ring; a verdict counts as PASS, or
as BAD with LAST_BAD, ERR and DCE_SEG_BAD, and the container leaves at once for a sequencer, and for the Bolter when it has finished with it; a skipped or finished container leaves; a descriptor's bus error stops the engine. -/
def Obligations.StreamEngines : Prop :=
  ∀ (x : Fin 2) (k : Fin 16) (value : Word) (c : Cont) (s u w : State),
    let e := s.engines[k]
    let others := fun (t : State) => ∀ j ≠ k, t.engines[j] = s.engines[j]
    let on := setBit value 31 true
    let off := setBit value 31 false
    let a := s.ringDesc k 0x08
    (s.clocked (.dce k.val) = true →
      (e.st = .inWait → e.job = none → Answers (.dceDoorbell x ⟨k.val, by omega⟩) s (fun t =>
        BusOk t ∧ t.engines[k] = { e with st := .run } ∧ others t ∧ t = { s with engines := t.engines, busResp := t.busResp, busData := t.busData })) ∧
      (e.st = .idle → e.job = none → s.flag (DCE_CTRL_EN k) = false → field on 3 0 = 0 → (field on 21 20 = 2 ∨ field on 21 20 = 1 ∧ field on 28 24 ≤ 11) →
        s.sinkTaken k (field on 21 20) (field on 28 24) = false → s.weirHolds (engRq k) = false → s.weirWaits (engRq k) = false →
        s.weirTooBig (s.get (DCE_WEIR_PWR k)) = false → Answers (.streamEnable x k value) s (fun t =>
          BusOk t ∧ t.flag (DCE_CTRL_EN k) = true ∧ t.engines[k].st = .weir ∧ others t ∧ t.weir.waiting[engRq k] = some {
            power := s.get (DCE_WEIR_PWR k), cls := if field on 21 20 = 1 then 4 else 6, arrival := s.weir.clk, maxWait := s.get (DCE_WEIR_MAXWAIT k) })) ∧
      (s.flag (DCE_CTRL_EN k) = true → s.streams k = true → field off 3 0 = 0 → off &&& 0x1F311000#32 = s.rd (DCE_CTRL k) &&& 0x1F311000#32 →
        (s.get (DCE_CTRL_SINK k) = 1 → s.sqs[s.sinkSq k].st ≠ .run) → Answers (.streamDisable x k value) s (fun t =>
          BusOk t ∧ t.flag (DCE_CTRL_EN k) = false ∧ t.engines[k].st = .idle ∧ t.engines[k].conts = [] ∧ t.weirHolds (engRq k) = false ∧
          t.get (DCE_IRING_IDX_IDX k) = s.get (DCE_IRING_IDX_OPEN k)))) ∧
    (∀ d : Desc, s.flag (DCE_CTRL_EN k) = true → s.streams k = true → e.st = .run → s.undelivered k ≤ 16384 → s.readDesc a = .ok d u → d.own = true → d.len ≠ 0 →
      u.contOf k a d = some (c, w) → Answers (.containerHeader k) s (fun t =>
        t.engines[k].conts = w.engines[k].conts ++ [c] ∧ t.get (DCE_IRING_IDX_IDX k) = (w.get (DCE_IRING_IDX_IDX k) + 1) % 65536 ∧
        RegsBut [DCE_IRING_IDX k] w t ∧ t = { w with engines := t.engines, regs := t.regs })) ∧
    (e.conts.find? (fun y => y.opened && !y.judged) = some c →
      let counted := fun (t : State) =>
        (c.code = 0 → t.get (DCE_SEG_CNT_PASS k) = min (s.get (DCE_SEG_CNT_PASS k) + 1) 65535 ∧ t.get (DCE_SEG_CNT_BAD k) = s.get (DCE_SEG_CNT_BAD k)) ∧
        (c.code ≠ 0 → t.get (DCE_SEG_CNT_BAD k) = min (s.get (DCE_SEG_CNT_BAD k) + 1) 65535 ∧ t.rd (DCE_LAST_BAD k) = BitVec.ofNat 32 (c.badSeg + c.code * 2 ^ 24) ∧
          t.rd (DCE_LAST_BAD_PAGE k) = (if c.hdrBad then 0 else c.page) ∧ (c.code ≠ 0x10 → t.get (DCE_STAT_ERR k) = c.code % 256) ∧ Rose evDCE_SEG_BAD k s t)
      (s.get (DCE_CTRL_SINK k) = 2 → Answers (.containerVerdict k) s (fun t =>
        t.engines[k].conts = e.conts.map (fun y => if y = c then { y with judged := true } else y) ∧ others t ∧ counted t)) ∧
      (s.get (DCE_CTRL_SINK k) = 1 → s.segLeft (s.sinkSq k) k c ≤ 16384 → Answers (.containerVerdict k) s (fun t =>
        t.engines[k].conts = dropCont (fun y => y.opened && !y.judged) e.conts ∧ others t ∧ counted t))) ∧
    (e.conts.find? (fun y => y.skip) = some c → Answers (.containerSkip k) s (fun t =>
      t.engines[k].conts = dropCont (fun y => y.skip) e.conts ∧ others t ∧ t.get (DCE_SKIP_CNT_SKIPPED k) = min (s.get (DCE_SKIP_CNT_SKIPPED k) + 1) 65535)) ∧
    (e.conts.find? (fun y => y.judged) = some c → s.get (DCE_CTRL_SINK k) = 2 → s.contFinished c = true → Answers (.bolterContainerFinished k) s (fun t =>
      t.engines[k].conts = dropCont (fun y => y.judged) e.conts ∧ others t)) ∧
    (s.streams k = true → e.st = .run → Answers (.descriptorBusError ⟨k.val, by omega⟩) s (fun t =>
      t.flag (DCE_CTRL_EN k) = false ∧ t.engines[k] = { e with st := .idle } ∧ t.get (DCE_STAT_ERR k) = 0x0E ∧ t.weirHolds (engRq k) = false ∧
      Rose evDCE_SEG_BAD k s t ∧ others t))

/-- R236, R241, R242, R244, R251: START of a memory job asks leave of Weir in class 7; a job that has filled its COMPAT buffer stops with its resume words and DCE_STOPPED, and RESUME lets it go on; RESTORE takes a job whose CHECK is right, and answers PARAM
otherwise; ABORT ends a job with status 0x0F and its commit point ends it DONE with DCE_JOB_DONE; both free the grant. -/
def Obligations.DecodeJobs : Prop :=
  ∀ (x : Fin 2) (k : Fin 16) (value : Word) (j : Job) (s u : State),
    let e := s.engines[k]
    let others := fun (t : State) => ∀ i ≠ k, t.engines[i] = s.engines[i]
    let same := fun (v : Word) => v &&& 0x9F311000#32 = s.rd (DCE_CTRL k) &&& 0x9F311000#32
    (s.clocked (.dce k.val) = true → s.streams k = false →
      (same value → e.st = .idle → e.job = none → field (setBit value 0 true) 3 0 = 1 → s.weirHolds (engRq k) = false → s.weirWaits (engRq k) = false →
        s.weirTooBig (s.get (DCE_WEIR_PWR k)) = false → Answers (.dceStart x k value) s (fun t =>
          BusOk t ∧ t.engines[k].st = .weir ∧ t.engines[k].job.isSome = true ∧ t.rd (DCE_IN_BITS k) = 0 ∧ t.rd (DCE_OUT_BYTES k) = 0 ∧ others t ∧
          t.weir.waiting[engRq k] = some {
            power := s.get (DCE_WEIR_PWR k), cls := 7, arrival := s.weir.clk, maxWait := s.get (DCE_WEIR_MAXWAIT k) })) ∧
      (same value → e.st = .stopped → e.job = some j → field (setBit value 2 true) 3 0 = 4 → Answers (.dceResume x k value) s (fun t =>
        BusOk t ∧ t.engines[k].st ≠ .stopped ∧ (t.engines[k].job.isSome = true ∨ t.get (DCE_STAT_ERR k) = 0x0E) ∧ others t)) ∧
      (same value → e.st = .idle → e.job = none → field (setBit value 3 true) 3 0 = 8 →
        let ws := (List.range 8).map (fun i => (s.rd (DCE_RESUME k i)).toNat)
        let ok := (resumeCheck (ws.take 7)).toNat = ws.getD 7 0
        (¬ ok → Answers (.dceRestore x k value) s (fun t => BusOk t ∧ t.get (DCE_STAT_ERR k) = 0x11 ∧ t.engines = s.engines)) ∧
        (ok → ws.getD 6 0 % 65536 = 0 → Answers (.dceRestore x k value) s (fun t =>
          BusOk t ∧ (t.engines[k].job.isSome = true ∨ t.get (DCE_STAT_ERR k) = 0x0E) ∧ others t))) ∧
      (same value → e.job = some j → field (setBit value 1 true) 3 0 = 2 → Answers (.dceAbort x k value) s (fun t =>
        BusOk t ∧ t.engines[k] = { e with st := .idle, job := none, committed := false } ∧ t.get (DCE_STAT_ERR k) = 0x0F ∧ t.weirHolds (engRq k) = false ∧ others t))) ∧
    (e.job = some j → j.stopping = true → e.st = .run → Answers (.dceStopped k) s (fun t =>
      t.engines[k].st = .stopped ∧ t.engines[k].job = some { j with out := none } ∧ t.rd (DCE_IN_BITS k) = BitVec.ofNat 32 j.inf.pos ∧
      t.rd (DCE_OUT_BYTES k) = BitVec.ofNat 32 j.outBytes ∧ t.rd (DCE_RESUME k 7) = resumeCheck (j.inf.words.map (fun w => w % 2 ^ 32)) ∧
      Rose evDCE_STOPPED k s t ∧ others t)) ∧
    (∀ code b, e.job = some j → j.ending = some code → j.out = some b → Answers (.dceJobDone k) s (fun t =>
      t.engines[k] = { e with st := .idle, job := none, committed := true } ∧ t.flag (DCE_STAT_DONE k) = true ∧ t.weirHolds (engRq k) = false ∧
      Rose evDCE_JOB_DONE k s t ∧ others t))

/-- R236, R245, R248, R249, R250, R251: START of a compressor whose parameters are good asks leave of Weir in class 7; a block that the shadow decoder confirms advances the input, and one that it refuses is counted, reported and goes out all the same; a COMPAT
compressor with its buffer full stops with its words, RESUME goes on, ABORT and the commit point end the job and free its grant. -/
def Obligations.Compressors : Prop :=
  ∀ (x n : Fin 2) (value : Word) (j : CJob) (s : State),
    let e := s.cmps[n]
    let r := engRq (cmpNo n)
    let others := fun (t : State) => ∀ i ≠ n, t.cmps[i] = s.cmps[i]
    let same := fun (v : Word) => v &&& 0x80011000#32 = s.rd (CMP_CTRL n) &&& 0x80011000#32
    (s.clocked (.cmp n.val) = true → same value →
      (e.st = .idle → e.job = none → field (setBit value 0 true) 3 0 = 1 → (s.wr (CMP_CTRL n) (setBit value 0 true &&& 0x80011000#32)).cmpParam n = false →
        s.weirHolds r = false → s.weirWaits r = false → s.weirTooBig (s.get (CMP_WEIR_PWR n)) = false → Answers (.cmpStart x n value) s (fun t =>
          BusOk t ∧ t.cmps[n].st = .weir ∧ t.cmps[n].job.isSome = true ∧ t.rd (CMP_IN_BITS n) = 0 ∧ t.rd (CMP_OUT_BYTES n) = 0 ∧ others t ∧
          t.weir.waiting[r] = some { power := s.get (CMP_WEIR_PWR n), cls := 7, arrival := s.weir.clk, maxWait := s.get (CMP_WEIR_MAXWAIT n) })) ∧
      (e.st = .stopped → field (setBit value 2 true) 3 0 = 4 → Answers (.cmpResume x n value) s (fun t =>
        BusOk t ∧ t.cmps[n].st ≠ .stopped ∧ others t)) ∧
      (e.job = some j → field (setBit value 1 true) 3 0 = 2 → Answers (.cmpAbort x n value) s (fun t =>
        BusOk t ∧ t.cmps[n] = { e with st := .idle, job := none, committed := false } ∧ t.get (CMP_STAT_ERR n) = 0x0F ∧ t.weirHolds r = false ∧ others t))) ∧
    (let p := State.cmpPull n 4096 (s.cmpFirst n j).1
     e.job = some j → e.st = .run → j.ending = none → j.stopping = false → j.final = false → j.staged = [] → (s.cmpFirst n j).2 = true → p.2 = true →
      ∀ i ∈ [Instr.cmpBlockVerified n, .cmpVerifyRedo n], Answers i s (fun t =>
        (∀ j1 j2, p.1.cmps[n].job = some j1 → t.cmps[n].job = some j2 →
          j2.done = j1.done + min (2 ^ (12 + s.get (CMP_CFG_BLOCK_LOG2 n))) ((s.cmpInput n j1).length - j1.done)) ∧
        (i = .cmpVerifyRedo n → t.get (CMP_REDO_VERIFY_REDO n) = min (s.get (CMP_REDO_VERIFY_REDO n) + 1) 65535 ∧ Rose evCMP_VERIFY_REDO n s t) ∧ others t)) ∧
    (e.job = some j → j.stopping = true → e.st = .run → Answers (.cmpStop n) s (fun t =>
      t.cmps[n].st = .stopped ∧ t.cmps[n].job = some { j with out := none } ∧ t.rd (CMP_RESUME0 n) = BitVec.ofNat 32 j.done ∧
      Rose evDCE_STOPPED (16 + n.val) s t ∧ others t)) ∧
    (∀ code b, e.job = some j → j.ending = some code → j.out = some b → Answers (.cmpJobDone n) s (fun t =>
      t.cmps[n] = { e with st := .idle, job := none, committed := true } ∧ t.flag (CMP_STAT_DONE n) = true ∧ t.weirHolds r = false ∧
      Rose evCMP_JOB_DONE n s t ∧ others t))

/-- R292 to R297, R300, R301, R303 to R305, R313, R319, R320: enabling a port trains it, or makes the inactive network port the standby; a trained port has its lanes aligned and deskewed, each with LNi_CTLE or the best setting of its search, and keeps a live session, sends RESUME during a
fail-over, and else INIT. INIT starts both channels afresh, answered first where the session runs. An ACK frees the frames it covers, a NAK replays from its SEQ, a CREDIT is taken, and a SEQ never sent, or REPLAY_MAX replays, reset the session. The second RESUME ends the fail-over, a bad
one with the session reset (the model's choice, log 100). Far-end loopback is refused to a session; a link word in error is counted, with its symbols in error; the PRBS checker takes the bytes as R296 says; LOS and its end set their marks, and those of the alignment (log 102). -/
def Obligations.LinkTrainingAndWords : Prop :=
  ∀ (x : Fin 2) (p : Fin 4) (ln : Fin 16) (vc : Fin 2) (r : Vector LaneTrain 4) (word : BitVec 16) (lanes : BitVec 4) (errs : List (Fin 4 × Bool))
    (got : List (Option Byte)) (value : Word) (s : State),
    let q := s.vc p vc
    let seq := word.toNat % 4096
    let fo := s.flag (MR_PATH_STAT_IN_PROGRESS 0)
    let sent := s.links.ports[p].sent
    let w := fun (kind v n : Nat) => s.laneOut p (wordSymbols kind v n)
    let lost := fun (t : State) => t.links.sess[sessOf p].waitInit = true ∧ t.links.sess[sessOf p].live = false ∧ Rose evMR_SESSION_RESET p s t
    (s.clocked (.px p.val) = true →
      (s.flag (PX_CTRL_EN p) = false → Answers (.linkEnable x p value) s (fun t =>
        BusOk t ∧ t.flag (PX_CTRL_EN p) = true ∧ (p.val < 2 → p ≠ s.activePort → t.pxState p = pxCOLD ∧ t.links.testDue = some s.now) ∧
        ((2 ≤ p.val ∨ p = s.activePort) → t.pxState p = pxTRAINING ∧ t.links.sess[sessOf p].live = false))) ∧
      (s.flag (PX_CTRL_EN p) = true → s.pxState p = pxUP → fo = false → (2 ≤ p.val → 2 ≤ s.get (PX_CTRL_RATE p)) → Answers (.retrain x p) s (fun t =>
        BusOk t ∧ t.pxState p = pxTRAINING ∧ t.links.sess = s.links.sess ∧ ∀ j : Fin 4, t.flag (LN_STAT_ALIGNED (4 * p.val + j.val)) = false))) ∧
    (s.pxState p = pxTRAINING → Answers (.linkTrained p r) s (fun t =>
      (∀ j : Fin 4, t.flag (LN_STAT_ALIGNED (4 * p.val + j.val)) = true ∧ t.flag (LN_STAT_DESKEWED (4 * p.val + j.val)) = true ∧ t.flag (LN_STAT_LOS_NOW (4 * p.val + j.val)) = false ∧
        (fo = true → p = s.otherPort → t.get (LN_STAT_CTLE_SEL (4 * p.val + j.val)) = s.links.ckpt.ctle[j] % 16) ∧
        ((fo = false ∨ p ≠ s.otherPort) → t.get (LN_STAT_CTLE_SEL (4 * p.val + j.val)) =
          if s.flag (LN_CTRL_CTLE_AUTO (4 * p.val + j.val)) then (match r[j].best with | some k => k.val | none => 8) else s.get (LN_CTRL_CTLE (4 * p.val + j.val)))) ∧
      (fo = true → p = s.otherPort → t.pxState p = pxRESUMING ∧
        t.links.ports[p].sent = sent ++ [w 4 0 (s.vc p 0).rxExp, w 4 1 (s.vc p 1).rxExp]) ∧
      (fo = false → s.links.sess[sessOf p].live = true → t.pxState p = pxUP ∧ t.links.sess = s.links.sess) ∧
      (fo = false → s.links.sess[sessOf p].live = false → t.links.sess[sessOf p].waitInit = true ∧ t.links.ports[p].sent = sent ++ [w 5 0 0]))) ∧
    ((s.links.sess[sessOf p].waitInit = true ∧ s.pxState p ∈ [pxTRAINING, pxUP, pxRESUMING]) ∨ (s.links.sess[sessOf p].live = true ∧ s.pxState p = pxUP) →
      Answers (.initWord p) s (fun t =>
        t.pxState p = pxUP ∧ t.links.sess[sessOf p].live = true ∧ t.links.sess[sessOf p].waitInit = false ∧
        (∀ v, (t.vc p v).txNext = 0 ∧ (t.vc p v).rxExp = 0 ∧ (t.vc p v).replay = [] ∧ (t.vc p v).rxGranted = creditFull v) ∧
        (s.links.sess[sessOf p].waitInit = true → t.links.ports[p].sent = sent ++ [w 3 0 512, w 3 1 64]) ∧
        (s.links.sess[sessOf p].waitInit = false → t.links.ports[p].sent = sent ++ [w 5 0 0, w 3 0 512, w 3 1 64] ∧ Rose evMR_SESSION_RESET p s t))) ∧
    (∀ e rest, (q.txNext + 4095 - seq) % 4096 < q.sent → q.fromSeq seq = e :: rest → Answers (.ack p vc word) s (fun t =>
      t.vc p vc = { q with replay := rest, resend := min q.resend rest.length, tries := 0, progress := s.now } ∧ RegsBut [MR_SAVE 0] s t ∧
      t = { s with links := t.links, regs := t.regs })) ∧
    (q.sent ≤ (q.txNext + 4095 - seq) % 4096 → Answers (.ack p vc word) s (fun t => t.bit (PX_VIOL p) 7 = true ∧ Rose evMR_VIOLATION p s t ∧ lost t)) ∧
    (∀ e rest, q.fromSeq seq = e :: rest →
      (q.tries < s.get (PX_CTRL_REPLAY_MAX p) → Answers (.nak p vc word) s (fun t =>
        t.vc p vc = { q with resend := rest.length + 1, tries := q.tries + 1, progress := s.now } ∧
        t.get (PX_CNT_LOW p 1) = min (s.get (PX_CNT_LOW p 1) + 1) 65535 ∧ RegsBut [MR_SAVE 0, PX_CNT p 1] s t ∧ t = { s with links := t.links, regs := t.regs })) ∧
      (s.get (PX_CTRL_REPLAY_MAX p) ≤ q.tries → Answers (.nak p vc word) s lost)) ∧
    Answers (.credit p vc word) s (fun t =>
      t.vc p vc = { q with granted := word.toNat } ∧ RegsBut [MR_SAVE 0] s t ∧ t = { s with links := t.links, regs := t.regs }) ∧
    (fo = true → p = s.otherPort → s.pxState p = pxRESUMING →
      ((q.txNext + 4096 - seq) % 4096 ≤ q.sent → Answers (.linkResume p vc word) s (fun t =>
        t.links.resumed[vc] = true ∧ (t.vc p vc).granted = 0 ∧ (t.vc p vc).rxUsed = 0 ∧ (t.vc p vc).rxGranted = q.rxGranted - q.rxUsed ∧
        (t.vc p vc).resend = (t.vc p vc).replay.length ∧ t.links.ports[p].sent = sent ++ [w 3 vc ((q.rxGranted - q.rxUsed) % 65536)] ∧
        ((∀ v ≠ vc, s.links.resumed[v] = true) → t.pxState p = pxUP ∧ t.activePort = p ∧ t.pxState s.activePort = pxFAILED ∧ t.flag (MR_PATH_STAT_IN_PROGRESS 0) = false ∧
          t.get (MR_PATH_STAT_RESULT 0) = 0 ∧ Rose evMR_FAILOVER_DONE 0 s t))) ∧
      (q.sent < (q.txNext + 4096 - seq) % 4096 → Answers (.linkResume p vc word) s (fun t =>
        t.bit (PX_VIOL p) 7 = true ∧ lost t ∧ t.activePort = p ∧ t.flag (MR_PATH_STAT_IN_PROGRESS 0) = false ∧ t.get (MR_PATH_STAT_RESULT 0) = 4))) ∧
    Answers (.lbReq p lanes) s (fun t =>
      (s.carries p = true → lanes ≠ 0 → t = s) ∧
      (s.carries p = false → t.links.ports[p] = { s.links.ports[p] with farEnd := lanes } ∧ t = { s with links := { s.links with ports := t.links.ports } })) ∧
    Answers (.lbEnd p) s (fun t => t.links.ports[p] = { s.links.ports[p] with farEnd := 0 } ∧ t = { s with links := { s.links with ports := t.links.ports } }) ∧
    Answers (.lwErr { port := p, errs := errs }) s (fun t => t.get (PX_CNT_LOW p 5) = min (s.get (PX_CNT_LOW p 5) + 1) 65535 ∧
      (∀ j : Fin 4, t.get (LN_ERR_CODE_ERR (4 * p.val + j.val)) = min (s.get (LN_ERR_CODE_ERR (4 * p.val + j.val)) + errs.count (j, true)) 65535 ∧
        t.get (LN_ERR_DISP_ERR (4 * p.val + j.val)) = min (s.get (LN_ERR_DISP_ERR (4 * p.val + j.val)) + errs.count (j, false)) 65535) ∧
      RegsBut [PX_CNT p 5, LN_ERR (4 * p.val), LN_ERR (4 * p.val + 1), LN_ERR (4 * p.val + 2), LN_ERR (4 * p.val + 3)] s t ∧ t = { s with regs := t.regs }) ∧
    (s.get (LN_CTRL_PRBS_RX ln) ∈ [1, 2] → Answers (.prbsLock ln got) s (fun t =>
      let c := s.links.ports[portOfLane ln].prbs[ln.val % 4]'(by omega)
      let d := got.foldl (PrbsCheck.take (s.get (LN_CTRL_PRBS_RX ln))) { c with errs := 0 }
      t.links.ports[portOfLane ln].prbs[ln.val % 4]'(by omega) = { d with errs := 0 } ∧ t.flag (LN_STAT_PRBS_LOCK ln) = decide (32 ≤ d.good) ∧
      (t.rd (LN_PRBS_ERR ln)).toNat = min ((s.rd (LN_PRBS_ERR ln)).toNat + d.errs) 0xFFFFFFFF ∧
      RegsBut [LN_STAT ln, LN_PRBS_ERR ln] s t ∧ t = { s with links := t.links, regs := t.regs })) ∧
    (∀ (m : Nat) (c : PrbsCheck) (b : Option Byte),
      (32 ≤ c.good → (c.take m b).errs = c.errs + (if b.map (prbsPush c.hist) = some (prbsByte m c.hist) then 0 else 1)) ∧
      (c.good < 32 → (c.take m b).errs = c.errs ∧ (c.take m b).good = if b.map (prbsPush c.hist) = some (prbsByte m c.hist) then c.good + 1 else 0)) ∧
    Answers (.los ln) s (fun t =>
      t.flag (LN_STAT_LOS_NOW ln) = true ∧ t.flag (LN_STAT_LOS ln) = true ∧ t.flag (LN_STAT_ALIGNED ln) = false ∧ t.flag (LN_STAT_DESKEWED ln) = false ∧
      (s.flag (LN_STAT_LOS_NOW ln) = false → t.links.ports[portOfLane ln].losAt[ln.val % 4]'(by omega) = s.now) ∧ RegsBut [LN_STAT ln] s t ∧
      t = { s with links := t.links, regs := t.regs }) ∧
    (s.flag (LN_STAT_LOS_NOW ln) = true → Answers (.losClear ln) s (fun t =>
      t.flag (LN_STAT_LOS_NOW ln) = false ∧ t.flag (LN_STAT_LOS ln) = s.flag (LN_STAT_LOS ln) ∧ t.flag (LN_STAT_ALIGNED ln) = true ∧ t.flag (LN_STAT_DESKEWED ln) = true ∧
      RegsBut [LN_STAT ln] s t ∧ t = { s with regs := t.regs }))

/-- R291, R297 to R299, R302, R303, R304, R309: a whole frame in sequence that fits the receive buffer is accepted and acknowledged; a DATA frame for this chip then waits for RING0 with its credits, and one for a later chip is queued on D with one more hop. A frame with a bad CRC, a stomped, an
oversize, an early and a repeated one are not accepted: each sets its violation bit and raises MR_VIOLATION, with the NAK or ACK of the table. A port that may send starts the oldest queued frame of VC1, or else of VC0, with the next SEQ and its CRC, laid on the four lanes; REPLAY_TO
without progress sends every unacknowledged frame again. -/
def Obligations.LinkFrames : Prop :=
  ∀ (p : Fin 4) (v : Fin 2) (f : RxFrame) (item : QItem) (rest : List QItem) (s : State),
    let q := s.vc p v
    let w := fun (kind n : Nat) => s.laneOut p (wordSymbols kind v n)
    let bad := fun (kind : Nat) (t : State) => (t.vc p v).rxExp = q.rxExp ∧ (t.vc p v).held = q.held ∧ t.bit (PX_VIOL p) kind = true ∧ Rose evMR_VIOLATION p s t
    let nak := fun (t : State) => q.nak = none → w 2 q.rxExp ∈ t.links.ports[p].sent
    let ahead := (f.seq + 4096 - q.rxExp) % 4096
    (f.vc = v → s.accepts p v = true →
      (f.stomped = true → Answers (.frameReceived p f) s (bad 1)) ∧
      (f.stomped = false → f.oversize = true → Answers (.frameReceived p f) s (fun t => bad 5 t ∧ nak t)) ∧
      (f.stomped = false → f.oversize = false →
        (f.crcOk = false → Answers (.frameReceived p f) s (fun t => bad 0 t ∧ nak t)) ∧
        (f.crcOk = true → 0 < ahead → ahead ≤ 2048 → Answers (.frameReceived p f) s (fun t => bad 2 t ∧ nak t)) ∧
        (f.crcOk = true → 2048 < ahead → Answers (.frameReceived p f) s (fun t => bad 3 t ∧ w 1 ((q.rxExp + 4095) % 4096) ∈ t.links.ports[p].sent)) ∧
        (f.crcOk = true → f.seq = q.rxExp → q.rxUsed + creditNeed f.len ≤ q.rxGranted → Answers (.frameReceived p f) s (fun t =>
          (t.vc p v).rxExp = (q.rxExp + 1) % 4096 ∧ w 1 q.rxExp ∈ t.links.ports[p].sent ∧
          (f.type = 1 → v = 0 → f.dst = s.chipId → s.breakStops p 1 = false →
            (t.vc p v).held = q.held ++ [(creditNeed f.len, frameOf f)] ∧ (t.vc p v).rxUsed = q.rxUsed + creditNeed f.len) ∧
          (f.type = 1 → v = 0 → p ≠ 3 → s.chipId < f.dst → f.dst < 0xFFE → f.hops < 320 → s.breakStops 3 1 = false →
            (t.vc 3 0).queue = (s.vc 3 0).queue ++ [{ frame := { frameOf f with hops := f.hops + 1 }, from_ := some (p, v), desc := none }]))))) ∧
    (s.sends p = true → (v = 0 → s.sendVc p 1 = none) → q.resend = 0 → q.queue = item :: rest → q.mayStart v item.frame = true → Answers (.frameTransmit p) s (fun t =>
      (s.links.ports[p].sent ++ (frameSymbols .k29_7 (item.frame.wire q.txNext)).map (s.laneOut p)).isPrefixOf t.links.ports[p].sent = true ∧
      (t.vc p v).queue = rest ∧ (t.vc p v).txNext = (q.txNext + 1) % 4096 ∧ (t.vc p v).replay = q.replay ++ [(q.txNext, item.frame)])) ∧
    (s.sends p = true → q.replay ≠ [] → s.get (PX_CTRL_REPLAY_TO p) * 800 ≤ s.now - q.progress → q.tries < s.get (PX_CTRL_REPLAY_MAX p) →
      Answers (.replayTimeout p v) s (fun t =>
        t.vc p v = { q with resend := q.replay.length, tries := q.tries + 1, progress := s.now } ∧ t.get (PX_CNT_LOW p 1) = min (s.get (PX_CNT_LOW p 1) + 1) 65535 ∧
        RegsBut [MR_SAVE 0, PX_CNT p 1] s t ∧ t = { s with links := t.links, regs := t.regs }))

/-- R311, R312, R314 to R318, R320, R323: loss of sync for LOS_TIME fails the active path; a fail-over to a good standby stops the failed port and trains the other, and without one is refused; no RESUME in time resets the session on the new path; the standby is tested
with Weir's leave and its report follows; a checkpoint is the session's state; discovery gives chip IDs along D and ends at its starter. -/
def Obligations.PathsAndDiscovery : Prop :=
  ∀ (x : Fin 2) (p : Fin 4) (j : Fin 4) (pllOk feDone ring : Bool) (r : Vector LaneTest 4) (nextId origin lastId : BitVec 12) (s : State),
    let a := s.activePort
    let b := s.otherPort
    let fo := s.flag (MR_PATH_STAT_IN_PROGRESS 0)
    let onD := fun (t : State) => ∃ i ∈ (t.vc 3 0).queue, i.frame.type = 5
    let onU := fun (t : State) => ∃ i ∈ (t.vc 2 0).queue, i.frame.type = 5
    let starts := fun (t : State) => (s.strapped = false → t.chipId = 1 ∧ t.get (MR_ID_SRC 0) = 1) ∧ Rose evMR_ID_SET 0 s t ∧
      (s.hasD = true → t.get (MR_DISC_STATE 0) = 2 ∧ onD t) ∧ (s.hasD = false → t.get (MR_DISC_STATE 0) = 3 ∧ t.get (MR_DISC_LAST_ID 0) = t.chipId)
    (p.val < 2 → p = a → s.pxState p ≠ pxFAILED → s.flag (PX_CTRL_EN p) = true → s.flag (LN_STAT_LOS_NOW (4 * p.val + j.val)) = true →
      s.get (MR_PATH_CTRL_LOS_TIME 0) * 800 ≤ s.now - s.links.ports[p].losAt[j] → fo = false → s.flag (MR_PATH_CTRL_AUTO 0) = false →
      Answers (.losTimeExpiry p) s (fun t => t.pxState p = pxFAILED ∧ Rose evMR_PATH_FAIL 0 s t ∧ RegsBut [MR_SAVE 0, PX_STAT p] s t)) ∧
    (s.clocked (.px 0) = true →
      (fo = false → s.bit (MR_PATH_CTRL 0) 29 = false → Answers (.failover x) s (fun t =>
        BusOk t ∧ Rose evMR_PATH_FAIL 0 s t ∧
        (s.isStandby b = true → s.get (PX_HEALTH_INFO_CLASS b) = 0 → t.flag (MR_PATH_STAT_IN_PROGRESS 0) = true ∧ t.pxState a = pxFAILED ∧ t.pxState b = pxTRAINING) ∧
        (s.isStandby b = false → t.get (MR_PATH_STAT_RESULT 0) = 3 ∧ t.pxState a = pxTRAINING ∧ Rose evMR_FAILOVER_REFUSED 0 s t))) ∧
      (fo = false → s.bit (MR_PATH_CTRL 0) 31 = false → s.flag (PX_CTRL_EN b) = true → s.isStandby b = false → Answers (.makeStandby x) s (fun t =>
        BusOk t ∧ t.pxState b = pxCOLD ∧ t.links.testDue = some s.now)) ∧
      Answers (.discStart x) s (fun t => BusOk t ∧ starts t)) ∧
    (fo = true → s.pxState b = pxRESUMING → s.get (MR_CFG_RESUME_TO 0) * 800 ≤ s.now - s.links.resumeAt → Answers .resumeTimeout s (fun t =>
      t.flag (MR_PATH_STAT_IN_PROGRESS 0) = false ∧ t.get (MR_PATH_STAT_RESULT 0) = 4 ∧ t.activePort = b ∧ t.links.sess[0].waitInit = true ∧
      Rose evMR_FAILOVER_DONE 0 s t ∧ Rose evMR_SESSION_RESET b s t)) ∧
    (∀ T, s.links.testDue = some T → T ≤ s.now → s.isStandby b = true → s.pxState b = pxCOLD → s.weirWaits (linkReq b) = false → s.weirHolds (linkReq b) = false →
      s.weirTooBig 600 = false → Answers .selfTest s (fun t =>
        t.weir.waiting[linkReq b] = some {
          power := 600, cls := 4, arrival := s.weir.clk, maxWait := s.get (MR_PATH_CTRL_HEALTH_PERIOD 0) * 500000 } ∧
        t.links.testDue = (if s.get (MR_PATH_CTRL_HEALTH_PERIOD 0) = 0 then none else some (s.now + s.get (MR_PATH_CTRL_HEALTH_PERIOD 0) * 800000000)))) ∧
    (s.pxState b = pxSELFTEST → Answers (.selfTestEnd pllOk feDone r) s (fun t =>
      t.pxState b = pxCOLD ∧ t.get (PX_HEALTH_INFO_CLASS b) = (r.toList.map (s.laneClass pllOk)).foldl max 0 ∧ t.weirHolds (linkReq b) = false ∧
      ∃ i ∈ (t.vc a 0).queue, i.frame.type = 6 ∧ i.frame.dst = 0xFFE)) ∧
    Answers .checkpoint s (fun t =>
      t.links = { s.links with ckpt := s.ckptNow } ∧ t.rd (MR_SAVE 0) = s.rd (MR_SAVE 0) + 1 ∧ RegsBut [MR_SAVE 0] s t ∧ t = { s with links := t.links, regs := t.regs }) ∧
    (s.hasD = true → s.pxState 2 ≠ pxUP → s.get (MR_ID_SRC 0) = 0 → s.get (MR_DISC_STATE 0) < 2 → Answers .discWaitExpiry s starts) ∧
    Answers (.discover nextId origin) s (fun t =>
      (s.get (MR_DISC_STATE 0) = 2 → origin.toNat = s.chipId → t.get (MR_DISC_STATE 0) = 3 ∧ t.get (MR_DISC_LAST_ID 0) = nextId.toNat - 1 ∧ t.chipId = s.chipId ∧ onD t) ∧
      (s.get (MR_DISC_STATE 0) ≠ 2 → s.strapped = false → nextId.toNat ≤ 0xFFD →
        t.chipId = nextId.toNat ∧ t.get (MR_ID_SRC 0) = 1 ∧ t.flag (PX_STAT_RING_BREAK 3) = false ∧ (s.hasD = true → onD t) ∧ (s.hasD = false → onU t)) ∧
      (s.get (MR_DISC_STATE 0) ≠ 2 → s.strapped = false → 0xFFD < nextId.toNat → t.get (MR_DISC_STATE 0) = 4 ∧ t.chipId = 0)) ∧
    Answers (.discEnd lastId origin ring) s (fun t =>
      t.get (MR_DISC_LAST_ID 0) = lastId.toNat ∧ t.chipId = s.chipId ∧
      (ring = true → s.chipId = lastId.toNat → t.flag (PX_STAT_RING_BREAK 3) = true) ∧ (ring = true → s.chipId ≠ lastId.toNat → onD t) ∧
      (ring = false → s.get (MR_DISC_STATE 0) = 2 → origin.toNat = s.chipId → t.get (MR_DISC_STATE 0) = 3) ∧
      (ring = false → s.get (MR_DISC_STATE 0) ≠ 2 → onU t))

/-- DRAM requests and the reads that return (R328 to R331, R333, R340). -/
def DramTransactions (c sub : Fin 2) (write : Bool) (addr : BitVec 40) (data : List Byte) (err : EccErr) (s : State) : Prop :=
  let d := s.dram.chs[c]
  let a := addr.toNat
  let line := dramLine a
  let sb := dramSub line
  let k := dramChan line
  let bytes := if write then data else []
  let n := data.length
  (∀ e, s.dramAnswer a n = some e → e ≠ .ok → Answers (.dramRequest write addr data) s (fun t => t = { s with busResp := e })) ∧
  ((s.dramAnswer a n = some .ok ∨ s.dramAnswer a n = none) →
    (∀ q ∈ linePieces (n / 64 + 2) a n, 0 < q.2 ∧ q.1 % 64 + q.2 ≤ 64) ∧ ((linePieces (n / 64 + 2) a n).map (fun q => q.2)).sum = n ∧
    Answers (.dramRequest write addr data) s (fun t =>
      t = (linePieces (n / 64 + 2) a n).foldl (fun u q => u.dramArrive (dramTxn write q.1 q.2 ((bytes.drop (q.1 - a)).take q.2))) s)) ∧
  (0 < n → a % 64 + n ≤ 64 →
    (s.dramAnswer a n = none → Answers (.dramRequest write addr data) s (fun t =>
      t.dram.chs[k].front = s.dram.chs[k].front ++ [dramTxn write a n bytes] ∧ t.dram.chs[k].pdown[dramRank s.ranks2 line] = false ∧ MemSame s t ∧ RegsBut [] s t)) ∧
    (s.dramAnswer a n = some .ok → s.dram.chs[k].front = [] → s.dram.chs[k].slots[sb].length < 24 → Answers (.dramRequest write addr data) s (fun t =>
      t.dram.chs[k].front = [] ∧ t.dram.chs[k].pdown[dramRank s.ranks2 line] = false ∧
      (write = true → BusOk t ∧ t.bytes a n = bytes ∧ MemBut a n s t ∧
        t.dram.chs[k].slots[sb] = s.dram.chs[k].slots[sb].map (fun u => { u with rewritten := u.rewritten || (!u.write && decide (dramLine u.addr = line)) }) ++
          [{ dramTxn true a n bytes with entered := s.now }]) ∧
      (write = false → MemSame s t ∧ RegsBut [] s t ∧ t = { s with dram := t.dram } ∧
        t.dram.chs[k].slots[sb] = s.dram.chs[k].slots[sb].map (fun u => { u with urgent := u.urgent || (u.write && decide (dramLine u.addr = line)) }) ++
          [{ dramTxn false a n [] with entered := s.now, data := BitVec.ofNat 512 (leNat (s.bytes (64 * (a / 64)) 64)), err := s.dram.err.get noErr line }])))) ∧
  (∀ i u, s.pickNext c sub = some (i, u) → d.slots[sub][i]? = some u ∧ slotHeld d.slots[sub] i u = false) ∧
  (∀ u, d.slots[sub] = [u] → u.write = false → u.issued = none → u.rewritten = false → s.dram.err.get noErr (dramLine u.addr) = .none → d.front = [] →
    Answers (.dramReadData c sub .none) s (fun t => t.dram.chs[c].slots[sub] = [] ∧ t.dram.readResp = .ok ∧ t.dram.readData = u.data ∧ MemSame s t ∧ t = { s with dram := t.dram })) ∧
  (∀ u, d.returning sub = some u → u.write = false → dramChan (dramLine u.addr) = c → d.front = [] → Answers (.dramReadData c sub err) s (fun t =>
    let found := if u.rewritten then u.err else s.dram.err.get noErr (dramLine u.addr)
    let e := if found = .none then err else found
    t.dram.chs[c].slots[sub] = d.slots[sub].filter (fun v => decide (v.issued ≠ u.issued)) ∧ MemSame s t ∧
    (e = .none → t.dram.readResp = .ok ∧ t.dram.readData = u.data ∧ RegsBut [] s t ∧ t = { s with dram := t.dram }) ∧
    (∀ w syn, e = .ce w syn → t.dram.readResp = .ok ∧ t.dram.readData = u.data ∧ t.get (DDR_ECC_CNT_CE c) = min (s.get (DDR_ECC_CNT_CE c) + 1) 65535 ∧
      Rose evDDR_CE c s t ∧ t.flag (DDR_STAT_LOG_VALID c) = true ∧ (u.rewritten = false → t.dram.err.get noErr (dramLine u.addr) = .none)) ∧
    (∀ w syn, e = .ue w syn → t.dram.readResp = .errEcc ∧ t.get (DDR_ECC_CNT_UE c) = min (s.get (DDR_ECC_CNT_UE c) + 1) 65535 ∧
      Rose evDDR_UE c s t ∧ t.flag (DDR_STAT_LOG_VALID c) = true ∧ (u.rewritten = false → t.dram.err.get noErr (dramLine u.addr) = e)) ∧
    (u.rewritten = true → t.dram.err = s.dram.err)))

/-- Refresh, power-down, scrubbing and tracking of DRAM (R335 to R338, R341). -/
def DramUpkeep (c rank sub : Fin 2) (need : Fin 3) (osc : BitVec 16) (s : State) : Prop :=
  let d := s.dram.chs[c]
  let rq := ddrRq c
  let others := fun (t : State) => ∀ k ≠ c, t.dram.chs[k] = s.dram.chs[k]
  let onlyDram := fun (t : State) => others t ∧ t.dram.size = s.dram.size ∧ t.dram.err = s.dram.err
  let run := decide (s.get (DDR_STAT_STATE c) ∈ [2, 3, 4]) && (decide (rank = 0) || s.flag (DDR_CFG_RANKS c))
  let free := s.weir.waiting[rq] = none ∧ s.weir.granted[rq] = none
  let fits := fun (mw : Nat) => mw + s.get PWR_RES_BASE_RES_BASE ≤ min (s.get PWR_BUDGET_RAIL_MW) (s.get PWR_BUDGET_THERM_MW)
  let bank := fun (b : Nat) => s.ddrQueued c rank (some b)
  (run = true → Answers (.refreshInterval c rank) s (fun t =>
    t.dram.chs[c].pdown[rank] = false ∧
    ((∀ b : Fin 4, d.debt[rank][b] + 1 < s.get (DDR_REF_REF_POSTPONE c)) → RegsBut [] s t ∧
      (s.dramSpace c = true → d.round[rank] = [] → ∀ b : Fin 4, t.dram.chs[c].debt[rank][b] = (if bank b then d.debt[rank][b] + 1 else d.debt[rank][b])) ∧
      (s.dramSpace c = false → ∀ b : Fin 4, t.dram.chs[c].debt[rank][b] = d.debt[rank][b] + 1)) ∧
    ((∃ b : Fin 4, s.get (DDR_REF_REF_POSTPONE c) ≤ d.debt[rank][b] + 1) →
      (∀ b : Fin 4, t.dram.chs[c].debt[rank][b] = (if bank b || !s.dramSpace c then d.debt[rank][b] else d.debt[rank][b] - 1)) ∧
      t.get (DDR_REF_CNT_REF_FB c) = min (s.get (DDR_REF_CNT_REF_FB c) + 1) 65535 ∧ Rose evDDR_REF_FALLBACK c s t ∧
      (∀ r : Fin 2, ∀ y ∈ t.dram.chs[c].rows[r], y.1 / 32 ≠ rank.val)) ∧
    (∀ r ≠ rank, t.dram.chs[c].debt[r] = d.debt[r]) ∧ onlyDram t ∧ RegsBut [DDR_REF_CNT c] s t ∧ t = { s with regs := t.regs, dram := t.dram, evt := t.evt })) ∧
  (run = true → Answers (.tempPoll c rank need) s (fun t =>
    t.dram.chs[c].halfRef[rank] = decide (need ≠ 0) ∧ (need = 2 → t.flag (DDR_STAT_DDR_HOT c) = true ∧ Rose evDDR_TEMP c s t) ∧ (need ≠ 2 → t = { s with dram := t.dram }) ∧
    onlyDram t ∧ RegsBut [DDR_STAT c] s t ∧ t = { s with regs := t.regs, dram := t.dram, evt := t.evt })) ∧
  Answers (.pdIdleExpiry c rank) s (fun t =>
    (run = true → s.get (DDR_REF_PD_IDLE c) ≠ 0 → s.ddrQueued c rank none = false → t.dram.chs[c] = { d with pdown := t.dram.chs[c].pdown, rows := t.dram.chs[c].rows } ∧
      t.dram.chs[c].pdown[rank] = true ∧ ∀ r : Fin 2, ∀ y, y ∈ t.dram.chs[c].rows[r] ↔ y ∈ d.rows[r] ∧ y.1 / 32 ≠ rank.val) ∧
    (s.get (DDR_REF_PD_IDLE c) = 0 → t = s) ∧ onlyDram t ∧ t = { s with dram := t.dram }) ∧
  (s.flag (DDR_SCRUB_EN c) = true → s.get (DDR_STAT_STATE c) = 3 → d.scrubWait = false → free →
    (fits (s.get (DDR_SCRUB_SCRUB_PWR c)) → Answers (.scrubBurst c) s (fun t =>
      t.dram.chs[c] = { d with scrubWait := true } ∧ onlyDram t ∧
      t.weir.waiting[rq] = some { power := s.get (DDR_SCRUB_SCRUB_PWR c), cls := 2, arrival := s.weir.clk, maxWait := 10000 })) ∧
    (¬ fits (s.get (DDR_SCRUB_SCRUB_PWR c)) → Answers (.scrubBurst c) s (fun t =>
      t.dram.chs[c].scrubLine = d.scrubLine ∧ t.get (DDR_SCRUB_STAT_SCRUB_SKIP c) = min (s.get (DDR_SCRUB_STAT_SCRUB_SKIP c) + 1) 65535 ∧ Rose evWEIR_TIMEOUT rq s t))) ∧
  (s.get (DDR_STAT_STATE c) = 3 → d.slots[sub].length < 24 → Answers (.dqsTracking c sub osc) s (fun t =>
    t.dram.chs[c] = { d with osc := t.dram.chs[c].osc } ∧ t.dram.chs[c].osc[sub] = osc ∧ onlyDram t ∧ t = { s with dram := t.dram }))

/-- R328 to R331, R333, R335 to R341: initialization, which ends a step that runs with FAIL (the model's choice, log 108), and the seven training steps in their order under Weir's leave; an image in their place; ONLINE with its refusals; self-refresh. A request is answered by the channels'
states, split at line boundaries, and waits in front or enters a slot, where a write has its OK and a read promotes the writes of its line; what R330 holds is never picked. Reads return with their ECC errors; an uncorrectable one keeps its line so. Refresh debts grow, are paid bank by bank
(JESD79-5's order as log 109 takes it) and fall back at REF_POSTPONE; power-down closes the rank's rows; scrub bursts ask for leave; tracking passes take a slot. -/
def Obligations.DramChannels : Prop :=
  ∀ (x c rank sub : Fin 2) (pass : Bool) (word : Fin 4096) (value : Word) (write : Bool) (addr : BitVec 40) (data : List Byte) (err : EccErr) (need : Fin 3) (osc : BitVec 16)
    (s : State),
    let d := s.dram.chs[c]
    let rq := ddrRq c
    let others := fun (t : State) => ∀ k ≠ c, t.dram.chs[k] = s.dram.chs[k]
    let onlyDram := fun (t : State) => others t ∧ t.dram.size = s.dram.size ∧ t.dram.err = s.dram.err
    let free := s.weir.waiting[rq] = none ∧ s.weir.granted[rq] = none
    let fits := fun (mw : Nat) => mw + s.get PWR_RES_BASE_RES_BASE ≤ min (s.get PWR_BUDGET_RAIL_MW) (s.get PWR_BUDGET_THERM_MW)
    (s.clocked (.ddr c) = true →
      (s.get (DDR_STAT_STATE c) ≤ 2 → s.flag (DDR_TRAIN_BUSY c) = true → (s.weir.waiting[rq] = none ∨ s.weir.granted[rq] = none) →
        Answers (.ddrInit x c) s (fun t =>
        BusOk t ∧ t.get (DDR_STAT_STATE c) = 1 ∧ t.flag (DDR_TRAIN_BUSY c) = false ∧ t.flag (DDR_TRAIN_DONE c) = true ∧ t.get (DDR_TRAIN_RESULT c) = 1 ∧
        t.dram.chs[c].training = none ∧ (∀ r : Fin 2, t.dram.chs[c].passed[r] = 0) ∧ t.weir.waiting[rq] = none ∧ t.weir.granted[rq] = none)) ∧
      (s.get (DDR_STAT_STATE c) ≤ 2 → s.flag (DDR_TRAIN_BUSY c) = false → Answers (.ddrInit x c) s (fun t =>
        BusOk t ∧ t.get (DDR_STAT_STATE c) = 1 ∧ t.get (DDR_STAT_RESULT c) = 0 ∧ (∀ r : Fin 2, t.dram.chs[c].passed[r] = 0) ∧ t.dram.chs[c].imageOk = false ∧
        onlyDram t ∧ RegsBut [DDR_CTRL c, DDR_STAT c] s t ∧ t = { s with regs := t.regs, dram := t.dram, busResp := t.busResp, busData := t.busData })) ∧
      (∀ is ∈ [(Instr.trainCs x c rank, 1), (.trainCa x c rank, 2), (.trainWl x c rank, 3), (.trainGate x c rank, 4), (.trainRead x c rank, 5), (.trainWrite x c rank, 6),
          (.trainOsc x c rank, 7)],
        (is.2 = d.passed[rank] + 1 → s.get (DDR_STAT_STATE c) = 2 → s.flag (DDR_TRAIN_BUSY c) = false → free → fits (s.get (DDR_WEIR_TRAIN_PWR c)) → Answers is.1 s (fun t =>
          BusOk t ∧ t.get (DDR_TRAIN_STEP c) = is.2 ∧ t.get (DDR_TRAIN_RANK c) = rank.val ∧ t.flag (DDR_TRAIN_BUSY c) = true ∧
          t.dram.chs[c].training = some (is.2, rank.val) ∧ t.dram.chs[c].passed = d.passed ∧
          t.weir.waiting[rq] = some { power := s.get (DDR_WEIR_TRAIN_PWR c), cls := 5, arrival := s.weir.clk, maxWait := 100000 } ∧ onlyDram t)) ∧
        ((is.2 ≠ d.passed[rank] + 1 ∨ s.flag (DDR_TRAIN_BUSY c) = true) → Answers is.1 s (fun t =>
          BusOk t ∧ t.flag (DDR_TRAIN_ORDER c) = true ∧ t.flag (DDR_TRAIN_BUSY c) = s.flag (DDR_TRAIN_BUSY c) ∧ RegsBut [DDR_TRAIN c] s t ∧
          t = { s with regs := t.regs, busResp := t.busResp, busData := t.busData }))) ∧
      (s.get (DDR_STAT_STATE c) = 2 → s.ddrTrained c = true → (c = 0 ∨ s.rd (DDR_CFG 1) = s.rd (DDR_CFG 0)) → Answers (.ddrOnline x c) s (fun t =>
        BusOk t ∧ t.get (DDR_STAT_STATE c) = 3 ∧ t.get (DDR_STAT_RESULT c) = 0 ∧
        (c = 0 → t.dram.size = 2 * (1 + s.get (DDR_CFG_RANKS 0)) * (match s.get (DDR_CFG_DENSITY 0) with | 1 => 24 | 2 => 32 | _ => 16)) ∧
        ((∀ k : Fin 2, s.dram.chs[k].front = []) → MemSame s t))) ∧
      (s.get (DDR_STAT_STATE c) = 2 → (s.ddrTrained c = false ∨ (c = 1 ∧ s.rd (DDR_CFG 1) ≠ s.rd (DDR_CFG 0))) → Answers (.ddrOnline x c) s (fun t =>
        t.get (DDR_STAT_RESULT c) = (if s.ddrTrained c then 2 else 1) ∧ t.get (DDR_STAT_STATE c) = 2 ∧ RegsBut [DDR_CTRL c, DDR_STAT c] s t ∧
        t = { s with regs := t.regs, busResp := t.busResp, busData := t.busData })) ∧
      (s.get (DDR_STAT_STATE c) = 3 → Answers (.ddrSelfRefresh x c) s (fun t =>
        BusOk t ∧ t.get (DDR_STAT_STATE c) = 4 ∧ RegsBut [DDR_CTRL c, DDR_STAT c] s t ∧ t = { s with regs := t.regs, busResp := t.busResp, busData := t.busData }))) ∧
    (s.clocked (.phy c) = true →
      (s.get (DDR_STAT_STATE c) = 2 → Answers (.phyImageWrite x c word value) s (fun t =>
        BusOk t ∧ t.phyWord c word = value ∧ (word.val ≠ 4095 → RegsBut [] s t) ∧
        (word.val = 4095 → let ok := s.phyImageOk c ((List.range 4096).map (fun i => t.phyWord c i))
          ((∃ e ∈ d.complete, e.2 = s.rd (DDR_CFG c) ∧ ∀ i < 4096, t.phyWord c i = Config.phyImageWord e.1 i) → ok = true) ∧ t.dram.chs[c].imageOk = ok ∧ t.get (DDR_STAT_RESULT c) = (if ok then 0 else 3) ∧ RegsBut [DDR_STAT c] s t) ∧ onlyDram t ∧
        t = { s with regs := t.regs, dram := t.dram, busResp := t.busResp, busData := t.busData })) ∧
      (s.get (DDR_STAT_STATE c) ≠ 2 → Answers (.phyImageWrite x c word value) s (fun t => t = { s with busResp := .errUnit, busData := 0 }))) ∧
    (s.get (DDR_STAT_STATE c) = 1 → Answers (.initDone c) s (fun t => t.get (DDR_STAT_STATE c) = 2 ∧ RegsBut [DDR_STAT c] s t ∧ t = { s with regs := t.regs })) ∧
    (∀ step, s.flag (DDR_TRAIN_BUSY c) = true → d.trainLeave = true → d.training = some (step, rank.val) → Answers (.trainDone c pass) s (fun t =>
      t.flag (DDR_TRAIN_BUSY c) = false ∧ t.flag (DDR_TRAIN_DONE c) = true ∧ t.get (DDR_TRAIN_RESULT c) = (if pass then 0 else 1) ∧
      t.dram.chs[c].passed[rank] = (if pass then step else d.passed[rank]) ∧ t.weir.granted[rq] = none ∧ onlyDram t)) ∧
    (s.get (DDR_STAT_STATE c) = 4 → s.boot.dieShut = false → Answers (.selfRefreshEntered c) s (fun t =>
      t.get (DDR_STAT_STATE c) = 5 ∧ (∀ (r : Fin 2) (b : Fin 4), t.dram.chs[c].debt[r][b] = 0) ∧ (∀ r : Fin 2, t.dram.chs[c].slots[r] = [] ∧ t.dram.chs[c].rows[r] = []) ∧
      t.dram.chs[c].front = d.front ∧
      ((∀ r : Fin 2, ∀ u ∈ d.slots[r], u.write = true) → RegsBut [DDR_STAT c] s t ∧ onlyDram t ∧ t = { s with regs := t.regs, dram := t.dram }))) ∧
    DramTransactions c sub write addr data err s ∧ DramUpkeep c rank sub need osc s
/-- R347 to R354, R356, R360 to R366: a register channel starts on an operation, turned away while it runs or a builder holds it, and ends at once on a COUNT of 0 or invalid parameters; FILL, COPY, COMPARE and RESHUFFLE complete with their data, STATUS, RESULT, DONE and event; a late
error, an abort, doorbells. RING0 opens a container for a first slice, writes each slice in place and closes it at the last, and drops or ends early what R362 names; the frame ring takes other frames or drops them; RING1 routes its frame, or ends a descriptor whose length is wrong with PARAM; event
buffers are flushed. -/
def Obligations.DmaTransfers : Prop :=
  ∀ (x : Fin 2) (n : Fin 32) (r : Fin 5) (p : Fin 4) (value : Word) (s : State),
    let count := (s.rd (DMA_CH_COUNT n)).toNat
    let sa := s.addr40 (DMA_CH_SRC_LO n) (DMA_CH_SRC_HI n)
    let da := s.addr40 (DMA_CH_DST_LO n) (DMA_CH_DST_HI n)
    let sram := fun (a k : Nat) => 0x1000000 ≤ a ∧ a + k ≤ 0x1C00000
    let own := s.flag (DMA_CH_CTRL_OWN n)
    let alone := ∀ k : Fin 12, s.sqs[k].fbWait = []
    let ends := fun (t : State) (status : Nat) => t.flag (DMA_CH_CTRL_OWN n) = false ∧ t.get (DMA_CH_CTRL_STATUS n) = status ∧ t.flag (DMA_CH_STAT_DONE n) = true
    let regs := RegsBut [DMA_CH_CTRL n, DMA_CH_RESULT n, DMA_CH_STAT n]
    let saved := fun (u t : State) => RegsBut [MR_SAVE 0] u t ∧ t = { u with regs := t.regs, links := { u.links with ckpt := u.ckptNow } }
    let frame := fun (t : State) => regs s t ∧ t = { s with regs := t.regs, dma := t.dma, mem := t.mem, evt := t.evt }
    (s.clocked .dma = true →
      (∀ io ∈ [(Instr.dmaCopy x n value, 0), (.dmaFill x n value, 1), (.dmaCompare x n value, 2), (.dmaReshuffle x n value, 3)],
        let ok := (io.2 = 0 → ¬ (sa < da + count ∧ da < sa + count)) ∧ (io.2 = 3 → (reshuffleOf (s.rd (DMA_CH_PARAM n))).ok count = true)
        ((own = true ∨ s.dmaReserved n = true) → Answers io.1 s (fun t => t = { s with busResp := .errUnit, busData := 0 })) ∧
        (own = false → s.dmaReserved n = false →
          (count ≠ 0 → ok → Answers io.1 s (fun t =>
            BusOk t ∧ t.flag (DMA_CH_CTRL_OWN n) = true ∧ t.get (DMA_CH_CTRL_OP n) = io.2 ∧ t.dma.chs[n] = { s.dma.chs[n] with fb := none, committed := false } ∧
            RegsBut [DMA_CH_CTRL n] s t ∧ t = { s with regs := t.regs, dma := t.dma, busResp := t.busResp, busData := t.busData })) ∧
          ((count = 0 ∨ ¬ ok) → Answers io.1 s (fun t =>
            BusOk t ∧ ends t (if count = 0 then 0 else 4) ∧ t.rd (DMA_CH_RESULT n) = 0 ∧ MemSame s t ∧ regs s t ∧
            t = { s with regs := t.regs, dma := t.dma, evt := t.evt, busResp := t.busResp, busData := t.busData })))) ∧
      (alone → own = true → Answers (.dmaChAbort x n) s (fun t => BusOk t ∧ ends t 3)) ∧
      (alone → own = false → Answers (.dmaChAbort x n) s (fun t =>
        BusOk t ∧ (s.dma.chs[n].committed = true → t.flag (DMA_CH_STAT_ABORT_LATE n) = true) ∧ (s.dma.chs[n].committed = false → RegsBut [] s t) ∧
        RegsBut [DMA_CH_STAT n] s t ∧ t = { s with regs := t.regs, busResp := t.busResp, busData := t.busData })) ∧
      Answers (.ringDoorbell x r) s (fun t =>
        BusOk t ∧ t.dma.asleep[r] = false ∧ (∀ j ≠ r, t.dma.asleep[j] = s.dma.asleep[j]) ∧ t = { s with dma := { s.dma with asleep := t.dma.asleep }, busResp := .ok, busData := 0 }) ∧
      ((r = 3 → s.get (RING_CFG_FLUSH 3) ≠ 0) → Answers (.ringAbort x r) s (fun t =>
        BusOk t ∧ (r = 0 → s.dma.rx ≠ ([] : List RxCont) → t.flag (RING_CFG_EN 0) = false ∧ t.dma.rx = ([] : List RxCont)) ∧
        (r = 1 → s.txDesc.isSome = true → t.flag (RING_CFG_EN 1) = false ∧ t.dma.txBusy = false) ∧
        (r = 3 → s.dma.ring3.isSome = true → t.flag (RING_CFG_EN 3) = false ∧ t.dma.ring3 = none) ∧
        ((r = 2 ∨ r = 4 ∨ (r = 0 ∧ s.dma.rx = ([] : List RxCont)) ∨ (r = 1 ∧ s.txDesc = none) ∨ (r = 3 ∧ s.dma.ring3 = none)) →
          RegsBut [] s t ∧ t = { s with regs := t.regs, busResp := .ok, busData := 0 })))) ∧
    (alone → s.dma.chs[n].fb = none → own = true →
      (s.get (DMA_CH_CTRL_OP n) = 1 → sram da count → Answers (.dmaComplete n) s (fun t =>
        ends t 0 ∧ (t.rd (DMA_CH_RESULT n)).toNat = count ∧ (∀ i < count, t.byte (da + i) = fillByte (s.rd (DMA_CH_VALUE n)) (da + i)) ∧ MemBut da count s t ∧
        (s.flag (DMA_CH_CTRL_IRQ n) = true → Rose evDMA_DONE n s t) ∧ frame t)) ∧
      (s.get (DMA_CH_CTRL_OP n) = 0 → sram sa count → sram da count → Answers (.dmaComplete n) s (fun t =>
        ends t 0 ∧ (t.rd (DMA_CH_RESULT n)).toNat = count ∧ (∀ i < count, t.byte (da + i) = s.byte (sa + i)) ∧ MemBut da count s t ∧
        (s.flag (DMA_CH_CTRL_IRQ n) = true → Rose evDMA_DONE n s t) ∧ frame t)) ∧
      (s.get (DMA_CH_CTRL_OP n) = 2 → s.flag (DMA_CH_CTRL_CV n) = false → sram sa count → sram da count → Answers (.dmaComplete n) s (fun t =>
        ((∀ i < count, s.byte (sa + i) = s.byte (da + i)) → ends t 0 ∧ (t.rd (DMA_CH_RESULT n)).toNat = count) ∧
        (∀ i < count, (∀ j < i, s.byte (sa + j) = s.byte (da + j)) → s.byte (sa + i) ≠ s.byte (da + i) → ends t 2 ∧ (t.rd (DMA_CH_RESULT n)).toNat = i) ∧
        MemSame s t ∧ frame t)) ∧
      (let w := reshuffleOf (s.rd (DMA_CH_PARAM n))
       let bit := fun (t : State) (a k : Nat) => (t.byte (a + k / 8)).getLsbD (k % 8)
       let elems := count * 8 / w.n
       let bytes := (elems + 7) / 8
       let plane := fun (b : Nat) => if w.pmsb then w.n - 1 - b else b
       let spread := (w.n - 1) * w.pstride + bytes
       let blk := count * 8 / (w.n * w.g)
       s.get (DMA_CH_CTRL_OP n) = 3 → w.ok count = true → sram sa (if w.mode = 1 then spread else count) → sram da (if w.mode = 0 then spread else count) →
        Answers (.dmaComplete n) s (fun t =>
          ends t 0 ∧ (t.rd (DMA_CH_RESULT n)).toNat = (if w.mode = 0 then w.n * bytes else count) ∧
          (w.mode = 0 → (∀ e < elems, ∀ b < w.n, bit t (da + plane b * w.pstride) e = bit s sa (w.n * e + b)) ∧
            (∀ b < w.n, ∀ e, elems ≤ e → e < 8 * bytes → bit t (da + b * w.pstride) e = false) ∧
            ∀ a, (∀ b < w.n, a < da + b * w.pstride ∨ da + b * w.pstride + bytes ≤ a) → t.byte a = s.byte a) ∧
          (w.mode = 1 → (∀ e < elems, ∀ b < w.n, bit t da (w.n * e + b) = bit s (sa + plane b * w.pstride) e) ∧ MemBut da count s t) ∧
          (w.mode = 2 → (∀ j < w.n, ∀ g < blk, ∀ k < w.g,
            bit t da ((g * w.n + j) * w.g + k) = bit s sa ((j * blk + (if w.rev then blk - 1 - g else g)) * w.g + k)) ∧ MemBut da count s t) ∧
          (s.flag (DMA_CH_CTRL_IRQ n) = true → Rose evDMA_DONE n s t) ∧ frame t))) ∧
    (∀ ofs e, s.dma.chs[n].late = some (ofs, e) → Answers (.dmaLateErr n) s (fun t =>
      t.flag (DMA_CH_STAT_LATE_ERR n) = true ∧ t.get (DMA_CH_STAT_LATE_RESP n) = e.code ∧ t.rd (DMA_CH_LATE_OFS n) = BitVec.ofNat 32 ofs ∧ Rose evDMA_LATE_ERR n s t ∧
      RegsBut [DMA_CH_STAT n, DMA_CH_LATE_OFS n] s t ∧ t = { s with regs := t.regs, dma := t.dma, evt := t.evt })) ∧
    ((∀ e ∈ (s.vc p 0).held, e.2.type ≠ 1) → Answers (.dataSlice p) s (fun t => (s.ckptNow = s.links.ckpt → t = s) ∧ saved s t)) ∧
    (∀ k f, (s.vc p 0).held.find? (fun e => e.2.type = 1) = some (k, f) →
      let tag := BitVec.ofNat 32 (leAt f.payload 0 4)
      let data := f.payload.drop 8
      let last := (leAt f.payload 7 1).testBit 0
      let apart := fun (c : RxCont) => sram (c.desc.dst + c.got) data.length ∧ sram c.desc.addr 32 ∧ (c.desc.dst + c.got + data.length ≤ c.desc.addr ∨ c.desc.addr + 32 ≤ c.desc.dst + c.got)
      let written := fun (c : RxCont) (t : State) => (∀ i, (h : i < data.length) → t.byte (c.desc.dst + c.got + i) = data[i]) ∧
        (last = false → t.rxFind f.src tag = some { c with got := c.got + data.length } ∧ MemBut (c.desc.dst + c.got) data.length s t) ∧
        (last = true → t.rxFind f.src tag = none ∧ t.byte (c.desc.addr + 1) = 0 ∧ (t.byte (c.desc.addr + 3)).getLsbD 7 = false ∧
          t.bytes (c.desc.addr + 20) 12 = leBytes 4 c.tag.toNat ++ leBytes 4 (c.src + 0x10000) ++ leBytes 4 (c.got + data.length))
      (leAt f.payload 4 3 = 0 → s.rxFind f.src tag = none → 8 ≤ s.dma.rx.length → Answers (.dataSlice p) s (fun t =>
        t.get (RING_CNT_DROP 0) = min (s.get (RING_CNT_DROP 0) + 1) 65535 ∧ t.dma = s.dma ∧ MemSame s t)) ∧
      (∀ u, leAt f.payload 4 3 = 0 → s.rxFind f.src tag = none → s.dma.rx.length < 8 → s.ringTake 0 = (none, u) → Answers (.dataSlice p) s (fun t =>
        (t.vc p 0).held = (s.vc p 0).held ∧ MemSame s t)) ∧
      (∀ d u, leAt f.payload 4 3 = 0 → s.rxFind f.src tag = none → s.dma.rx.length < 8 → s.ringTake 0 = (some d, u) → data.length ≤ d.count →
        let c : RxCont := { src := f.src, tag := tag, desc := d, got := 0 }
        apart c → Answers (.dataSlice p) s (fun t => t.get (RING_IDX_IDX 0) = (u.get (RING_IDX_IDX 0) + 1) % 65536 ∧ written c t)) ∧
      (∀ c, leAt f.payload 4 3 ≠ 0 → s.rxFind f.src tag = some c → leAt f.payload 4 3 = c.got → c.got + data.length ≤ c.desc.count → apart c →
        Answers (.dataSlice p) s (written c)) ∧
      (leAt f.payload 4 3 ≠ 0 → s.rxFind f.src tag = none → Answers (.dataSlice p) s (fun t =>
        t.get (RING_CNT_DROP 0) = min (s.get (RING_CNT_DROP 0) + 1) 65535 ∧ t.dma = s.dma ∧ MemSame s t)) ∧
      (∀ c, leAt f.payload 4 3 ≠ 0 → s.rxFind f.src tag = some c → leAt f.payload 4 3 ≠ c.got → sram c.desc.addr 32 → Answers (.dataSlice p) s (fun t =>
        t.rxFind f.src tag = none ∧ t.byte (c.desc.addr + 1) = 5 ∧ (t.byte (c.desc.addr + 3)).getLsbD 7 = false ∧ MemBut c.desc.addr 32 s t ∧ Rose evDMA_RX_BAD c.src s t))) ∧
    (∀ f u, s.takeHeld p 1 (fun _ => true) = some (f, u) →
      ((u.flag (RING_CFG_EN 4) = false ∨ u.dma.asleep[(4 : Fin 5)] = true) → Answers (.localFrame p) s (fun t =>
        t.get (RING_CNT_DROP 4) = min (u.get (RING_CNT_DROP 4) + 1) 65535 ∧ Rose evDMA_RX_DROP 0 u t ∧ MemSame s t ∧
        t = { u with regs := t.regs, evt := t.evt, links := { u.links with ckpt := u.ckptNow } })) ∧
      (∀ d v, u.ringTake 4 = (some d, v) → sram d.dst (min f.bytes.length d.count) → sram d.addr 32 → (d.dst + d.count ≤ d.addr ∨ d.addr + 32 ≤ d.dst) →
        Answers (.localFrame p) s (fun t =>
          t.get (RING_IDX_IDX 4) = (v.get (RING_IDX_IDX 4) + 1) % 65536 ∧ t.bytes d.dst (min f.bytes.length d.count) = f.bytes.take d.count ∧
          t.byte (d.addr + 1) = (if d.count < f.bytes.length then 6 else 0) ∧ (t.byte (d.addr + 3)).getLsbD 7 = false ∧
          t.bytes (d.addr + 24) 8 = leBytes 4 (f.src + f.type * 65536) ++ leBytes 4 (min f.bytes.length d.count)))) ∧
    (s.dma.txBusy = true → Answers .egressFrame s (fun t => (s.ckptNow = s.links.ckpt → t = s) ∧ saved s t)) ∧
    (∀ d u, s.dma.txBusy = false → s.ringTake 1 = (some d, u) → sram d.src d.count → sram d.addr 32 →
      let bs := u.bytes d.src d.count
      let f : MFrame := { type := leAt bs 0 1, flags := leAt bs 1 1, dst := leAt bs 4 2 % 4096, src := s.chipId, hops := 0, payload := bs.drop 16 }
      let r : Route := if f.dst = 0 then { here := false, ports := [Fin.ofNat 4 (field d.param 1 0)] } else s.routeOf none f.dst
      let out := s.routeOpen r f.type
      ((d.count < 16 ∨ d.count ≠ 16 + leAt bs 2 2) → Answers .egressFrame s (fun t =>
        t.get (RING_IDX_IDX 1) = (u.get (RING_IDX_IDX 1) + 1) % 65536 ∧ t.byte (d.addr + 1) = 4 ∧ (t.byte (d.addr + 3)).getLsbD 7 = false ∧
        t.get (RING_CNT_ERRS 1) = min (u.get (RING_CNT_ERRS 1) + 1) 65535 ∧ t.links.sess = s.links.sess)) ∧
      (16 ≤ d.count → d.count = 16 + leAt bs 2 2 → r.here = false →
        (out ≠ [] → Answers .egressFrame s (fun t =>
          t.get (RING_IDX_IDX 1) = (u.get (RING_IDX_IDX 1) + 1) % 65536 ∧ t.dma.txBusy = true ∧
          ∀ q ∈ out, (t.vc q (typeVc f.type)).queue.map (fun x => x.frame) = (s.vc q (typeVc f.type)).queue.map (fun x => x.frame) ++ [f])) ∧
        (out = [] → Answers .egressFrame s (fun t =>
          t.get (RING_IDX_IDX 1) = (u.get (RING_IDX_IDX 1) + 1) % 65536 ∧ t.dma.txBusy = false ∧ t.byte (d.addr + 1) = 0 ∧ (t.byte (d.addr + 3)).getLsbD 7 = false)))) ∧
    (∀ b, s.dma.ring3 = some b → b.fill ≠ 0 → s.get (RING_CFG_FLUSH 3) * 800 ≤ s.now - b.tick → b.fill < 2 ^ 32 → sram b.desc.addr 32 → Answers .ring3Flush s (fun t =>
      t.dma.ring3 = none ∧ leNat (t.bytes (b.desc.addr + 28) 4) = b.fill ∧ (t.byte (b.desc.addr + 3)).getLsbD 7 = false ∧ MemBut b.desc.addr 32 s t ∧
      (b.desc.ctrl.getLsbD 29 = true → Rose evDMA_DONE 3 s t) ∧ t = { s with dma := t.dma, mem := t.mem, evt := t.evt })) ∧
    ((∀ b, s.dma.ring3 = some b → b.fill = 0 ∨ s.now - b.tick < s.get (RING_CFG_FLUSH 3) * 800) → Answers .ring3Flush s (fun t => t = s))
/-- R371 to R375, R380 to R387: a Governor step keeps REQ under every cap and below its rise, and drives STOP_N, SLOW_N and the PWM code; SPDREQ carries the step's values; Weir refuses, grants or queues a request, keeps the queue's order, and takes a grant back
only from its requester; Toll adds its windows, counts excesses and raises and drops the head power alarms. -/
def Obligations.GovernorWeirToll : Prop :=
  ∀ (x : Fin 2) (j : Fin 4) (r : Fin 32) (value : Word) (act : BitVec 16) (s : State),
    let old := (s.rd GOV_REQ).toNat
    let step := s.get GOV_DRIVE_ACCEL * 65536 / 100000
    let fw : Fin 32 := ⟨28 + j.val, by omega⟩
    let w := s.weir
    let budget := min (s.get PWR_BUDGET_RAIL_MW) (s.get PWR_BUDGET_THERM_MW)
    let fits := fun (mw : Nat) => mw + s.get PWR_RES_BASE_RES_BASE ≤ budget
    let idle := fun (k : Fin 32) => w.waiting[k] = none ∧ w.granted[k] = none
    let expired := fun (q : WeirReq) => decide (q.maxWait ≠ 0 ∧ q.maxWait * s.aonPerUs ≤ w.clk + 1 - q.arrival)
    let fwCls := if field value 26 24 = 0 then 7 else field value 26 24
    let plan := s.weirRes + s.weirGranted
    let ex := act.toNat - plan
    (s.flag GOV_CTRL_EN = true → Answers .governorStep s (fun t =>
      let req := (t.rd GOV_REQ).toNat
      t.rd GOV_SPEED = BitVec.ofNat 32 s.measured ∧
      (∀ k : Fin 12, s.govCounted k = false → t.rd (GOV_RW k) = 0xFFFFFFFF#32) ∧
      (∀ k : Fin 12, s.govCounted k = true →
        req ≤ ceilRw (t.rd (GOV_RW k)).toNat (s.get GOV_LAT_MARGIN) (s.get GOV_LPITCH_LPITCH) (s.get GOV_LAT_LAT) (s.get GOV_DRIVE_DECEL)) ∧
      (∀ p : Fin 48, s.hpEn p = true → req ≤ s.get (HP_PROFILE_MAXRATE p) * s.get GOV_LPITCH_LPITCH * 65536 / 1000000) ∧
      req ≤ (s.rd GOV_SPDMAX).toNat ∧ req ≤ old + step ∧
      (s.flag GOV_CTRL_FORCE_STOP = true → req = 0 ∧ (t.get GOV_STAT_CAUSE).testBit 6 = true) ∧
      ((∀ k : Fin 12, s.govCounted k = false) → (∀ p : Fin 48, s.hpEn p = false) → (∀ i : Fin 3, s.gov.causes[i].cap = none) → s.flag GOV_CTRL_FORCE_STOP = false →
        s.flag GOV_CTRL_NC_STOP = false → req = min (s.rd GOV_SPDMAX).toNat (old + step) ∧ t.get GOV_STAT_CAUSE = 32 ∧ t.get GOV_STAT_LIMIT_SQ = 15) ∧
      t.flag GOV_STAT_STOP = decide (req = 0) ∧
      t.flag GOV_STAT_SLOW = (decide (req = 0) || decide (req + s.get GOV_SLOW_SLOW_BAND * 65536 < (t.rd GOV_SPEED).toNat)) ∧
      t.gov.pwmCode = (if s.flag GOV_PWM_EN then min 1023 (req * 1024 / (s.get GOV_PWM_FULL * 65536)) else 0) ∧
      RegsBut ([GOV_SPEED, GOV_LINE_HZ, GOV_STAT, GOV_REQ, GOV_LAG] ++ (List.range 12).map GOV_RW) s t ∧ t = { s with regs := t.regs, gov := t.gov, evt := t.evt, free := t.free })) ∧
    (s.flag GOV_CTRL_EN = false → Answers .governorStep s (fun t => t = s) ∧ Answers .spdreq s (fun t => t = s)) ∧
    (s.flag GOV_CTRL_EN = true → Answers .spdreq s (fun t =>
      let q : Fin 4 := if s.hasNet then s.activePort else 2
      (∃ it, (t.vc q (typeVc 2)).queue = (s.vc q (typeVc 2)).queue ++ [it] ∧ it.frame.type = 2 ∧ it.frame.dst = 0xFFE ∧ it.frame.payload.length = 24 ∧
        leAt it.frame.payload 0 4 = 1 ∧ leAt it.frame.payload 4 4 = (s.rd GOV_REQ).toNat ∧ leAt it.frame.payload 8 4 = (s.rd GOV_SPEED).toNat ∧
        leAt it.frame.payload 16 2 = s.gov.spdSeq.toNat ∧ leAt it.frame.payload 19 1 = s.get GOV_STAT_CAUSE) ∧
      t.gov = { s.gov with spdSeq := s.gov.spdSeq + 1 } ∧ MemSame s t ∧ RegsBut [MR_SAVE 0] s t)) ∧
    (s.get GOV_LPITCH_LPITCH = 0 → Answers (.govEnable x value) s (fun t => t = { s with busResp := .errUnit, busData := 0 })) ∧
    (s.get GOV_LPITCH_LPITCH ≠ 0 → Answers (.govEnable x value) s (fun t =>
      BusOk t ∧ t.rd GOV_CTRL = (value &&& 0x60003FFF#32) ||| 0x80000000#32 ∧ (s.flag GOV_CTRL_EN = true → RegsBut [GOV_CTRL] s t ∧ t.gov = s.gov) ∧
      (s.flag GOV_CTRL_EN = false → t.rd GOV_REQ = 0 ∧ t.gov.env = t.measured ∧ t.gov.spdSeq = 0 ∧ t.flag GOV_STAT_STOP = true ∧ t.flag GOV_STAT_SLOW = true) ∧
      RegsBut [GOV_CTRL, GOV_REQ, GOV_SPEED, GOV_STAT] s t ∧ t = { s with regs := t.regs, gov := t.gov, busResp := t.busResp, busData := t.busData })) ∧
    ((¬ idle r ∨ s.weirParams r = none) → Answers (.weirRequest r) s (fun t => t = s)) ∧
    (∀ cls mw most, idle r → s.weirParams r = some (cls, mw, most) →
      (fits mw → cls ≠ 1 → Answers (.weirRequest r) s (fun t =>
        t.weir = { w with waiting := t.weir.waiting } ∧ t.weir.waiting[r] = some { power := mw, cls := cls, arrival := w.clk, maxWait := most } ∧ (∀ k ≠ r, t.weir.waiting[k] = w.waiting[k]) ∧
        t.get (PWR_RQ_STAT_STATE r) = 1 ∧ RegsBut [PWR_RQ_STAT r, PWR_WSTAT, PWR_WFLAG] s t ∧ t = { s with regs := t.regs, weir := t.weir, evt := t.evt })) ∧
      (fits mw → cls = 1 → 26 ≤ r.val → Answers (.weirRequest r) s (fun t =>
        t.weir.granted[r] = some mw ∧ (∀ k ≠ r, t.weir.granted[k] = w.granted[k]) ∧ t.get (PWR_RQ_STAT_STATE r) = 2 ∧ t = { s with regs := t.regs, weir := t.weir, evt := t.evt })) ∧
      (¬ fits mw → 26 ≤ r.val → Answers (.weirRequest r) s (fun t =>
        t.weir = w ∧ t.get (PWR_RQ_STAT_STATE r) = 0 ∧ t.get (PWR_RQ_STAT_RESULT r) = 2 ∧ t.flag PWR_WFLAG_TOO_BIG_SEEN = true ∧ Rose evWEIR_TIMEOUT r s t ∧
        t = { s with regs := t.regs, weir := t.weir, evt := t.evt }))) ∧
    (∀ q, w.waiting[fw] = some q → (∀ k ≠ fw, w.waiting[k] = none) →
      (expired q = true → Answers .weirDecision s (fun t =>
        t.weir.clk = w.clk + 1 ∧ t.weir.waiting[fw] = none ∧ t.weir.granted = w.granted ∧ t.get (PWR_RQ_STAT_RESULT fw) = 1 ∧ t.flag PWR_WFLAG_TIMEOUT_SEEN = true ∧ Rose evWEIR_TIMEOUT fw s t)) ∧
      (expired q = false → plan + q.power ≤ budget → Answers .weirDecision s (fun t =>
        t.weir.waiting[fw] = none ∧ t.weir.granted[fw] = some q.power ∧ (∀ k ≠ fw, t.weir.granted[k] = w.granted[k]) ∧ t.get (PWR_RQ_STAT_STATE fw) = 2))) ∧
    (∀ q, s.weirHead = some (r, q) → (∀ (k : Fin 32) (u : WeirReq), w.waiting[k] = some u → expired u = false) → budget < plan + q.power → Answers .weirDecision s (fun t =>
      t.weir = { w with clk := w.clk + 1 } ∧ RegsBut [PWR_WSTAT, PWR_WFLAG] s t ∧ t = { s with regs := t.regs, weir := t.weir, scs := t.scs, evt := t.evt })) ∧
    Answers (.weirRelease r) s (fun t =>
      (w.granted[r] ≠ none → t.weir.granted[r] = none ∧ t.weir.waiting = w.waiting ∧ t.get (PWR_RQ_STAT_STATE r) = 0 ∧ t.get (PWR_RQ_STAT_GRANT r) = 0) ∧
      (w.granted[r] = none → w.waiting[r] ≠ none → t.weir.waiting[r] = none ∧ t.weir.granted = w.granted ∧ t.get (PWR_RQ_STAT_STATE r) = 0 ∧ t.get (PWR_RQ_STAT_RESULT r) = 3) ∧
      (idle r → t = s) ∧ (∀ k ≠ r, t.weir.granted[k] = w.granted[k] ∧ t.weir.waiting[k] = w.waiting[k]) ∧ RegsBut [PWR_RQ_STAT r, PWR_WSTAT, PWR_WFLAG] s t ∧
      t = { s with regs := t.regs, weir := t.weir, evt := t.evt }) ∧
    (idle fw → fits (field value 15 0) → Answers (.fwReq x j value) s (fun t =>
      BusOk t ∧ (fwCls ≠ 1 → t.weir.waiting[fw] = some { power := field value 15 0, cls := fwCls, arrival := w.clk, maxWait := s.get (PWR_FW_WAIT_MAXWAIT j) }) ∧
      (fwCls = 1 → t.weir.granted[fw] = some (field value 15 0)) ∧ t.get (PWR_FW_REQ_CLASS j) = fwCls ∧ t.get (PWR_FW_REQ_PWR j) = field value 15 0)) ∧
    (¬ idle fw → Answers (.fwReq x j value) s (fun t => BusOk t ∧ t.weir = w)) ∧
    Answers (.fwRel x j value) s (fun t => BusOk t ∧ t.weir.granted[fw] = none ∧ (w.granted[fw] = none → t.weir.waiting[fw] = none) ∧
      (∀ k ≠ fw, t.weir.granted[k] = w.granted[k] ∧ t.weir.waiting[k] = w.waiting[k])) ∧
    Answers (.fwDurExpiry j) s (fun t =>
      let due := w.granted[fw].isSome && decide (s.get (PWR_FW_WAIT_DUR j) ≠ 0 ∧ s.get (PWR_FW_WAIT_DUR j) * s.aonPerUs ≤ w.clk - w.since[fw])
      (due = true → t.weir.granted[fw] = none ∧ t.get (PWR_RQ_STAT_STATE fw) = 0) ∧ (due = false → t = s)) ∧
    Answers (.tollWindow act) s (fun t =>
      t.rd64 PWR_TOLL_PLAN_LO PWR_TOLL_PLAN_HI = s.rd64 PWR_TOLL_PLAN_LO PWR_TOLL_PLAN_HI + BitVec.ofNat 64 (10 * plan) ∧
      t.rd64 PWR_TOLL_ACT_LO PWR_TOLL_ACT_HI = s.rd64 PWR_TOLL_ACT_LO PWR_TOLL_ACT_HI + BitVec.ofNat 64 (10 * act.toNat) ∧ t.get PWR_TOLL_WIN_ACT = act.toNat ∧
      (ex ≤ s.get PWR_TOLL_CFG_TOL → t.toll.streak = 0 ∧ t.rd PWR_TOLL_EXC = s.rd PWR_TOLL_EXC) ∧
      (s.get PWR_TOLL_CFG_TOL < ex → t.toll.streak = s.toll.streak + 1 ∧
        (s.toll.streak + 1 = s.get PWR_TOLL_CFG_N → t.get PWR_TOLL_EXC_EXC_CNT = min (s.get PWR_TOLL_EXC_EXC_CNT + 1) 65535 ∧ Rose evTOLL_EXCESS 0 s t ∧
          t.get PWR_TOLL_EXC_MAX_EX = max (s.get PWR_TOLL_EXC_MAX_EX) ex)) ∧ t.weir = w ∧
      RegsBut [PWR_TOLL_WIN, PWR_TOLL_PLAN_LO, PWR_TOLL_PLAN_HI, PWR_TOLL_ACT_LO, PWR_TOLL_ACT_HI, PWR_TOLL_EXC] s t ∧ t = { s with regs := t.regs, toll := t.toll, evt := t.evt }) ∧
    Answers .headPowerWindow s (fun t =>
      (∀ g : Fin 8, let p := s.toll.window[g] / 16 / (s.get PWR_HP_CFG_WIN * 1000)
        let lim := (s.rd (PWR_HE_LIM g)).toNat
        t.toll.window[g] = 0 ∧ (t.rd (PWR_HE_PWR g)).toNat = min p 0xFFFFFFFF ∧
        (s.bit PWR_HP_STAT g = false → lim ≠ 0 → lim < p → t.bit PWR_HP_STAT g = true ∧ t.bit PWR_HP_STAT (8 + g.val) = true ∧ Rose evHEAD_POWER g s t ∧
          t.gov.causes[(1 : Fin 3)].cap.isSome = true) ∧
        (s.bit PWR_HP_STAT g = true → t.bit PWR_HP_STAT g = decide (lim * 7 / 8 < p))) ∧
      RegsBut (PWR_HP_STAT :: (List.range 8).map PWR_HE_PWR) s t ∧ t = { s with regs := t.regs, gov := t.gov, toll := t.toll, evt := t.evt })
/-- R388, R389, R391 to R396, R411 to R415, R447: a power-on reset or brown-out leaves every state at its reset value but OTP, NVES and the balls; start-up latches the straps, accepts REFCLK and releases SC0; a warm reset keeps time and starts the cores afresh; the
reference and PLL monitors, locks, island switches and the refusals of CLK_EN. -/
def Obligations.ResetsAndClocks : Prop :=
  ∀ (x : Fin 2) (balls : BitVec 18) (value : Word) (count : BitVec 9) (absent stuckSw : Bool) (i : Fin 10) (n : BitVec 16) (stuck : BitVec 5) (w : Fin 3) (s : State),
    let b := s.boot
    let por := fun (t : State) (boot : Boot) =>
      (∀ a ≠ FSCH_STAT, t.rd a = State.reset.rd a) ∧ t.fsch.inhBall = s.fsch.inhBall ∧ (∀ p : Fin 48, t.hps[p].fltPin = s.hps[p].fltPin) ∧
      t = { State.reset with regs := t.regs, pending := s.pending, free := s.free, otp := s.otp, nves := { s.nves with queue := [] }, boot := boot, fsch := t.fsch, pos := t.pos, hps := t.hps }
    let straps := fun (t : State) => t.get SYS_STRAP_OSC_DLY = balls.toNat % 8 ∧ t.get SYS_STRAP_BOOT_SRC = balls.toNat / 8 % 4 ∧ t.get SYS_STRAP_ID = balls.toNat / 64 ∧
      t.flag SYS_STRAP_ID_FIX = balls.getLsbD 5 ∧ t.boot.refOe = true ∧ t.fan.running = true ∧ RegsBut [SYS_STRAP] s t
    let dark := fun (t : State) => ∀ p : Fin 48, t.flag (HP_STAT_PERMIT p) = false
    let lock := if i.val < 6 then s.bit (PLL_CTRL i) 30 else s.bit (LPLL_MON (i.val - 6)) 29
    let on := if i.val < 6 then s.flag (PLL_CTRL_EN i) else s.flag (PX_CTRL_EN (i.val - 6))
    let en := CLK_EN0 + 4 * w.val
    let refOk := s.flag CLK_STAT_REF_OK
    let good := 288 ≤ count.toNat ∧ count.toNat ≤ 368
    Answers .porAssert s (fun t => por t { State.reset.boot with porLow := true, brownOut := b.brownOut }) ∧
    Answers .brownOut s (fun t => por t { State.reset.boot with porLow := b.porLow, brownOut := true }) ∧
    Answers (.porRelease balls) s (fun t => t.boot.porLow = false ∧ (b.porLow = false → t = s) ∧ (b.porLow = true → b.brownOut = false → straps t) ∧
      (b.porLow = true → b.brownOut = true → t = { s with boot := { b with porLow := false } })) ∧
    Answers (.brownOutRelease balls) s (fun t => t.boot.brownOut = false ∧ (b.brownOut = false → t = s) ∧ (b.brownOut = true → b.porLow = false → straps t) ∧
      (b.brownOut = true → b.porLow = true → t = { s with boot := { b with brownOut := false } })) ∧
    Answers .oscDlyExpiry s (fun t =>
      (b.refOe = true → b.oscDone = false → t = { s with boot := { b with oscDone := true }, clk := { s.clk with accepting := true } }) ∧
      ((b.refOe = false ∨ b.oscDone = true) → t = s)) ∧
    (s.clk.accepting = false → Answers (.refAcceptCount count) s (fun t => t = s)) ∧
    (s.clk.accepting = true → Answers (.refAcceptCount count) s (fun t =>
      t.get CLK_REF_MON_RC_COUNT = count.toNat ∧
      (good → t.flag CLK_STAT_REF_OK = true ∧ t.flag CLK_STAT_ON_RC = false ∧ t.flag (PLL_CTRL_EN 0) = true ∧ t.flag (PLL_CTRL_EN 1) = true ∧ t.clk = { s.clk with accepting := false }) ∧
      (¬ good → t.flag CLK_STAT_REF_BAD = true ∧ t.flag CLK_STAT_REF_OK = refOk ∧ t.clk = s.clk) ∧
      RegsBut [CLK_REF_MON, CLK_STAT, PLL_CTRL 0, PLL_CTRL 1] s t ∧ t = { s with regs := t.regs, clk := t.clk })) ∧
    Answers .sc0Release s (fun t =>
      (s.startReady = true → b.scReleased = false → t.boot = { b with scReleased := true, thermTrip := false } ∧
        (s.scs[(0 : Fin 2)].running = false → s.flag SYS_RST_SC0_RST = false → s.flag CLK_EN0_SC0 = true →
          t.scs[(0 : Fin 2)].running = true ∧ t.scs[(0 : Fin 2)].core.pc = s.rd (SYS_SC_ENTRY 0) &&& 0xFFFFFFFC#32 ∧ t.scs[(0 : Fin 2)].rtEn = false)) ∧
      ((s.startReady = false ∨ b.scReleased = true) → t = s)) ∧
    Answers .wrstNAssert s (fun t => (b.refOe = true → t.flag SYS_RST_CAUSE_PIN = true ∧ dark t ∧ t.boot.warm = true) ∧ (b.refOe = false → t = s)) ∧
    Answers .warmResetRelease s (fun t => (b.warm = false → t = s) ∧
      (b.warm = true → t.boot.warm = false ∧ t.tbc = s.tbc ∧ t.tbRuns = s.tbRuns ∧ t.offset = s.offset ∧ t.pos = s.pos ∧ t.axes = s.axes ∧ t.otp = s.otp ∧ t.sqs = State.reset.sqs ∧
        t.scs[(1 : Fin 2)].running = false ∧ t.rd (SYS_SC_ENTRY 0) = 0 ∧ t.flag SEC_STAT_DBG_UNLOCKED = s.flag SEC_STAT_DBG_UNLOCKED ∧ (b.dieShut = true → t.boot.shutdown = false) ∧
        (Table.wf resetWord s.regs = true → Memory.wf s.mem = true → t.rd TIME_RATE = s.rd TIME_RATE ∧ (∀ a < 0x1000000000, t.byte a = s.byte a) ∧
          (b.dieShut = true → t.flag SYS_RST_CAUSE_SHUTDOWN = true)))) ∧
    Answers (.coreReset x value) s (fun t =>
      (value.getLsbD x ≠ s.bit SYS_RST x → t = { s with busResp := .errUnit, busData := 0 }) ∧
      (value.getLsbD x = s.bit SYS_RST x → BusOk t ∧ t.rd SYS_RST = value &&& 3#32 ∧
        (∀ k : Fin 2, value.getLsbD k = true → s.bit SYS_RST k = false → t.scs[k] = Sup.reset ∧ t.evt.queues[k] = ([] : List EventRec)) ∧
        (∀ k : Fin 2, value.getLsbD k = false → s.scs[k].running = false → s.bit CLK_EN0 (1 + k.val) = true → (k = 0 → b.scReleased = true) →
          t.scs[k].running = true ∧ t.scs[k].core.pc = s.rd (SYS_SC_ENTRY k) &&& 0xFFFFFFFC#32) ∧
        RegsBut [SYS_RST] s t ∧ t = { s with regs := t.regs, scs := t.scs, evt := t.evt, busResp := .ok, busData := 0 })) ∧
    Answers (.refMonCount count absent) s (fun t =>
      (refOk = false → t = s) ∧ (refOk = true → t.get CLK_REF_MON_RC_COUNT = count.toNat) ∧
      (refOk = true → absent = false → good → RegsBut [CLK_REF_MON] s t ∧ t = { s with regs := t.regs }) ∧
      (refOk = true → (absent = true ∨ ¬ good) → t.flag CLK_STAT_REF_OK = false ∧ t.flag CLK_STAT_ON_RC = true ∧ t.flag CLK_STAT_REF_FAIL = true ∧ Rose evCLK_REF_FAIL 0 s t ∧ dark t ∧
        (absent = true → t.flag CLK_STAT_CLKSW_FORCED = true))) ∧
    Answers (.refRetry x) s (fun t => BusOk t ∧ (b.oscDone = true → refOk = false → t.clk.accepting = true) ∧ ((b.oscDone = false ∨ refOk = true) → t.clk = s.clk) ∧
      RegsBut [] s t ∧ t = { s with regs := t.regs, clk := t.clk, busResp := .ok, busData := 0 }) ∧
    (on = true → lock = false → Answers (.pllLock i stuckSw) s (fun t =>
      (i.val < 6 → t.bit (PLL_CTRL i) 30 = true) ∧ (6 ≤ i.val → t.bit (LPLL_MON (i.val - 6)) 29 = true) ∧ (i = 0 → t.tbRuns = true) ∧ (i ≠ 0 → t.tbRuns = s.tbRuns) ∧
      (∀ k : Fin 5, i.val = k.val + 1 → s.bit CLK_SEL k = false → t.clk.onPll.getLsbD k = true))) ∧
    ((on = false ∨ lock = true) → Answers (.pllLock i stuckSw) s (fun t => t = s)) ∧
    (lock = true → Answers (.pllUnlock i) s (fun t =>
      (i.val < 6 → t.bit (PLL_CTRL i) 30 = false ∧ t.bit (PLL_MON i) 30 = true) ∧ (6 ≤ i.val → t.bit (LPLL_MON (i.val - 6)) 29 = false ∧ t.bit (LPLL_MON (i.val - 6)) 30 = true) ∧
      (i = 0 → t.flag CLK_STAT_TB_FAIL = true ∧ Rose evCLK_TB_FAIL 0 s t ∧ dark t) ∧ (i = 5 → dark t) ∧ t.tbRuns = s.tbRuns)) ∧
    (lock = false → Answers (.pllUnlock i) s (fun t => t = s)) ∧
    (on = true → refOk = true → Answers (.pllMonCount i n) s (fun t =>
      (s.pllCountOk i n.toNat = true → t.rd (pllMon i) = withField (s.rd (pllMon i)) 15 0 n.toNat ∧ RegsBut [pllMon i] s t ∧ t = { s with regs := t.regs }) ∧
      (s.pllCountOk i n.toNat = false → t.bit (pllMon i) 31 = true ∧ Rose evCLK_MON_ERR i s t ∧ (i = 0 → t.flag CLK_STAT_TB_FAIL = true ∧ dark t) ∧ (i = 5 → dark t)) ∧
      (i = 0 → s.pllCountOk i n.toNat = decide (8190 ≤ n.toNat ∧ n.toNat ≤ 8194)))) ∧
    ((on = false ∨ refOk = false) → Answers (.pllMonCount i n) s (fun t => t = s)) ∧
    Answers (.clockSwitch x value stuck) s (fun t =>
      BusOk t ∧ t.rd CLK_SEL = value &&& 0x1F#32 ∧
      (∀ k : Fin 5, (value.getLsbD k = true → t.clk.onPll.getLsbD k = false) ∧
        (value.getLsbD k = false → s.flag (PLL_CTRL_EN (k.val + 1)) = true → s.flag (PLL_CTRL_LOCK (k.val + 1)) = true → t.clk.onPll.getLsbD k = true) ∧
        (value.getLsbD k = false → s.flag (PLL_CTRL_LOCK (k.val + 1)) = false → t.clk.onPll.getLsbD k = s.clk.onPll.getLsbD k)) ∧
      (stuck = 0 → t.evt = s.evt ∧ RegsBut [CLK_SEL] s t) ∧ t = { s with regs := t.regs, clk := t.clk, evt := t.evt, busResp := .ok, busData := 0 }) ∧
    Answers (.clkEnWrite x w value) s (fun t =>
      let held := ∃ k < 32, s.bit en k = true ∧ (value &&& clkEnMask w).getLsbD k = false ∧ s.gateHeld (some x) w k = true
      (held → t = { s with busResp := .errUnit, busData := 0 }) ∧
      (¬ held → BusOk t ∧ t.rd en = value &&& clkEnMask w ∧ RegsBut [en] s t ∧ t = { s with regs := t.regs, scs := t.scs, busResp := .ok, busData := 0 }) ∧
      (∀ k : Fin 12, w = 1 → (s.sqs[k].st = .run ∨ s.sqs[k].st = .parked) → s.bit CLK_EN1 k = true → value.getLsbD k = false → held))
/-- R397, R399, R401 to R404, R406 to R410: a sample sets the reading and the level, LIMIT marks and withdraws its port or every port, CRIT latches or shuts the die down; a CRIT latch clears only on a cool port; a Tentering run asks leave, derives the tap delays,
commits or is discarded; a port deskew. -/
def Obligations.ThermalAndTentering : Prop :=
  ∀ (x : Fin 2) (i : Fin 64) (p : Fin 48) (reading : BitVec 12) (rings : Vector (Nat × Nat) 12) (deskew : Vector (BitVec 25) 48) (port : BitVec 6) (taps : BitVec 25)
    (s : State),
    let r : Int := reading.toInt
    let old := s.level i
    let cool := fun (k : Nat) (old : Nat) (v : Int) =>
      if old = 3 ∨ s.thmAt k 23 16 ≤ v ∨ (48 ≤ k ∧ 2000 ≤ v) then 3
      else if s.thmAt k 15 8 ≤ v ∨ (old = 2 ∧ s.thmAt k 31 24 < v) then 2 else if s.thmAt k 7 0 ≤ v then 1 else 0
    let idle25 := s.weir.waiting[(25 : Fin 32)] = none ∧ s.weir.granted[(25 : Fin 32)] = none
    let fits := s.get (PWR_RQ_CFG_PWR 25) + s.get PWR_RES_BASE_RES_BASE ≤ min (s.get PWR_BUDGET_RAIL_MW) (s.get PWR_BUDGET_THERM_MW)
    let asks := fun (t : State) => t.cal.phase = .weir ∧ t.flag CAL_STATUS_PENDING = false ∧ t.flag CAL_STATUS_BUSY = true ∧
      t.weir.waiting[(25 : Fin 32)] = some { power := s.get (PWR_RQ_CFG_PWR 25), cls := 3, arrival := s.weir.clk, maxWait := s.get (PWR_RQ_CFG_MAXWAIT 25) }
    let skips := fun (t : State) => t.cal.phase = .idle ∧ t.flag CAL_STATUS_PENDING = true ∧ t.flag CAL_STATUS_SKIPPED = true ∧ Rose evTENTER_SKIP 0 s t
    let discarded := fun (t : State) (cause : Nat) => t.cal.phase = .idle ∧ t.get CAL_STATUS_RESULT = cause ∧ t.flag CAL_STATUS_DISCARDED = true ∧ t.flag CAL_STATUS_PENDING = true ∧
      t.flag CAL_STATUS_STALE = false ∧ (∀ q : Fin 48, t.flag (FSCH_P_STAT_STALE q) = false ∧ t.rd (CAL_P_TAB0 q) = s.rd (CAL_P_TAB0 q)) ∧ Rose evTENTER_DISCARD 0 s t
    (48 ≤ i.val → Answers (.thermalSample i reading) s (fun t =>
      t.get (TS_READ_TEMP (i.val - 48)) = reading.toNat ∧ t.flag (TS_READ_VALID (i.val - 48)) = true ∧ (s.thm[i].slopes r = [] → t.level i = cool i old r) ∧
      (t.level i ≠ old → Rose evTHM_LEVEL i s t) ∧ (2000 ≤ r → t.boot.thermTrip = true) ∧
      (t.level i ≠ old → 2 ≤ t.level i → ∀ q : Fin 48, t.flag (FSCH_P_STAT_THERMAL q) = true ∧ t.flag (HP_STAT_PERMIT q) = false) ∧
      (old ≠ 3 → t.level i = 3 → s.boot.dieShut = false → t.boot.dieShut = true ∧ t.flag FSCH_STAT_CRIT_ALL = true ∧
        (∃ e ∈ t.nves.queue, e.type = evNVES_SHUTDOWN ∧ e.source = i.val ∧ e.ackReq = true)))) ∧
    (i.val = p.val → Answers (.thermalSample i reading) s (fun t =>
      ((s.eligible p = false ∨ s.thm[i].reading = none) → t = s) ∧
      (∀ v, s.eligible p = true → s.thm[i].reading = some v →
        t.get (HT_READ_TEMP p) = wrap 12 v ∧ t.flag (HT_READ_VALID p) = true ∧
        (s.thm[i].slopes v = [] → t.level i = (if s.flag (HP_STAT_ST_LOST p) then max 2 (cool i old v) else cool i old v)) ∧ (t.level i ≠ old → Rose evTHM_LEVEL i s t) ∧
        (t.level i ≠ old → 2 ≤ t.level i → t.flag (FSCH_P_STAT_THERMAL p) = true ∧ t.flag (HP_STAT_PERMIT p) = false) ∧ (old ≠ 3 → t.level i = 3 → t.hcrit p = true)))) ∧
    Answers .thermTripTimeout s (fun t => (s.boot.dieShut = true → t = { s with boot := { s.boot with thermTrip := true } }) ∧ (s.boot.dieShut = false → t = s)) ∧
    Answers (.hcritClear x p) s (fun t =>
      BusOk t ∧ (s.hcrit p = false → t = { s with busResp := .ok, busData := 0 }) ∧
      (s.hcrit p = true → s.eligible p = false → t.hcrit p = false ∧ t.flag (FSCH_P_STAT_CRIT p) = false) ∧
      (∀ v, s.hcrit p = true → s.eligible p = true → s.thm[p.val].reading = some v → s.thm[p.val].slopes v = [] →
        (v ≤ s.thmAt p 31 24 → v < s.thmAt p 23 16 → t.hcrit p = false ∧ t.flag (FSCH_P_STAT_CRIT p) = false) ∧
        (s.thmAt p 31 24 < v → t.hcrit p = true ∧ t.flag THM_STAT_HCLR_REFUSED = true ∧ RegsBut [THM_STAT] s t)) ∧
      (∀ q ≠ p, t.hcrit q = s.hcrit q)) ∧
    (s.cal.phase ≠ .idle → Answers (.calRun x) s (fun t =>
      BusOk t ∧ t.flag CAL_STATUS_CMD_IGNORED = true ∧ RegsBut [CAL_STATUS] s t ∧ t = { s with regs := t.regs, free := t.free, busResp := .ok, busData := 0 })) ∧
    (s.cal.phase = .idle → idle25 → fits → Answers (.calRun x) s (fun t => BusOk t ∧ asks t)) ∧
    (s.cal.phase = .idle → idle25 → ¬ fits → Answers (.calRun x) s (fun t => BusOk t ∧ skips t)) ∧
    (s.flag CAL_STATUS_PENDING = true → s.cal.phase = .idle → idle25 → fits → Answers .calRetryExpiry s asks) ∧
    (s.flag CAL_STATUS_PENDING = true → s.cal.phase = .idle → idle25 → ¬ fits → Answers .calRetryExpiry s skips) ∧
    ((s.flag CAL_STATUS_PENDING = false ∨ s.cal.phase ≠ .idle) → Answers .calRetryExpiry s (fun t => t = s)) ∧
    (s.cal.phase ≠ .measuring → Answers (.tenterTablesComplete rings deskew) s (fun t => t = s)) ∧
    (s.cal.phase = .measuring →
      ((∀ k : Fin 12, tapOk (tapDelay rings[k].1 rings[k].2) = true) → Answers (.tenterTablesComplete rings deskew) s (fun t =>
        (∀ k : Fin 12, t.get (CAL_D_D k) = tapDelay rings[k].1 rings[k].2) ∧ t.rd CAL_COMMIT_PAGE = s.refLine.1 ∧
        t.rd CAL_COMMIT_LINE = s.refLine.2 + BitVec.ofNat 32 (s.get CAL_CTRL_CAL_LEAD) ∧
        (∀ q : Fin 48, s.portPageOpen q = false → t.get (CAL_P_DESKEW_TAPS q) = (deskew[q]).toNat ∧
          t.rd (CAL_P_TAB0 q) = tapWord (tapDelay (rings[q.val / 4]'(by omega)).1 (rings[q.val / 4]'(by omega)).2) 0))) ∧
      ((∃ k : Fin 12, tapOk (tapDelay rings[k].1 rings[k].2) = false) → Answers (.tenterTablesComplete rings deskew) s (fun t => discarded t 2)) ∧
      (s.get CAL_TIME_CAL_TIMEOUT * 800 ≤ s.now - s.cal.granted → Answers .calTimeout s (fun t => discarded t 3))) ∧
    ((s.cal.phase ≠ .measuring ∨ s.now - s.cal.granted < s.get CAL_TIME_CAL_TIMEOUT * 800) → Answers .calTimeout s (fun t => t = s)) ∧
    (∀ h : port.toNat < 48,
      let q : Fin 48 := ⟨port.toNat, h⟩
      ((s.cal.phase ≠ .idle ∨ (s.retired q = false ∧ s.hpEn q = true)) → Answers (.portDeskew x port taps) s (fun t =>
        BusOk t ∧ t.get CAL_STATUS_RESULT = 1 ∧ RegsBut [CAL_STATUS] s t ∧ t = { s with regs := t.regs, busResp := .ok, busData := 0 })) ∧
      (s.cal.phase = .idle → (s.retired q = true ∨ s.hpEn q = false) → Answers (.portDeskew x port taps) s (fun t =>
        BusOk t ∧ t.get CAL_STATUS_RESULT = 0 ∧ t.flag (CAL_P_DESKEW_DESKEWED q) = true ∧ t.get (CAL_P_DESKEW_TAPS q) = taps.toNat ∧ t.hps[q].deskewed = true ∧
        t.rd (CAL_P_TAB0 q) = tapWord (s.get (CAL_D_D (q.val / 4))) 0 ∧ t.rd (CAL_P_TAB3 q) = tapWord (s.get (CAL_D_D (q.val / 4))) 3 ∧
        RegsBut [CAL_STATUS, CAL_P_DESKEW q, CAL_P_TAB0 q, CAL_P_TAB1 q, CAL_P_TAB2 q, CAL_P_TAB3 q] s t ∧
        t = { s with regs := t.regs, hps := t.hps, busResp := .ok, busData := 0 })))
/-- R417 to R423: a mailbox command is refused while BUSY and else taken; PERMIT grants exactly the named ports that no row of R419 stops, WITHDRAW takes permission, ACK and LOG queue a record or answer NOT_FOUND or RANGE, WARM_RESET needs its word; MBX_DONE answers the
issuing core; a record is written at NEXT, spends a token or is suppressed; the scan at power-on. -/
def Obligations.MailboxAndNves : Prop :=
  ∀ (x : Fin 2) (s : State),
    let busy := s.flag MBX_STAT_BUSY
    let arg := fun (k : Nat) => s.rd (MBX_ARG k)
    let named := fun (p : Fin 48) => if p.val < 32 then (arg 0).getLsbD p else (arg 1).getLsbD (p.val - 32)
    let permit := fun (t : State) (p : Fin 48) => t.flag (HP_STAT_PERMIT p)
    let taken := fun (t : State) (op : Nat) => BusOk t ∧ t.flag MBX_STAT_BUSY = true ∧ t.get MBX_STAT_OWNER = x.val ∧ t.get MBX_STAT_LAST_OP = op
    let answer := fun (t : State) (res : Nat) => ∃ a, t.mbx.ans = some a ∧ a.result = res
    let slot := field (arg 0) 8 0
    let held := nvesHeld s.nves.store
    let next := s.get NVES_STAT_NEXT
    (busy = true → ∀ i ∈ [Instr.permit x, .withdraw x, .nvesAck x, .log x, .warmReset x], Answers i s (fun t => t = { s with busResp := .errUnit, busData := 0 })) ∧
    (busy = false →
      Answers (.permit x) s (fun t =>
        taken t 1 ∧ (field (arg 1) 31 16 ≠ 0 → answer t 4 ∧ ∀ p, permit t p = permit s p) ∧
        (field (arg 1) 31 16 = 0 → (∀ p, permit t p = (permit s p || (named p && decide (s.permitReason p = 0)))) ∧
          ∃ a, t.mbx.ans = some a ∧ a.result = (if ∃ p, named p = true ∧ s.permitReason p ≠ 0 then 1 else 0) ∧
            (∀ p : Fin 48, p.val < 32 → a.res[0].getLsbD p = (named p && permit t p)) ∧ (∀ p : Fin 48, 32 ≤ p.val → a.res[1].getLsbD (p.val - 32) = (named p && permit t p)) ∧
            (∀ p : Fin 48, named p = true → s.permitReason p ≠ 0 → (∀ q < p, named q = true → s.permitReason q = 0) → a.res[2] = BitVec.ofNat 32 (p.val * 256 + s.permitReason p)))) ∧
      Answers (.withdraw x) s (fun t => taken t 2 ∧ answer t 0 ∧ ∀ p, permit t p = (permit s p && !named p)) ∧
      Answers (.nvesAck x) s (fun t =>
        taken t 3 ∧ (field (arg 0) 31 9 ≠ 0 → answer t 4 ∧ t.nves = s.nves) ∧
        (field (arg 0) 31 9 = 0 → (∀ e ∈ held, e.1 ≠ slot) → answer t 2 ∧ t.nves = s.nves) ∧
        (field (arg 0) 31 9 = 0 → (∃ e ∈ held, e.1 = slot) → t.mbx.ans = none ∧
          ∃ r, t.nves = { s.nves with queue := s.nves.queue ++ [r] } ∧ r.type = evNVES_ACK ∧ r.value = BitVec.ofNat 32 slot ∧ r.mbx = true)) ∧
      Answers (.log x) s (fun t =>
        let ok := 0x180 ≤ slot ∧ field (arg 0) 31 21 = 0
        taken t 4 ∧ (¬ ok → answer t 4 ∧ t.nves = s.nves) ∧ (ok → t.mbx.ans = none ∧ ∃ r, t.nves = { s.nves with queue := s.nves.queue ++ [r] } ∧
          r.type = slot ∧ r.source = field (arg 0) 20 9 ∧ r.value = arg 1 ∧ r.page = arg 2 ∧ r.line = arg 3 ∧ r.mbx = true)) ∧
      Answers (.warmReset x) s (fun t =>
        taken t 5 ∧ (arg 0 ≠ 0x5752#32 → answer t 4 ∧ t.boot = s.boot) ∧
        (arg 0 = 0x5752#32 → s.boot.refOe = true → t.boot.warm = true ∧ t.flag SYS_RST_CAUSE_MBX = true ∧ (∀ p, permit t p = false) ∧ t.mbx.ans = none))) ∧
    (s.mbx.ans = none → Answers .mbxDone s (fun t => t = s)) ∧
    (∀ a, s.mbx.ans = some a → Answers .mbxDone s (fun t =>
      (∀ k : Fin 4, t.rd (MBX_RES k) = a.res[k]) ∧ t.get MBX_STAT_RESULT = a.result % 256 ∧ t.flag MBX_STAT_BUSY = false ∧ t.mbx.ans = none ∧
      (∃ e ∈ t.evt.flight, e.event = evMBX_DONE ∧ e.only = some (if s.flag MBX_STAT_OWNER then 1 else 0)) ∧
      RegsBut [MBX_STAT, MBX_RES 0, MBX_RES 1, MBX_RES 2, MBX_RES 3] s t ∧ t = { s with regs := t.regs, mbx := t.mbx, evt := t.evt })) ∧
    (s.nves.queue = [] → Answers .nvesWrite s (fun t => t = s)) ∧
    (∀ r rest, s.nves.queue = r :: rest → nvesFree r.type = false → s.get NVES_STAT_TOKENS = 0 → Answers .nvesWrite s (fun t =>
      t.nves = { s.nves with queue := rest } ∧ t.get NVES_CNT_SUPPRESSED = min (s.get NVES_CNT_SUPPRESSED + 1) 65535 ∧ (r.mbx = true → answer t 3) ∧ (r.mbx = false → t.mbx = s.mbx) ∧
      RegsBut [NVES_CNT] s t ∧ t = { s with regs := t.regs, nves := t.nves, mbx := t.mbx })) ∧
    (∀ r rest, s.nves.queue = r :: rest → (nvesFree r.type = true ∨ s.get NVES_STAT_TOKENS ≠ 0) → (∀ e ∈ held, e.1 ≠ next) → Answers .nvesWrite s (fun t =>
      let seq := (s.get NVES_CNT_SEQ + 1) % 65536
      nvesSlot t.nves.store next = r.bytes seq ∧ (∀ k, k ≠ next → nvesSlot t.nves.store k = nvesSlot s.nves.store k) ∧ t.nves.queue = rest ∧
      t.get NVES_STAT_NEXT = (next + 1) % 512 ∧ t.get NVES_CNT_SEQ = seq ∧
      t.get NVES_STAT_TOKENS = (if nvesFree r.type then s.get NVES_STAT_TOKENS else s.get NVES_STAT_TOKENS - 1) ∧
      (r.type = evNVES_SHUTDOWN ∨ r.type = evNVES_ACK → ∃ e ∈ t.evt.flight, e.event = r.type ∧ e.value = r.value) ∧
      (r.type = evFANTAIL_TRAP → t.fan.trapRecord = false) ∧ (r.mbx = true → answer t 0))) ∧
    Answers .nvesTokenRefill s (fun t => t.get NVES_STAT_TOKENS = min 64 (s.get NVES_STAT_TOKENS + 1) ∧ RegsBut [NVES_STAT] s t ∧ t = { s with regs := t.regs }) ∧
    Answers .nvesScanDone s (fun t =>
      ((s.boot.refOe = false ∨ s.boot.scanDone = true) → t = s) ∧
      (s.boot.refOe = true → s.boot.scanDone = false → t.boot = { s.boot with scanDone := true } ∧
        t.flag NVES_STAT_SHUT_PENDING = held.any (fun e => decide (slotType e.2 = evNVES_SHUTDOWN)) ∧ t.flag THM_STAT_SHUT_PENDING = t.flag NVES_STAT_SHUT_PENDING ∧
        (nvesSlots s.nves.store = ([] : List (Nat × List Byte)) → t.get NVES_STAT_NEXT = next) ∧
        (∀ n b, nvesSlots s.nves.store = [(n, b)] → t.get NVES_STAT_NEXT = (n + 1) % 512 ∧ t.get NVES_CNT_SEQ = slotSeq b) ∧
        RegsBut [NVES_STAT, NVES_CNT, THM_STAT] s t ∧ t = { s with regs := t.regs, boot := t.boot }))

/-- R424 to R431, R434 to R436, R438: the ROM enters a verified image and records the first failed check of another; BOOT_REQ; a verification in the background; OTP writes are accepted or refused by their conditions; a debug unlock needs a challenge, the key and the signature;
EXTEST withdraws permission; software events, queues and the delivery of records. -/
def Obligations.BootSecurityAndEvents : Prop :=
  ∀ (x q : Fin 2) (m : Master) (img : List Byte) (slot : BitVec 2) (value : Word) (kx ky sr sq : BitVec 256) (s : State),
    let waiting := s.scs[(0 : Fin 2)].running && !s.boot.booted
    let h := slice img 0 256
    let payload := slice img 256 (leAt h 0x14 4)
    let code := s.imgCheck h payload s.otp.secure
    let n := field value 5 0
    let keys := field value 3 0
    let e := field value 8 0
    let permitted := fun (t : State) => ∃ p : Fin 48, t.flag (HP_STAT_PERMIT p) = true
    let bus := fun (t : State) => t = { s with regs := t.regs, sec := t.sec, busResp := .ok, busData := 0 }
    let ok := s.otp.rollback.toNat < n ∧ n ≤ s.get SEC_STAT_BOOT_VER ∧ s.boot.booted = true ∧ s.sec.otpWrite = none
    let bad := (s.boot.booted = true ∧ keys.testBit (s.get SEC_STAT_KEY_INDEX) = true) ∨ s.otp.revoked.toNat ||| keys = 15 ∨ s.sec.otpWrite ≠ none
    (waiting = true →
      Answers (.bootImageCheck none slot) s (fun t => t.get SEC_STAT_FAIL = 1 ∧ Rose evBOOT_FAIL 0 s t ∧ RegsBut [SEC_STAT] s t ∧ t = { s with regs := t.regs, evt := t.evt }) ∧
      (code ≠ 0 → Answers (.bootImageCheck (some img) slot) s (fun t =>
        t.get SEC_STAT_FAIL = code ∧ (leAt h 0 4 ≠ 0x5658494D → code = 2) ∧ Rose evBOOT_FAIL 0 s t ∧ RegsBut [SEC_STAT] s t ∧ t = { s with regs := t.regs, evt := t.evt })) ∧
      (code = 0 → Answers (.bootImageCheck (some img) slot) s (fun t =>
        t.bytes (leAt h 0x0C 4) payload.length = payload ∧ MemBut (leAt h 0x0C 4) payload.length s t ∧ t.pcOf (.sc 0) = BitVec.ofNat 32 (leAt h 0x10 4) &&& 0xFFFFFFFC#32 ∧ t.gr (.sc 0) 1 = t.secStat ∧
        t.boot = { s.boot with booted := true } ∧ t.scs[(0 : Fin 2)].rtEn = false ∧ t.scs[(0 : Fin 2)].icEn = false ∧ t.scs[(0 : Fin 2)].dcEn = false ∧
        t.get SEC_STAT_SLOT = slot.toNat ∧ t.get SEC_STAT_BOOT_VER = leAt h 8 4 % 64 ∧ RegsBut [SEC_STAT] s t))) ∧
    (waiting = false → Answers (.bootImageCheck (some img) slot) s (fun t => t = s)) ∧
    ((waiting = false ∨ s.get SYS_STRAP_BOOT_SRC ≠ 1) → Answers .bootReq s (fun t => t = s)) ∧
    (waiting = true → s.get SYS_STRAP_BOOT_SRC = 1 → Answers .bootReq s (fun t =>
      t.flag (PX_CTRL_EN 0) = true ∧ ∃ it, (t.vc 0 (typeVc 5)).queue.getLast? = some it ∧ it.frame.type = 5 ∧ it.frame.dst = 0xFFE ∧ it.frame.payload = [0x10#8])) ∧
    (s.clocked .sec = true →
      Answers (.secVerGo x) s (fun t => t.flag SEC_VER_STAT_BUSY = true ∧ RegsBut [SEC_VER_STAT] s t ∧ bus t) ∧
      Answers (.rollbackSet x value) s (fun t =>
        (ok → t.sec = { s.sec with otpWrite := some (true, n) } ∧ t.flag SEC_ROLLBACK_BUSY = true) ∧ (¬ ok → t.sec = s.sec ∧ t.flag SEC_ROLLBACK_REFUSED = true) ∧
        RegsBut [SEC_ROLLBACK] s t ∧ bus t) ∧
      Answers (.secRevoke x value) s (fun t =>
        (¬ bad → t.sec = { s.sec with otpWrite := some (false, keys) } ∧ t.flag SEC_ROLLBACK_BUSY = true) ∧ (bad → t.sec = s.sec ∧ t.flag SEC_ROLLBACK_REFUSED = true) ∧
        RegsBut [SEC_ROLLBACK] s t ∧ bus t)) ∧
    (s.flag SEC_VER_STAT_BUSY = false → Answers .secVerDone s (fun t => t = s)) ∧
    (s.flag SEC_VER_STAT_BUSY = true → Answers .secVerDone s (fun t =>
      let a := (s.rd64 SEC_VER_LO SEC_VER_HI).toNat % 2 ^ 40
      let b := s.bytes a 256
      t.flag SEC_VER_STAT_BUSY = false ∧ t.flag SEC_VER_STAT_DONE = true ∧
      (0x01000000 ≤ a → a + 256 + leAt b 0x14 4 ≤ 0x01C00000 → t.get SEC_VER_STAT_RESULT = s.imgCheck b (s.bytes (a + 256) (leAt b 0x14 4)) true) ∧
      RegsBut [SEC_VER_STAT] s t ∧ t = { s with regs := t.regs, free := t.free })) ∧
    (s.sec.otpWrite = none → Answers .otpWriteDone s (fun t => t = s)) ∧
    (∀ r k, s.sec.otpWrite = some (r, k) → Answers .otpWriteDone s (fun t =>
      t.sec = { s.sec with otpWrite := none } ∧ t.flag SEC_ROLLBACK_BUSY = false ∧
      (r = true → t.otp = { s.otp with rollback := BitVec.ofNat 6 k } ∧ Rose evROLLBACK_SET 0 s t) ∧ (r = false → t.otp = { s.otp with revoked := s.otp.revoked ||| BitVec.ofNat 4 k }) ∧
      RegsBut [SEC_ROLLBACK] s t ∧ t = { s with regs := t.regs, sec := t.sec, otp := t.otp, evt := t.evt })) ∧
    Answers .debugChallenge s (fun t => t.sec.nonce.isSome = true ∧ t = { s with sec := { s.sec with nonce := t.sec.nonce }, free := t.free }) ∧
    Answers (.debugUnlock kx ky sr sq) s (fun t =>
      (s.sec.nonce = none → t = s) ∧ t.sec = { s.sec with nonce := none } ∧
      (∀ v, s.sec.nonce = some v →
        let pass := decide (beNat (sha256 (beBytes 32 kx.toNat ++ beBytes 32 ky.toNat)) = s.otp.debugHash.toNat) &&
          ecdsaVerify kx.toNat ky.toNat (sha256 (leBytes 32 v.toNat ++ leBytes 8 s.otp.uid.toNat)) sr.toNat sq.toNat
        (pass = true → t.flag SEC_STAT_DBG_UNLOCKED = true ∧ Rose evDEBUG_UNLOCK 0 s t) ∧ (pass = false → RegsBut [] s t)) ∧
      RegsBut [SEC_STAT] s t ∧ t = { s with regs := t.regs, sec := t.sec, evt := t.evt }) ∧
    Answers .extest s (fun t => t.sec = { s.sec with extest := true } ∧ ¬ permitted t) ∧
    Answers .scanInstructionLoad s (fun t => t = { s with sec := { s.sec with extest := false } }) ∧
    ((e < 0x180 ∨ m = .fantail ∨ m = .dev) → Answers (.evtRaise m value) s (fun t => t = { s with busResp := .errUnit, busData := 0 })) ∧
    (0x180 ≤ e →
      Answers (.evtRaise (.sc x) value) s (fun t => BusOk t ∧ Raised e x (s.rd EVT_RAISE_VAL) 0 0 s t ∧ t = { s with evt := t.evt, busResp := .ok, busData := 0 }) ∧
      ∀ k : Fin 12, Answers (.evtRaise (.sq k) value) s (fun t =>
        BusOk t ∧ Raised e (0x10 + k.val) (s.rd EVT_RAISE_VAL) 0 0 s t ∧ t = { s with evt := t.evt, busResp := .ok, busData := 0 })) ∧
    Answers (.evtQPop x q) s (fun t => BusOk t ∧ t.evt.queues[q] = s.evt.queues[q].drop 1 ∧ (∀ k ≠ q, t.evt.queues[k] = s.evt.queues[k]) ∧ t.evt.flight = s.evt.flight ∧
      t = { s with evt := t.evt, busResp := .ok, busData := 0 }) ∧
    (s.evt.flight = [] → Answers .eventDelivery s (fun t => t = s)) ∧
    (∀ r rest, s.evt.flight = r :: rest →
      (r.only = some x → s.evt.queues[x].length < 64 → Answers .eventDelivery s (fun t =>
        t.evt.flight = rest ∧ t.evt.queues[x] = s.evt.queues[x] ++ [r] ∧ (∀ k ≠ x, t.evt.queues[k] = s.evt.queues[k]) ∧ t = { s with evt := t.evt, scs := t.scs })) ∧
      (r.only = none → Answers .eventDelivery s (fun t =>
        let mask := fun (k : Nat) => (s.rd (EVT_MASK (16 * k + r.event / 32))).getLsbD (r.event % 32)
        (mask x = false → t.evt.queues[x] = s.evt.queues[x]) ∧
        (mask x = true → s.evt.queues[x].length < 64 → t.evt.queues[x] = s.evt.queues[x] ++ [r] ∧ (s.scs[x].wfe = false → t.scs[x].evl = true) ∧
          (s.scs[x].wfe = true → t.scs[x].wfe = false ∧ t.pcOf (.sc x) = s.pcOf (.sc x) + 4)) ∧
        (mask x = true → 64 ≤ s.evt.queues[x].length → t.evt.queues[x] = s.evt.queues[x] ∧ t.get (evtLost x) = min (s.get (evtLost x) + 1) 65535) ∧
        (mask 3 = true → r.event ≠ evTHM_LEVEL → r.event ≠ evCORE_HALT → ∃ u ∈ t.nves.queue, u.type = r.event ∧ u.source = r.source ∧ u.value = r.value) ∧
        (mask 2 = false → t.evt.flight = rest))))
/-- R12 to R14, R17, R18, R29, R33, R37: where a write goes and how it is turned away; what the access codes leave; a pair written by its _LO and read through its capture; a read that clears; and the words that arrive from a crossing. -/
def Obligations.RegisterBusAndCrossings : Prop :=
  ∀ (x : Fin 2) (k j : Fin 12) (m : Master) (addr : BitVec 40) (size : AccSize) (v : Word) (b : Block) (off : Nat) (s : State),
    let a := addr.toNat
    let n := match size with | .byte => 1 | .half => 2 | .word => 4
    let err := fun (r : Resp) (t : State) => t = { s with busResp := r, busData := 0 }
    let me := Master.sc x
    let ok := fun (t : State) => t = { s with regs := t.regs, stage := t.stage, busResp := .ok, busData := 0 }
    let codes := fun (r : RegRow) (w : Word) (at_ : Nat) (t : State) => ∀ i < 32,
      let rw := (r.mask .rw).getLsbD i
      let w1c := (r.mask .w1c).getLsbD i
      let w1s := (r.mask .w1s).getLsbD i
      (rw = true → w1c = false → w1s = false → t.bit at_ i = w.getLsbD i) ∧ (rw = false → w1c = true → w1s = false → t.bit at_ i = (s.bit at_ i && !w.getLsbD i)) ∧
      (rw = false → w1c = false → w1s = true → t.bit at_ i = (s.bit at_ i || w.getLsbD i)) ∧ (rw = false → w1c = false → w1s = false → t.bit at_ i = s.bit at_ i)
    (regionOf a = none → blockAt a = none → Answers (.registerWrite m addr size v) s (err .errDecode) ∧ Answers (.loReadCapture m addr) s (err .errDecode)) ∧
    (j ≠ k → regionOf a = some (.localMem j.val) → Answers (.registerWrite (.sq k) addr size v) s (err .errDecode)) ∧
    (j ≠ k → regionOf a = none → blockAt a = some (.sq j.val, off) → Answers (.registerWrite (.sq k) addr size v) s (err .errDecode)) ∧
    (∀ p : Fin 48, sqOf p ≠ k → regionOf a = none → blockAt a = some (.hp p.val, off) → Answers (.registerWrite (.sq k) addr size v) s (err .errDecode)) ∧
    (regionOf a = none → blockAt a = some (b, off) →
      (s.clocked b = false → Answers (.registerWrite me addr size v) s (err .errGated) ∧ Answers (.rcReadClear me addr) s (err .errGated)) ∧
      (s.clocked b = true → (size ≠ .word ∨ a % 4 ≠ 0) → Answers (.registerWrite me addr size v) s (err .errUnit)) ∧
      (s.clocked b = true → size = .word → a % 4 = 0 → s.writeRule me b off v = none →
        (b.isHi off = true → Answers (.registerWrite me addr size v) s (fun t => ok t ∧ t.staged (b.base + off) = v ∧ RegsBut [] s t)) ∧
        (b.isHi off = false → b.isLo off = false → rowAt b.table off = none → Answers (.registerWrite me addr size v) s (fun t => ok t ∧ RegsBut [] s t)) ∧
        (∀ r, b.isHi off = false → b.isLo off = false → rowAt b.table off = some r → Answers (.registerWrite me addr size v) s (fun t =>
          ok t ∧ codes r v (b.base + off) t ∧ RegsBut [b.base + off] s t)) ∧
        (∀ r u, b.isHi off = false → b.isLo off = true → rowAt b.table off = some r → rowAt b.table (off + 4) = some u → Answers (.registerWrite me addr size v) s (fun t =>
          ok t ∧ codes r v (b.base + off) t ∧ codes u (s.staged (b.base + (off + 4))) (b.base + (off + 4)) t ∧ RegsBut [b.base + off, b.base + (off + 4)] s t))) ∧
      (s.clocked b = true → a % 4 = 0 → s.readView b off = none → ∀ i ∈ [Instr.loReadCapture me addr, .rcReadClear me addr],
        (∀ r, rowAt b.table off = some r → b.isLo off = false → b.isHi off = false → Answers i s (fun t =>
          t.busResp = .ok ∧ t.busData = s.rd (b.base + off) &&& ~~~(r.mask .wo) ∧ t.rd (b.base + off) = s.rd (b.base + off) &&& ~~~(r.mask .rc) ∧
          RegsBut [b.base + off] s t ∧ t = { s with regs := t.regs, busResp := t.busResp, busData := t.busData })) ∧
        (b.isLo off = true → s.readView b (off + 4) = none → Answers i s (fun t =>
          t.busResp = .ok ∧ t.busData = s.stored b off ∧ t.cap.get noCap (b.base + off + 4) = some (s.stored b (off + 4)))) ∧
        (b.isLo off = false → b.isHi off = true → Answers i s (fun t =>
          t.busResp = .ok ∧ t.busData = (s.cap.get noCap (b.base + off)).getD (s.stored b off) ∧ t.cap.get noCap (b.base + off) = none)))) ∧
    (regionOf a = some .sram → m ≠ .fantail → (∀ q, m ≠ .sq q) →
      (a % n ≠ 0 → Answers (.registerWrite m addr size v) s (err .errUnit)) ∧
      (a % n = 0 → Answers (.registerWrite m addr size v) s (fun t =>
        BusOk t ∧ t.bytes a n = leBytes n v.toNat ∧ MemBut a n s t ∧ t = { s with mem := t.mem, busResp := t.busResp, busData := t.busData }))) ∧
    Answers (.crossingWordArrival .aonAny) s (fun t => exec .eventDelivery s = .next t) ∧
    (∀ c ∈ [Crossing.dspSeq, .seqHpx, .tbSeq], Answers (.crossingWordArrival c) s (fun t => t = s)) ∧
    (s.seqTb = [] → Answers (.crossingWordArrival .seqTb) s (fun t => t = s)) ∧
    (∀ w rest (p : Fin 48) page line, s.seqTb = w :: rest → w.word = .commit p.val page line → Answers (.crossingWordArrival .seqTb) s (fun t =>
      t.seqTb = rest ∧ (∀ e, s.fifoAt p page line = some e → t.fifoAt p page line = some { e with tbKnown := true }) ∧ t = { s with seqTb := t.seqTb, sqs := t.sqs })) ∧
    (∀ w rest r, s.tbDsp = w :: rest → w.word = .fired r → (s.flag BOLT_CTRL_EN = false ∨ ∀ q ∈ s.bolt.plans, q.page ≠ r.page) →
      Answers (.crossingWordArrival .tbDsp) s (fun t => t = { s with tbDsp := rest }))

/-- Every command completes: exec answers a next state for it in every state. A step runs the command at the front of the queue on the state with
the queue's rest. On an empty queue a step is one tick, the model's choice (log 9). -/
def Obligations.StepRunsFrontCommand : Prop :=
  (∀ i s, ∃ t, exec i s = .next t) ∧
  (∀ i rest (s : State), step { s with pending := i :: rest } = exec i { s with pending := rest }) ∧
  ∀ s : State, s.pending = [] → step s = .next s.tick

/-- What power-on reset leaves: g0 to g31 of every processor zero and the two caches of each supervisor core empty, every region-table word zero,
SC0's and SC1's translation, caches and watchdogs off, TVEC 0x40, TBC zero and not yet counting, every sequencer in RESET with its FIFOs empty,
the clock enables of BOOT_ROM, SC0, QSPI and UART alone set, POR set in SYS_RST_CAUSE, every register at the value of its table. That no command
waits and that memory lists no byte are the model's choices (log 2). -/
def Obligations.ResetState : Prop :=
  let s := State.reset
  s.pending = [] ∧ s.tbc = 0 ∧ s.tbRuns = false ∧ (∀ c r, s.gr c r = 0) ∧ (∀ x : Fin 2, (∀ (e : Fin 16) (w : Fin 4), (s.scs[x].rt[e])[w] = 0) ∧
    s.scs[x].tvec = 0x40 ∧ s.scs[x].rtEn = false ∧ s.scs[x].icEn = false ∧ s.scs[x].dcEn = false ∧ s.scs[x].wdtEn = false ∧
    s.scs[x].icache = [] ∧ s.scs[x].dcache = [] ∧ s.scs[x].tie = false ∧ s.scs[x].inTrap = false) ∧
  (∀ k : Fin 12, s.sqs[k].st = .reset ∧ s.sqs[k].pageOpen = false ∧ ∀ j : Fin 4, (s.sqs[k].fifo)[j] = []) ∧
  s.get SYS_RST_CAUSE_POR = 1 ∧ (∀ a, s.rd a = resetWord a) ∧
  s.rd CLK_EN0 = 0x1B ∧ s.rd CLK_EN1 = 0 ∧ s.rd CLK_EN2 = 0 ∧ s.mem = []

/-- The invariant that every step keeps holds of the reset state. -/
def Obligations.InvAtReset : Prop := State.reset.Inv

/-- From every state whose register table and memory are in canonical form, whose pcs are multiples of 4 (R57) and whose trap vectors have zero
low bits (R73), every step answers a next state of that kind. -/
def Obligations.EveryStepKeepsInv : Prop := ∀ s : State, s.Inv → ∃ t, step s = .next t ∧ t.Inv

/-- Decode and encode agree on every processor (R56, R58 to R60): a well-formed instruction is read back from its word with every operand, a word
that spells an instruction is that instruction's encoding, and exactly the legal words spell one; every other word is one that ILLEGAL
answers. -/
def Obligations.DecodeOfEncode : Prop :=
  (∀ i c, wellFormed i = true → coreOf i = some c → decodeWord c (encode i) = some i) ∧
  (∀ c w i, decodeWord c w = some i → encode i = w ∧ coreOf i = some c ∧ wellFormed i = true) ∧
  ∀ c w, decodeWord c w = none ↔ wellFormed (.illegalInstruction c w) = true

/-- Words written out field by field from the encoding tables spell the instructions that they stand for. -/
def Obligations.WordsDecode : Prop :=
  decodeWord (.sc 0) 0b00000000001_00111_00110_00101_000000#32 = some (.add (.sc 0) 5 6 7) ∧
  decodeWord .fantail 0b00000001110_00100_00110_00101_000000#32 = some (.srai .fantail 5 6 4) ∧
  decodeWord (.sq 3) 0b00000000110_00111_00110_00101_000001#32 = some (.rem (.sq 3) 5 6 7) ∧
  decodeWord (.sc 1) 0b000000_00111_01000_00110_00101_000010#32 = some (.bextu (.sc 1) 5 6 8 7) ∧
  decodeWord (.sc 1) 0b000000_01000_11000_00110_00101_000010#32 = none ∧
  decodeWord (.sc 0) 0x00000008#32 = some (.addi (.sc 0) 0 0 0) ∧
  decodeWord (.sc 0) 0b0000111100001100_10100_00101_010010#32 = some (.lw (.sc 0) 5 20 0x0F0C) ∧
  decodeWord (.sc 0) 0b1111111111111100_10100_00101_011010#32 = some (.sw (.sc 0) 5 20 0xFFFC) ∧
  decodeWord (.sc 0) 0b1111111111111111_00110_00111_100000#32 = some (.beq (.sc 0) 6 7 0xFFFF) ∧
  decodeWord (.sc 0) 0b00000000000000000000000010_101001#32 = some (.jal (.sc 0) 2) ∧
  decodeWord (.sc 0) 0b0001000000000100_00110_00101_101100#32 = some (.csrw (.sc 0) 5 6 4) ∧
  decodeWord (.sc 0) 0b00000000001_00011_00000_00000_101110#32 = some (.trap (.sc 0) 3) ∧
  decodeWord (.sq 0) 0b00000000001_00011_00000_00000_101110#32 = none ∧
  decodeWord (.sq 0) 0b00000001111_00111_00110_00000_110000#32 = some (.page (.sq 0) 6 7 15) ∧
  decodeWord (.sq 0) 0b00000000010_00100_00000_00101_111101#32 = some (.fread (.sq 0) 5 4) ∧
  decodeWord (.sq 0) 0b0000000000000010_00001_00001_111110#32 = some (.bxc (.sq 0) 1 2) ∧
  decodeWord (.sc 0) 0b00000001111_00111_00110_00000_110000#32 = none ∧
  ∀ c, decodeWord c 0x00000000#32 = none ∧ decodeWord c 0xFFFFFFFF#32 = none
end

