-- ==== Sys2Proof/Laws/Table.lean ====
section
/-!
SUPPORT. The laws of sparse tables: reading after writing, and that every write keeps the canonical form. The laws of registers and memory
bytes follow from them.
-/
namespace Sys2Proof.Machine

/-- Removing the entries up to `k` changes no key above `k`. -/
theorem Table.get_dropTo {α : Type} (d : Nat → α) (t : Table α) (k a : Nat) (h : k < a) :
    Table.get d (Table.dropTo k t) a = Table.get d t a := by
  induction t with
  | nil => rfl
  | cons e t ih =>
    obtain ⟨j, x⟩ := e
    by_cases hj : j ≤ k
    · rw [show Table.dropTo k ((j, x) :: t) = Table.dropTo k t by simp [Table.dropTo, hj], ih]
      simp [Table.get, show ¬ a < j by omega, show ¬ a = j by omega]
    · simp [Table.dropTo, hj]

/-- After entries up to `k` are removed, `k` reads as its default. -/
theorem Table.get_dropTo_same {α : Type} (d : Nat → α) (t : Table α) (k : Nat) :
    Table.get d (Table.dropTo k t) k = d k := by
  induction t with
  | nil => rfl
  | cons e t ih =>
    obtain ⟨j, x⟩ := e
    by_cases hj : j ≤ k
    · simpa [Table.dropTo, hj] using ih
    · simp [Table.dropTo, hj, Table.get, show k < j by omega]

/-- A key reads as what was written. -/
@[simp] theorem Table.get_set_same {α : Type} [DecidableEq α] (d : Nat → α) (t : Table α) (k : Nat) (v : α) :
    Table.get d (Table.set d t k v) k = v := by
  induction t with
  | nil => by_cases h : v = d k <;> simp [Table.set, Table.get, h]
  | cons e t ih =>
    obtain ⟨j, x⟩ := e
    rcases Nat.lt_trichotomy k j with h | h | h
    · by_cases hv : v = d k <;> simp [Table.set, Table.get, h, hv]
    · subst h
      by_cases hv : v = d k
      · subst hv; simp [Table.set, Table.get_dropTo_same]
      · simp [Table.set, Table.get, hv]
    · simp [Table.set, Table.get, show ¬ k < j by omega, show ¬ k = j by omega, ih]

/-- Every other key reads as before. -/
@[simp] theorem Table.get_set_ne {α : Type} [DecidableEq α] (d : Nat → α) (t : Table α) (k a : Nat) (v : α) (h : a ≠ k) :
    Table.get d (Table.set d t k v) a = Table.get d t a := by
  induction t with
  | nil =>
    by_cases hv : v = d k
    · simp [Table.set, hv]
    · by_cases hl : a < k <;> simp [Table.set, Table.get, hv, h, hl]
  | cons e t ih =>
    obtain ⟨j, x⟩ := e
    rcases Nat.lt_trichotomy k j with hk | hk | hk
    · by_cases hv : v = d k
      · simp [Table.set, hk, hv]
      · by_cases hl : a < k
        · simp [Table.set, Table.get, hk, hv, hl, show a < j by omega]
        · simp [Table.set, Table.get, hk, hv, hl, h]
    · subst hk
      by_cases hv : v = d k
      · by_cases hl : a < k
        · have hd : Table.get d (Table.dropTo k t) a = d a := by
            clear ih
            induction t with
            | nil => rfl
            | cons e t ih2 =>
              obtain ⟨j, y⟩ := e
              by_cases hj : j ≤ k
              · simpa [Table.dropTo, hj] using ih2
              · simp [Table.dropTo, hj, Table.get, show a < j by omega]
          simp [Table.set, Table.get, hv, hl, hd]
        · simp [Table.set, Table.get, hv, hl, h, Table.get_dropTo d t k a (by omega)]
      · by_cases hl : a < k <;> simp [Table.set, Table.get, hv, hl, h]
    · by_cases hl : a < j
      · simp [Table.set, Table.get, show ¬ k < j by omega, show ¬ k = j by omega, hl]
      · by_cases he : a = j
        · simp [Table.set, Table.get, show ¬ k < j by omega, show ¬ k = j by omega, he]
        · simp [Table.set, Table.get, show ¬ k < j by omega, show ¬ k = j by omega, hl, he, ih]

/-- A table whose keys start at `n` is one whose keys start at any lower key. -/
theorem Table.wfFrom_mono {α : Type} [DecidableEq α] (d : Nat → α) (t : Table α) (m n : Nat) (h : m ≤ n)
    (w : Table.wfFrom d n t = true) : Table.wfFrom d m t = true := by
  cases t with
  | nil => rfl
  | cons e t =>
    obtain ⟨j, x⟩ := e
    simp only [Table.wfFrom, Bool.and_eq_true, decide_eq_true_eq] at w ⊢
    exact ⟨⟨by omega, w.1.2⟩, w.2⟩

/-- A canonical table whose keys are above `k` loses nothing up to `k`. -/
theorem Table.dropTo_of_wfFrom {α : Type} [DecidableEq α] (d : Nat → α) (t : Table α) (k : Nat)
    (w : Table.wfFrom d (k + 1) t = true) : Table.dropTo k t = t := by
  cases t with
  | nil => rfl
  | cons e t =>
    obtain ⟨j, x⟩ := e
    simp only [Table.wfFrom, Bool.and_eq_true, decide_eq_true_eq] at w
    simp [Table.dropTo, show ¬ j ≤ k by omega]

/-- A write at or above the first key keeps the canonical form. -/
theorem Table.wfFrom_set {α : Type} [DecidableEq α] (d : Nat → α) (t : Table α) (n k : Nat) (v : α) (hn : n ≤ k)
    (w : Table.wfFrom d n t = true) : Table.wfFrom d n (Table.set d t k v) = true := by
  induction t generalizing n with
  | nil => by_cases h : v = d k <;> simp [Table.set, Table.wfFrom, h, hn]
  | cons e t ih =>
    obtain ⟨j, x⟩ := e
    have w0 := w
    simp only [Table.wfFrom, Bool.and_eq_true, decide_eq_true_eq] at w
    obtain ⟨⟨h1, h2⟩, h3⟩ := w
    rcases Nat.lt_trichotomy k j with h | h | h
    · by_cases hv : v = d k
      · simpa [Table.set, h, hv] using w0
      · simp [Table.set, h, hv, Table.wfFrom, hn, h2, h3, show k + 1 ≤ j by omega]
    · subst h
      by_cases hv : v = d k
      · simp [Table.set, hv, Table.dropTo_of_wfFrom d t k h3, Table.wfFrom_mono d t n (k + 1) (by omega) h3]
      · simp [Table.set, hv, Table.wfFrom, h1, h3]
    · simp [Table.set, show ¬ k < j by omega, show ¬ k = j by omega, Table.wfFrom, h1, h2, ih (j + 1) (by omega) h3]

/-- Every write keeps the canonical form. -/
theorem Table.wf_set {α : Type} [DecidableEq α] (d : Nat → α) (t : Table α) (k : Nat) (v : α) (w : Table.wf d t = true) :
    Table.wf d (Table.set d t k v) = true := Table.wfFrom_set d t 0 k v (by omega) w

end Sys2Proof.Machine
end

