-- ==== Sys2Proof/Laws/State.lean ====
section
/-!
SUPPORT. One lemma per field of State per update: what each named update leaves as it was. Then what the updates of registers, memory bytes
and instances write.
-/
namespace Sys2Proof.Machine

@[simp] theorem State.wr_pending (s : State) (a : Nat) (v : Word) : (s.wr a v).pending = s.pending := rfl
@[simp] theorem State.wr_free (s : State) (a : Nat) (v : Word) : (s.wr a v).free = s.free := rfl
@[simp] theorem State.wr_tbc (s : State) (a : Nat) (v : Word) : (s.wr a v).tbc = s.tbc := rfl
@[simp] theorem State.wr_tbRuns (s : State) (a : Nat) (v : Word) : (s.wr a v).tbRuns = s.tbRuns := rfl
@[simp] theorem State.wr_busResp (s : State) (a : Nat) (v : Word) : (s.wr a v).busResp = s.busResp := rfl
@[simp] theorem State.wr_busData (s : State) (a : Nat) (v : Word) : (s.wr a v).busData = s.busData := rfl
@[simp] theorem State.wr_stage (s : State) (a : Nat) (v : Word) : (s.wr a v).stage = s.stage := rfl
@[simp] theorem State.wr_cap (s : State) (a : Nat) (v : Word) : (s.wr a v).cap = s.cap := rfl
@[simp] theorem State.wr_mem (s : State) (a : Nat) (v : Word) : (s.wr a v).mem = s.mem := rfl
@[simp] theorem State.wr_scs (s : State) (a : Nat) (v : Word) : (s.wr a v).scs = s.scs := rfl
@[simp] theorem State.wr_fan (s : State) (a : Nat) (v : Word) : (s.wr a v).fan = s.fan := rfl
@[simp] theorem State.wr_sqs (s : State) (a : Nat) (v : Word) : (s.wr a v).sqs = s.sqs := rfl
@[simp] theorem State.wr_pos (s : State) (a : Nat) (v : Word) : (s.wr a v).pos = s.pos := rfl
@[simp] theorem State.wr_axes (s : State) (a : Nat) (v : Word) : (s.wr a v).axes = s.axes := rfl
@[simp] theorem State.wr_trigs (s : State) (a : Nat) (v : Word) : (s.wr a v).trigs = s.trigs := rfl
@[simp] theorem State.wr_offset (s : State) (a : Nat) (v : Word) : (s.wr a v).offset = s.offset := rfl
@[simp] theorem State.wr_ts (s : State) (a : Nat) (v : Word) : (s.wr a v).ts = s.ts := rfl
@[simp] theorem State.wr_fsch (s : State) (a : Nat) (v : Word) : (s.wr a v).fsch = s.fsch := rfl
@[simp] theorem State.wr_evt (s : State) (a : Nat) (v : Word) : (s.wr a v).evt = s.evt := rfl
@[simp] theorem State.wr_seqTb (s : State) (a : Nat) (v : Word) : (s.wr a v).seqTb = s.seqTb := rfl
@[simp] theorem State.wr_tbDsp (s : State) (a : Nat) (v : Word) : (s.wr a v).tbDsp = s.tbDsp := rfl
@[simp] theorem State.wr_hps (s : State) (a : Nat) (v : Word) : (s.wr a v).hps = s.hps := rfl
@[simp] theorem State.wr_gov (s : State) (a : Nat) (v : Word) : (s.wr a v).gov = s.gov := rfl
@[simp] theorem State.wr_weir (s : State) (a : Nat) (v : Word) : (s.wr a v).weir = s.weir := rfl
@[simp] theorem State.wr_toll (s : State) (a : Nat) (v : Word) : (s.wr a v).toll = s.toll := rfl
@[simp] theorem State.wr_nves (s : State) (a : Nat) (v : Word) : (s.wr a v).nves = s.nves := rfl
@[simp] theorem State.wr_mbx (s : State) (a : Nat) (v : Word) : (s.wr a v).mbx = s.mbx := rfl
@[simp] theorem State.wr_clk (s : State) (a : Nat) (v : Word) : (s.wr a v).clk = s.clk := rfl
@[simp] theorem State.wr_thm (s : State) (a : Nat) (v : Word) : (s.wr a v).thm = s.thm := rfl
@[simp] theorem State.wr_cal (s : State) (a : Nat) (v : Word) : (s.wr a v).cal = s.cal := rfl
@[simp] theorem State.wr_boot (s : State) (a : Nat) (v : Word) : (s.wr a v).boot = s.boot := rfl
@[simp] theorem State.wr_otp (s : State) (a : Nat) (v : Word) : (s.wr a v).otp = s.otp := rfl
@[simp] theorem State.wr_sec (s : State) (a : Nat) (v : Word) : (s.wr a v).sec = s.sec := rfl
@[simp] theorem State.wr_dram (s : State) (a : Nat) (v : Word) : (s.wr a v).dram = s.dram := rfl
@[simp] theorem State.wr_corr (s : State) (a : Nat) (v : Word) : (s.wr a v).corr = s.corr := rfl
@[simp] theorem State.wr_engines (s : State) (a : Nat) (v : Word) : (s.wr a v).engines = s.engines := rfl
@[simp] theorem State.wr_cmps (s : State) (a : Nat) (v : Word) : (s.wr a v).cmps = s.cmps := rfl
@[simp] theorem State.wr_cams (s : State) (a : Nat) (v : Word) : (s.wr a v).cams = s.cams := rfl
@[simp] theorem State.wr_ispCam (s : State) (a : Nat) (v : Word) : (s.wr a v).ispCam = s.ispCam := rfl
@[simp] theorem State.wr_bolt (s : State) (a : Nat) (v : Word) : (s.wr a v).bolt = s.bolt := rfl
@[simp] theorem State.wr_dma (s : State) (a : Nat) (v : Word) : (s.wr a v).dma = s.dma := rfl
@[simp] theorem State.wr_links (s : State) (a : Nat) (v : Word) : (s.wr a v).links = s.links := rfl

@[simp] theorem State.put_pending (s : State) (f : RegField) (v : Nat) : (s.put f v).pending = s.pending := rfl
@[simp] theorem State.put_free (s : State) (f : RegField) (v : Nat) : (s.put f v).free = s.free := rfl
@[simp] theorem State.put_tbc (s : State) (f : RegField) (v : Nat) : (s.put f v).tbc = s.tbc := rfl
@[simp] theorem State.put_tbRuns (s : State) (f : RegField) (v : Nat) : (s.put f v).tbRuns = s.tbRuns := rfl
@[simp] theorem State.put_busResp (s : State) (f : RegField) (v : Nat) : (s.put f v).busResp = s.busResp := rfl
@[simp] theorem State.put_busData (s : State) (f : RegField) (v : Nat) : (s.put f v).busData = s.busData := rfl
@[simp] theorem State.put_stage (s : State) (f : RegField) (v : Nat) : (s.put f v).stage = s.stage := rfl
@[simp] theorem State.put_cap (s : State) (f : RegField) (v : Nat) : (s.put f v).cap = s.cap := rfl
@[simp] theorem State.put_mem (s : State) (f : RegField) (v : Nat) : (s.put f v).mem = s.mem := rfl
@[simp] theorem State.put_scs (s : State) (f : RegField) (v : Nat) : (s.put f v).scs = s.scs := rfl
@[simp] theorem State.put_fan (s : State) (f : RegField) (v : Nat) : (s.put f v).fan = s.fan := rfl
@[simp] theorem State.put_sqs (s : State) (f : RegField) (v : Nat) : (s.put f v).sqs = s.sqs := rfl
@[simp] theorem State.put_pos (s : State) (f : RegField) (v : Nat) : (s.put f v).pos = s.pos := rfl
@[simp] theorem State.put_axes (s : State) (f : RegField) (v : Nat) : (s.put f v).axes = s.axes := rfl
@[simp] theorem State.put_trigs (s : State) (f : RegField) (v : Nat) : (s.put f v).trigs = s.trigs := rfl
@[simp] theorem State.put_offset (s : State) (f : RegField) (v : Nat) : (s.put f v).offset = s.offset := rfl
@[simp] theorem State.put_ts (s : State) (f : RegField) (v : Nat) : (s.put f v).ts = s.ts := rfl
@[simp] theorem State.put_fsch (s : State) (f : RegField) (v : Nat) : (s.put f v).fsch = s.fsch := rfl
@[simp] theorem State.put_evt (s : State) (f : RegField) (v : Nat) : (s.put f v).evt = s.evt := rfl
@[simp] theorem State.put_seqTb (s : State) (f : RegField) (v : Nat) : (s.put f v).seqTb = s.seqTb := rfl
@[simp] theorem State.put_tbDsp (s : State) (f : RegField) (v : Nat) : (s.put f v).tbDsp = s.tbDsp := rfl
@[simp] theorem State.put_hps (s : State) (f : RegField) (v : Nat) : (s.put f v).hps = s.hps := rfl
@[simp] theorem State.put_gov (s : State) (f : RegField) (v : Nat) : (s.put f v).gov = s.gov := rfl
@[simp] theorem State.put_weir (s : State) (f : RegField) (v : Nat) : (s.put f v).weir = s.weir := rfl
@[simp] theorem State.put_toll (s : State) (f : RegField) (v : Nat) : (s.put f v).toll = s.toll := rfl
@[simp] theorem State.put_nves (s : State) (f : RegField) (v : Nat) : (s.put f v).nves = s.nves := rfl
@[simp] theorem State.put_mbx (s : State) (f : RegField) (v : Nat) : (s.put f v).mbx = s.mbx := rfl
@[simp] theorem State.put_clk (s : State) (f : RegField) (v : Nat) : (s.put f v).clk = s.clk := rfl
@[simp] theorem State.put_thm (s : State) (f : RegField) (v : Nat) : (s.put f v).thm = s.thm := rfl
@[simp] theorem State.put_cal (s : State) (f : RegField) (v : Nat) : (s.put f v).cal = s.cal := rfl
@[simp] theorem State.put_boot (s : State) (f : RegField) (v : Nat) : (s.put f v).boot = s.boot := rfl
@[simp] theorem State.put_otp (s : State) (f : RegField) (v : Nat) : (s.put f v).otp = s.otp := rfl
@[simp] theorem State.put_sec (s : State) (f : RegField) (v : Nat) : (s.put f v).sec = s.sec := rfl
@[simp] theorem State.put_dram (s : State) (f : RegField) (v : Nat) : (s.put f v).dram = s.dram := rfl
@[simp] theorem State.put_corr (s : State) (f : RegField) (v : Nat) : (s.put f v).corr = s.corr := rfl
@[simp] theorem State.put_engines (s : State) (f : RegField) (v : Nat) : (s.put f v).engines = s.engines := rfl
@[simp] theorem State.put_cmps (s : State) (f : RegField) (v : Nat) : (s.put f v).cmps = s.cmps := rfl
@[simp] theorem State.put_cams (s : State) (f : RegField) (v : Nat) : (s.put f v).cams = s.cams := rfl
@[simp] theorem State.put_ispCam (s : State) (f : RegField) (v : Nat) : (s.put f v).ispCam = s.ispCam := rfl
@[simp] theorem State.put_bolt (s : State) (f : RegField) (v : Nat) : (s.put f v).bolt = s.bolt := rfl
@[simp] theorem State.put_dma (s : State) (f : RegField) (v : Nat) : (s.put f v).dma = s.dma := rfl
@[simp] theorem State.put_links (s : State) (f : RegField) (v : Nat) : (s.put f v).links = s.links := rfl

@[simp] theorem State.putByte_pending (s : State) (a : Nat) (b : Byte) : (s.putByte a b).pending = s.pending := rfl
@[simp] theorem State.putByte_free (s : State) (a : Nat) (b : Byte) : (s.putByte a b).free = s.free := rfl
@[simp] theorem State.putByte_tbc (s : State) (a : Nat) (b : Byte) : (s.putByte a b).tbc = s.tbc := rfl
@[simp] theorem State.putByte_tbRuns (s : State) (a : Nat) (b : Byte) : (s.putByte a b).tbRuns = s.tbRuns := rfl
@[simp] theorem State.putByte_busResp (s : State) (a : Nat) (b : Byte) : (s.putByte a b).busResp = s.busResp := rfl
@[simp] theorem State.putByte_busData (s : State) (a : Nat) (b : Byte) : (s.putByte a b).busData = s.busData := rfl
@[simp] theorem State.putByte_regs (s : State) (a : Nat) (b : Byte) : (s.putByte a b).regs = s.regs := rfl
@[simp] theorem State.putByte_stage (s : State) (a : Nat) (b : Byte) : (s.putByte a b).stage = s.stage := rfl
@[simp] theorem State.putByte_cap (s : State) (a : Nat) (b : Byte) : (s.putByte a b).cap = s.cap := rfl
@[simp] theorem State.putByte_scs (s : State) (a : Nat) (b : Byte) : (s.putByte a b).scs = s.scs := rfl
@[simp] theorem State.putByte_fan (s : State) (a : Nat) (b : Byte) : (s.putByte a b).fan = s.fan := rfl
@[simp] theorem State.putByte_sqs (s : State) (a : Nat) (b : Byte) : (s.putByte a b).sqs = s.sqs := rfl
@[simp] theorem State.putByte_pos (s : State) (a : Nat) (b : Byte) : (s.putByte a b).pos = s.pos := rfl
@[simp] theorem State.putByte_axes (s : State) (a : Nat) (b : Byte) : (s.putByte a b).axes = s.axes := rfl
@[simp] theorem State.putByte_trigs (s : State) (a : Nat) (b : Byte) : (s.putByte a b).trigs = s.trigs := rfl
@[simp] theorem State.putByte_offset (s : State) (a : Nat) (b : Byte) : (s.putByte a b).offset = s.offset := rfl
@[simp] theorem State.putByte_ts (s : State) (a : Nat) (b : Byte) : (s.putByte a b).ts = s.ts := rfl
@[simp] theorem State.putByte_fsch (s : State) (a : Nat) (b : Byte) : (s.putByte a b).fsch = s.fsch := rfl
@[simp] theorem State.putByte_evt (s : State) (a : Nat) (b : Byte) : (s.putByte a b).evt = s.evt := rfl
@[simp] theorem State.putByte_seqTb (s : State) (a : Nat) (b : Byte) : (s.putByte a b).seqTb = s.seqTb := rfl
@[simp] theorem State.putByte_tbDsp (s : State) (a : Nat) (b : Byte) : (s.putByte a b).tbDsp = s.tbDsp := rfl
@[simp] theorem State.putByte_hps (s : State) (a : Nat) (b : Byte) : (s.putByte a b).hps = s.hps := rfl
@[simp] theorem State.putByte_gov (s : State) (a : Nat) (b : Byte) : (s.putByte a b).gov = s.gov := rfl
@[simp] theorem State.putByte_weir (s : State) (a : Nat) (b : Byte) : (s.putByte a b).weir = s.weir := rfl
@[simp] theorem State.putByte_toll (s : State) (a : Nat) (b : Byte) : (s.putByte a b).toll = s.toll := rfl
@[simp] theorem State.putByte_nves (s : State) (a : Nat) (b : Byte) : (s.putByte a b).nves = s.nves := rfl
@[simp] theorem State.putByte_mbx (s : State) (a : Nat) (b : Byte) : (s.putByte a b).mbx = s.mbx := rfl
@[simp] theorem State.putByte_clk (s : State) (a : Nat) (b : Byte) : (s.putByte a b).clk = s.clk := rfl
@[simp] theorem State.putByte_thm (s : State) (a : Nat) (b : Byte) : (s.putByte a b).thm = s.thm := rfl
@[simp] theorem State.putByte_cal (s : State) (a : Nat) (b : Byte) : (s.putByte a b).cal = s.cal := rfl
@[simp] theorem State.putByte_boot (s : State) (a : Nat) (b : Byte) : (s.putByte a b).boot = s.boot := rfl
@[simp] theorem State.putByte_otp (s : State) (a : Nat) (b : Byte) : (s.putByte a b).otp = s.otp := rfl
@[simp] theorem State.putByte_sec (s : State) (a : Nat) (b : Byte) : (s.putByte a b).sec = s.sec := rfl
@[simp] theorem State.putByte_dram (s : State) (a : Nat) (b : Byte) : (s.putByte a b).dram = s.dram := rfl
@[simp] theorem State.putByte_corr (s : State) (a : Nat) (b : Byte) : (s.putByte a b).corr = s.corr := rfl
@[simp] theorem State.putByte_engines (s : State) (a : Nat) (b : Byte) : (s.putByte a b).engines = s.engines := rfl
@[simp] theorem State.putByte_cmps (s : State) (a : Nat) (b : Byte) : (s.putByte a b).cmps = s.cmps := rfl
@[simp] theorem State.putByte_cams (s : State) (a : Nat) (b : Byte) : (s.putByte a b).cams = s.cams := rfl
@[simp] theorem State.putByte_ispCam (s : State) (a : Nat) (b : Byte) : (s.putByte a b).ispCam = s.ispCam := rfl
@[simp] theorem State.putByte_bolt (s : State) (a : Nat) (b : Byte) : (s.putByte a b).bolt = s.bolt := rfl
@[simp] theorem State.putByte_dma (s : State) (a : Nat) (b : Byte) : (s.putByte a b).dma = s.dma := rfl
@[simp] theorem State.putByte_links (s : State) (a : Nat) (b : Byte) : (s.putByte a b).links = s.links := rfl

@[simp] theorem State.advance_pending (s : State) : (s.advance).pending = s.pending := rfl
@[simp] theorem State.advance_tbc (s : State) : (s.advance).tbc = s.tbc := rfl
@[simp] theorem State.advance_tbRuns (s : State) : (s.advance).tbRuns = s.tbRuns := rfl
@[simp] theorem State.advance_busResp (s : State) : (s.advance).busResp = s.busResp := rfl
@[simp] theorem State.advance_busData (s : State) : (s.advance).busData = s.busData := rfl
@[simp] theorem State.advance_regs (s : State) : (s.advance).regs = s.regs := rfl
@[simp] theorem State.advance_stage (s : State) : (s.advance).stage = s.stage := rfl
@[simp] theorem State.advance_cap (s : State) : (s.advance).cap = s.cap := rfl
@[simp] theorem State.advance_mem (s : State) : (s.advance).mem = s.mem := rfl
@[simp] theorem State.advance_scs (s : State) : (s.advance).scs = s.scs := rfl
@[simp] theorem State.advance_fan (s : State) : (s.advance).fan = s.fan := rfl
@[simp] theorem State.advance_sqs (s : State) : (s.advance).sqs = s.sqs := rfl
@[simp] theorem State.advance_pos (s : State) : (s.advance).pos = s.pos := rfl
@[simp] theorem State.advance_axes (s : State) : (s.advance).axes = s.axes := rfl
@[simp] theorem State.advance_trigs (s : State) : (s.advance).trigs = s.trigs := rfl
@[simp] theorem State.advance_offset (s : State) : (s.advance).offset = s.offset := rfl
@[simp] theorem State.advance_ts (s : State) : (s.advance).ts = s.ts := rfl
@[simp] theorem State.advance_fsch (s : State) : (s.advance).fsch = s.fsch := rfl
@[simp] theorem State.advance_evt (s : State) : (s.advance).evt = s.evt := rfl
@[simp] theorem State.advance_seqTb (s : State) : (s.advance).seqTb = s.seqTb := rfl
@[simp] theorem State.advance_tbDsp (s : State) : (s.advance).tbDsp = s.tbDsp := rfl
@[simp] theorem State.advance_hps (s : State) : (s.advance).hps = s.hps := rfl
@[simp] theorem State.advance_gov (s : State) : (s.advance).gov = s.gov := rfl
@[simp] theorem State.advance_weir (s : State) : (s.advance).weir = s.weir := rfl
@[simp] theorem State.advance_toll (s : State) : (s.advance).toll = s.toll := rfl
@[simp] theorem State.advance_nves (s : State) : (s.advance).nves = s.nves := rfl
@[simp] theorem State.advance_mbx (s : State) : (s.advance).mbx = s.mbx := rfl
@[simp] theorem State.advance_clk (s : State) : (s.advance).clk = s.clk := rfl
@[simp] theorem State.advance_thm (s : State) : (s.advance).thm = s.thm := rfl
@[simp] theorem State.advance_cal (s : State) : (s.advance).cal = s.cal := rfl
@[simp] theorem State.advance_boot (s : State) : (s.advance).boot = s.boot := rfl
@[simp] theorem State.advance_otp (s : State) : (s.advance).otp = s.otp := rfl
@[simp] theorem State.advance_sec (s : State) : (s.advance).sec = s.sec := rfl
@[simp] theorem State.advance_dram (s : State) : (s.advance).dram = s.dram := rfl
@[simp] theorem State.advance_corr (s : State) : (s.advance).corr = s.corr := rfl
@[simp] theorem State.advance_engines (s : State) : (s.advance).engines = s.engines := rfl
@[simp] theorem State.advance_cmps (s : State) : (s.advance).cmps = s.cmps := rfl
@[simp] theorem State.advance_cams (s : State) : (s.advance).cams = s.cams := rfl
@[simp] theorem State.advance_ispCam (s : State) : (s.advance).ispCam = s.ispCam := rfl
@[simp] theorem State.advance_bolt (s : State) : (s.advance).bolt = s.bolt := rfl
@[simp] theorem State.advance_dma (s : State) : (s.advance).dma = s.dma := rfl
@[simp] theorem State.advance_links (s : State) : (s.advance).links = s.links := rfl

@[simp] theorem State.bus_pending (s : State) (r : Resp) (v : Word) : (s.bus r v).pending = s.pending := rfl
@[simp] theorem State.bus_free (s : State) (r : Resp) (v : Word) : (s.bus r v).free = s.free := rfl
@[simp] theorem State.bus_tbc (s : State) (r : Resp) (v : Word) : (s.bus r v).tbc = s.tbc := rfl
@[simp] theorem State.bus_tbRuns (s : State) (r : Resp) (v : Word) : (s.bus r v).tbRuns = s.tbRuns := rfl
@[simp] theorem State.bus_regs (s : State) (r : Resp) (v : Word) : (s.bus r v).regs = s.regs := rfl
@[simp] theorem State.bus_stage (s : State) (r : Resp) (v : Word) : (s.bus r v).stage = s.stage := rfl
@[simp] theorem State.bus_cap (s : State) (r : Resp) (v : Word) : (s.bus r v).cap = s.cap := rfl
@[simp] theorem State.bus_mem (s : State) (r : Resp) (v : Word) : (s.bus r v).mem = s.mem := rfl
@[simp] theorem State.bus_scs (s : State) (r : Resp) (v : Word) : (s.bus r v).scs = s.scs := rfl
@[simp] theorem State.bus_fan (s : State) (r : Resp) (v : Word) : (s.bus r v).fan = s.fan := rfl
@[simp] theorem State.bus_sqs (s : State) (r : Resp) (v : Word) : (s.bus r v).sqs = s.sqs := rfl
@[simp] theorem State.bus_pos (s : State) (r : Resp) (v : Word) : (s.bus r v).pos = s.pos := rfl
@[simp] theorem State.bus_axes (s : State) (r : Resp) (v : Word) : (s.bus r v).axes = s.axes := rfl
@[simp] theorem State.bus_trigs (s : State) (r : Resp) (v : Word) : (s.bus r v).trigs = s.trigs := rfl
@[simp] theorem State.bus_offset (s : State) (r : Resp) (v : Word) : (s.bus r v).offset = s.offset := rfl
@[simp] theorem State.bus_ts (s : State) (r : Resp) (v : Word) : (s.bus r v).ts = s.ts := rfl
@[simp] theorem State.bus_fsch (s : State) (r : Resp) (v : Word) : (s.bus r v).fsch = s.fsch := rfl
@[simp] theorem State.bus_evt (s : State) (r : Resp) (v : Word) : (s.bus r v).evt = s.evt := rfl
@[simp] theorem State.bus_seqTb (s : State) (r : Resp) (v : Word) : (s.bus r v).seqTb = s.seqTb := rfl
@[simp] theorem State.bus_tbDsp (s : State) (r : Resp) (v : Word) : (s.bus r v).tbDsp = s.tbDsp := rfl
@[simp] theorem State.bus_hps (s : State) (r : Resp) (v : Word) : (s.bus r v).hps = s.hps := rfl
@[simp] theorem State.bus_gov (s : State) (r : Resp) (v : Word) : (s.bus r v).gov = s.gov := rfl
@[simp] theorem State.bus_weir (s : State) (r : Resp) (v : Word) : (s.bus r v).weir = s.weir := rfl
@[simp] theorem State.bus_toll (s : State) (r : Resp) (v : Word) : (s.bus r v).toll = s.toll := rfl
@[simp] theorem State.bus_nves (s : State) (r : Resp) (v : Word) : (s.bus r v).nves = s.nves := rfl
@[simp] theorem State.bus_mbx (s : State) (r : Resp) (v : Word) : (s.bus r v).mbx = s.mbx := rfl
@[simp] theorem State.bus_clk (s : State) (r : Resp) (v : Word) : (s.bus r v).clk = s.clk := rfl
@[simp] theorem State.bus_thm (s : State) (r : Resp) (v : Word) : (s.bus r v).thm = s.thm := rfl
@[simp] theorem State.bus_cal (s : State) (r : Resp) (v : Word) : (s.bus r v).cal = s.cal := rfl
@[simp] theorem State.bus_boot (s : State) (r : Resp) (v : Word) : (s.bus r v).boot = s.boot := rfl
@[simp] theorem State.bus_otp (s : State) (r : Resp) (v : Word) : (s.bus r v).otp = s.otp := rfl
@[simp] theorem State.bus_sec (s : State) (r : Resp) (v : Word) : (s.bus r v).sec = s.sec := rfl
@[simp] theorem State.bus_dram (s : State) (r : Resp) (v : Word) : (s.bus r v).dram = s.dram := rfl
@[simp] theorem State.bus_corr (s : State) (r : Resp) (v : Word) : (s.bus r v).corr = s.corr := rfl
@[simp] theorem State.bus_engines (s : State) (r : Resp) (v : Word) : (s.bus r v).engines = s.engines := rfl
@[simp] theorem State.bus_cmps (s : State) (r : Resp) (v : Word) : (s.bus r v).cmps = s.cmps := rfl
@[simp] theorem State.bus_cams (s : State) (r : Resp) (v : Word) : (s.bus r v).cams = s.cams := rfl
@[simp] theorem State.bus_ispCam (s : State) (r : Resp) (v : Word) : (s.bus r v).ispCam = s.ispCam := rfl
@[simp] theorem State.bus_bolt (s : State) (r : Resp) (v : Word) : (s.bus r v).bolt = s.bolt := rfl
@[simp] theorem State.bus_dma (s : State) (r : Resp) (v : Word) : (s.bus r v).dma = s.dma := rfl
@[simp] theorem State.bus_links (s : State) (r : Resp) (v : Word) : (s.bus r v).links = s.links := rfl

@[simp] theorem State.modSup_pending (s : State) (x : Fin 2) (f : Sup → Sup) : (s.modSup x f).pending = s.pending := rfl
@[simp] theorem State.modSup_free (s : State) (x : Fin 2) (f : Sup → Sup) : (s.modSup x f).free = s.free := rfl
@[simp] theorem State.modSup_tbc (s : State) (x : Fin 2) (f : Sup → Sup) : (s.modSup x f).tbc = s.tbc := rfl
@[simp] theorem State.modSup_tbRuns (s : State) (x : Fin 2) (f : Sup → Sup) : (s.modSup x f).tbRuns = s.tbRuns := rfl
@[simp] theorem State.modSup_busResp (s : State) (x : Fin 2) (f : Sup → Sup) : (s.modSup x f).busResp = s.busResp := rfl
@[simp] theorem State.modSup_busData (s : State) (x : Fin 2) (f : Sup → Sup) : (s.modSup x f).busData = s.busData := rfl
@[simp] theorem State.modSup_regs (s : State) (x : Fin 2) (f : Sup → Sup) : (s.modSup x f).regs = s.regs := rfl
@[simp] theorem State.modSup_stage (s : State) (x : Fin 2) (f : Sup → Sup) : (s.modSup x f).stage = s.stage := rfl
@[simp] theorem State.modSup_cap (s : State) (x : Fin 2) (f : Sup → Sup) : (s.modSup x f).cap = s.cap := rfl
@[simp] theorem State.modSup_mem (s : State) (x : Fin 2) (f : Sup → Sup) : (s.modSup x f).mem = s.mem := rfl
@[simp] theorem State.modSup_fan (s : State) (x : Fin 2) (f : Sup → Sup) : (s.modSup x f).fan = s.fan := rfl
@[simp] theorem State.modSup_sqs (s : State) (x : Fin 2) (f : Sup → Sup) : (s.modSup x f).sqs = s.sqs := rfl
@[simp] theorem State.modSup_pos (s : State) (x : Fin 2) (f : Sup → Sup) : (s.modSup x f).pos = s.pos := rfl
@[simp] theorem State.modSup_axes (s : State) (x : Fin 2) (f : Sup → Sup) : (s.modSup x f).axes = s.axes := rfl
@[simp] theorem State.modSup_trigs (s : State) (x : Fin 2) (f : Sup → Sup) : (s.modSup x f).trigs = s.trigs := rfl
@[simp] theorem State.modSup_offset (s : State) (x : Fin 2) (f : Sup → Sup) : (s.modSup x f).offset = s.offset := rfl
@[simp] theorem State.modSup_ts (s : State) (x : Fin 2) (f : Sup → Sup) : (s.modSup x f).ts = s.ts := rfl
@[simp] theorem State.modSup_fsch (s : State) (x : Fin 2) (f : Sup → Sup) : (s.modSup x f).fsch = s.fsch := rfl
@[simp] theorem State.modSup_evt (s : State) (x : Fin 2) (f : Sup → Sup) : (s.modSup x f).evt = s.evt := rfl
@[simp] theorem State.modSup_seqTb (s : State) (x : Fin 2) (f : Sup → Sup) : (s.modSup x f).seqTb = s.seqTb := rfl
@[simp] theorem State.modSup_tbDsp (s : State) (x : Fin 2) (f : Sup → Sup) : (s.modSup x f).tbDsp = s.tbDsp := rfl
@[simp] theorem State.modSup_hps (s : State) (x : Fin 2) (f : Sup → Sup) : (s.modSup x f).hps = s.hps := rfl
@[simp] theorem State.modSup_gov (s : State) (x : Fin 2) (f : Sup → Sup) : (s.modSup x f).gov = s.gov := rfl
@[simp] theorem State.modSup_weir (s : State) (x : Fin 2) (f : Sup → Sup) : (s.modSup x f).weir = s.weir := rfl
@[simp] theorem State.modSup_toll (s : State) (x : Fin 2) (f : Sup → Sup) : (s.modSup x f).toll = s.toll := rfl
@[simp] theorem State.modSup_nves (s : State) (x : Fin 2) (f : Sup → Sup) : (s.modSup x f).nves = s.nves := rfl
@[simp] theorem State.modSup_mbx (s : State) (x : Fin 2) (f : Sup → Sup) : (s.modSup x f).mbx = s.mbx := rfl
@[simp] theorem State.modSup_clk (s : State) (x : Fin 2) (f : Sup → Sup) : (s.modSup x f).clk = s.clk := rfl
@[simp] theorem State.modSup_thm (s : State) (x : Fin 2) (f : Sup → Sup) : (s.modSup x f).thm = s.thm := rfl
@[simp] theorem State.modSup_cal (s : State) (x : Fin 2) (f : Sup → Sup) : (s.modSup x f).cal = s.cal := rfl
@[simp] theorem State.modSup_boot (s : State) (x : Fin 2) (f : Sup → Sup) : (s.modSup x f).boot = s.boot := rfl
@[simp] theorem State.modSup_otp (s : State) (x : Fin 2) (f : Sup → Sup) : (s.modSup x f).otp = s.otp := rfl
@[simp] theorem State.modSup_sec (s : State) (x : Fin 2) (f : Sup → Sup) : (s.modSup x f).sec = s.sec := rfl
@[simp] theorem State.modSup_dram (s : State) (x : Fin 2) (f : Sup → Sup) : (s.modSup x f).dram = s.dram := rfl
@[simp] theorem State.modSup_corr (s : State) (x : Fin 2) (f : Sup → Sup) : (s.modSup x f).corr = s.corr := rfl
@[simp] theorem State.modSup_engines (s : State) (x : Fin 2) (f : Sup → Sup) : (s.modSup x f).engines = s.engines := rfl
@[simp] theorem State.modSup_cmps (s : State) (x : Fin 2) (f : Sup → Sup) : (s.modSup x f).cmps = s.cmps := rfl
@[simp] theorem State.modSup_cams (s : State) (x : Fin 2) (f : Sup → Sup) : (s.modSup x f).cams = s.cams := rfl
@[simp] theorem State.modSup_ispCam (s : State) (x : Fin 2) (f : Sup → Sup) : (s.modSup x f).ispCam = s.ispCam := rfl
@[simp] theorem State.modSup_bolt (s : State) (x : Fin 2) (f : Sup → Sup) : (s.modSup x f).bolt = s.bolt := rfl
@[simp] theorem State.modSup_dma (s : State) (x : Fin 2) (f : Sup → Sup) : (s.modSup x f).dma = s.dma := rfl
@[simp] theorem State.modSup_links (s : State) (x : Fin 2) (f : Sup → Sup) : (s.modSup x f).links = s.links := rfl

@[simp] theorem State.modSq_pending (s : State) (k : Fin 12) (f : Seq → Seq) : (s.modSq k f).pending = s.pending := rfl
@[simp] theorem State.modSq_free (s : State) (k : Fin 12) (f : Seq → Seq) : (s.modSq k f).free = s.free := rfl
@[simp] theorem State.modSq_tbc (s : State) (k : Fin 12) (f : Seq → Seq) : (s.modSq k f).tbc = s.tbc := rfl
@[simp] theorem State.modSq_tbRuns (s : State) (k : Fin 12) (f : Seq → Seq) : (s.modSq k f).tbRuns = s.tbRuns := rfl
@[simp] theorem State.modSq_busResp (s : State) (k : Fin 12) (f : Seq → Seq) : (s.modSq k f).busResp = s.busResp := rfl
@[simp] theorem State.modSq_busData (s : State) (k : Fin 12) (f : Seq → Seq) : (s.modSq k f).busData = s.busData := rfl
@[simp] theorem State.modSq_regs (s : State) (k : Fin 12) (f : Seq → Seq) : (s.modSq k f).regs = s.regs := rfl
@[simp] theorem State.modSq_stage (s : State) (k : Fin 12) (f : Seq → Seq) : (s.modSq k f).stage = s.stage := rfl
@[simp] theorem State.modSq_cap (s : State) (k : Fin 12) (f : Seq → Seq) : (s.modSq k f).cap = s.cap := rfl
@[simp] theorem State.modSq_mem (s : State) (k : Fin 12) (f : Seq → Seq) : (s.modSq k f).mem = s.mem := rfl
@[simp] theorem State.modSq_scs (s : State) (k : Fin 12) (f : Seq → Seq) : (s.modSq k f).scs = s.scs := rfl
@[simp] theorem State.modSq_fan (s : State) (k : Fin 12) (f : Seq → Seq) : (s.modSq k f).fan = s.fan := rfl
@[simp] theorem State.modSq_pos (s : State) (k : Fin 12) (f : Seq → Seq) : (s.modSq k f).pos = s.pos := rfl
@[simp] theorem State.modSq_axes (s : State) (k : Fin 12) (f : Seq → Seq) : (s.modSq k f).axes = s.axes := rfl
@[simp] theorem State.modSq_trigs (s : State) (k : Fin 12) (f : Seq → Seq) : (s.modSq k f).trigs = s.trigs := rfl
@[simp] theorem State.modSq_offset (s : State) (k : Fin 12) (f : Seq → Seq) : (s.modSq k f).offset = s.offset := rfl
@[simp] theorem State.modSq_ts (s : State) (k : Fin 12) (f : Seq → Seq) : (s.modSq k f).ts = s.ts := rfl
@[simp] theorem State.modSq_fsch (s : State) (k : Fin 12) (f : Seq → Seq) : (s.modSq k f).fsch = s.fsch := rfl
@[simp] theorem State.modSq_evt (s : State) (k : Fin 12) (f : Seq → Seq) : (s.modSq k f).evt = s.evt := rfl
@[simp] theorem State.modSq_seqTb (s : State) (k : Fin 12) (f : Seq → Seq) : (s.modSq k f).seqTb = s.seqTb := rfl
@[simp] theorem State.modSq_tbDsp (s : State) (k : Fin 12) (f : Seq → Seq) : (s.modSq k f).tbDsp = s.tbDsp := rfl
@[simp] theorem State.modSq_hps (s : State) (k : Fin 12) (f : Seq → Seq) : (s.modSq k f).hps = s.hps := rfl
@[simp] theorem State.modSq_gov (s : State) (k : Fin 12) (f : Seq → Seq) : (s.modSq k f).gov = s.gov := rfl
@[simp] theorem State.modSq_weir (s : State) (k : Fin 12) (f : Seq → Seq) : (s.modSq k f).weir = s.weir := rfl
@[simp] theorem State.modSq_toll (s : State) (k : Fin 12) (f : Seq → Seq) : (s.modSq k f).toll = s.toll := rfl
@[simp] theorem State.modSq_nves (s : State) (k : Fin 12) (f : Seq → Seq) : (s.modSq k f).nves = s.nves := rfl
@[simp] theorem State.modSq_mbx (s : State) (k : Fin 12) (f : Seq → Seq) : (s.modSq k f).mbx = s.mbx := rfl
@[simp] theorem State.modSq_clk (s : State) (k : Fin 12) (f : Seq → Seq) : (s.modSq k f).clk = s.clk := rfl
@[simp] theorem State.modSq_thm (s : State) (k : Fin 12) (f : Seq → Seq) : (s.modSq k f).thm = s.thm := rfl
@[simp] theorem State.modSq_cal (s : State) (k : Fin 12) (f : Seq → Seq) : (s.modSq k f).cal = s.cal := rfl
@[simp] theorem State.modSq_boot (s : State) (k : Fin 12) (f : Seq → Seq) : (s.modSq k f).boot = s.boot := rfl
@[simp] theorem State.modSq_otp (s : State) (k : Fin 12) (f : Seq → Seq) : (s.modSq k f).otp = s.otp := rfl
@[simp] theorem State.modSq_sec (s : State) (k : Fin 12) (f : Seq → Seq) : (s.modSq k f).sec = s.sec := rfl
@[simp] theorem State.modSq_dram (s : State) (k : Fin 12) (f : Seq → Seq) : (s.modSq k f).dram = s.dram := rfl
@[simp] theorem State.modSq_corr (s : State) (k : Fin 12) (f : Seq → Seq) : (s.modSq k f).corr = s.corr := rfl
@[simp] theorem State.modSq_engines (s : State) (k : Fin 12) (f : Seq → Seq) : (s.modSq k f).engines = s.engines := rfl
@[simp] theorem State.modSq_cmps (s : State) (k : Fin 12) (f : Seq → Seq) : (s.modSq k f).cmps = s.cmps := rfl
@[simp] theorem State.modSq_cams (s : State) (k : Fin 12) (f : Seq → Seq) : (s.modSq k f).cams = s.cams := rfl
@[simp] theorem State.modSq_ispCam (s : State) (k : Fin 12) (f : Seq → Seq) : (s.modSq k f).ispCam = s.ispCam := rfl
@[simp] theorem State.modSq_bolt (s : State) (k : Fin 12) (f : Seq → Seq) : (s.modSq k f).bolt = s.bolt := rfl
@[simp] theorem State.modSq_dma (s : State) (k : Fin 12) (f : Seq → Seq) : (s.modSq k f).dma = s.dma := rfl
@[simp] theorem State.modSq_links (s : State) (k : Fin 12) (f : Seq → Seq) : (s.modSq k f).links = s.links := rfl

@[simp] theorem State.modPos_pending (s : State) (c : Fin 10) (f : PosChan → PosChan) : (s.modPos c f).pending = s.pending := rfl
@[simp] theorem State.modPos_free (s : State) (c : Fin 10) (f : PosChan → PosChan) : (s.modPos c f).free = s.free := rfl
@[simp] theorem State.modPos_tbc (s : State) (c : Fin 10) (f : PosChan → PosChan) : (s.modPos c f).tbc = s.tbc := rfl
@[simp] theorem State.modPos_tbRuns (s : State) (c : Fin 10) (f : PosChan → PosChan) : (s.modPos c f).tbRuns = s.tbRuns := rfl
@[simp] theorem State.modPos_busResp (s : State) (c : Fin 10) (f : PosChan → PosChan) : (s.modPos c f).busResp = s.busResp := rfl
@[simp] theorem State.modPos_busData (s : State) (c : Fin 10) (f : PosChan → PosChan) : (s.modPos c f).busData = s.busData := rfl
@[simp] theorem State.modPos_regs (s : State) (c : Fin 10) (f : PosChan → PosChan) : (s.modPos c f).regs = s.regs := rfl
@[simp] theorem State.modPos_stage (s : State) (c : Fin 10) (f : PosChan → PosChan) : (s.modPos c f).stage = s.stage := rfl
@[simp] theorem State.modPos_cap (s : State) (c : Fin 10) (f : PosChan → PosChan) : (s.modPos c f).cap = s.cap := rfl
@[simp] theorem State.modPos_mem (s : State) (c : Fin 10) (f : PosChan → PosChan) : (s.modPos c f).mem = s.mem := rfl
@[simp] theorem State.modPos_scs (s : State) (c : Fin 10) (f : PosChan → PosChan) : (s.modPos c f).scs = s.scs := rfl
@[simp] theorem State.modPos_fan (s : State) (c : Fin 10) (f : PosChan → PosChan) : (s.modPos c f).fan = s.fan := rfl
@[simp] theorem State.modPos_sqs (s : State) (c : Fin 10) (f : PosChan → PosChan) : (s.modPos c f).sqs = s.sqs := rfl
@[simp] theorem State.modPos_axes (s : State) (c : Fin 10) (f : PosChan → PosChan) : (s.modPos c f).axes = s.axes := rfl
@[simp] theorem State.modPos_trigs (s : State) (c : Fin 10) (f : PosChan → PosChan) : (s.modPos c f).trigs = s.trigs := rfl
@[simp] theorem State.modPos_offset (s : State) (c : Fin 10) (f : PosChan → PosChan) : (s.modPos c f).offset = s.offset := rfl
@[simp] theorem State.modPos_ts (s : State) (c : Fin 10) (f : PosChan → PosChan) : (s.modPos c f).ts = s.ts := rfl
@[simp] theorem State.modPos_fsch (s : State) (c : Fin 10) (f : PosChan → PosChan) : (s.modPos c f).fsch = s.fsch := rfl
@[simp] theorem State.modPos_evt (s : State) (c : Fin 10) (f : PosChan → PosChan) : (s.modPos c f).evt = s.evt := rfl
@[simp] theorem State.modPos_seqTb (s : State) (c : Fin 10) (f : PosChan → PosChan) : (s.modPos c f).seqTb = s.seqTb := rfl
@[simp] theorem State.modPos_tbDsp (s : State) (c : Fin 10) (f : PosChan → PosChan) : (s.modPos c f).tbDsp = s.tbDsp := rfl
@[simp] theorem State.modPos_hps (s : State) (c : Fin 10) (f : PosChan → PosChan) : (s.modPos c f).hps = s.hps := rfl
@[simp] theorem State.modPos_gov (s : State) (c : Fin 10) (f : PosChan → PosChan) : (s.modPos c f).gov = s.gov := rfl
@[simp] theorem State.modPos_weir (s : State) (c : Fin 10) (f : PosChan → PosChan) : (s.modPos c f).weir = s.weir := rfl
@[simp] theorem State.modPos_toll (s : State) (c : Fin 10) (f : PosChan → PosChan) : (s.modPos c f).toll = s.toll := rfl
@[simp] theorem State.modPos_nves (s : State) (c : Fin 10) (f : PosChan → PosChan) : (s.modPos c f).nves = s.nves := rfl
@[simp] theorem State.modPos_mbx (s : State) (c : Fin 10) (f : PosChan → PosChan) : (s.modPos c f).mbx = s.mbx := rfl
@[simp] theorem State.modPos_clk (s : State) (c : Fin 10) (f : PosChan → PosChan) : (s.modPos c f).clk = s.clk := rfl
@[simp] theorem State.modPos_thm (s : State) (c : Fin 10) (f : PosChan → PosChan) : (s.modPos c f).thm = s.thm := rfl
@[simp] theorem State.modPos_cal (s : State) (c : Fin 10) (f : PosChan → PosChan) : (s.modPos c f).cal = s.cal := rfl
@[simp] theorem State.modPos_boot (s : State) (c : Fin 10) (f : PosChan → PosChan) : (s.modPos c f).boot = s.boot := rfl
@[simp] theorem State.modPos_otp (s : State) (c : Fin 10) (f : PosChan → PosChan) : (s.modPos c f).otp = s.otp := rfl
@[simp] theorem State.modPos_sec (s : State) (c : Fin 10) (f : PosChan → PosChan) : (s.modPos c f).sec = s.sec := rfl
@[simp] theorem State.modPos_dram (s : State) (c : Fin 10) (f : PosChan → PosChan) : (s.modPos c f).dram = s.dram := rfl
@[simp] theorem State.modPos_corr (s : State) (c : Fin 10) (f : PosChan → PosChan) : (s.modPos c f).corr = s.corr := rfl
@[simp] theorem State.modPos_engines (s : State) (c : Fin 10) (f : PosChan → PosChan) : (s.modPos c f).engines = s.engines := rfl
@[simp] theorem State.modPos_cmps (s : State) (c : Fin 10) (f : PosChan → PosChan) : (s.modPos c f).cmps = s.cmps := rfl
@[simp] theorem State.modPos_cams (s : State) (c : Fin 10) (f : PosChan → PosChan) : (s.modPos c f).cams = s.cams := rfl
@[simp] theorem State.modPos_ispCam (s : State) (c : Fin 10) (f : PosChan → PosChan) : (s.modPos c f).ispCam = s.ispCam := rfl
@[simp] theorem State.modPos_bolt (s : State) (c : Fin 10) (f : PosChan → PosChan) : (s.modPos c f).bolt = s.bolt := rfl
@[simp] theorem State.modPos_dma (s : State) (c : Fin 10) (f : PosChan → PosChan) : (s.modPos c f).dma = s.dma := rfl
@[simp] theorem State.modPos_links (s : State) (c : Fin 10) (f : PosChan → PosChan) : (s.modPos c f).links = s.links := rfl

@[simp] theorem State.modPort_pending (s : State) (p : Fin 48) (f : PortFire → PortFire) : (s.modPort p f).pending = s.pending := rfl
@[simp] theorem State.modPort_free (s : State) (p : Fin 48) (f : PortFire → PortFire) : (s.modPort p f).free = s.free := rfl
@[simp] theorem State.modPort_tbc (s : State) (p : Fin 48) (f : PortFire → PortFire) : (s.modPort p f).tbc = s.tbc := rfl
@[simp] theorem State.modPort_tbRuns (s : State) (p : Fin 48) (f : PortFire → PortFire) : (s.modPort p f).tbRuns = s.tbRuns := rfl
@[simp] theorem State.modPort_busResp (s : State) (p : Fin 48) (f : PortFire → PortFire) : (s.modPort p f).busResp = s.busResp := rfl
@[simp] theorem State.modPort_busData (s : State) (p : Fin 48) (f : PortFire → PortFire) : (s.modPort p f).busData = s.busData := rfl
@[simp] theorem State.modPort_regs (s : State) (p : Fin 48) (f : PortFire → PortFire) : (s.modPort p f).regs = s.regs := rfl
@[simp] theorem State.modPort_stage (s : State) (p : Fin 48) (f : PortFire → PortFire) : (s.modPort p f).stage = s.stage := rfl
@[simp] theorem State.modPort_cap (s : State) (p : Fin 48) (f : PortFire → PortFire) : (s.modPort p f).cap = s.cap := rfl
@[simp] theorem State.modPort_mem (s : State) (p : Fin 48) (f : PortFire → PortFire) : (s.modPort p f).mem = s.mem := rfl
@[simp] theorem State.modPort_scs (s : State) (p : Fin 48) (f : PortFire → PortFire) : (s.modPort p f).scs = s.scs := rfl
@[simp] theorem State.modPort_fan (s : State) (p : Fin 48) (f : PortFire → PortFire) : (s.modPort p f).fan = s.fan := rfl
@[simp] theorem State.modPort_sqs (s : State) (p : Fin 48) (f : PortFire → PortFire) : (s.modPort p f).sqs = s.sqs := rfl
@[simp] theorem State.modPort_pos (s : State) (p : Fin 48) (f : PortFire → PortFire) : (s.modPort p f).pos = s.pos := rfl
@[simp] theorem State.modPort_axes (s : State) (p : Fin 48) (f : PortFire → PortFire) : (s.modPort p f).axes = s.axes := rfl
@[simp] theorem State.modPort_trigs (s : State) (p : Fin 48) (f : PortFire → PortFire) : (s.modPort p f).trigs = s.trigs := rfl
@[simp] theorem State.modPort_offset (s : State) (p : Fin 48) (f : PortFire → PortFire) : (s.modPort p f).offset = s.offset := rfl
@[simp] theorem State.modPort_ts (s : State) (p : Fin 48) (f : PortFire → PortFire) : (s.modPort p f).ts = s.ts := rfl
@[simp] theorem State.modPort_evt (s : State) (p : Fin 48) (f : PortFire → PortFire) : (s.modPort p f).evt = s.evt := rfl
@[simp] theorem State.modPort_seqTb (s : State) (p : Fin 48) (f : PortFire → PortFire) : (s.modPort p f).seqTb = s.seqTb := rfl
@[simp] theorem State.modPort_tbDsp (s : State) (p : Fin 48) (f : PortFire → PortFire) : (s.modPort p f).tbDsp = s.tbDsp := rfl
@[simp] theorem State.modPort_hps (s : State) (p : Fin 48) (f : PortFire → PortFire) : (s.modPort p f).hps = s.hps := rfl
@[simp] theorem State.modPort_gov (s : State) (p : Fin 48) (f : PortFire → PortFire) : (s.modPort p f).gov = s.gov := rfl
@[simp] theorem State.modPort_weir (s : State) (p : Fin 48) (f : PortFire → PortFire) : (s.modPort p f).weir = s.weir := rfl
@[simp] theorem State.modPort_toll (s : State) (p : Fin 48) (f : PortFire → PortFire) : (s.modPort p f).toll = s.toll := rfl
@[simp] theorem State.modPort_nves (s : State) (p : Fin 48) (f : PortFire → PortFire) : (s.modPort p f).nves = s.nves := rfl
@[simp] theorem State.modPort_mbx (s : State) (p : Fin 48) (f : PortFire → PortFire) : (s.modPort p f).mbx = s.mbx := rfl
@[simp] theorem State.modPort_clk (s : State) (p : Fin 48) (f : PortFire → PortFire) : (s.modPort p f).clk = s.clk := rfl
@[simp] theorem State.modPort_thm (s : State) (p : Fin 48) (f : PortFire → PortFire) : (s.modPort p f).thm = s.thm := rfl
@[simp] theorem State.modPort_cal (s : State) (p : Fin 48) (f : PortFire → PortFire) : (s.modPort p f).cal = s.cal := rfl
@[simp] theorem State.modPort_boot (s : State) (p : Fin 48) (f : PortFire → PortFire) : (s.modPort p f).boot = s.boot := rfl
@[simp] theorem State.modPort_otp (s : State) (p : Fin 48) (f : PortFire → PortFire) : (s.modPort p f).otp = s.otp := rfl
@[simp] theorem State.modPort_sec (s : State) (p : Fin 48) (f : PortFire → PortFire) : (s.modPort p f).sec = s.sec := rfl
@[simp] theorem State.modPort_dram (s : State) (p : Fin 48) (f : PortFire → PortFire) : (s.modPort p f).dram = s.dram := rfl
@[simp] theorem State.modPort_corr (s : State) (p : Fin 48) (f : PortFire → PortFire) : (s.modPort p f).corr = s.corr := rfl
@[simp] theorem State.modPort_engines (s : State) (p : Fin 48) (f : PortFire → PortFire) : (s.modPort p f).engines = s.engines := rfl
@[simp] theorem State.modPort_cmps (s : State) (p : Fin 48) (f : PortFire → PortFire) : (s.modPort p f).cmps = s.cmps := rfl
@[simp] theorem State.modPort_cams (s : State) (p : Fin 48) (f : PortFire → PortFire) : (s.modPort p f).cams = s.cams := rfl
@[simp] theorem State.modPort_ispCam (s : State) (p : Fin 48) (f : PortFire → PortFire) : (s.modPort p f).ispCam = s.ispCam := rfl
@[simp] theorem State.modPort_bolt (s : State) (p : Fin 48) (f : PortFire → PortFire) : (s.modPort p f).bolt = s.bolt := rfl
@[simp] theorem State.modPort_dma (s : State) (p : Fin 48) (f : PortFire → PortFire) : (s.modPort p f).dma = s.dma := rfl
@[simp] theorem State.modPort_links (s : State) (p : Fin 48) (f : PortFire → PortFire) : (s.modPort p f).links = s.links := rfl

@[simp] theorem State.raiseAt_pending (s : State) (ev src : Nat) (v pg ln : Word) (o : Option (Fin 2)) : (s.raiseAt ev src v pg ln o).pending = s.pending := rfl
@[simp] theorem State.raiseAt_free (s : State) (ev src : Nat) (v pg ln : Word) (o : Option (Fin 2)) : (s.raiseAt ev src v pg ln o).free = s.free := rfl
@[simp] theorem State.raiseAt_tbc (s : State) (ev src : Nat) (v pg ln : Word) (o : Option (Fin 2)) : (s.raiseAt ev src v pg ln o).tbc = s.tbc := rfl
@[simp] theorem State.raiseAt_tbRuns (s : State) (ev src : Nat) (v pg ln : Word) (o : Option (Fin 2)) : (s.raiseAt ev src v pg ln o).tbRuns = s.tbRuns := rfl
@[simp] theorem State.raiseAt_busResp (s : State) (ev src : Nat) (v pg ln : Word) (o : Option (Fin 2)) : (s.raiseAt ev src v pg ln o).busResp = s.busResp := rfl
@[simp] theorem State.raiseAt_busData (s : State) (ev src : Nat) (v pg ln : Word) (o : Option (Fin 2)) : (s.raiseAt ev src v pg ln o).busData = s.busData := rfl
@[simp] theorem State.raiseAt_regs (s : State) (ev src : Nat) (v pg ln : Word) (o : Option (Fin 2)) : (s.raiseAt ev src v pg ln o).regs = s.regs := rfl
@[simp] theorem State.raiseAt_stage (s : State) (ev src : Nat) (v pg ln : Word) (o : Option (Fin 2)) : (s.raiseAt ev src v pg ln o).stage = s.stage := rfl
@[simp] theorem State.raiseAt_cap (s : State) (ev src : Nat) (v pg ln : Word) (o : Option (Fin 2)) : (s.raiseAt ev src v pg ln o).cap = s.cap := rfl
@[simp] theorem State.raiseAt_mem (s : State) (ev src : Nat) (v pg ln : Word) (o : Option (Fin 2)) : (s.raiseAt ev src v pg ln o).mem = s.mem := rfl
@[simp] theorem State.raiseAt_scs (s : State) (ev src : Nat) (v pg ln : Word) (o : Option (Fin 2)) : (s.raiseAt ev src v pg ln o).scs = s.scs := rfl
@[simp] theorem State.raiseAt_fan (s : State) (ev src : Nat) (v pg ln : Word) (o : Option (Fin 2)) : (s.raiseAt ev src v pg ln o).fan = s.fan := rfl
@[simp] theorem State.raiseAt_sqs (s : State) (ev src : Nat) (v pg ln : Word) (o : Option (Fin 2)) : (s.raiseAt ev src v pg ln o).sqs = s.sqs := rfl
@[simp] theorem State.raiseAt_pos (s : State) (ev src : Nat) (v pg ln : Word) (o : Option (Fin 2)) : (s.raiseAt ev src v pg ln o).pos = s.pos := rfl
@[simp] theorem State.raiseAt_axes (s : State) (ev src : Nat) (v pg ln : Word) (o : Option (Fin 2)) : (s.raiseAt ev src v pg ln o).axes = s.axes := rfl
@[simp] theorem State.raiseAt_trigs (s : State) (ev src : Nat) (v pg ln : Word) (o : Option (Fin 2)) : (s.raiseAt ev src v pg ln o).trigs = s.trigs := rfl
@[simp] theorem State.raiseAt_offset (s : State) (ev src : Nat) (v pg ln : Word) (o : Option (Fin 2)) : (s.raiseAt ev src v pg ln o).offset = s.offset := rfl
@[simp] theorem State.raiseAt_ts (s : State) (ev src : Nat) (v pg ln : Word) (o : Option (Fin 2)) : (s.raiseAt ev src v pg ln o).ts = s.ts := rfl
@[simp] theorem State.raiseAt_fsch (s : State) (ev src : Nat) (v pg ln : Word) (o : Option (Fin 2)) : (s.raiseAt ev src v pg ln o).fsch = s.fsch := rfl
@[simp] theorem State.raiseAt_seqTb (s : State) (ev src : Nat) (v pg ln : Word) (o : Option (Fin 2)) : (s.raiseAt ev src v pg ln o).seqTb = s.seqTb := rfl
@[simp] theorem State.raiseAt_tbDsp (s : State) (ev src : Nat) (v pg ln : Word) (o : Option (Fin 2)) : (s.raiseAt ev src v pg ln o).tbDsp = s.tbDsp := rfl
@[simp] theorem State.raiseAt_hps (s : State) (ev src : Nat) (v pg ln : Word) (o : Option (Fin 2)) : (s.raiseAt ev src v pg ln o).hps = s.hps := rfl
@[simp] theorem State.raiseAt_gov (s : State) (ev src : Nat) (v pg ln : Word) (o : Option (Fin 2)) : (s.raiseAt ev src v pg ln o).gov = s.gov := rfl
@[simp] theorem State.raiseAt_weir (s : State) (ev src : Nat) (v pg ln : Word) (o : Option (Fin 2)) : (s.raiseAt ev src v pg ln o).weir = s.weir := rfl
@[simp] theorem State.raiseAt_toll (s : State) (ev src : Nat) (v pg ln : Word) (o : Option (Fin 2)) : (s.raiseAt ev src v pg ln o).toll = s.toll := rfl
@[simp] theorem State.raiseAt_nves (s : State) (ev src : Nat) (v pg ln : Word) (o : Option (Fin 2)) : (s.raiseAt ev src v pg ln o).nves = s.nves := rfl
@[simp] theorem State.raiseAt_mbx (s : State) (ev src : Nat) (v pg ln : Word) (o : Option (Fin 2)) : (s.raiseAt ev src v pg ln o).mbx = s.mbx := rfl
@[simp] theorem State.raiseAt_clk (s : State) (ev src : Nat) (v pg ln : Word) (o : Option (Fin 2)) : (s.raiseAt ev src v pg ln o).clk = s.clk := rfl
@[simp] theorem State.raiseAt_thm (s : State) (ev src : Nat) (v pg ln : Word) (o : Option (Fin 2)) : (s.raiseAt ev src v pg ln o).thm = s.thm := rfl
@[simp] theorem State.raiseAt_cal (s : State) (ev src : Nat) (v pg ln : Word) (o : Option (Fin 2)) : (s.raiseAt ev src v pg ln o).cal = s.cal := rfl
@[simp] theorem State.raiseAt_boot (s : State) (ev src : Nat) (v pg ln : Word) (o : Option (Fin 2)) : (s.raiseAt ev src v pg ln o).boot = s.boot := rfl
@[simp] theorem State.raiseAt_otp (s : State) (ev src : Nat) (v pg ln : Word) (o : Option (Fin 2)) : (s.raiseAt ev src v pg ln o).otp = s.otp := rfl
@[simp] theorem State.raiseAt_sec (s : State) (ev src : Nat) (v pg ln : Word) (o : Option (Fin 2)) : (s.raiseAt ev src v pg ln o).sec = s.sec := rfl
@[simp] theorem State.raiseAt_dram (s : State) (ev src : Nat) (v pg ln : Word) (o : Option (Fin 2)) : (s.raiseAt ev src v pg ln o).dram = s.dram := rfl
@[simp] theorem State.raiseAt_corr (s : State) (ev src : Nat) (v pg ln : Word) (o : Option (Fin 2)) : (s.raiseAt ev src v pg ln o).corr = s.corr := rfl
@[simp] theorem State.raiseAt_engines (s : State) (ev src : Nat) (v pg ln : Word) (o : Option (Fin 2)) : (s.raiseAt ev src v pg ln o).engines = s.engines := rfl
@[simp] theorem State.raiseAt_cmps (s : State) (ev src : Nat) (v pg ln : Word) (o : Option (Fin 2)) : (s.raiseAt ev src v pg ln o).cmps = s.cmps := rfl
@[simp] theorem State.raiseAt_cams (s : State) (ev src : Nat) (v pg ln : Word) (o : Option (Fin 2)) : (s.raiseAt ev src v pg ln o).cams = s.cams := rfl
@[simp] theorem State.raiseAt_ispCam (s : State) (ev src : Nat) (v pg ln : Word) (o : Option (Fin 2)) : (s.raiseAt ev src v pg ln o).ispCam = s.ispCam := rfl
@[simp] theorem State.raiseAt_bolt (s : State) (ev src : Nat) (v pg ln : Word) (o : Option (Fin 2)) : (s.raiseAt ev src v pg ln o).bolt = s.bolt := rfl
@[simp] theorem State.raiseAt_dma (s : State) (ev src : Nat) (v pg ln : Word) (o : Option (Fin 2)) : (s.raiseAt ev src v pg ln o).dma = s.dma := rfl
@[simp] theorem State.raiseAt_links (s : State) (ev src : Nat) (v pg ln : Word) (o : Option (Fin 2)) : (s.raiseAt ev src v pg ln o).links = s.links := rfl

@[simp] theorem State.raise_pending (s : State) (ev src : Nat) (v : Word) : (s.raise ev src v).pending = s.pending := rfl
@[simp] theorem State.raise_free (s : State) (ev src : Nat) (v : Word) : (s.raise ev src v).free = s.free := rfl
@[simp] theorem State.raise_tbc (s : State) (ev src : Nat) (v : Word) : (s.raise ev src v).tbc = s.tbc := rfl
@[simp] theorem State.raise_tbRuns (s : State) (ev src : Nat) (v : Word) : (s.raise ev src v).tbRuns = s.tbRuns := rfl
@[simp] theorem State.raise_busResp (s : State) (ev src : Nat) (v : Word) : (s.raise ev src v).busResp = s.busResp := rfl
@[simp] theorem State.raise_busData (s : State) (ev src : Nat) (v : Word) : (s.raise ev src v).busData = s.busData := rfl
@[simp] theorem State.raise_regs (s : State) (ev src : Nat) (v : Word) : (s.raise ev src v).regs = s.regs := rfl
@[simp] theorem State.raise_stage (s : State) (ev src : Nat) (v : Word) : (s.raise ev src v).stage = s.stage := rfl
@[simp] theorem State.raise_cap (s : State) (ev src : Nat) (v : Word) : (s.raise ev src v).cap = s.cap := rfl
@[simp] theorem State.raise_mem (s : State) (ev src : Nat) (v : Word) : (s.raise ev src v).mem = s.mem := rfl
@[simp] theorem State.raise_scs (s : State) (ev src : Nat) (v : Word) : (s.raise ev src v).scs = s.scs := rfl
@[simp] theorem State.raise_fan (s : State) (ev src : Nat) (v : Word) : (s.raise ev src v).fan = s.fan := rfl
@[simp] theorem State.raise_sqs (s : State) (ev src : Nat) (v : Word) : (s.raise ev src v).sqs = s.sqs := rfl
@[simp] theorem State.raise_pos (s : State) (ev src : Nat) (v : Word) : (s.raise ev src v).pos = s.pos := rfl
@[simp] theorem State.raise_axes (s : State) (ev src : Nat) (v : Word) : (s.raise ev src v).axes = s.axes := rfl
@[simp] theorem State.raise_trigs (s : State) (ev src : Nat) (v : Word) : (s.raise ev src v).trigs = s.trigs := rfl
@[simp] theorem State.raise_offset (s : State) (ev src : Nat) (v : Word) : (s.raise ev src v).offset = s.offset := rfl
@[simp] theorem State.raise_ts (s : State) (ev src : Nat) (v : Word) : (s.raise ev src v).ts = s.ts := rfl
@[simp] theorem State.raise_fsch (s : State) (ev src : Nat) (v : Word) : (s.raise ev src v).fsch = s.fsch := rfl
@[simp] theorem State.raise_seqTb (s : State) (ev src : Nat) (v : Word) : (s.raise ev src v).seqTb = s.seqTb := rfl
@[simp] theorem State.raise_tbDsp (s : State) (ev src : Nat) (v : Word) : (s.raise ev src v).tbDsp = s.tbDsp := rfl
@[simp] theorem State.raise_hps (s : State) (ev src : Nat) (v : Word) : (s.raise ev src v).hps = s.hps := rfl
@[simp] theorem State.raise_gov (s : State) (ev src : Nat) (v : Word) : (s.raise ev src v).gov = s.gov := rfl
@[simp] theorem State.raise_weir (s : State) (ev src : Nat) (v : Word) : (s.raise ev src v).weir = s.weir := rfl
@[simp] theorem State.raise_toll (s : State) (ev src : Nat) (v : Word) : (s.raise ev src v).toll = s.toll := rfl
@[simp] theorem State.raise_nves (s : State) (ev src : Nat) (v : Word) : (s.raise ev src v).nves = s.nves := rfl
@[simp] theorem State.raise_mbx (s : State) (ev src : Nat) (v : Word) : (s.raise ev src v).mbx = s.mbx := rfl
@[simp] theorem State.raise_clk (s : State) (ev src : Nat) (v : Word) : (s.raise ev src v).clk = s.clk := rfl
@[simp] theorem State.raise_thm (s : State) (ev src : Nat) (v : Word) : (s.raise ev src v).thm = s.thm := rfl
@[simp] theorem State.raise_cal (s : State) (ev src : Nat) (v : Word) : (s.raise ev src v).cal = s.cal := rfl
@[simp] theorem State.raise_boot (s : State) (ev src : Nat) (v : Word) : (s.raise ev src v).boot = s.boot := rfl
@[simp] theorem State.raise_otp (s : State) (ev src : Nat) (v : Word) : (s.raise ev src v).otp = s.otp := rfl
@[simp] theorem State.raise_sec (s : State) (ev src : Nat) (v : Word) : (s.raise ev src v).sec = s.sec := rfl
@[simp] theorem State.raise_dram (s : State) (ev src : Nat) (v : Word) : (s.raise ev src v).dram = s.dram := rfl
@[simp] theorem State.raise_corr (s : State) (ev src : Nat) (v : Word) : (s.raise ev src v).corr = s.corr := rfl
@[simp] theorem State.raise_engines (s : State) (ev src : Nat) (v : Word) : (s.raise ev src v).engines = s.engines := rfl
@[simp] theorem State.raise_cmps (s : State) (ev src : Nat) (v : Word) : (s.raise ev src v).cmps = s.cmps := rfl
@[simp] theorem State.raise_cams (s : State) (ev src : Nat) (v : Word) : (s.raise ev src v).cams = s.cams := rfl
@[simp] theorem State.raise_ispCam (s : State) (ev src : Nat) (v : Word) : (s.raise ev src v).ispCam = s.ispCam := rfl
@[simp] theorem State.raise_bolt (s : State) (ev src : Nat) (v : Word) : (s.raise ev src v).bolt = s.bolt := rfl
@[simp] theorem State.raise_dma (s : State) (ev src : Nat) (v : Word) : (s.raise ev src v).dma = s.dma := rfl
@[simp] theorem State.raise_links (s : State) (ev src : Nat) (v : Word) : (s.raise ev src v).links = s.links := rfl

/-! ## Registers -/

@[simp] theorem State.set1_eq_put (s : State) (f : RegField) : s.set1 f = s.put f 1 := rfl
@[simp] theorem State.clr_eq_put (s : State) (f : RegField) : s.clr f = s.put f 0 := rfl
@[simp] theorem State.putB_eq_put (s : State) (f : RegField) (b : Bool) : s.putB f b = s.put f (b2n b) := rfl

/-- The register written reads as the word written. -/
@[simp] theorem State.rd_wr_same (s : State) (a : Nat) (v : Word) : (s.wr a v).rd a = v := Table.get_set_same _ _ _ _

/-- Every other register reads as before. -/
theorem State.rd_wr_ne (s : State) (a b : Nat) (v : Word) (h : b ≠ a) : (s.wr a v).rd b = s.rd b :=
  Table.get_set_ne _ _ _ _ _ h

/-- A field write changes its own register alone. -/
theorem State.rd_put_ne (s : State) (f : RegField) (v b : Nat) (h : b ≠ f.addr) : (s.put f v).rd b = s.rd b :=
  State.rd_wr_ne _ _ _ _ h

/-- The register of a field written. -/
@[simp] theorem State.rd_put_same (s : State) (f : RegField) (v : Nat) :
    (s.put f v).rd f.addr = withField (s.rd f.addr) f.hi f.lo v := State.rd_wr_same _ _ _

/-- A state with the same register table reads every register alike. -/
theorem State.rd_congr (s t : State) (h : t.regs = s.regs) (a : Nat) : t.rd a = s.rd a := by simp [State.rd, h]

/-- Writing a register keeps the canonical form of the register table. -/
theorem State.wr_regs_wf (s : State) (a : Nat) (v : Word) (h : Table.wf resetWord s.regs = true) :
    Table.wf resetWord (s.wr a v).regs = true := Table.wf_set _ _ _ _ h

/-- The bits of a field mask. -/
theorem getLsbD_fieldMask (hi lo i : Nat) (hh : hi < 32) :
    (fieldMask hi lo).getLsbD i = (decide (lo ≤ i) && decide (i ≤ hi)) := by
  simp only [fieldMask, BitVec.getLsbD_ofNat, Nat.testBit_mul_two_pow, Nat.testBit_two_pow_sub_one]
  by_cases h1 : lo ≤ i <;> by_cases h2 : i ≤ hi <;> simp [h1, h2] <;> omega

/-- A field write replaces the bits of the field and keeps the others. -/
theorem getLsbD_withField (w : Word) (hi lo v i : Nat) (hh : hi < 32) :
    (withField w hi lo v).getLsbD i = if lo ≤ i ∧ i ≤ hi then v.testBit (i - lo) else w.getLsbD i := by
  have m := getLsbD_fieldMask hi lo i hh
  by_cases hi32 : i < 32
  · simp only [withField, BitVec.getLsbD_or, BitVec.getLsbD_and, BitVec.getLsbD_not, m, BitVec.getLsbD_ofNat, Nat.testBit_mul_two_pow]
    by_cases h1 : lo ≤ i <;> by_cases h2 : i ≤ hi <;> simp [h1, h2, hi32]
  · have h : ¬ (lo ≤ i ∧ i ≤ hi) := by omega
    rw [if_neg h, BitVec.getLsbD_of_ge _ i (by omega), BitVec.getLsbD_of_ge _ i (by omega)]

/-- A field read back after it was written. -/
theorem field_withField (w : Word) (hi lo v : Nat) (hh : hi < 32) :
    field (withField w hi lo v) hi lo = v % 2 ^ (hi + 1 - lo) := by
  apply Nat.eq_of_testBit_eq
  intro i
  simp only [field, BitVec.testBit_toNat, BitVec.getLsbD_extractLsb', Nat.testBit_mod_two_pow, getLsbD_withField _ _ _ _ _ hh]
  by_cases h : i < hi + 1 - lo
  · simp [h, show lo ≤ lo + i by omega, show lo + i ≤ hi by omega]
  · simp [h]

/-- A field that does not overlap the one written reads as before. -/
theorem field_withField_disjoint (w : Word) (hi lo v h2 l2 : Nat) (hh : hi < 32) (hd : h2 < lo ∨ hi < l2) :
    field (withField w hi lo v) h2 l2 = field w h2 l2 := by
  apply Nat.eq_of_testBit_eq
  intro i
  simp only [field, BitVec.testBit_toNat, BitVec.getLsbD_extractLsb', getLsbD_withField _ _ _ _ _ hh]
  by_cases h : i < h2 + 1 - l2
  · simp [h, show ¬ (lo ≤ l2 + i ∧ l2 + i ≤ hi) by omega]
  · simp [h]

/-- The field written reads as the low bits of the value. -/
theorem State.get_put_same (s : State) (f : RegField) (v : Nat) (hh : f.hi < 32) :
    (s.put f v).get f = v % 2 ^ (f.hi + 1 - f.lo) := by
  simp [State.get, field_withField _ _ _ _ hh]

/-- A field of another register reads as before. -/
theorem State.get_put_ne (s : State) (f g : RegField) (v : Nat) (h : g.addr ≠ f.addr) : (s.put f v).get g = s.get g := by
  simp [State.get, State.rd_put_ne _ _ _ _ h]

/-! ## Memory -/

/-- The byte written reads back. -/
@[simp] theorem State.byte_putByte_same (s : State) (a : Nat) (b : Byte) : (s.putByte a b).byte a = b :=
  Table.get_set_same _ _ _ _

/-- Every other byte reads as before. -/
theorem State.byte_putByte_ne (s : State) (a c : Nat) (b : Byte) (h : c ≠ a) : (s.putByte a b).byte c = s.byte c :=
  Table.get_set_ne _ _ _ _ _ h

/-- A byte write keeps the canonical form of memory. -/
theorem State.putByte_wf (s : State) (a : Nat) (b : Byte) (h : Memory.wf s.mem = true) : Memory.wf (s.putByte a b).mem = true :=
  Table.wf_set _ _ _ _ h

/-- Bytes outside those written read as before. -/
theorem State.byte_putBytes_out (s : State) (a c : Nat) (l : List Byte) (h : c < a ∨ a + l.length ≤ c) :
    (s.putBytes a l).byte c = s.byte c := by
  induction l generalizing s a with
  | nil => rfl
  | cons b t ih =>
    simp only [List.length_cons] at h
    rw [State.putBytes, ih (s.putByte a b) (a + 1) (by omega), State.byte_putByte_ne _ _ _ _ (by omega)]

/-- The bytes written read back. -/
theorem State.byte_putBytes_in (s : State) (a i : Nat) (l : List Byte) (h : i < l.length) :
    (s.putBytes a l).byte (a + i) = l[i] := by
  induction l generalizing s a i with
  | nil => simp at h
  | cons b t ih =>
    cases i with
    | zero =>
      rw [State.putBytes, Nat.add_zero, State.byte_putBytes_out _ _ _ _ (by omega)]
      simp
    | succ i =>
      have := ih (s.putByte a b) (a + 1) i (by simpa using h)
      rw [State.putBytes, show a + (i + 1) = a + 1 + i by omega, this]
      simp

/-- Writing bytes keeps the canonical form of memory. -/
theorem State.putBytes_wf (s : State) (a : Nat) (l : List Byte) (h : Memory.wf s.mem = true) :
    Memory.wf (s.putBytes a l).mem = true := by
  induction l generalizing s a with
  | nil => exact h
  | cons b t ih => exact ih _ _ (State.putByte_wf s a b h)

/-- Memory right after reset is canonical. -/
theorem State.reset_mem_wf : Memory.wf State.reset.mem = true := rfl

/-! ## Instances -/

/-- The element replaced. -/
theorem vset_same {α : Type} {n : Nat} (v : Vector α n) (i : Fin n) (x : α) : (vset v i x)[i] = x := by
  simp [vset]

/-- The element replaced, by its number. -/
@[simp] theorem vset_at {α : Type} {n : Nat} (v : Vector α n) (i : Fin n) (x : α) : (vset v i x)[i.val] = x := by
  simp [vset]

/-- Every other element stays. -/
theorem vset_ne {α : Type} {n : Nat} (v : Vector α n) (i j : Fin n) (x : α) (h : j ≠ i) : (vset v i x)[j] = v[j] := by
  simp only [vset, Fin.getElem_fin]
  exact Vector.getElem_set_ne _ _ (fun e => h (Fin.ext e.symm))

@[simp] theorem State.modSq_at (s : State) (k : Fin 12) (f : Seq → Seq) : (s.modSq k f).sqs[k.val] = f s.sqs[k.val] := vset_at _ _ _

/-- The sequencer changed. -/
theorem State.modSq_same (s : State) (k : Fin 12) (f : Seq → Seq) : (s.modSq k f).sqs[k] = f s.sqs[k] := vset_same _ _ _

/-- The other sequencers stay. -/
theorem State.modSq_ne (s : State) (k j : Fin 12) (f : Seq → Seq) (h : j ≠ k) : (s.modSq k f).sqs[j] = s.sqs[j] := vset_ne _ _ _ _ h

@[simp] theorem State.modSup_at (s : State) (k : Fin 2) (f : Sup → Sup) : (s.modSup k f).scs[k.val] = f s.scs[k.val] := vset_at _ _ _

/-- The supervisor core changed. -/
theorem State.modSup_same (s : State) (x : Fin 2) (f : Sup → Sup) : (s.modSup x f).scs[x] = f s.scs[x] := vset_same _ _ _

/-- The other supervisor core stays. -/
theorem State.modSup_ne (s : State) (x y : Fin 2) (f : Sup → Sup) (h : y ≠ x) : (s.modSup x f).scs[y] = s.scs[y] := vset_ne _ _ _ _ h

@[simp] theorem State.modPos_at (s : State) (k : Fin 10) (f : PosChan → PosChan) : (s.modPos k f).pos[k.val] = f s.pos[k.val] := vset_at _ _ _

/-- The position channel changed. -/
theorem State.modPos_same (s : State) (c : Fin 10) (f : PosChan → PosChan) : (s.modPos c f).pos[c] = f s.pos[c] := vset_same _ _ _

/-- The other position channels stay. -/
theorem State.modPos_ne (s : State) (c d : Fin 10) (f : PosChan → PosChan) (h : d ≠ c) : (s.modPos c f).pos[d] = s.pos[d] := vset_ne _ _ _ _ h

@[simp] theorem State.modPort_at (s : State) (k : Fin 48) (f : PortFire → PortFire) : (s.modPort k f).fsch.ports[k.val] = f s.fsch.ports[k.val] := vset_at _ _ _

/-- The port changed. -/
theorem State.modPort_same (s : State) (p : Fin 48) (f : PortFire → PortFire) :
    (s.modPort p f).fsch.ports[p] = f s.fsch.ports[p] := vset_same _ _ _

/-- The other ports stay. -/
theorem State.modPort_ne (s : State) (p r : Fin 48) (f : PortFire → PortFire) (h : r ≠ p) :
    (s.modPort p f).fsch.ports[r] = s.fsch.ports[r] := vset_ne _ _ _ _ h

/-- The core changed. -/
@[simp] theorem State.core_modCore (s : State) (c : CoreId) (f : Core → Core) : (s.modCore c f).core c = f (s.core c) := by
  cases c <;> simp [State.modCore, State.core]

/-- A register of a core read after it was written; g0 stays zero (R57). -/
theorem State.gr_result (s : State) (c : CoreId) (rd r : Fin 32) (v : Word) :
    (s.result c rd v).gr c r = if r = rd ∧ rd ≠ 0 then v else s.gr c r := by
  by_cases h0 : rd = 0
  · simp [State.gr, State.result, State.setG, State.nextPc, Core.setG, Core.gr, Core.next, h0]
  · by_cases h : r = rd
    · subst h; simp [State.gr, State.result, State.setG, State.nextPc, Core.setG, Core.gr, Core.next, h0]
    · by_cases hr : r = 0
      · subst hr
        simp [State.gr, Core.gr, h]
      · simp only [State.gr, State.result, State.setG, State.nextPc, Core.setG, Core.gr, Core.next, h0, h, hr, core_modCore, if_false,
          false_and]
        exact vset_ne _ _ _ _ h

/-- The pc after a result. -/
theorem State.pcOf_result (s : State) (c : CoreId) (rd : Fin 32) (v : Word) : (s.result c rd v).pcOf c = s.pcOf c + 4 := by
  by_cases h : rd = 0 <;> simp [State.pcOf, State.result, State.setG, State.nextPc, Core.setG, Core.next, h]

/-! ## Events -/

/-- A raised event is among the records in flight. -/
theorem mem_insertEvent (r : EventRec) (l : List EventRec) : r ∈ insertEvent r l := by
  induction l with
  | nil => simp [insertEvent]
  | cons h t ih => by_cases c : r.before h <;> simp [insertEvent, c, ih]

/-- Records that wait stay among the records in flight. -/
theorem mem_insertEvent_of_mem (r e : EventRec) (l : List EventRec) (m : e ∈ l) : e ∈ insertEvent r l := by
  induction l with
  | nil => simp at m
  | cons h t ih =>
    by_cases c : r.before h
    · simp [insertEvent, c]; right; simpa using m
    · simp only [insertEvent, c]
      rcases List.mem_cons.mp m with rfl | m
      · simp
      · simp [ih m]

/-- Raising an event adds exactly one record. -/
theorem length_insertEvent (r : EventRec) (l : List EventRec) : (insertEvent r l).length = l.length + 1 := by
  induction l with
  | nil => rfl
  | cons h t ih => by_cases c : r.before h <;> simp [insertEvent, c, ih]

/-- The record of an event raised with its page and line. -/
theorem State.raiseAt_flight (s : State) (ev src : Nat) (v pg ln : Word) (o : Option (Fin 2)) :
    s.eventRec ev src v pg ln o ∈ (s.raiseAt ev src v pg ln o).evt.flight := mem_insertEvent _ _

end Sys2Proof.Machine
end

