-- ==== Sys2Proof/Laws/Bus.lean ====
section
/-!
SUPPORT. What a register access and a memory access over the buses can do.
-/
namespace Sys2Proof.Machine

/-- A supervisor's write reaches a unit whose clock runs. -/
theorem State.supWrite_of_clocked {s : State} {b : Block} (h : s.clocked b = true) (x : Fin 2) (off : Nat) (v : Word) :
    s.supWrite x b off v = s.writeUnit (.sc x) b off v := by simp [State.supWrite, h]

/-- A gated unit turns a write away and changes nothing (R18, R395). -/
theorem State.supWrite_of_gated {s : State} {b : Block} (h : s.clocked b = false) (x : Fin 2) (off : Nat) (v : Word) :
    s.supWrite x b off v = (.errGated, s) := by simp [State.supWrite, h]

/-- A command that is one bus write completes with its response on the bus. -/
theorem busAnswer_eq (r : Resp) (t : State) : busAnswer (r, t) = .next (t.bus r 0) := rfl

/-- A write that is turned away before any unit is asked has its response and changes nothing. -/
theorem State.busWrite_of_refused {s : State} {m : Master} {a : Nat} {size : AccSize} {e : Resp} {o : Option (Block × Nat)}
    (h : s.busGate m a size true = (e, o)) (he : e ≠ .ok) (v : Word) : s.busWrite m a size v = some (e, s) := by
  cases e <;> simp_all [State.busWrite]

/-- A read that is turned away before any unit is asked has its response, the value 0, and changes nothing. -/
theorem State.busRead_of_refused {s : State} {m : Master} {a : Nat} {size : AccSize} {e : Resp} {o : Option (Block × Nat)}
    (h : s.busGate m a size false = (e, o)) (he : e ≠ .ok) : s.busRead m a size = some (e, 0, s) := by
  cases e <;> simp_all [State.busRead]

/-- A write that reaches a register is its unit's. -/
theorem State.busWrite_of_register {s : State} {m : Master} {a : Nat} {size : AccSize} {b : Block} {off : Nat}
    (h : s.busGate m a size true = (.ok, some (b, off))) (v : Word) : s.busWrite m a size v = some (s.writeUnit m b off v) := by
  simp [State.busWrite, h]

/-- A write that reaches memory is memory's. -/
theorem State.busWrite_of_memory {s : State} {m : Master} {a : Nat} {size : AccSize} (h : s.busGate m a size true = (.ok, none)) (v : Word) :
    s.busWrite m a size v = s.memWrite a (leBytes (accBytes size) v.toNat) := by simp [State.busWrite, h]

end Sys2Proof.Machine
end

