-- ==== Sys2Proof/Laws/Nolre.lean ====
section
/-!
SUPPORT. What a Nolre instruction can do, once for all of them: the four outcomes of State.runInstr, what a result and a jump leave, and the
front of the queue.
-/
namespace Sys2Proof.Machine

/-- An instruction that executes does what its body says on the state that the fetch left. -/
theorem State.runInstr_of_executes {s u : State} {c : CoreId} {ext : Nat} {rs : List (Fin 32)} (h : Executes s c ext rs u) (word : Word)
    (body : State → State) : s.runInstr c ext word rs body = body u := by
  obtain ⟨hr, hd, hf, he, hb⟩ := h
  simp [State.runInstr, hr, hd, hf, he, hb]

/-- A processor that is not ready leaves the instruction for later. -/
theorem State.runInstr_of_not_ready {s : State} {c : CoreId} (h : (s.settleWait c).ready c = false) (ext : Nat) (word : Word)
    (rs : List (Fin 32)) (body : State → State) : s.runInstr c ext word rs body = s.settleWait c := by
  simp [State.runInstr, h]

/-- A supervisor core whose EVENT trap is due takes it first. -/
theorem State.runInstr_of_event {s : State} {c : CoreId} (h : (s.settleWait c).ready c = true) (hd : (s.settleWait c).eventDue c = true)
    (ext : Nat) (word : Word) (rs : List (Fin 32)) (body : State → State) :
    s.runInstr c ext word rs body = (s.settleWait c).takeEvent c := by
  simp [State.runInstr, h, hd]

/-- A fetch that traps takes that trap. -/
theorem State.runInstr_of_fetch_trap {s u : State} {c : CoreId} {i : TrapInfo} (h : (s.settleWait c).ready c = true)
    (hd : (s.settleWait c).eventDue c = false)
    (hf : (s.settleWait c).fetch c = .trap i u) (ext : Nat) (word : Word) (rs : List (Fin 32)) (body : State → State) :
    s.runInstr c ext word rs body = u.trapTo c i := by
  simp [State.runInstr, h, hd, hf]

/-- An instruction of an extension that the processor lacks takes ILLEGAL with its word. -/
theorem State.runInstr_of_no_ext {s u : State} {c : CoreId} {ext : Nat} (h : (s.settleWait c).ready c = true)
    (hd : (s.settleWait c).eventDue c = false) (hf : (s.settleWait c).fetch c = .ok () u) (he : hasExt c ext = false) (word : Word) (rs : List (Fin 32)) (body : State → State) :
    s.runInstr c ext word rs body = u.trapTo c (trapOf tILLEGAL word) := by
  simp [State.runInstr, h, hd, hf, he]

/-- Everything that State.runInstr can do. -/
theorem State.runInstr_cases (s : State) (c : CoreId) (ext : Nat) (word : Word) (rs : List (Fin 32)) (body : State → State) :
    s.runInstr c ext word rs body = s.settleWait c ∨
    ((s.settleWait c).eventDue c = true ∧ s.runInstr c ext word rs body = (s.settleWait c).takeEvent c) ∨
    (∃ i u, (s.settleWait c).fetch c = .trap i u ∧ s.runInstr c ext word rs body = u.trapTo c i) ∨
    (∃ u, (s.settleWait c).fetch c = .ok () u ∧ hasExt c ext = false ∧
      s.runInstr c ext word rs body = u.trapTo c (trapOf tILLEGAL word)) ∨
    (∃ u, (s.settleWait c).fetch c = .ok () u ∧ u.buildPends c rs = true ∧
      (s.runInstr c ext word rs body = u ∨
        ∃ k, c = .sq k ∧ s.runInstr c ext word rs body = if ext = 2 then u.stallSq k 4 else u.stallBase k)) ∨
    ∃ u, Executes s c ext rs u ∧ s.runInstr c ext word rs body = body u := by
  by_cases hr : (s.settleWait c).ready c = true
  · by_cases hd : (s.settleWait c).eventDue c = true
    · exact .inr (.inl ⟨hd, State.runInstr_of_event hr hd ..⟩)
    have hd : (s.settleWait c).eventDue c = false := by simpa using hd
    cases hf : (s.settleWait c).fetch c with
    | wait => exact .inl (by simp [State.runInstr, hr, hd, hf])
    | trap i u => exact .inr (.inr (.inl ⟨i, u, rfl, State.runInstr_of_fetch_trap hr hd hf ..⟩))
    | ok a u =>
      by_cases he : hasExt c ext = true
      · by_cases hb : u.buildPends c rs = true
        · refine .inr (.inr (.inr (.inr (.inl ⟨u, rfl, hb, ?_⟩))))
          cases c with
          | sq k => exact .inr ⟨k, rfl, by simp [State.runInstr, hr, hd, hf, he, hb]⟩
          | sc x => exact .inl (by simp [State.runInstr, hr, hd, hf, he, hb])
          | fantail => exact .inl (by simp [State.runInstr, hr, hd, hf, he, hb])
        · exact .inr (.inr (.inr (.inr (.inr
            ⟨u, ⟨hr, hd, hf, he, by simpa using hb⟩, by simp [State.runInstr, hr, hd, hf, he, hb]⟩))))
      · exact .inr (.inr (.inr (.inl ⟨u, rfl, by simpa using he, by simp [State.runInstr, hr, hd, hf, he]⟩)))
  · exact .inl (State.runInstr_of_not_ready (by simpa using hr) ..)

/-- The registers of a processor are read from its core alone. -/
theorem State.gr_congr {s t : State} {c : CoreId} (h : (t.core c).g = (s.core c).g) (r : Fin 32) : t.gr c r = s.gr c r := by
  simp [State.gr, Core.gr, h]

/-- Cycles counted change no register and no pc. -/
@[simp] theorem State.gr_spend (s : State) (c : CoreId) (n : Nat) (r : Fin 32) : (s.spend c n).gr c r = s.gr c r :=
  State.gr_congr (by simp [State.spend]) r

@[simp] theorem State.pcOf_spend (s : State) (c : CoreId) (n : Nat) : (s.spend c n).pcOf c = s.pcOf c := by
  simp [State.pcOf, State.spend]

@[simp] theorem State.cycle_spend (s : State) (c : CoreId) (n : Nat) :
    ((s.spend c n).core c).cycle = (s.core c).cycle + BitVec.ofNat 64 n := by simp [State.spend]

/-- A place of a vector written twice keeps the second value. -/
theorem vset_vset {α : Type} {n : Nat} (v : Vector α n) (i : Fin n) (x y : α) : vset (vset v i x) i y = vset v i y := by
  simp [vset]

/-- A core changed twice. -/
theorem State.modCore_modCore (s : State) (c : CoreId) (f g : Core → Core) :
    (s.modCore c f).modCore c g = s.modCore c (fun k => g (f k)) := by
  cases c with
  | sc x => simp [State.modCore, State.modSup, vset_vset]
  | sq k => simp [State.modCore, State.modSq, vset_vset]
  | fantail => rfl

/-- A change of one core changes that core alone. -/
theorem State.onlyCore_modCore (s : State) (c : CoreId) (f : Core → Core) : OnlyCore c s (s.modCore c f) := by
  unfold OnlyCore
  rw [State.core_modCore]
  cases c <;> rfl

/-- The result of an instruction that counts `n` cycles: its register, the pc, the cycles, and nothing else. -/
theorem State.writesG_result (u : State) (c : CoreId) (rd : Fin 32) (v : Word) (n : Nat) :
    WritesG c rd v n u ((u.result c rd v).spend c n) := by
  refine ⟨fun r => by rw [State.gr_spend, State.gr_result], by rw [State.pcOf_spend, State.pcOf_result], ?_, ?_⟩
  · by_cases h : rd = 0 <;> simp [State.result, State.setG, State.nextPc, Core.setG, Core.next, h]
  · simp only [State.result, State.setG, State.nextPc, State.spend, State.modCore_modCore]
    exact State.onlyCore_modCore ..

/-- The step on a queue with a command at its front. -/
theorem step_cons (i : Instr) (rest : List Instr) (s : State) :
    step { s with pending := i :: rest } = exec i { s with pending := rest } := rfl

end Sys2Proof.Machine
end

