-- ==== Sys2Proof/Tests/Slice0.lean ====
section
/-!
SUPPORT. Tests: ill-formed terms that the checks refuse, words written out from the encoding tables, and for the statements of
Certificates/Slice0/Obligations.lean states that meet their hypotheses, clause by clause at the ends of the ranges.
-/
namespace Sys2Proof.Tests
open Sys2Proof Sys2Proof.Machine

set_option Elab.async false

/-! ## States -/

/-- SC0 runs at 0x01000000 in SRAM with three of its registers set. -/
def scRun (g5 g6 g7 : Word) : State :=
  State.reset.modSup 0 (fun u => { u with running := true, core := { u.core with
    pc := 0x01000000, g := vset (vset (vset u.core.g 5 g5) 6 g6) 7 g7 } })

/-- SQ3 runs at the start of its local memory with three of its registers set, its fire state as `f` makes it. -/
def sqRun (g5 g6 g7 : Word) (f : Seq → Seq := id) : State :=
  (State.reset.wr CLK_EN1 0x0FFF0FFF).modSq 3 (fun q => f { q with st := .run, core := { q.core with
    pc := 0x080C0000, g := vset (vset (vset q.core.g 5 g5) 6 g6) 7 g7 } })

/-! ## Nolre -/

/-- SC0 in a state, as `f` makes it. -/
def scWith (g5 g6 g7 : Word) (f : Sup → Sup) : State := (scRun g5 g6 g7).modSup 0 f

theorem hyp_IntegerLogicShiftResults :
    Executes (scRun 0x80000000 31 32) (.sc 0) 0 [5, 6, 7] (scRun 0x80000000 31 32) ∧
    Executes (sqRun 0 0 1) (.sq 3) 0 [0, 6] (sqRun 0 0 1) := ⟨⟨by decide, by decide, rfl, by decide, by decide⟩, by decide, by decide, rfl, by decide, by decide⟩

theorem hyp_MultiplyDivideResults :
    (let u := scRun 0x80000000 0xFFFFFFFF 0
     Executes u (.sc 0) 0 [5, 5, 6] u ∧ u.gr (.sc 0) 6 ≠ 0 ∧ u.gr (.sc 0) 5 = 0x80000000 ∧ u.gr (.sc 0) 7 = 0) ∧
    (let u := scRun 7 3 0
     Executes u (.sc 0) 0 [7, 5, 6] u ∧ u.gr (.sc 0) 6 ≠ 0) := by
  exact ⟨⟨⟨by decide, by decide, rfl, by decide, by decide⟩, by decide, by decide, by decide⟩, ⟨by decide, by decide, rfl, by decide, by decide⟩, by decide⟩

theorem hyp_BitFieldResults :
    (31 + 0 + 1 ≤ 32 ∧ 0 + 31 + 1 ≤ 32 ∧ Executes (scRun 1 2 3) (.sc 0) 0 [5, 6] (scRun 1 2 3)) ∧
    (32 < 31 + 1 + 1 ∧ Executes (scRun 1 2 3) (.sc 0) 0 [] (scRun 1 2 3)) := by
  exact ⟨⟨by decide, by decide, by decide, by decide, rfl, by decide, by decide⟩, by decide, by decide, by decide, rfl, by decide, by decide⟩

theorem hyp_ImmediateResults : Executes (sqRun 1 2 3) (.sq 3) 0 [5, 6] (sqRun 1 2 3) ∧ Executes (scRun 1 2 3) (.sc 0) 0 [0] (scRun 1 2 3) := by
  exact ⟨⟨by decide, by decide, rfl, by decide, by decide⟩, by decide, by decide, rfl, by decide, by decide⟩

theorem hyp_BranchAndJumpResults :
    (let u := scRun 0x01000100 0x01000102 0x01000100
     Executes u (.sc 0) 0 [5, 6] u ∧ Executes u (.sc 0) 0 [31] u ∧ (u.gr (.sc 0) 5 + (0xFFFC#16).signExtend 32).toNat % 4 = 0 ∧
       (u.gr (.sc 0) 6 + (0#16).signExtend 32).toNat % 4 ≠ 0 ∧ u.gr (.sc 0) 5 = u.gr (.sc 0) 7) := by
  exact ⟨⟨by decide, by decide, rfl, by decide, by decide⟩, ⟨by decide, by decide, rfl, by decide, by decide⟩, by decide, by decide, by decide⟩

/-- A halfword in the last bytes of SQ3's local memory, and SRAM, can be loaded. -/
theorem hyp_LoadResults :
    (let u := sqRun 0x080FFFFC 0x080FFFFF 0x080C0000
     Executes u (.sq 3) 0 [1, 5] u ∧ 0x8000000 + 0x40000 * 3 ≤ (u.gr (.sq 3) 5).toNat ∧ (u.gr (.sq 3) 6).toNat < 0x8000000 + 0x40000 * 4 ∧
       (u.gr (.sq 3) 5).toNat % 4 = 0 ∧ (u.gr (.sq 3) 7).toNat = 0x8000000 + 0x40000 * 3) ∧
    (let u := scRun 0x01BFFFFC 0 0
     Executes u (.sc 0) 0 [1, 5] u ∧ u.load (.sc 0) 0x01BFFFFF .byte = .ok 0 u ∧ u.load (.sc 0) 0x01BFFFFE .half = .ok 0 u ∧
       u.load (.sc 0) 0x01BFFFFC .word = .ok 0 u) := by
  exact ⟨⟨⟨by decide, by decide, rfl, by decide, by decide⟩, by decide, by decide, by decide, by decide⟩,
    ⟨by decide, by decide, rfl, by decide, by decide⟩, rfl, rfl, rfl⟩

theorem hyp_StoreResults :
    (let u := sqRun 0x080FFFFC 0x080FFFFF 0x080C0000
     Executes u (.sq 3) 0 [7, 5] u ∧ 0x8000000 + 0x40000 * 3 ≤ (u.gr (.sq 3) 5).toNat ∧ (u.gr (.sq 3) 6).toNat < 0x8000000 + 0x40000 * 4 ∧
       (u.gr (.sq 3) 5).toNat % 4 = 0) ∧
    (let u := scRun 0x01BFFFFC 0 0
     Executes u (.sc 0) 0 [6, 5] u ∧ (∃ w, u.store (.sc 0) 0x01BFFFFF .byte 1 = .ok () w) ∧ (∃ w, u.store (.sc 0) 0x01BFFFFE .half 1 = .ok () w) ∧
       ∃ w, u.store (.sc 0) 0x01BFFFFC .word 1 = .ok () w) := by
  exact ⟨⟨⟨by decide, by decide, rfl, by decide, by decide⟩, by decide, by decide, by decide⟩,
    ⟨by decide, by decide, rfl, by decide, by decide⟩, ⟨_, rfl⟩, ⟨_, rfl⟩, _, rfl⟩

/-- An odd address and one with bit 1 set; addresses that no unit answers. -/
theorem hyp_AccessTraps :
    (let u := scRun 0x01000001 0x01000002 0x3FFFFFFC
     Executes u (.sc 0) 0 [1, 5] u ∧ (u.gr (.sc 0) 5).toNat % 2 = 1 ∧ (u.gr (.sc 0) 6).toNat % 4 ≠ 0 ∧
       (∃ e w, u.load (.sc 0) (u.gr (.sc 0) 7) .word = .trap e w) ∧ ∃ e w, u.store (.sc 0) (u.gr (.sc 0) 7) .word 1 = .trap e w) := by
  exact ⟨⟨by decide, by decide, rfl, by decide, by decide⟩, by decide, by decide, ⟨_, _, rfl⟩, _, _, rfl⟩

theorem hyp_SupervisorTrapEntry :
    (let u := scRun 1 2 3
     Executes u (.sc 0) 1 [] u ∧ Executes u (.sc 0) 0 [] u ∧ u.scs[(0 : Fin 2)].inTrap = false ∧ legalWord (.sc 0) 0xFFFFFFFF = false ∧
       legalWord (.sc 0) 0 = false) ∧
    (let u := { scWith 1 2 3 (fun v => { v with tie := true }) with evt := { State.reset.evt with queues := Vector.replicate 2 [State.reset.eventRec 1 0 0 0 0 none] } }
     u.ready (.sc 0) = true ∧ u.scs[(0 : Fin 2)].tie = true ∧ u.evt.queues[(0 : Fin 2)] ≠ []) := by
  exact ⟨⟨⟨by decide, by decide, rfl, by decide, by decide⟩, ⟨by decide, by decide, rfl, by decide, by decide⟩, by decide, by decide, by decide⟩, by decide, by decide, by decide⟩

/-- Fantail fetches from its ROM. -/
theorem hyp_OtherTrapEntries :
    (let u := scWith 1 2 3 (fun v => { v with inTrap := true })
     Executes u (.sc 0) 1 [] u ∧ u.scs[(0 : Fin 2)].inTrap = true) ∧
    (Executes (sqRun 1 2 3) (.sq 3) 0 [] (sqRun 1 2 3) ∧ legalWord (.sq 3) 0xB0 = false) ∧
    (let u := { State.reset with fan := { State.reset.fan with running := true, core := { Core.reset with pc := 0x01000000 } } }
     (fanPlace 0x01000000 ≠ none → Executes u .fantail 0 [] u) ∧ legalWord .fantail 0 = false) := by
  refine ⟨⟨⟨by decide, by decide, rfl, by decide, by decide⟩, by decide⟩, ⟨⟨by decide, by decide, rfl, by decide, by decide⟩, by decide⟩, fun h => ⟨by decide, by decide, ?_, by decide, by decide⟩, by decide⟩
  obtain ⟨p, hp⟩ := Option.ne_none_iff_exists'.mp h
  show (match fanPlace 0x01000000 with | some _ => _ | none => _) = _
  rw [hp]
  rfl

theorem hyp_ReturnWaitAndFence :
    (let u := scWith 1 2 3 (fun v => { v with inTrap := true, evl := true })
     Executes u (.sc 0) 1 [] u ∧ u.scs[(0 : Fin 2)].inTrap = true ∧ u.scs[(0 : Fin 2)].evl = true) ∧
    (let u := scWith 1 2 3 (fun v => { v with asyncErr := some { addr := 0x1FFFFFFFFF, resp := .errUnit, multi := true } })
     Executes u (.sc 0) 1 [] u ∧ u.scs[(0 : Fin 2)].inTrap = false ∧ u.scs[(0 : Fin 2)].evl = false ∧ u.scs[(0 : Fin 2)].wbuf = [] ∧
       u.scs[(0 : Fin 2)].wback = [] ∧ u.scs[(0 : Fin 2)].asyncErr ≠ none ∧ (scRun 1 2 3).scs[(0 : Fin 2)].asyncErr = none) := by
  exact ⟨⟨⟨by decide, by decide, rfl, by decide, by decide⟩, by decide, by decide⟩, ⟨by decide, by decide, rfl, by decide, by decide⟩, by decide, by decide, by decide, by decide, by decide, by decide⟩

theorem hyp_CsrResults : Executes (scRun 1 2 3) (.sc 0) 1 [] (scRun 1 2 3) ∧ (6 : Fin 32) ≠ 0 := ⟨⟨by decide, by decide, rfl, by decide, by decide⟩, by decide⟩

/-- The last word of the last entry, and the first of the first. -/
theorem hyp_RegionTableResults :
    (let u := scRun 0x3F 0 0xFFFFFFFF
     Executes u (.sc 0) 1 [] u ∧ (u.gr (.sc 0) 5).extractLsb' 0 4 = BitVec.ofNat 4 15 ∧ (u.gr (.sc 0) 5).extractLsb' 4 2 = BitVec.ofNat 2 3 ∧
       (u.gr (.sc 0) 6).extractLsb' 0 4 = BitVec.ofNat 4 0 ∧ (u.gr (.sc 0) 6).extractLsb' 4 2 = BitVec.ofNat 2 0) := by
  exact ⟨⟨by decide, by decide, rfl, by decide, by decide⟩, by decide, by decide, by decide, by decide⟩

/-- A line of a data cache. -/
def aLine (dirty : Bool) : CacheLine := { line := 0x40000, dirty := dirty, data := 0 }

/-- SC0 with a clean or dirty line in its data cache. -/
def scLine (b : Bool) : State := scWith 0x01000000 0 32768 (fun v => { v with dcache := [aLine b] })

theorem hyp_CacheMaintenance :
    (∀ b, let u := scLine b
      Executes u (.sc 0) 1 [] u ∧ (∃ m, u.scs[(0 : Fin 2)].translate (u.gr (.sc 0) 5) kMAINT = some m ∧ m.pa / 64 = 0x40000) ∧
        u.scs[(0 : Fin 2)].dcache.find? (fun c => decide (c.line = 0x40000)) = some (aLine b) ∧ (aLine b).dirty = b ∧
        u.scs[(0 : Fin 2)].wback.length < 8 ∧ (u.gr (.sc 0) 6).toNat = 0 ∧ (u.gr (.sc 0) 7).toNat ≤ 32768 ∧
        (u.gr (.sc 0) 5).toNat + (u.gr (.sc 0) 7).toNat ≤ 2 ^ 32 ∧ u.scs[(0 : Fin 2)].rtEn = false) ∧
    (scRun 1 2 3).scs[(0 : Fin 2)].dcache.find? (fun c => decide (c.line = 0)) = none := by
  refine ⟨fun b => ?_, rfl⟩
  cases b <;> exact ⟨⟨by decide, by decide, rfl, by decide, by decide⟩, ⟨_, rfl, by decide⟩, rfl, rfl, by decide, by decide, by decide, by decide, by decide⟩

/-- A buffered write to an address that no unit answers. -/
theorem hyp_WatchdogAndWriteErrors :
    (let w := (scWith 1 2 3 (fun v => { v with wdtEn := true, wdtCount := 0 })).scs[(0 : Fin 2)]
     w.running = true ∧ w.wdtEn = true ∧ w.wdtCount = 0 ∧ w.inTrap = false ∧ w.wdtFirst = false) ∧
    (let w := (scWith 1 2 3 (fun v => { v with wdtEn := true, wdtCount := 0, wdtFirst := true, inTrap := true })).scs[(0 : Fin 2)]
     w.running = true ∧ w.wdtEn = true ∧ w.wdtCount = 0 ∧ w.inTrap = true ∧ w.wdtFirst = true) ∧
    (let s := scWith 1 2 3 (fun v => { v with wbuf := [{ addr := 0x3FFFFFFC, size := 4, data := 1 }] })
     ∃ r u, s.busWrite (.sc 0) 0x3FFFFFFC .word 1 = some (r, u) ∧ r ≠ .ok ∧ u.scs = s.scs ∧ s.scs[(0 : Fin 2)].asyncErr = none) := by
  exact ⟨by decide, by decide, _, _, rfl, by decide, rfl, by decide⟩

/-! ## Sequencers -/

/-- A page 7 of 10 lines open on all four ports. -/
def pageOn (q : Seq) : Seq := { q with pageOpen := true, page := 7, lines := 10, pmask := 0xF, am := 1 }

/-- An open report of page 7. -/
def aReport : Report := {
  page := 7, serial := 0, lines := 10, portSet := 1, first := none, last := 0, resolved := 0, reprint := false, runsIncomplete := false,
  aborted := false, epochRefused := false, staleCal := false, epochs := 0, counts := Vector.replicate 14 0, marks := 0, crc := Vector.replicate 48 0 }

/-- An entry of page 7 that is not committed. -/
def anEntry (line : Nat) : Entry := {
  page := 7, line := line, kind := .fill, segment := 0, epoch := 0, wsel := 0, sw := 0, bpn := 1, levels := [], raw := none, fbPending := false,
  never := false, committed := false, expired := false, released := true, bad := false, handed := false, tbKnown := false, tbReleased := false }

/-- A container of a page, stream and segment. -/
def aCont (page : Word) (stream : BitVec 16) (segment : Nat) : Cont := {
  index := 0, desc := 0, ctrl := 0, page := page, stream := stream, segment := segment, lines := 4, payload := 0, hdrBad := false, code := 0, data := [],
  opened := false, skip := false, judged := false }

/-- A build of `n` lines with a line in work. -/
def aBuild (kind : LineKind) (n : Nat) (rest : List BuiltLine) : BuildOp := {
  kind := kind, rd := 0, first := 0, count := n, am := 1, level := 0, phase := 0, period := 0, checked := true, done := 0, rest := rest }

theorem hyp_PageEndpgSetport :
    (let u := sqRun 7 10 0
     Executes u (.sq 3) 2 [5, 6] u ∧ u.sqs[(3 : Fin 12)].pageOpen = false ∧ u.flag (SQ_CTRL_PARK_REQ 3) = false ∧ u.gr (.sq 3) 6 ≠ 0 ∧ u.gr (.sq 3) 7 = 0 ∧
       u.reportOf (u.gr (.sq 3) 5) = none ∧ Executes u (.sq 3) 2 [] u ∧ u.sqs[(3 : Fin 12)].builds = []) ∧
    (let u := sqRun 7 10 0 pageOn
     Executes u (.sq 3) 2 [] u ∧ u.sqs[(3 : Fin 12)].pageOpen = true ∧ u.sqs[(3 : Fin 12)].builds = [] ∧ u.sqs[(3 : Fin 12)].seg = none) := by
  exact ⟨⟨⟨by decide, by decide, rfl, by decide, by decide⟩, by decide, by decide, by decide, by decide, rfl, ⟨by decide, by decide, rfl, by decide, by decide⟩, rfl⟩,
    ⟨by decide, by decide, rfl, by decide, by decide⟩, by decide, rfl, rfl⟩

/-- SQ3 waits for a header of stream 9 at engine 3. -/
def sqHdr (c : Cont) : State :=
  let s := sqRun 7 9 0 (fun q => { pageOn q with wait := .header 5 9 })
  (((s.set1 (DCE_CTRL_EN 3)).put (DCE_CTRL_SINK 3) 1).put (DCE_CTRL_SINK_SQ 3) 3).modEng 3 (fun g => { g with conts := [c] })

theorem hyp_StreamAndHeader :
    (let u := sqRun 7 9 0 (fun q => { pageOn q with seg := some { eng := 3, index := 0, page := 7, number := 0, data := [1], verdict := some .pass, bad := false, seen := false } })
     Executes u (.sq 3) 2 [6] u ∧ u.sqs[(3 : Fin 12)].builds = [] ∧ u.sqs[(3 : Fin 12)].pageOpen = true ∧
       ∀ g, u.sqs[(3 : Fin 12)].seg = some g → g.verdict = some .pass) ∧
    (∀ c ∈ [aCont 7 9 0, aCont 7 9 1, aCont 8 9 0, aCont 7 8 0], let s := sqHdr c
      s.sqs[(3 : Fin 12)].wait = .header 5 9 ∧ s.feeder 3 = some 3 ∧ s.engines[(3 : Fin 16)].nextCont = some c ∧ c.hdrBad = false ∧
        s.sqs[(3 : Fin 12)].lastAborted ≠ some c.page) := by
  refine ⟨⟨⟨by decide, by decide, rfl, by decide, by decide⟩, rfl, rfl, fun g h => ?_⟩, by decide⟩
  cases h; rfl

theorem hyp_BuildsEnterTheQueue :
    (let b := aBuild .fill 2 [{ lane := 0, levels := [], bad := false }]
     let u := sqRun 0 0 0 (fun q => { pageOn q with builds := [b, b, b] })
     Executes u (.sq 3) 2 [5, 6] u ∧ u.sqs[(3 : Fin 12)].builds = [b, b, b] ∧ b.rest ≠ [] ∧ u.sqs[(3 : Fin 12)].pageOpen = true) ∧
    (let u := sqRun 0 0 0
     Executes u (.sq 3) 2 [5, 6] u ∧ u.sqs[(3 : Fin 12)].builds = [] ∧ u.sqs[(3 : Fin 12)].pageOpen = false) ∧
    (let b := aBuild .fill 2 [{ lane := 0, levels := [], bad := false }]
     let u := sqRun 0 0 0 (fun q => { pageOn q with builds := [b, b, b, b] })
     Executes u (.sq 3) 2 [5, 6] u ∧ u.sqs[(3 : Fin 12)].builds.length = 4) := by
  exact ⟨⟨⟨by decide, by decide, rfl, by decide, by decide⟩, rfl, by decide, rfl⟩, ⟨⟨by decide, by decide, rfl, by decide, by decide⟩, rfl, rfl⟩,
    ⟨by decide, by decide, rfl, by decide, by decide⟩, rfl⟩

theorem hyp_PortLineBuiltIsPlaced :
    (let x : BuiltLine := { lane := 0, levels := [1, 2], bad := false }
     let r := sqRun 0 0 0 (fun q => { pageOn q with builds := [aBuild .patt 2 [x]], fifo := vset q.fifo 0 (List.replicate 62 (anEntry 0)) })
     let s := r.modPort 12 (fun f => { f with pages := [{ page := 7, lines := 10, next := 0, abortFrom := none, top := none }] })
     let q := s.sqs[(3 : Fin 12)]
     let b := aBuild .patt 2 [x]
     q.builds = [b] ∧ b.rest = [x] ∧ b.done + 1 < b.count ∧ b.checked = true ∧ s.fallback 3 x.lane = false ∧ q.fbWait = [] ∧
       q.fifo[x.lane].length < 63 ∧ s.deadlinePast (portOf 3 x.lane) q.page (b.first + b.done) = false ∧ (∀ j : Fin 4, j ≠ x.lane → q.fifo[j].length < 64) ∧
       b.kind ≠ .stream) := by
  exact ⟨rfl, rfl, by decide, rfl, by decide, rfl, by decide, by decide, by decide, by decide⟩

theorem hyp_CommitAndVoid :
    (let u := sqRun 9 1 10 (fun q => { pageOn q with fifo := vset q.fifo 0 [anEntry 9] })
     Executes u (.sq 3) 2 [5, 6] u ∧ Executes u (.sq 3) 2 [7, 6] u ∧ u.sqs[(3 : Fin 12)].pageOpen = true ∧ u.sqs[(3 : Fin 12)].builds = [] ∧
       u.sqs[(3 : Fin 12)].am = BitVec.ofNat 4 (2 ^ 0) ∧ u.gr (.sq 3) 6 = 1 ∧ (u.gr (.sq 3) 5).toNat < u.sqs[(3 : Fin 12)].lines.toNat ∧
       u.sqs[(3 : Fin 12)].oldestOpen 0 = some (anEntry 9) ∧ u.sqs[(3 : Fin 12)].lines.toNat ≤ (u.gr (.sq 3) 7).toNat ∧
       (anEntry 9).page = u.sqs[(3 : Fin 12)].page ∧ (anEntry 9).expired = false) ∧
    (let u := sqRun 0 1 8 (fun q => { pageOn q with fifo := vset q.fifo 0 [anEntry 9] })
     Executes u (.sq 3) 2 [7, 6] u ∧ u.sqs[(3 : Fin 12)].oldestOpen 0 = some (anEntry 9) ∧ (anEntry 9).line ≠ (u.gr (.sq 3) 7).toNat) ∧
    (let u := sqRun 0 1 0 pageOn
     Executes u (.sq 3) 2 [5, 6] u ∧ u.sqs[(3 : Fin 12)].oldestOpen 0 = none ∧ u.sqs[(3 : Fin 12)].nb[(0 : Fin 4)] ≤ (u.gr (.sq 3) 5).toNat) := by
  exact ⟨⟨⟨by decide, by decide, rfl, by decide, by decide⟩, ⟨by decide, by decide, rfl, by decide, by decide⟩, rfl, rfl, by decide, by decide, by decide, rfl, by decide, rfl, rfl⟩,
    ⟨⟨by decide, by decide, rfl, by decide, by decide⟩, rfl, by decide⟩, ⟨by decide, by decide, rfl, by decide, by decide⟩, rfl, by decide⟩

theorem hyp_WaitqAndSyncl :
    (let u := sqRun 5 64 0 pageOn
     Executes u (.sq 3) 2 [5, 6] u ∧ u.sqs[(3 : Fin 12)].builds = [] ∧ u.sqs[(3 : Fin 12)].pageOpen = true ∧ (2#4).toNat < 3 ∧ (u.gr (.sq 3) 6).toNat ≤ 64) ∧
    (let s := sqRun 5 64 0 (fun q => { pageOn q with wait := .waitq 64 0 true, fifo := vset q.fifo 0 [anEntry 0] })
     s.sqs[(3 : Fin 12)].wait = .waitq 64 0 true ∧ s.sqs[(3 : Fin 12)].waitHolds 64 0 = false) ∧
    (let u := (sqRun 5 1 0 pageOn).put (SQ_SYNC_MASK 3) 8
     Executes u (.sq 3) 2 [5] u ∧ u.sqs[(3 : Fin 12)].builds = [] ∧ u.sqs[(3 : Fin 12)].pageOpen = true ∧ u.get (SQ_SYNC_MASK 3) = 2 ^ 3 ∧
       ∀ j : Fin 12, j ≠ 3 → u.sqs[j].atSync = false) ∧
    (let s := ((sqRun 5 1 0 (fun q => { pageOn q with wait := .syncl true, arrival := some (7, 5) })).put (SQ_SYNC_MASK 3) 12).modSq 2 (fun q => { q with st := .run })
     (2 : Fin 12) ≠ 3 ∧ s.sqs[(3 : Fin 12)].wait = .syncl true ∧ s.get (SQ_SYNC_MASK 3) = 2 ^ 3 + 2 ^ 2 ∧ s.sqs[(2 : Fin 12)].arrival ≠ s.sqs[(3 : Fin 12)].arrival ∧
       s.sqs[(2 : Fin 12)].atSync = false ∧ s.sqs[(2 : Fin 12)].st = .run) := by
  exact ⟨⟨⟨by decide, by decide, rfl, by decide, by decide⟩, rfl, rfl, by decide, by decide⟩, ⟨rfl, by decide⟩,
    ⟨⟨by decide, by decide, rfl, by decide, by decide⟩, rfl, rfl, by decide, by decide⟩, by decide, rfl, by decide, by decide, by decide, rfl⟩

/-- LDPROF at the end of both ranges, for a line of the newest epoch, and with the page closed; a condition at its last number. -/
theorem hyp_OtherFireInstructions :
    (let u := sqRun 0 0 0 pageOn
     Executes u (.sq 3) 2 [5, 6] u ∧ u.sqs[(3 : Fin 12)].builds = [] ∧ u.sqs[(3 : Fin 12)].pageOpen = true ∧ u.sqs[(3 : Fin 12)].am ≠ 0 ∧
       (∀ j : Fin 4, u.sqs[(3 : Fin 12)].am.getLsbD j.val = true → u.sqs[(3 : Fin 12)].nb[j] ≤ (u.gr (.sq 3) 5).toNat ∧
         (u.gr (.sq 3) 6).toNat < 2 ^ min 8 (u.get (HP_PROFILE_WSEL_W (portOf 3 j))))) ∧
    (let u := (sqRun 0 255 0 pageOn).put (HP_PROFILE_WSEL_W 12) 15
     Executes u (.sq 3) 2 [5, 6] u ∧ (u.gr (.sq 3) 6).toNat < 2 ^ min 8 (u.get (HP_PROFILE_WSEL_W (portOf 3 0)))) ∧
    (let u := { sqRun 5 1 0 (fun q => { pageOn q with serial := 2 }) with
       corr := { State.reset.corr with log := [{ epoch := 4, page := 7, serial := 2, line := 5, key := 0 }] } }
     Executes u (.sq 3) 2 [6, 5] u ∧ u.sqs[(3 : Fin 12)].pageOpen = true ∧
       ∃ e, u.corr.log = [e] ∧ e.serial = u.sqs[(3 : Fin 12)].serial ∧ e.line ≤ (u.gr (.sq 3) 5).toNat) ∧
    (Executes (sqRun 1 2 3) (.sq 3) 2 [] (sqRun 1 2 3) ∧ (sqRun 1 2 3).sqs[(3 : Fin 12)].pageOpen = false ∧ (15 : Fin 32).val < 16) := by
  exact ⟨⟨⟨by decide, by decide, rfl, by decide, by decide⟩, rfl, rfl, by decide, by decide⟩,
    ⟨⟨by decide, by decide, rfl, by decide, by decide⟩, by decide⟩, ⟨⟨by decide, by decide, rfl, by decide, by decide⟩, rfl, ⟨_, rfl, rfl, by decide⟩⟩,
    ⟨by decide, by decide, rfl, by decide, by decide⟩, by decide, by decide⟩

theorem hyp_SequencerRunControl :
    (∀ p ∈ [(State.reset.wr CLK_EN1 8, 0#32), ((State.reset.wr CLK_EN1 8).modSq 3 (fun q => { q with st := .parked, jobs := List.replicate 4 (Vector.replicate 4 0) }), 2#32)],
      p.1.bit CLK_EN1 3 = true ∧ p.2.getLsbD 3 = false ∧ p.2.getLsbD 0 = false ∧
        (p.1.sqs[(3 : Fin 12)].st = .reset ∨ (p.1.sqs[(3 : Fin 12)].st = .parked ∧ p.2.getLsbD 1 = true ∧ p.1.sqs[(3 : Fin 12)].jobs.length = 4))) := by decide

/-! ## Position and time -/

/-- A device at tick 800. -/
def atTick : State := { State.reset with tbc := 800, tbRuns := true }

/-- Two candidate edges. -/
def candA : Candidate := { input := 0, stamp := 700, level := true }
def candB : Candidate := { input := 1, stamp := 700, level := true }

theorem hyp_EncoderEdges :
    (∀ t0 ∈ [797, 796], let s := (atTick.set1 (CH_CFG_EN 0)).modPos 0 (fun q => { q with startAt := some t0 })
      s.pos[encCh 0].balls[(0 : Fin 3)] ≠ true ∧ s.flag (CH_CFG_EN (encCh 0)) = true ∧ s.pos[encCh 0].startAt = some t0 ∧ (s.now ≤ t0 + 3 ↔ t0 = 797)) ∧
    (∀ s ∈ [atTick.set1 (CH_CFG_EN 0), (atTick.set1 (CH_CFG_EN 0)).modPos 0 (fun q => { q with cands := [{ candA with stamp := 796 }] })],
      s.pos[encCh 0].balls[(0 : Fin 3)] ≠ true ∧ s.flag (CH_CFG_EN (encCh 0)) = true) ∧
    (∀ f ∈ [candB, { candB with stamp := 701 }], let s := (atTick.set1 (CH_CFG_EN 0)).modPos 0 (fun q => { q with cands := [candA, f] })
      s.pos[encCh 0].cands = [candA, f] ∧ s.flag (CH_CFG_EN (encCh 0)) = true ∧ candA.stamp.toNat + s.get (CH_CFG_MIN_EDGE (encCh 0)) + 4 ≤ s.now ∧
        candA.input.val < 2 ∧ candA.level ≠ s.pos[encCh 0].levels[candA.input] ∧ f.input = 1) ∧
    candB.stamp = candA.stamp ∧ ({ candB with stamp := 701 } : Candidate).stamp ≠ candA.stamp := by decide

theorem hyp_ChannelCommands :
    (atTick.flag (CH_CFG_EN 0) = false ∧ (0x00000801#32).getLsbD 3 = false ∧ 2 ≤ (atTick.put (CH_CFG_MIN_EDGE 0) 2).get (CH_CFG_MIN_EDGE 0)) ∧
    (let s := (atTick.put (CH_CFG_MIN_EDGE 0) 2).set1 (CH_CFG_EN 0)
     s.flag (CH_CFG_EN 0) = true ∧ 2 ≤ field (0x00000C01#32) 19 10 ∧ (0x00000C01#32 ||| 1#32) &&& 0xFFFFFFF6#32 ≠ s.rd (CH_CFG 0) &&& 0xFFFFFFF6#32) := by decide

theorem hyp_SsiReads :
    (∀ l : Option Nat, l ∈ [none, some 0] →
      let r := ((atTick.set1 (CH_CFG_EN (ssiCh 0))).wr (CH_AUX (ssiCh 0)) 0x01027019).modPos (ssiCh 0) (fun q => { q with ssiLast := l })
      let s := { r with boot := { r.boot with porLow := false } }
      s.flag (CH_CFG_EN (ssiCh 0)) = true ∧ s.outOfReset = true ∧ field (s.rd (CH_AUX (ssiCh 0))) 31 24 = 1 ∧ s.pos[ssiCh 0].ssiLast = l ∧ 0 + 800 * 1 ≤ s.now ∧
        s.pos[ssiCh 0].ssiFrame = none) ∧
    (∀ p : Option Nat, p ∈ [none, some 1] →
      let s := (atTick.wr (CH_AUX (ssiCh 0)) 0x00000001).modPos (ssiCh 0) (fun q => { q with ssiFrame := some 794, ssiPrev := p })
      s.pos[ssiCh 0].ssiFrame = some 794 ∧ (s.rd (CH_AUX (ssiCh 0))).getLsbD 11 = false ∧
        794 + field (s.rd (CH_AUX (ssiCh 0))) 5 0 * (2 * (field (s.rd (CH_AUX (ssiCh 0))) 23 12 + 1)) + 4 ≤ s.now) := by decide

theorem hyp_AxesAndTriggers :
    (atTick.axisUsed 2 = false ∧ ((atTick.set1 (PTRG_CFG_EN 3)).put (PTRG_CFG_AX 3) 2).axisUsed 2 = true) ∧
    (∀ e : Option Nat, e ∈ [none, some 100, some 101] → let s := { atTick.set1 (PTRG_CFG_EN 3) with trigs := vset atTick.trigs 3 { k := 1, frozen := some 1600, pulseEnd := e } }
      s.trigs[(3 : Fin 16)].frozen = some 1600 ∧ s.flag (PTRG_CFG_EN 3) = true ∧ (1600#64).toNat / 16 ≤ s.now ∧ s.trigs[(3 : Fin 16)].pulseEnd = e) ∧
    (1600#64).toNat / 16 < 101 ∧ 100 ≤ (1600#64).toNat / 16 ∧ 101 ≤ atTick.now ∧ atTick.axes[(2 : Fin 4)].outs = [] := by decide

theorem hyp_RateChangeKeepsNetworkTime :
    atTick.flag TIME_STAT_HOLDOVER = false ∧ (atTick.set1 TIME_STAT_HOLDOVER).flag TIME_STAT_HOLDOVER = true ∧
    max (-549755813) (min 549755813 (0x7FFFFFFF#32).toInt) ≠ (0x7FFFFFFF#32).toInt := by decide

/-- A step of exactly TIME_JUMP_MAX, and one just above it. -/
theorem hyp_OffsetSteps :
    (let s := atTick.wr TIME_JUMP_MAX 1
     ¬ (s.rd TIME_JUMP_MAX).toNat * 65536 < ((0x00010000#32).toInt).natAbs ∧ (s.rd TIME_JUMP_MAX).toNat * 65536 < ((0x00010001#32).toInt).natAbs ∧
       s.flag TIME_CTRL_STEP_ALLOW = false ∧ (s.set1 TIME_CTRL_STEP_ALLOW).flag TIME_CTRL_STEP_ALLOW = true ∧ s.flag TIME_STAT_HOLDOVER = false ∧
       (s.set1 TIME_STAT_HOLDOVER).flag TIME_STAT_HOLDOVER = true) := by decide

/-- A device that watches port U for SYNC frames. -/
def syncing : State := ((atTick.put TIME_CTRL_SYNC_TO 0).put TIME_CTRL_SLAVE_PORT 3)

theorem hyp_SyncCompareAndStamps :
    (∃ p, syncing.syncPort = some p ∧ syncing.rd64 TIME_MASTER_ID_LO TIME_MASTER_ID_HI = 0 ∧
      (syncing.wr TIME_MASTER_ID_LO 5).syncPort = some p ∧ (syncing.wr TIME_MASTER_ID_LO 5).rd64 TIME_MASTER_ID_LO TIME_MASTER_ID_HI ≠ 6) ∧
    (let s := { syncing.put TIME_CTRL_SYNC_TO 1 with tbc := 800000 }
     s.syncPort.isSome = true ∧ s.get TIME_CTRL_SYNC_TO ≠ 0 ∧ s.get TIME_CTRL_SYNC_TO * 800000 ≤ s.now - s.links.syncAt ∧ s.flag TIME_STAT_HOLDOVER = false) ∧
    (let s := ((atTick.set1 (TIME_CMP_CTRL_EN 7)).set1 (TIME_CMP_CTRL_BASE 7)).wr (TIME_CMP_VAL 7) 800
     s.flag (TIME_CMP_CTRL_EN 7) = true ∧ 0 ≤ (s.tCmpNow 7 - s.rd (TIME_CMP_VAL 7)).toInt ∧ 0 ≤ (s.tbc.setWidth 32 - s.rd (TIME_CMP_VAL 7)).toInt ∧
       ¬ 0 ≤ (s.tbc.setWidth 32 - (s.wr (TIME_CMP_VAL 7) 801).rd (TIME_CMP_VAL 7)).toInt) := by
  exact ⟨⟨_, rfl, by decide, rfl, by decide⟩, by decide, by decide⟩

/-- A frame of one pair from unit 5, channel 2. -/
def aFrame (p : BitVec 48 × BitVec 80) : PosFrame := { src := 5, ch := 2, seq := 9, tstep := 1, lastStep := 0, illegal := false, pairs := [p] }

/-- VENC channel 0 follows that channel. -/
def venc (q : PosChan → PosChan) : State :=
  ((atTick.set1 (CH_CFG_EN 6)).wr (CH_AUX 6) 0x00000052).modPos 6 (fun p => q { p with vencSeq := some 8, vencTstep := some 1 })

theorem hyp_PositionRelay :
    (4 ≤ (atTick.modPos 5 (fun q => { q with relay := List.replicate 4 (0, { p := 0, t := 0 }) })).pos[(5 : Fin 10)].relay.length) ∧
    (let s := atTick.modPos 5 (fun q => { q with relay := [(640, { p := 0, t := 0 })] })
     s.pos[(5 : Fin 10)].relay = [(640, { p := 0, t := 0 })] ∧ 640 + 160 ≤ s.now) ∧
    (let s := venc id
     let f := aFrame (3, 0x100000000)
     let e : Pair := { p := 3, t := tbc16Of (0x100000000#80).toInt s.rate s.offset.toInt }
     f.pairs = [(3, 0x100000000)] ∧ s.flag (CH_CFG_EN 6) = true ∧ field (s.rd (CH_AUX 6)) 15 4 = f.src.toNat ∧ field (s.rd (CH_AUX 6)) 3 0 = f.ch ∧
       s.pos[(6 : Fin 10)].vencSeq = some (f.seq - 1) ∧ s.pos[(6 : Fin 10)].vencTstep = some f.tstep ∧ s.now < s.vencTick 6 e.t) ∧
    (∀ h ∈ [9, 10, 11], let s := venc (fun q => { q with vencWait := [{ p := 2, t := 11 }, { p := 1, t := 10 }], hist := [{ p := 0, t := BitVec.ofNat 64 h }] })
      let e : Pair := { p := 1, t := 10 }
      e ∈ s.pos[(6 : Fin 10)].vencWait ∧ (∀ g ∈ s.pos[(6 : Fin 10)].vencWait, g = e ∨ e.t.toNat < g.t.toNat) ∧ s.vencTick 6 10 ≤ s.now ∧
        s.pos[(6 : Fin 10)].hist = [{ p := 0, t := BitVec.ofNat 64 h }]) := by decide

/-- `n` plans, for pages 0 on. -/
def plans (n : Nat) : State :=
  { State.reset with fsch := { Fsch.reset with plans := Vector.ofFn (fun i : Fin 16 => if i.val < n then some { page := BitVec.ofNat 32 i.val, origin := 0, pitch := 1 } else none) } }

theorem hyp_PagePlans :
    (let s := ((plans 15).wr FSCH_PLAN_ID 15).wr FSCH_PLAN_PITCH 1
     s.planCount < 16 ∧ s.planOf (s.rd FSCH_PLAN_ID) = none ∧ s.rd FSCH_PLAN_PITCH ≠ 0 ∧ (s.wr FSCH_PLAN_PITCH 0).rd FSCH_PLAN_PITCH = 0 ∧
       s.fsch.plans[(15 : Fin 16)] = none ∧ s.fsch.plans[(14 : Fin 16)] ≠ none) ∧
    (plans 16).planCount = 16 ∧
    (let s := (plans 15).wr FSCH_PLAN_ID 7
     (s.planOf (s.rd FSCH_PLAN_ID)).isSome = true ∧ s.reportOf (s.rd FSCH_PLAN_ID) = none ∧
       (({ s with fsch := { s.fsch with reports := [aReport] } } : State).reportOf 7).isSome = true) := by
  exact ⟨by decide, by decide, by decide, rfl, rfl⟩

/-! ## Fire scheduling -/

/-- A tracked line of page 7. -/
def aTracked (line : Nat) : Tracked := {
  page := 7, line := line, thermal := false, late := false, handed := true, voided := false, tf := none, missed := false, guarded := false, waitVerdict := false,
  tg := none, strobe := .none, load := .none, handTick := 0, caughtInh := false, caughtCrit := false, outcome := none, entry := some (anEntry line) }

/-- Port 12 at tick 800 with a plan for page 7 whose line 0 fires at tick 816, as `f` makes its part of the scheduler. -/
def firing (f : PortFire → PortFire) : State :=
  let s := ((({ atTick with
    fsch := { Fsch.reset with plans := vset Fsch.reset.plans 0 (some { page := 7, origin := 0, pitch := 0x100000 }), reports := [aReport], inhBall := false, blank := false },
    axes := vset atTick.axes 0 { outs := [{ tick := 0, stall := false, vel := 0x1000000000, ap := 0, at_ := 13056 }], ab := none } } : State).set1 (HP_CTRL_EN 12)).set1 (HP_STAT_PERMIT 12)).clr FSCH_STAT_INHIBIT
  s.modPort 12 f

/-- Page 7 on a port, at line `n` of 10. -/
def onPage (n : Nat) : PortPage := { page := 7, lines := 10, next := n, abortFrom := none, top := none }

theorem hyp_DeadlineToGuard :
    ((firing (fun f => { f with pages := [onPage 0] })).deadlineDue 12 = some (7, 0) ∧ (firing id).fsch.ports[(12 : Fin 48)].voids = []) ∧
    (let s := firing (fun f => { f with pages := [onPage 1], tracked := [aTracked 0] })
     s.freezeDue 12 = some (aTracked 0, 13056) ∧ s.now + 16 = tickOf 13056) ∧
    (let k := { aTracked 0 with tf := some 13056 }
     let s := firing (fun f => { f with pages := [onPage 1], tracked := [k] })
     s.guardDue 12 = some (k, 13056) ∧ s.guardFirst 12 13056 = true ∧ s.cal.phase ≠ .committing ∧ s.hps[(12 : Fin 48)].svc = none ∧
       s.guardRow 12 k 13056 = .strobe 13056 ∧ (s.set1 FSCH_STAT_INHIBIT).guardDue 12 = some (k, 13056) ∧ (s.set1 FSCH_STAT_INHIBIT).flag FSCH_STAT_INHIBIT = true ∧
       s.reportOf 7 = some aReport ∧ aReport.resolved + 1 < aReport.lines * (portsOf aReport.portSet).length) := by decide

theorem hyp_LoadsAndStrobes :
    (let k := { aTracked 0 with load := .waiting }
     let r := (firing (fun f => { f with tracked := [k] })).wr CLK_EN1 0x0FFF0FFF
     let s := { r with boot := { r.boot with porLow := false } }
     s.loadNext 12 = some k ∧ k.entry = some (anEntry 0) ∧ ∀ u ∈ s.fsch.ports[(12 : Fin 48)].tracked, u.page = k.page → u.line = k.line → u = k) ∧
    (let s := firing (fun f => { f with shifting := some (7, 0, 0) })
     s.fsch.ports[(12 : Fin 48)].shifting = some ((aTracked 0).page, (aTracked 0).line, 0) ∧ 0 + s.tLoad 12 ≤ s.now) ∧
    (∀ l ∈ [Load.done, .shifting], let k := { aTracked 0 with tg := some 12800, strobe := .placed, guarded := true, load := l }
     let s := firing (fun f => { f with tracked := [k] })
     s.placedLine 12 = some k ∧ k.tg = some 12800 ∧ tickOf 12800 ≤ s.now ∧ k.caughtInh = false ∧ k.caughtCrit = false ∧ s.brakeCut 12 = false ∧ k.load = l ∧
       s.guardDue 12 = none ∧ s.reportOf k.page = some aReport) ∧
    (let k := { aTracked 0 with tg := some 12784, strobe := .high, guarded := true, load := .done }
     let s := firing (fun f => { f with tracked := [k] })
     s.highLine 12 = some k ∧ k.fallTick ≤ s.now ∧ s.fsch.ports[(12 : Fin 48)].tracked.head? = some k ∧
       (firing (fun f => { f with tracked := [k], pages := [onPage 1] })).fsch.ports[(12 : Fin 48)].pages.head? = some (onPage 1) ∧ k.page = (onPage 1).page) := by decide

theorem hyp_InhibitBrakeAndAbort :
    (firing id).fsch.inhBall = false ∧ State.reset.fsch.inhBall = true ∧
    (∀ b ∈ [Strobe.high, .cut .cutInhibit], let k := { aTracked 0 with tg := some 12784, strobe := b, guarded := true, load := .done }
     let s := (firing (fun f => { f with tracked := [k] })).put (BRAKE_LIM_LIMIT 12) 1
     s.liveLine 12 = some k ∧ s.get (BRAKE_LIM_LIMIT 12) = 1 ∧ 608 * 1 ≤ 25 * (16 * (s.now + 1) - (k.tg.getD 0).toNat) ∧ s.reportOf k.page = some aReport ∧
       (∀ u ∈ s.fsch.ports[(12 : Fin 48)].tracked, u.strobe.live = true → u = k)) ∧
    (let g := onPage 1
     let s := firing (fun f => { f with pages := [g], tracked := [aTracked 0] })
     s.reportOf 7 = some aReport ∧ s.fsch.ports[(12 : Fin 48)].pages.find? (fun x => decide (x.page = 7)) = some g ∧ g.abortFrom = none) ∧
    ((State.reset.set1 CLK_STAT_REF_OK).flag CLK_STAT_REF_OK = true ∧ (4761#16).toNat < 4762 ∧ 5263 < (5264#16).toNat ∧ 4762 ≤ (4762#16).toNat) ∧
    State.reset.reportOf 7 = none := by decide

/-- Rings in SRAM that take a record. -/
def ringsOn : State :=
  ((((State.reset.wr FSCH_RPT_BASE_LO 0x01000000).set1 FSCH_RPT_CTRL_EN).wr BOLT_RPT_BASE_LO 0x01001000).set1 BOLT_RPT_CTRL_EN)

theorem hyp_RecordRings :
    (let s := { ringsOn with fsch := { Fsch.reset with held := [{ report := aReport, chip := 0 }] } }
     s.rptOpen rptFsch = true ∧ (s.dmaWrite 10 (s.rptSlot rptFsch 512) (aReport.bytes 0) 0).map Prod.fst = some none) ∧
    (let s := { ringsOn with bolt := { State.reset.bolt with held := [List.replicate 64 0#8] } }
     s.rptOpen rptBolt = true ∧ ∃ u, s.dmaWrite 3 (s.rptSlot rptBolt 64) (List.replicate 64 0#8) 0 = some (none, u)) ∧
    (ringsOn.flag FSCH_RPT_CTRL_EN = true ∧ field (1#32) 2 0 ≠ ringsOn.get FSCH_RPT_CTRL_SIZE ∧ State.reset.flag FSCH_RPT_CTRL_EN = false) := by
  exact ⟨⟨by decide, by decide +kernel⟩, ⟨by decide, _, rfl⟩, by decide⟩

/-! ## Head ports, cameras and the correction store -/

/-- Port 12 with its clock, a head record that fits its profile, and nothing pending. -/
def headReady : State :=
  let s := (((((((State.reset.wr CLK_EN1 0x0FFF0FFF).set1 (HP_STAT_PRESENT 12)).put (HP_HIR_STAT_VERDICT 12) 1).set1 (HP_HIR_STAT_FRESH 12)).set1 (HP_HIR_STAT_RANK_OK 12)).put
    (HP_PROFILE_MAXRATE 12) 1).put (HP_TLIM_WARN 12) 1).put (HP_TLIM_LIMIT 12) 1
  (s.put (HP_TLIM_CRIT 12) 1).modHp 12 (fun h => { h with hir := [(0x22, 1), (0x23, 1), (0x2C, 1), (0x3E, 1), (0x3F, 1), (0x40, 1)], deskewed := true })

theorem hyp_HeadSignals :
    (headReady.clocked (.hp 12) = true ∧ headReady.hpEn 12 = false ∧ headReady.enableCheck 12 = 0 ∧ (headReady.clr (HP_STAT_PRESENT 12)).enableCheck 12 = 1) ∧
    (headReady.retired 12 = false ∧ (headReady.set1 (HP_SVC_STAT_RETIRED 12)).retired 12 = true ∧ statusOk 0 = false ∧ statusOk 0x806400AA = true ∧
      field 0x806400AA#32 29 28 = 0 ∧ headReady.flag (HP_STAT_ST_LOST 12) = false) ∧
    (let s := (headReady.set1 (HP_LINK_ST_FMT 12)).put (HP_LINK_ST_DIV 12) 1
     s.flag (HP_LINK_ST_FMT 12) = true ∧ s.fsch.ports[(12 : Fin 48)].shifting = none ∧ ({ s with boot := { s.boot with porLow := false } } : State).hpDriven 12 = true ∧
       32 * s.get (HP_LINK_ST_DIV 12) = 32 ∧ headReady.flag (HP_LINK_ST_FMT 12) = false ∧
       (∃ l ∈ (s.modHp 12 (fun h => { h with shift := [List.replicate 32 false] })).hps[(12 : Fin 48)].shift, 32 ≤ l.length) ∧
       ∀ l ∈ (s.modHp 12 (fun h => { h with shift := [List.replicate 31 false] })).hps[(12 : Fin 48)].shift, l.length < 32) ∧
    (headReady.set1 (HP_CTRL_EN 12)).eligible 12 = true ∧ headReady.flag (HP_STAT_FAULT 12) = false ∧ headReady.hps[(12 : Fin 48)].stFault = false ∧
    (headReady.flag (HP_STAT_PRESENT 12) = true ∧ State.reset.flag (HP_STAT_PRESENT 12) = false ∧ headReady.portPageOpen 12 = false) := by decide +kernel

theorem hyp_HeadMemoryAndService :
    (headReady.clocked (.hp 12) = true ∧ headReady.flag (HP_I2C_STAT_BUSY 12) = false ∧ (headReady.set1 (HP_I2C_STAT_BUSY 12)).flag (HP_I2C_STAT_BUSY 12) = true) ∧
    ((headReady.modHp 12 (fun h => { h with i2c := some .read })).hps[(12 : Fin 48)].i2c = some .read ∧
      (headReady.modHp 12 (fun h => { h with i2c := some (.write [1]) })).hps[(12 : Fin 48)].i2c = some (.write [1])) ∧
    (let s := headReady.set1 (HP_SVC_STAT_RETIRED 12)
     (s.clr (HP_STAT_PRESENT 12)).enableCheck 12 ≠ 0 ∧ (s.modHp 12 (fun h => { h with deskewed := false })).enableCheck 12 = 0 ∧ s.flag (HP_STAT_PERMIT 12) = false ∧
       s.enableCheck 12 = 0) ∧
    (headReady.flag (HP_SVC_STAT_PENDING 12) = false ∧ headReady.retired 12 = false ∧ headReady.svcLate 12 (headReady.rd (HP_SVC_PAGE 12)) 0 = false ∧
      headReady.portPageOpen 12 = false) ∧
    (let s := (headReady.wr (HP_SVC_PAGE 12) 7).modSq 3 (fun q => { pageOn q with nb := Vector.replicate 4 1 })
     s.svcLate 12 (s.rd (HP_SVC_PAGE 12)) (s.rd (HP_SVC_LINE 12)).toNat = true) ∧
    (let s := (headReady.set1 (HP_SVC_STAT_RETIRED 12)).set1 (HP_STAT_PERMIT 12)
     s.flag (HP_SVC_STAT_PENDING 12) = false ∧ s.retired 12 = true ∧ s.enableCheck 12 = 0 ∧ s.hps[(12 : Fin 48)].deskewed = true ∧
       s.flag (HP_STAT_PERMIT 12) = true ∧ s.svcLate 12 (s.rd (HP_SVC_PAGE 12)) (s.rd (HP_SVC_LINE 12)).toNat = false ∧
       (s.set1 (HP_SVC_STAT_PENDING 12)).flag (HP_SVC_STAT_PENDING 12) = true) := by decide +kernel

/-- A frame of 4 × 40 pixels with `rows` rows received, `cur` of them in the stripe that fills. -/
def aFrameOf (rows : Nat) (cur ready : Nat) : Frame := {
  fsTbc := 5, dt := 0, width := 4, height := 40, trig := some (0, 0), tags := 0, rows := rows, cur := List.replicate cur (List.replicate 4 0),
  ready := List.replicate ready [], dens := [], inIsp := none, analysed := [], open_ := true, rotated := false }

/-- Camera 1 enabled on virtual channel 0 with these frames. -/
def camOn (fs : List Frame) : State :=
  let s := (((atTick.set1 (CAM_CTRL_EN 1)).put (CAM_CTRL_DT 1) 0).put (CAM_SIZE_WIDTH 1) 4).put (CAM_SIZE_HEIGHT 1) 40
  { s with cams := vset s.cams 1 { trigs := [{ k := 0, tp := 0, tick := 790 }], frames := fs, lastTp := none, captures := [], dropping := false } }

/-- A row of 4 pixels of 8 bits. -/
def aRow (dt : BitVec 6) : RowPacket := { vc := 0, dt := dt, hdr := .ok, bytes := 4, crcOk := true, row := List.replicate 4 0 }

theorem hyp_CamerasAndIsp :
    ((camOn []).flag (CAM_CTRL_EN 1) = true ∧ (camOn []).get (CAM_CTRL_VC 1) = (0 : Fin 4).val ∧ (camOn []).openFrame 1 = none ∧ (camOn []).now ≤ 790 + (camOn []).get (CAM_TRIG_WIN_WIN 1)) ∧
    (∀ n ∈ [39, 40], (camOn [aFrameOf n 0 0]).openFrame 1 = some (aFrameOf n 0 0)) ∧
    ((aRow 0x2B).dt.toNat ≠ dtNumber ((camOn []).get (CAM_CTRL_DT 1))) ∧
    (∀ f ∈ [aFrameOf 31 31 0, aFrameOf 0 0 0, aFrameOf 39 7 1], let s := camOn [f]
      (aRow 0x2A).dt.toNat = dtNumber (s.get (CAM_CTRL_DT 1)) ∧ (aRow 0x2A).bytes * 8 = s.get (CAM_SIZE_WIDTH 1) * dtBits (s.get (CAM_CTRL_DT 1)) ∧
        (aRow 0x2A).row.length = s.get (CAM_SIZE_WIDTH 1) ∧ s.openFrame 1 = some f ∧ f.rows < f.height ∧ f.taken = true ∧ (f.cur ≠ [] ∨ s.cams[(1 : Fin 8)].busySlots < 2)) ∧
    ((aFrameOf 40 0 0).height ≤ (aFrameOf 40 0 0).rows ∧ ({ aRow 0x2A with crcOk := false } : RowPacket).crcOk = false ∧ (aFrameOf 38 0 2).rows < (aFrameOf 38 0 2).height ∧
      (aFrameOf 38 0 2).taken = true ∧ (aFrameOf 38 0 2).cur = [] ∧ 2 ≤ (camOn [aFrameOf 38 0 2]).cams[(1 : Fin 8)].busySlots ∧
      (let s := ((camOn []).put (CAM_CTRL_SKIP 1) 1).put (CAM_CTRL_PHASE 1) 1
       let near := s.cams[(1 : Fin 8)].trigs.filter (fun r => decide (s.now ≤ r.tick + s.get (CAM_TRIG_WIN_WIN 1)))
       near.head?.map (fun r => (r.k + s.get (CAM_CTRL_PHASE 1)) % 2) = some 1 ∧ ((camOn []).set1 (CAM_CTRL_CAPTURE 1)).flag (CAM_CTRL_CAPTURE 1) = true)) ∧
    (((camOn []).wr CLK_EN0 0x0FFFFFFF).clocked (.cam 1) = true ∧ State.reset.flag (CAM_CTRL_EN 1) = false ∧ (0x80000000#32).getLsbD 31 = true) ∧
    (let s := (camOn [aFrameOf 32 0 1]).set1 ISP_CTRL_EN
     let s := { s with weir := { s.weir with granted := vset s.weir.granted 18 (some 1) } }
     s.flag ISP_CTRL_EN = true ∧ s.weirHolds 18 = true ∧ s.flag ISP_STAT_BUSY = false ∧ s.nextStripe = some (1, aFrameOf 32 0 1)) ∧
    (let f := { aFrameOf 32 0 0 with inIsp := some [] }
     let s := { camOn [f] with ispCam := some 1 }
     s.ispCam = some 1 ∧ s.cams[(1 : Fin 8)].frames.find? (fun g => g.inIsp.isSome) = some f ∧ s.cams[(1 : Fin 8)].captures = [] ∧ f.open_ = true) := by decide

/-- The correction store with its clock, its shadow in a state, and an open page. -/
def csIn (v : Nat) : State :=
  let s := ((State.reset.wr CLK_EN0 0x0FFFFFFF).put CS_STAT_SHADOW v).wr CS_EP_PAGE 7
  { s with fsch := { s.fsch with reports := [aReport] } }

theorem hyp_CorrectionSets :
    ((csIn 0).clocked .cs = true ∧ (csIn shFREE).shadow = shFREE ∧ (csIn shCOPYING).shadow = shCOPYING ∧ (csIn shFW).shadow = shFW ∧ (csIn shREADY).shadow = shREADY ∧
      ¬ ((csIn shHELD).shadow = shFW ∨ (csIn shHELD).shadow = shREADY)) ∧
    ((csIn shFW).reportOf ((csIn shFW).rd CS_EP_PAGE) = some aReport ∧ ((csIn shFW).wr CS_EP_PAGE 8).reportOf 8 = none) ∧
    (lineGe 0 0 aReport.serial 0 = true ∧ lineGe 0 0 aReport.serial 1 = false ∧ (csIn shFW).corr.maxBuilt = none) ∧
    ((csIn shHELD).heldPages = true ∧ (csIn shHELD).heldConts = true ∧
      ({ csIn shHELD with corr := { State.reset.corr with log := [{ epoch := 1, page := 7, serial := 1, line := 0, key := 0 }] } } : State).heldPages = false) ∧
    (let s := { (csIn shFREE).set1 BOLT_CTRL_PROPOSE with corr := { State.reset.corr with wanted := true } }
     s.shadow = shFREE ∧ s.corr.wanted = true ∧ s.flag BOLT_CTRL_PROPOSE = true) ∧
    (let s := { csIn shBOLTER with bolt := { State.reset.bolt with hmap := [(3, 0x5800)] } }
     s.shadow = shBOLTER ∧ 0 < (s.proposals.take (s.get BOLT_LIM_MAX_CHANGE)).length ∧ s.proposals.length = 1) := by decide

/-! ## Codec -/

/-- Every clock enabled, and a power budget. -/
def clocksOn : State := (((State.reset.wr CLK_EN0 0x0FFFFFFF).wr CLK_EN1 0x0FFF0FFF).wr CLK_EN2 0xFFFF).wr PWR_BUDGET 0xFFFFFFFF

/-- Engine 3 in a state with containers and a job, its ring in SRAM. -/
def engIn (st : EngState) (cs : List Cont) (j : Option Job) : State :=
  (clocksOn.wr (engReg 3 0x08) 0x01000000).modEng 3 (fun g => { g with st := st, conts := cs, job := j })

/-- The same as a stream engine for the Bolter. -/
def engBolt (st : EngState) (cs : List Cont) : State := ((engIn st cs none).set1 (DCE_CTRL_EN 3)).put (DCE_CTRL_SINK 3) 2

theorem hyp_StreamEngines :
    ((engIn .inWait [] none).clocked (.dce 3) = true ∧ (engIn .inWait [] none).engines[(3 : Fin 16)].st = .inWait ∧
      (engIn .inWait [] none).engines[(3 : Fin 16)].job = none) ∧
    (∀ v ∈ [0x00200000, 0x0B100000], let s := engIn .idle [] none
      let on := setBit (BitVec.ofNat 32 v) 31 true
      s.engines[(3 : Fin 16)].st = .idle ∧ s.flag (DCE_CTRL_EN 3) = false ∧ field on 3 0 = 0 ∧ (field on 21 20 = 2 ∨ field on 21 20 = 1 ∧ field on 28 24 ≤ 11) ∧
        s.sinkTaken 3 (field on 21 20) (field on 28 24) = false ∧ s.weirHolds (engRq 3) = false ∧ s.weirWaits (engRq 3) = false ∧
        s.weirTooBig (s.get (DCE_WEIR_PWR 3)) = false) ∧
    (let s := engBolt .run []
     let off := setBit (s.rd (DCE_CTRL 3)) 31 false
     s.flag (DCE_CTRL_EN 3) = true ∧ s.streams 3 = true ∧ field off 3 0 = 0 ∧ off &&& 0x1F311000#32 = s.rd (DCE_CTRL 3) &&& 0x1F311000#32 ∧
       s.get (DCE_CTRL_SINK 3) ≠ 1 ∧ s.engines[(3 : Fin 16)].st = .run ∧ s.undelivered 3 ≤ 16384) ∧
    (let c := { aCont 7 0 0 with opened := true, code := 5 }
     let s := engBolt .run [c]
     s.engines[(3 : Fin 16)].conts.find? (fun y => y.opened && !y.judged) = some c ∧ c.code ≠ 0 ∧ (aCont 7 0 0).code = 0) ∧
    ((engBolt .run [{ aCont 7 0 0 with skip := true }]).engines[(3 : Fin 16)].conts.find? (fun y => y.skip) = some { aCont 7 0 0 with skip := true }) ∧
    (let c := { aCont 7 0 0 with opened := true, judged := true }
     let s : State := { engBolt .run [c] with bolt := { State.reset.bolt with past := [7] } }
     s.engines[(3 : Fin 16)].conts.find? (fun y => y.judged) = some c ∧ s.get (DCE_CTRL_SINK 3) = 2 ∧ s.contFinished c = true) := by decide +kernel

/-- A descriptor of 16 bytes that the engine owns, whose container has no whole header. -/
theorem hyp_StreamEngines_header :
    (let s := ((engBolt .run []).wr (engReg 3 0x08) 0x01000000).putBytes 0x01000000 ([0, 0x10, 0, 1, 0, 16, 0, 0, 0, 0, 0, 0, 0, 0, 0, 0x80] : List Byte)
     ∃ d u c w, s.readDesc (s.ringDesc 3 0x08) = .ok d u ∧ d.own = true ∧ d.len ≠ 0 ∧ u.contOf 3 (s.ringDesc 3 0x08) d = some (c, w)) := by
  refine ⟨_, _, _, _, rfl, ?_, ?_, rfl⟩ <;> decide

/-- A memory job. -/
def aJob (ending : Option Nat) (stopping : Bool) (out : Option OutBuf) : Job := {
  inp := { bytes := [], ended := false, failed := false, bufs := [] }, header := none, rebuild := false, inf := Inf.start 0 none, delivered := 0, out := out,
  outBytes := 0, ending := ending, stopping := stopping }

/-- An output buffer. -/
def aBuf : OutBuf := { desc := 0x01000000, ctrl := 0, addr := 0x01001000, len := 64, used := 0 }

theorem hyp_DecodeJobs :
    (let s := (engIn .idle [] none).put (DCE_CTRL_SINK 3) 0
     let v := s.rd (DCE_CTRL 3)
     s.clocked (.dce 3) = true ∧ s.streams 3 = false ∧ field (setBit v 0 true) 3 0 = 1 ∧ field (setBit v 2 true) 3 0 = 4 ∧ field (setBit v 3 true) 3 0 = 8 ∧
       field (setBit v 1 true) 3 0 = 2 ∧ s.engines[(3 : Fin 16)].st = .idle ∧ s.engines[(3 : Fin 16)].job = none ∧ s.weirHolds (engRq 3) = false ∧
       s.weirWaits (engRq 3) = false ∧ s.weirTooBig (s.get (DCE_WEIR_PWR 3)) = false) ∧
    ((engIn .stopped [] (some (aJob none false none))).engines[(3 : Fin 16)].st = .stopped ∧ (engIn .stopped [] (some (aJob none false none))).engines[(3 : Fin 16)].job ≠ none) ∧
    (let s := (engIn .idle [] none).wr (DCE_RESUME 3 7) (resumeCheck (List.replicate 7 0))
     let ws := (List.range 8).map (fun i => (s.rd (DCE_RESUME 3 i)).toNat)
     (resumeCheck (ws.take 7)).toNat = ws.getD 7 0 ∧ ws.getD 6 0 % 65536 = 0 ∧ (resumeCheck (List.replicate 7 0)).toNat ≠ 0) ∧
    ((aJob none true none).stopping = true ∧ (engIn .run [] (some (aJob none true none))).engines[(3 : Fin 16)].st = .run) ∧
    ((aJob (some 0) false (some aBuf)).ending = some 0 ∧ (aJob (some 0) false (some aBuf)).out = some aBuf) := by decide +kernel

/-- A compressor job with three bytes of input that have ended. -/
def aCJob (ending : Option Nat) (stopping : Bool) : CJob := {
  inp := { bytes := [1, 2, 3], ended := true, failed := false, bufs := [] }, done := 0, bitVal := 0, bitLen := 0, staged := [], first := none, out := some aBuf,
  outBytes := 0, started := false, final := false, ending := ending, stopping := stopping }

/-- Compressor 1 in a state, for one line of three bytes. -/
def cmpIn (st : EngState) (j : Option CJob) : State :=
  let s := ((clocksOn.wr (engReg 17 0x20) 0x01000000).put (CMP_CFG_LINES 1) 1).put (CMP_CFG_LINE_BYTES 1) 3
  { s with cmps := vset s.cmps 1 { st := st, job := j, committed := false } }

theorem hyp_Compressors :
    (let s := cmpIn .idle none
     let v := s.rd (CMP_CTRL 1)
     s.clocked (.cmp 1) = true ∧ s.cmps[(1 : Fin 2)].st = .idle ∧ s.cmps[(1 : Fin 2)].job = none ∧ field (setBit v 0 true) 3 0 = 1 ∧ field (setBit v 2 true) 3 0 = 4 ∧
       field (setBit v 1 true) 3 0 = 2 ∧ (s.wr (CMP_CTRL 1) (setBit v 0 true &&& 0x80011000#32)).cmpParam 1 = false ∧ s.weirHolds (engRq (cmpNo 1)) = false ∧
       s.weirWaits (engRq (cmpNo 1)) = false ∧ s.weirTooBig (s.get (CMP_WEIR_PWR 1)) = false) ∧
    ((cmpIn .stopped (some (aCJob none false))).cmps[(1 : Fin 2)].st = .stopped) ∧
    (let j := aCJob none false
     let s := cmpIn .run (some j)
     s.cmps[(1 : Fin 2)].job = some j ∧ s.cmps[(1 : Fin 2)].st = .run ∧ j.ending = none ∧ j.stopping = false ∧ j.final = false ∧ j.staged = [] ∧
       (s.cmpFirst 1 j).2 = true ∧ (State.cmpPull 1 4096 (s.cmpFirst 1 j).1).2 = true) ∧
    ((aCJob none true).stopping = true ∧ (aCJob (some 0) false).ending = some 0 ∧ (aCJob (some 0) false).out = some aBuf) := by decide +kernel

/-! ## Links -/

/-- Ports with clocks at a late tick, with these states of A and B. -/
def portsIn (a b : Nat) : State := (({ clocksOn with tbc := 900000000, tbRuns := true } : State).pxSet 0 a).pxSet 1 b

/-- A session on the network path whose VC0 is `f` of the one at reset, its lanes in sync. -/
def sessOn (s : State) (f : VcSess → VcSess) : State :=
  ([0, 1, 2, 3].foldl (fun (s : State) n => s.clr (LN_STAT_LOS_NOW n)) (s.modSess 0 (fun q => { q with live := true }))).modVc 0 0 f

/-- A frame of 4 bytes. -/
def aMFrame : MFrame := { type := 1, flags := 0, dst := 0xFFE, src := 0, hops := 0, payload := [1, 2, 3, 4] }

theorem hyp_LinkTrainingAndWords :
    ((portsIn 0 0).clocked (.px 0) = true ∧ (portsIn 0 0).flag (PX_CTRL_EN 1) = false ∧ (1 : Fin 4) ≠ (portsIn 0 0).activePort ∧ (0 : Fin 4) = (portsIn 0 0).activePort) ∧
    (let s := (portsIn pxUP 0).set1 (PX_CTRL_EN 0)
     s.flag (PX_CTRL_EN 0) = true ∧ s.pxState 0 = pxUP ∧ s.flag (MR_PATH_STAT_IN_PROGRESS 0) = false ∧
       (let s := ((s.pxSet 2 pxUP).set1 (PX_CTRL_EN 2)).put (PX_CTRL_RATE 2) 2; s.pxState 2 = pxUP ∧ 2 ≤ s.get (PX_CTRL_RATE 2))) ∧
    (let s := (portsIn pxFAILED pxTRAINING).set1 (MR_PATH_STAT_IN_PROGRESS 0)
     s.pxState 1 = pxTRAINING ∧ s.flag (MR_PATH_STAT_IN_PROGRESS 0) = true ∧ 1 = s.otherPort) ∧
    (let s := portsIn pxTRAINING 0
     s.pxState 0 = pxTRAINING ∧ s.links.sess[sessOf 0].live = false ∧ (sessOn s id).links.sess[sessOf 0].live = true) ∧
    (let s := (portsIn pxTRAINING 0).modSess 0 (fun q => { q with waitInit := true })
     s.links.sess[sessOf 0].waitInit = true ∧ s.pxState 0 ∈ [pxTRAINING, pxUP, pxRESUMING]) ∧
    (let s := sessOn (portsIn pxUP 0) (fun q => { q with txNext := 0, sent := 1, replay := [(4095, aMFrame)] })
     let q := s.vc 0 0
     (q.txNext + 4095 - 4095) % 4096 < q.sent ∧ q.fromSeq 4095 = [(4095, aMFrame)] ∧ q.sent ≤ (q.txNext + 4095 - 4094) % 4096 ∧ q.tries < s.get (PX_CTRL_REPLAY_MAX 0)) ∧
    (let s := (portsIn pxFAILED pxRESUMING).set1 (MR_PATH_STAT_IN_PROGRESS 0)
     s.flag (MR_PATH_STAT_IN_PROGRESS 0) = true ∧ 1 = s.otherPort ∧ s.pxState 1 = pxRESUMING ∧ ((s.vc 1 0).txNext + 4096 - 0) % 4096 ≤ (s.vc 1 0).sent ∧ (s.vc 1 0).sent < ((s.vc 1 0).txNext + 4096 - 1) % 4096 ∧
       ({ s with links := { s.links with resumed := vset s.links.resumed 1 true } } : State).links.resumed[(1 : Fin 2)] = true) ∧
    ((portsIn 0 0).carries 0 = false ∧ ((portsIn 0 0).put (LN_CTRL_PRBS_RX 15) 2).get (LN_CTRL_PRBS_RX 15) ∈ [1, 2]) := by decide

/-- A DATA frame of 4 bytes as it arrives, its CRC right or not. -/
def rxFrame (dst seq : Nat) (crc : Bool) : RxFrame := {
  bytes := { aMFrame with dst := dst, src := 2 }.wire seq ++ (if crc then [] else [0]), stomped := false, split := false, fine := 3, errs := [] }

theorem hyp_LinkFrames_received :
    let s := sessOn (portsIn pxUP 0) (fun q => { q with rxGranted := creditNeed 4 })
    let f := rxFrame 0 0 true
    f.vc = 0 ∧ s.accepts 0 0 = true ∧ ({ f with stomped := true } : RxFrame).vc = 0 ∧ ({ f with split := true } : RxFrame).oversize = true ∧ f.stomped = false ∧ f.oversize = false ∧
      f.crcOk = true ∧ ({ f with errs := [(1, true)] } : RxFrame).crcOk = false ∧ (rxFrame 0 0 false).crcOk = false ∧ (rxFrame 0 0 false).oversize = false ∧
      f.seq = (s.vc 0 0).rxExp ∧ (s.vc 0 0).rxUsed + creditNeed f.len ≤ (s.vc 0 0).rxGranted ∧ f.type = 1 ∧ f.dst = s.chipId ∧ s.breakStops 0 1 = false ∧
      ((rxFrame 0 2048 true).seq + 4096 - (s.vc 0 0).rxExp) % 4096 = 2048 ∧ ((rxFrame 0 2049 true).seq + 4096 - (s.vc 0 0).rxExp) % 4096 = 2049 := by decide +kernel

theorem hyp_LinkFrames_forwarded :
    let s := sessOn (portsIn pxUP 0) (fun q => { q with rxGranted := creditNeed 4 })
    let f := rxFrame 0xFFD 0 true
    f.vc = 0 ∧ s.accepts 0 0 = true ∧ f.stomped = false ∧ f.oversize = false ∧ f.crcOk = true ∧ f.seq = (s.vc 0 0).rxExp ∧
      (s.vc 0 0).rxUsed + creditNeed f.len ≤ (s.vc 0 0).rxGranted ∧ f.type = 1 ∧ s.chipId < f.dst ∧ f.dst < 0xFFE ∧ f.hops < 320 ∧ s.breakStops 3 1 = false := by decide +kernel

theorem hyp_LinkFrames :
    (let item : QItem := { frame := aMFrame, from_ := none, desc := none }
     let s := sessOn (portsIn pxUP 0) (fun q => { q with granted := 64, queue := [item] })
     s.sends 0 = true ∧ s.sendVc 0 1 = none ∧ (s.vc 0 0).resend = 0 ∧ (s.vc 0 0).queue = [item] ∧ (s.vc 0 0).mayStart 0 item.frame = true) ∧
    (let s := sessOn (portsIn pxUP 0) (fun q => { q with replay := [(4095, aMFrame)] })
     s.sends 0 = true ∧ (s.vc 0 0).replay ≠ [] ∧ s.get (PX_CTRL_REPLAY_TO 0) * 800 ≤ s.now - (s.vc 0 0).progress ∧ (s.vc 0 0).tries < s.get (PX_CTRL_REPLAY_MAX 0)) := by decide

/-- PRBS7 (R296): after seven ones come six zeros and a one, so the next byte, bit 0 first, is 0x40 and then a zero's turn. -/
theorem test_prbs7 : prbsByte 1 0x7F#31 % 256 = 0b00000010#31 := by decide

/-- Bit 0 of a byte comes first (R291). -/
theorem test_prbs_push : prbsPush 0#31 0x01 = 0x80#31 := by decide

/-- A link word's bytes (R300): an ACK of VC1 for SEQ 0x123. -/
theorem test_word_symbols : wordSymbols 1 1 0x123 = #v[.k28_1, .data 0x11, .data 0x23, .data 0x01] := by decide

/-- Byte b travels on lane b mod 4 (R297). -/
theorem test_deal_lanes : dealLanes [1, 2, 3, 4, 5, 6, 7, 8] = [#v[.data 1, .data 2, .data 3, .data 4], #v[.data 5, .data 6, .data 7, .data 8]] := by decide

theorem hyp_PathsAndDiscovery :
    (let s := (((portsIn pxUP 0).set1 (PX_CTRL_EN 0)).set1 (LN_STAT_LOS_NOW 3)).clr (MR_PATH_CTRL_AUTO 0)
     (0 : Fin 4) = s.activePort ∧ s.pxState 0 ≠ pxFAILED ∧ s.flag (PX_CTRL_EN 0) = true ∧ s.flag (LN_STAT_LOS_NOW (4 * 0 + 3)) = true ∧
       s.get (MR_PATH_CTRL_LOS_TIME 0) * 800 ≤ s.now - s.links.ports[(0 : Fin 4)].losAt[(3 : Fin 4)] ∧ s.flag (MR_PATH_STAT_IN_PROGRESS 0) = false ∧
       s.flag (MR_PATH_CTRL_AUTO 0) = false) ∧
    (let s := (portsIn pxUP pxCOLD).set1 (PX_CTRL_EN 1)
     s.clocked (.px 0) = true ∧ s.flag (MR_PATH_STAT_IN_PROGRESS 0) = false ∧ s.bit (MR_PATH_CTRL 0) 29 = false ∧ s.bit (MR_PATH_CTRL 0) 31 = false ∧ s.isStandby s.otherPort = true ∧
       s.otherPort = 1 ∧ (portsIn pxUP 0).isStandby 1 = false ∧ ((portsIn pxUP pxTRAINING).set1 (PX_CTRL_EN 1)).flag (PX_CTRL_EN 1) = true ∧
       ((portsIn pxUP pxTRAINING).set1 (PX_CTRL_EN 1)).isStandby 1 = false ∧ (s.put (PX_HEALTH_INFO_CLASS 1) 0).get (PX_HEALTH_INFO_CLASS 1) = 0) ∧
    (let s := (portsIn pxFAILED pxRESUMING).set1 (MR_PATH_STAT_IN_PROGRESS 0)
     s.flag (MR_PATH_STAT_IN_PROGRESS 0) = true ∧ s.pxState s.otherPort = pxRESUMING ∧ s.get (MR_CFG_RESUME_TO 0) * 800 ≤ s.now - s.links.resumeAt) ∧
    (let s := (portsIn pxUP pxCOLD).set1 (PX_CTRL_EN 1)
     let s := { s with links := { s.links with testDue := some 900000000 } }
     s.links.testDue = some 900000000 ∧ 900000000 ≤ s.now ∧ s.isStandby s.otherPort = true ∧ s.pxState s.otherPort = pxCOLD ∧ s.weirWaits (linkReq s.otherPort) = false ∧
       s.weirHolds (linkReq s.otherPort) = false ∧ s.weirTooBig 600 = false) ∧
    ((portsIn pxUP pxSELFTEST).pxState (portsIn pxUP pxSELFTEST).otherPort = pxSELFTEST) ∧
    (let s := State.reset.pxSet 3 pxUP
     s.hasD = true ∧ State.reset.hasD = false ∧ s.pxState 2 ≠ pxUP ∧ s.get (MR_ID_SRC 0) = 0 ∧ s.get (MR_DISC_STATE 0) < 2 ∧ s.strapped = false ∧
       (s.put (MR_DISC_STATE 0) 2).get (MR_DISC_STATE 0) = 2 ∧ (0#12).toNat = s.chipId ∧ (0xFFD#12).toNat ≤ 0xFFD ∧ 0xFFD < (0xFFE#12).toNat) := by decide

/-! ## DRAM, DMA and power -/

/-- Every clock on, both DRAM channels in a state, with 8 GiB installed and channel 1 as `f` makes it. -/
def dramIn (st : Nat) (f : DramCh → DramCh := id) : State :=
  let s := ((clocksOn.put (DDR_STAT_STATE 0) st).put (DDR_STAT_STATE 1) st).modDdr 1 f
  { s with dram := { s.dram with size := 8 } }

theorem hyp_DramChannels :
    (∀ st ∈ [0, 1, 2], (dramIn st).clocked (.ddr 1) = true ∧ (dramIn st).get (DDR_STAT_STATE 1) = st) ∧
    (let s := dramIn 2
     let fits := fun (mw : Nat) => mw + s.get PWR_RES_BASE_RES_BASE ≤ min (s.get PWR_BUDGET_RAIL_MW) (s.get PWR_BUDGET_THERM_MW)
     s.dram.chs[(1 : Fin 2)].passed[(1 : Fin 2)] = 0 ∧ (dramIn 2 (fun d => { d with passed := vset d.passed 1 6 })).dram.chs[(1 : Fin 2)].passed[(1 : Fin 2)] = 6 ∧
       s.flag (DDR_TRAIN_BUSY 1) = false ∧ s.weir.waiting[ddrRq 1] = none ∧ s.weir.granted[ddrRq 1] = none ∧ fits (s.get (DDR_WEIR_TRAIN_PWR 1)) ∧
       (s.set1 (DDR_TRAIN_BUSY 1)).flag (DDR_TRAIN_BUSY 1) = true ∧ s.ddrTrained 1 = false ∧ s.rd (DDR_CFG 1) = s.rd (DDR_CFG 0) ∧
       (dramIn 2 (fun d => { d with imageOk := true })).ddrTrained 1 = true ∧ ((dramIn 2).wr (DDR_CFG 1) 1).rd (DDR_CFG 1) ≠ (dramIn 2).rd (DDR_CFG 0) ∧
       s.clocked (.phy 1) = true) ∧
    (let s := (dramIn 2 (fun d => { d with training := some (7, 1), trainLeave := true })).set1 (DDR_TRAIN_BUSY 1)
     s.flag (DDR_TRAIN_BUSY 1) = true ∧ s.dram.chs[(1 : Fin 2)].trainLeave = true ∧ s.dram.chs[(1 : Fin 2)].training = some (7, (1 : Fin 2).val)) ∧
    ((dramIn 4).get (DDR_STAT_STATE 1) = 4 ∧ (dramIn 4).boot.dieShut = false) ∧
    (((dramIn 1).set1 (DDR_TRAIN_BUSY 1)).get (DDR_STAT_STATE 1) ≤ 2 ∧ ((dramIn 1).set1 (DDR_TRAIN_BUSY 1)).flag (DDR_TRAIN_BUSY 1) = true) ∧
    ((∀ st ∈ [2, 4], (dramIn st).get (DDR_STAT_STATE 1) ∈ [2, 3, 4]) ∧ ((0 : Fin 2) = 0 ∨ State.reset.flag (DDR_CFG_RANKS 1) = true) ∧
      (∀ b : Fin 4, (dramIn 3).dram.chs[(1 : Fin 2)].debt[(0 : Fin 2)][b] + 1 < ((dramIn 3).put (DDR_REF_REF_POSTPONE 1) 4).get (DDR_REF_REF_POSTPONE 1)) ∧
      (∃ b : Fin 4, ((dramIn 3).put (DDR_REF_REF_POSTPONE 1) 1).get (DDR_REF_REF_POSTPONE 1) ≤ (dramIn 3).dram.chs[(1 : Fin 2)].debt[(0 : Fin 2)][b] + 1)) ∧
    (((dramIn 3).put (DDR_REF_PD_IDLE 1) 1).get (DDR_REF_PD_IDLE 1) ≠ 0 ∧ (dramIn 3).ddrQueued 1 0 none = false ∧ ((dramIn 3).put (DDR_REF_PD_IDLE 1) 0).get (DDR_REF_PD_IDLE 1) = 0) ∧
    (let s := (dramIn 3).set1 (DDR_SCRUB_EN 1)
     let fits := fun (s : State) => s.get (DDR_SCRUB_SCRUB_PWR 1) + s.get PWR_RES_BASE_RES_BASE ≤ min (s.get PWR_BUDGET_RAIL_MW) (s.get PWR_BUDGET_THERM_MW)
     s.flag (DDR_SCRUB_EN 1) = true ∧ s.get (DDR_STAT_STATE 1) = 3 ∧ s.dram.chs[(1 : Fin 2)].scrubWait = false ∧ s.weir.waiting[ddrRq 1] = none ∧
       s.weir.granted[ddrRq 1] = none ∧ fits s ∧ ¬ fits ((s.wr PWR_BUDGET 0).put (DDR_SCRUB_SCRUB_PWR 1) 1)) := by decide +kernel

/-- Channel 1 ONLINE with these entries in the slots of its subchannel 0. -/
def dramSlots (l : List DramTxn) : State := dramIn 3 (fun d => { d with slots := vset d.slots 0 l })

theorem hyp_DramChannels_requests :
    (let s := dramIn 3
     let a := dramBase + 128 + 60
     s.dramAnswer 0x1FFFFFFFC0 64 = some .errDecode ∧ (dramIn 2).dramAnswer a 4 = some .errUnit ∧ (dramIn 5).dramAnswer a 4 = none ∧ s.dramAnswer a 4 = some .ok ∧ a % 64 + 4 ≤ 64 ∧
       s.dramAnswer (dramBase + 8 * 2 ^ 30 - 64) 64 = some .ok ∧ s.dramAnswer (dramBase + 8 * 2 ^ 30 - 63) 64 = some .errDecode ∧ dramChan (dramLine a) = 1 ∧ dramSub (dramLine a) = 0 ∧
       s.dram.chs[(1 : Fin 2)].front = [] ∧ (dramSlots (List.replicate 23 (dramTxn false a 4 []))).dram.chs[(1 : Fin 2)].slots[(0 : Fin 2)].length < 24) ∧
    (linePieces 3 (dramBase + 60) 8 = [(dramBase + 60, 4), (dramBase + 64, 4)]) := by decide +kernel

theorem hyp_DramChannels_slots :
    (let a := dramBase + 128
     let u := dramTxn false a 4 []
     let w : DramTxn := { dramTxn true a 4 [1, 2, 3, 4] with urgent := true }
     let s := dramSlots [w, u]
     s.pickNext 1 0 = some (0, w) ∧ slotHeld s.dram.chs[(1 : Fin 2)].slots[(0 : Fin 2)] 1 u = true) ∧
    (let u := dramTxn false (dramBase + 128) 4 []
     let s := dramSlots [u]
     s.dram.chs[(1 : Fin 2)].slots[(0 : Fin 2)] = [u] ∧ u.write = false ∧ u.issued = none ∧ u.rewritten = false ∧ s.dram.err.get noErr (dramLine u.addr) = .none ∧
       s.dram.chs[(1 : Fin 2)].front = []) ∧
    (∀ r ∈ [true, false], let u : DramTxn := { dramTxn false (dramBase + 128) 4 [] with issued := some 5, rewritten := r }
      (dramSlots [u, { u with issued := some 6 }]).dram.chs[(1 : Fin 2)].returning 0 = some u ∧ u.write = false ∧ dramChan (dramLine u.addr) = 1) ∧
    ((dramSlots (List.replicate 23 (dramTxn true dramBase 4 []))).dramSpace 1 = true ∧ (dramSlots (List.replicate 24 (dramTxn true dramBase 4 []))).dramSpace 1 = false ∧
      (dramSlots []).dram.chs[(1 : Fin 2)].round[(0 : Fin 2)] = []) := by decide +kernel

/-- DMA channel 31 with its operation, 8 bytes from 0x01000000 to `dst`. -/
def dmaRun (op dst count : Nat) : State :=
  ((((clocksOn.wr (DMA_CH_SRC_LO 31) 0x01000000).wr (DMA_CH_DST_LO 31) (BitVec.ofNat 32 dst)).wr (DMA_CH_COUNT 31) (BitVec.ofNat 32 count)).set1 (DMA_CH_CTRL_OWN 31)).put (DMA_CH_CTRL_OP 31) op

/-- A ring descriptor that the device owns, of 8 bytes from 0x01000400 to 0x01000800, at 0x01000000. -/
def ringOn (r : Fin 5) : State :=
  ((clocksOn.wr (RING_BASE_LO r) 0x01000000).set1 (RING_CFG_EN r)).putBytes 0x01000000
    ([0, 0, 0, 0x80, 0, 4, 0, 1, 0, 0, 0, 0, 0, 8, 0, 1, 8, 0, 0, 0] : List Byte)

/-- Path 3 holds a frame of a type and payload. -/
def holding (s : State) (v : Fin 2) (type : Nat) (payload : List Byte) : State :=
  s.modVc 3 v (fun q => { q with held := [(1, { aMFrame with type := type, src := 5, payload := payload })] })

/-- A descriptor of RING0 and RING3 in progress. -/
def aDesc : RingDesc := { index := 0, addr := 0x01000000, ctrl := 0xA0000000, src := 0, dst := 0x01000800, count := 16, param := 0 }

theorem hyp_DmaTransfers :
    (let s := (dmaRun 0 0x01000008 8).clr (DMA_CH_CTRL_OWN 31)
     s.clocked .dma = true ∧ s.flag (DMA_CH_CTRL_OWN 31) = false ∧ s.dmaReserved 31 = false ∧ (s.rd (DMA_CH_COUNT 31)).toNat ≠ 0 ∧
       (let sa := s.addr40 (DMA_CH_SRC_LO 31) (DMA_CH_SRC_HI 31); let da := s.addr40 (DMA_CH_DST_LO 31) (DMA_CH_DST_HI 31); ¬ (sa < da + 8 ∧ da < sa + 8)) ∧
       ((s.wr (DMA_CH_COUNT 31) 0).rd (DMA_CH_COUNT 31)).toNat = 0 ∧ (reshuffleOf ((s.wr (DMA_CH_PARAM 31) 0x00000000).rd (DMA_CH_PARAM 31))).ok 8 = false ∧
       (dmaRun 0 0x01000007 8).flag (DMA_CH_CTRL_OWN 31) = true ∧ (s.sqs[(11 : Fin 12)]).fbWait = []) ∧
    (let s := (((dmaRun 0 0x01000008 8).clr (DMA_CH_CTRL_OWN 31)).put (SQ_FB_CH 11) 31).put (SQ_FB_FB_MASK 11) 1
     (s.modSq 11 (fun q => { q with st := .run })).dmaReserved 31 = true) ∧
    (∀ k : Fin 12, clocksOn.sqs[k].fbWait = []) ∧
    (∀ op ∈ [0, 1, 2], let s := dmaRun op 0x01BFFFF8 8
     s.dma.chs[(31 : Fin 32)].fb = none ∧ s.flag (DMA_CH_CTRL_OWN 31) = true ∧ s.get (DMA_CH_CTRL_OP 31) = op ∧ 0x1000000 ≤ s.addr40 (DMA_CH_DST_LO 31) (DMA_CH_DST_HI 31) ∧
       s.addr40 (DMA_CH_DST_LO 31) (DMA_CH_DST_HI 31) + 8 ≤ 0x1C00000 ∧ s.flag (DMA_CH_CTRL_CV 31) = false) ∧
    ((let s := (dmaRun 2 0x01000100 8).putBytes 0x01000107 ([9] : List Byte)
      (∀ j < 7, s.byte (0x01000000 + j) = s.byte (0x01000100 + j)) ∧ s.byte (0x01000000 + 7) ≠ s.byte (0x01000100 + 7)) ∧
      (∀ i < 8, (dmaRun 2 0x01000100 8).byte (0x01000000 + i) = (dmaRun 2 0x01000100 8).byte (0x01000100 + i))) ∧
    (({ clocksOn with dma := { clocksOn.dma with chs := vset clocksOn.dma.chs 31 { fb := none, committed := true, late := some (64, .errEcc) } } } : State).dma.chs[(31 : Fin 32)].late =
      some (64, .errEcc)) := by decide +kernel

theorem hyp_DmaTransfers_reshuffle : ∀ q ∈ [(0x02000008#32, 0, 0x01000100, 20), (0x42000004#32, 1, 0x01BFFFF4, 12), (0x83100000#32, 2, 0x01BFFFF4, 12)],
    let s := (dmaRun 3 q.2.2.1 12).wr (DMA_CH_PARAM 31) q.1
    let w := reshuffleOf (s.rd (DMA_CH_PARAM 31))
    s.get (DMA_CH_CTRL_OP 31) = 3 ∧ s.flag (DMA_CH_CTRL_OWN 31) = true ∧ s.dma.chs[(31 : Fin 32)].fb = none ∧ w.ok 12 = true ∧ w.mode = q.2.1 ∧
      (w.mode = 0 → (w.n - 1) * w.pstride + (12 * 8 / w.n + 7) / 8 = q.2.2.2) ∧
      s.addr40 (DMA_CH_DST_LO 31) (DMA_CH_DST_HI 31) + q.2.2.2 ≤ 0x1C00000 := by decide +kernel

theorem hyp_DmaTransfers_rings :
    ((∀ e ∈ (State.reset.vc 3 0).held, e.2.type ≠ 1) ∧
      (let s := holding clocksOn 0 1 ([7, 0, 0, 0, 0, 0, 0, 0] : List Byte)
       (s.vc 3 0).held.find? (fun e => e.2.type = 1) = some (1, { aMFrame with type := 1, src := 5, payload := [7, 0, 0, 0, 0, 0, 0, 0] }) ∧
         s.rxFind 5 7 = none ∧ s.ringTake 0 = (none, s) ∧
         ({ s with dma := { s.dma with rx := List.replicate 8 { src := 1, tag := 1, desc := aDesc, got := 0 } } } : State).rxFind 5 7 = none)) ∧
    (let c : RxCont := { src := 5, tag := 7, desc := aDesc, got := 8 }
     let s := holding clocksOn 0 1 ([7, 0, 0, 0, 8, 0, 0, 0, 1, 2, 3, 4, 5, 6, 7, 8] : List Byte)
     ({ s with dma := { s.dma with rx := [c] } } : State).rxFind 5 7 = some c ∧ c.got + 8 ≤ c.desc.count ∧ 0x1000000 ≤ c.desc.dst + c.got) ∧
    (clocksOn.dma.txBusy = false ∧ clocksOn.txDesc = none ∧ clocksOn.dma.rx = [] ∧ clocksOn.dma.ring3 = none ∧ (clocksOn.put (RING_CFG_FLUSH 3) 1).get (RING_CFG_FLUSH 3) ≠ 0) ∧
    (let b : EvBuf := { desc := aDesc, fill := 32, tick := 0 }
     let s : State := { (portsIn 0 0).put (RING_CFG_FLUSH 3) 1 with dma := { clocksOn.dma with ring3 := some b } }
     s.dma.ring3 = some b ∧ b.fill ≠ 0 ∧ s.get (RING_CFG_FLUSH 3) * 800 ≤ s.now - b.tick ∧ b.fill < 2 ^ 32 ∧ b.desc.ctrl.getLsbD 29 = true) := by decide +kernel

theorem hyp_DmaTransfers_localFrame :
    (∃ f u, (holding clocksOn 1 4 []).takeHeld 3 1 (fun _ => true) = some (f, u) ∧ u.flag (RING_CFG_EN 4) = false) ∧
    (∃ f u d v, (holding (ringOn 4) 1 4 []).takeHeld 3 1 (fun _ => true) = some (f, u) ∧ u.ringTake 4 = (some d, v) ∧ d.dst = 0x01000800 ∧ d.count = 8 ∧ d.addr = 0x01000000) ∧
    (∃ d u, (ringOn 1).dma.txBusy = false ∧ (ringOn 1).ringTake 1 = (some d, u) ∧ d.src = 0x01000400 ∧ d.count < 16) := by
  refine ⟨⟨_, _, rfl, ?_⟩, ⟨_, _, _, _, rfl, rfl, ?_⟩, ⟨_, _, ?_, rfl, ?_⟩⟩ <;> decide +kernel

/-- RING1 with a DATA frame of 4 bytes for chip 5, or to a named port. -/
def ringTx (dst param : Byte) : State :=
  ((((clocksOn.wr (RING_BASE_LO 1) 0x01000000).set1 (RING_CFG_EN 1)).putBytes 0x01000000
    ([0, 0, 0, 0x80, 0, 4, 0, 1, 0, 0, 0, 0, 0, 8, 0, 1, 20, 0, 0, 0, 0, 0, 0, 0, param] : List Byte)).putBytes 0x01000400
    ([1, 0, 4, 0, dst, 0, 0, 0, 0, 0, 0, 0, 0, 0, 0, 0, 1, 2, 3, 4] : List Byte))

theorem hyp_DmaTransfers_slices :
    (∃ d u, (holding (ringOn 0) 0 1 ([7, 0, 0, 0, 0, 0, 0, 1, 9] : List Byte)).ringTake 0 = (some d, u) ∧ d.dst = 0x01000800 ∧ d.count = 8 ∧ d.addr = 0x01000000) ∧
    (∃ d u, (ringTx 5 0).dma.txBusy = false ∧ (ringTx 5 0).ringTake 1 = (some d, u) ∧ d.src = 0x01000400 ∧ d.count = 20 ∧ d.count = 16 + leAt (u.bytes d.src d.count) 2 2 ∧
      leAt (u.bytes d.src d.count) 4 2 = 5) ∧
    (∃ d u, (ringTx 0 2).ringTake 1 = (some d, u) ∧ field d.param 1 0 = 2) ∧
    (clocksOn.routeOpen (clocksOn.routeOf none 5) 1 = [3]) := by
  refine ⟨⟨_, _, rfl, ?_⟩, ⟨_, _, ?_, rfl, ?_⟩, ⟨_, _, rfl, ?_⟩, ?_⟩ <;> decide +kernel

/-- Clocks on, with the Governor on and a line pitch. -/
def govOn : State := (((clocksOn.set1 GOV_CTRL_EN).put GOV_LPITCH_LPITCH 21167).wr GOV_SPDMAX 0x00100000).put GOV_PWM_FULL 10

theorem hyp_GovernorWeirToll :
    (govOn.flag GOV_CTRL_EN = true ∧ clocksOn.flag GOV_CTRL_EN = false ∧ govOn.govCounted 11 = false ∧ (∀ p : Fin 48, govOn.hpEn p = false) ∧ (govOn.set1 GOV_CTRL_FORCE_STOP).flag GOV_CTRL_FORCE_STOP = true ∧
      (∀ i : Fin 3, govOn.gov.causes[i].cap = none) ∧ govOn.flag GOV_CTRL_FORCE_STOP = false ∧ govOn.flag GOV_CTRL_NC_STOP = false ∧ clocksOn.get GOV_LPITCH_LPITCH = 0 ∧
      govOn.get GOV_LPITCH_LPITCH ≠ 0) ∧
    ((∀ r : Fin 32, clocksOn.weir.waiting[r] = none ∧ clocksOn.weir.granted[r] = none) ∧ State.reset.weirParams 27 = none) ∧
    (let s := (((clocksOn.put (PWR_FW_REQ_CLASS 0) 2).put (PWR_FW_REQ_PWR 0) 1))
     s.weirParams 28 = some (2, 1, s.get (PWR_FW_WAIT_MAXWAIT 0)) ∧ (s.put (PWR_FW_REQ_CLASS 0) 1).weirParams 28 = some (1, 1, s.get (PWR_FW_WAIT_MAXWAIT 0)) ∧
       1 + s.get PWR_RES_BASE_RES_BASE ≤ min (s.get PWR_BUDGET_RAIL_MW) (s.get PWR_BUDGET_THERM_MW) ∧
       ¬ 1 + (s.wr PWR_BUDGET 0).get PWR_RES_BASE_RES_BASE ≤ min ((s.wr PWR_BUDGET 0).get PWR_BUDGET_RAIL_MW) ((s.wr PWR_BUDGET 0).get PWR_BUDGET_THERM_MW)) ∧
    (let q : WeirReq := { power := 1, cls := 2, arrival := 0, maxWait := 1 }
     let f := fun (q : WeirReq) (clk : Nat) => ({ clocksOn with weir := { clocksOn.weir with clk := clk, waiting := vset clocksOn.weir.waiting 31 (some q) } } : State)
     let s := f q 1000
     s.weir.waiting[(31 : Fin 32)] = some q ∧ (∀ k : Fin 32, k ≠ 31 → s.weir.waiting[k] = none) ∧ q.maxWait ≠ 0 ∧ q.maxWait * s.aonPerUs ≤ s.weir.clk + 1 - q.arrival ∧
       ¬ q.maxWait * (f q 0).aonPerUs ≤ (f q 0).weir.clk + 1 - q.arrival ∧ (f q 0).weirRes + (f q 0).weirGranted + q.power ≤ min (s.get PWR_BUDGET_RAIL_MW) (s.get PWR_BUDGET_THERM_MW) ∧
       (let u := f { q with maxWait := 0, power := 70000 } 0; u.weirHead = some (31, { q with maxWait := 0, power := 70000 }) ∧
         min (u.get PWR_BUDGET_RAIL_MW) (u.get PWR_BUDGET_THERM_MW) < u.weirRes + u.weirGranted + 70000)) ∧
    (let s := { clocksOn with weir := { clocksOn.weir with clk := 1000, granted := vset clocksOn.weir.granted 31 (some 3) } }
     s.weir.granted[(31 : Fin 32)] ≠ none ∧ (s.put (PWR_FW_WAIT_DUR 3) 1).get (PWR_FW_WAIT_DUR 3) * s.aonPerUs ≤ s.weir.clk - s.weir.since[(31 : Fin 32)]) ∧
    ((let lim := ((clocksOn.wr (PWR_HE_LIM 7) 1).rd (PWR_HE_LIM 7)).toNat
      let s := { clocksOn with toll := { streak := 2, window := Vector.replicate 8 (16 * 1000 * 100 * 2) } }
      lim ≠ 0 ∧ lim < s.toll.window[(7 : Fin 8)] / 16 / (s.get PWR_HP_CFG_WIN * 1000) ∧ s.bit PWR_HP_STAT 7 = false ∧ (s.wr PWR_HP_STAT 0x80).bit PWR_HP_STAT 7 = true)) := by decide +kernel

/-! ## Resets, clocks, temperature, service and the bus -/

/-- The device after start-up: power good, reference accepted, every clock on. -/
def upOn : State :=
  let s := (clocksOn.set1 CLK_STAT_REF_OK).set1 CLK_EN0_SC0
  { s with boot := { s.boot with porLow := false, refOe := true, oscDone := true, scanDone := true } }

theorem hyp_ResetsAndClocks :
    (State.reset.boot.porLow = true ∧ State.reset.boot.brownOut = false ∧ upOn.boot.porLow = false ∧
      (let b := { State.reset.boot with brownOut := true }; b.brownOut = true ∧ b.porLow = true ∧ ({ b with porLow := false } : Boot).porLow = false)) ∧
    (let b := { upOn.boot with oscDone := false }; b.refOe = true ∧ b.oscDone = false ∧ upOn.boot.oscDone = true ∧ State.reset.boot.refOe = false) ∧
    (State.reset.clk.accepting = false ∧ ({ State.reset with clk := { State.reset.clk with accepting := true } } : State).clk.accepting = true ∧
      288 ≤ (288#9).toNat ∧ (288#9).toNat ≤ 368 ∧ ¬ (288 ≤ (287#9).toNat) ∧ ¬ ((369#9).toNat ≤ 368)) ∧
    (let s := ((((upOn.set1 (PLL_CTRL_EN 0)).set1 (PLL_CTRL_LOCK 0)).set1 (PLL_CTRL_EN 1)).set1 (PLL_CTRL_LOCK 1)).clr SYS_RST_SC0_RST
     s.startReady = true ∧ s.boot.scReleased = false ∧ s.scs[(0 : Fin 2)].running = false ∧ s.flag SYS_RST_SC0_RST = false ∧ s.flag CLK_EN0_SC0 = true ∧
       State.reset.startReady = false) ∧
    (let s := { upOn with boot := { upOn.boot with warm := true, dieShut := true } }
     s.boot.warm = true ∧ s.boot.dieShut = true ∧ Table.wf resetWord s.regs = true ∧ Memory.wf s.mem = true ∧ upOn.boot.warm = false) ∧
    (let s := { upOn with boot := { upOn.boot with scReleased := true } }
     (0#32).getLsbD 0 = (s.wr SYS_RST 0).bit SYS_RST 0 ∧ (1#32).getLsbD 0 ≠ (s.wr SYS_RST 0).bit SYS_RST 0 ∧ (2#32).getLsbD 1 = true ∧ (s.wr SYS_RST 0).bit SYS_RST 1 = false ∧
       s.scs[(1 : Fin 2)].running = false ∧ s.bit CLK_EN0 (1 + 1) = true ∧ s.boot.scReleased = true) ∧
    (upOn.flag CLK_STAT_REF_OK = true ∧ State.reset.flag CLK_STAT_REF_OK = false ∧ upOn.boot.oscDone = true) ∧
    (let s := upOn.set1 (PLL_CTRL_EN 0)
     s.flag (PLL_CTRL_EN 0) = true ∧ s.bit (PLL_CTRL 0) 30 = false ∧ (s.set1 (PLL_CTRL_LOCK 0)).bit (PLL_CTRL 0) 30 = true ∧ (s.wr CLK_SEL 0).bit CLK_SEL 4 = false ∧
       ((upOn.set1 (PX_CTRL_EN 3)).flag (PX_CTRL_EN (9 - 6)) = true ∧ upOn.bit (LPLL_MON (9 - 6)) 29 = false ∧ (upOn.wr (LPLL_MON 3) 0x20000000).bit (LPLL_MON (9 - 6)) 29 = true) ∧
       (∀ n ∈ [8190, 8194], s.pllCountOk 0 n = true) ∧ (∀ n ∈ [8189, 8195], s.pllCountOk 0 n = false)) ∧
    ((0x1F#32).getLsbD 4 = true ∧ (0#32).getLsbD 4 = false ∧ ((upOn.set1 (PLL_CTRL_EN 5)).set1 (PLL_CTRL_LOCK 5)).flag (PLL_CTRL_LOCK (4 + 1)) = true ∧
      (upOn.clr (PLL_CTRL_LOCK 5)).flag (PLL_CTRL_LOCK (4 + 1)) = false) ∧
    ((∃ k < 32, upOn.bit CLK_EN0 k = true ∧ (0 &&& clkEnMask 0).getLsbD k = false ∧ upOn.gateHeld (some 0) 0 k = true) ∧
      ¬ (∃ k < 32, upOn.bit CLK_EN0 k = true ∧ (0x0FFFFFFF &&& clkEnMask 0).getLsbD k = false ∧ upOn.gateHeld (some 0) 0 k = true) ∧
      (let s := upOn.modSq 11 (fun q => { q with st := .parked }); s.sqs[(11 : Fin 12)].st = .parked ∧ s.bit CLK_EN1 11 = true)) := by
  refine ⟨?_, ?_, ?_, ?_, ?_, ?_, ?_, ?_, ?_, ?_, ?_⟩ <;> decide +kernel

theorem hyp_ThermalAndTentering :
    ((let s := headReady.set1 (HP_CTRL_EN 12)
      s.eligible 12 = true ∧ ({ s with thm := vset s.thm 12 { State.reset.thm[(12 : Fin 64)] with reading := some 800 } } : State).thm[(12 : Fin 64)].reading = some 800 ∧
        State.reset.eligible 12 = false ∧ State.reset.thm[(12 : Fin 64)].reading = none) ∧
      (∀ v ∈ [(-2048 : Int), 1999, 2000, 2047], State.reset.thm[(63 : Fin 64)].slopes v = []) ∧ State.reset.level 63 ≠ 3 ∧ State.reset.boot.dieShut = false ∧
      (2000#12).toInt ≤ 2000) ∧
    (let s := (headReady.set1 (HP_CTRL_EN 12)).wr THM_HCRIT0 0x1000
     let s := { s with thm := vset s.thm 12 { State.reset.thm[(12 : Fin 64)] with reading := some (s.thmAt 12 31 24) } }
     s.hcrit 12 = true ∧ State.reset.hcrit 12 = false ∧ s.eligible 12 = true ∧ s.thm[(12 : Fin 64)].reading = some (s.thmAt 12 31 24) ∧
       s.thm[(12 : Fin 64)].slopes (s.thmAt 12 31 24) = [] ∧ (State.reset.wr THM_HCRIT0 0x1000).eligible 12 = false) ∧
    (upOn.cal.phase = .idle ∧ ({ upOn with cal := { upOn.cal with phase := .measuring } } : State).cal.phase = .measuring ∧ upOn.weir.waiting[(25 : Fin 32)] = none ∧
      upOn.weir.granted[(25 : Fin 32)] = none ∧ upOn.get (PWR_RQ_CFG_PWR 25) + upOn.get PWR_RES_BASE_RES_BASE ≤ min (upOn.get PWR_BUDGET_RAIL_MW) (upOn.get PWR_BUDGET_THERM_MW) ∧
      (let s := (upOn.wr PWR_BUDGET 0).put (PWR_RQ_CFG_PWR 25) 1
       ¬ s.get (PWR_RQ_CFG_PWR 25) + s.get PWR_RES_BASE_RES_BASE ≤ min (s.get PWR_BUDGET_RAIL_MW) (s.get PWR_BUDGET_THERM_MW)) ∧
      (upOn.set1 CAL_STATUS_PENDING).flag CAL_STATUS_PENDING = true) ∧
    (tapOk (tapDelay 1000 3800) = false ∧ tapOk (tapDelay 2000 1000) = false ∧ tapOk 0 = false ∧ (∃ a b, tapOk (tapDelay a b) = true)) ∧
    (let s : State := { (upOn.put CAL_TIME_CAL_TIMEOUT 1) with tbc := 800, cal := { upOn.cal with phase := .measuring } }
     s.get CAL_TIME_CAL_TIMEOUT * 800 ≤ s.now - s.cal.granted ∧ ({ s with tbc := 799 } : State).now - s.cal.granted < s.get CAL_TIME_CAL_TIMEOUT * 800) ∧
    ((47#6).toNat < 48 ∧ upOn.retired 47 = false ∧ upOn.hpEn 47 = false ∧ (upOn.set1 (HP_CTRL_EN 47)).hpEn 47 = true ∧
      (upOn.set1 (HP_SVC_STAT_RETIRED 47)).retired 47 = true) := by
  refine ⟨by decide +kernel, by decide +kernel, by decide +kernel, ⟨by decide +kernel, by decide +kernel, by decide +kernel, 20000, 12800, by decide +kernel⟩, by decide +kernel, by decide +kernel⟩

/-- The record of an acknowledgement request for a LOG of type 0x180 with SEQ 1. -/
def aRecord (mbx : Bool) (type : Nat) : NvesRec :=
  { type := type, source := 3, ackReq := true, slope := 0, value := 5, page := 7, line := 0, tbc := 0, nt := 0, mbx := mbx }

/-- Slot 511 of the store holds a record. -/
def stored (type : Nat) : State :=
  { upOn with nves := { upOn.nves with store := ((aRecord false type).bytes 1).zipIdx.foldl (fun t b => Table.set nvesDefault t (32 * 511 + b.2) b.1) [] } }

theorem hyp_MailboxAndNves :
    ((State.reset.set1 MBX_STAT_BUSY).flag MBX_STAT_BUSY = true ∧ State.reset.flag MBX_STAT_BUSY = false) ∧
    (let s := State.reset.wr (MBX_ARG 0) 0xFFFFFFFF
     (∀ p : Fin 48, s.permitReason p ≠ 0) ∧ field (s.rd (MBX_ARG 1)) 31 16 = 0 ∧ field ((s.wr (MBX_ARG 1) 0x10000).rd (MBX_ARG 1)) 31 16 ≠ 0 ∧
       ((headReady.set1 CLK_STAT_REF_OK).put (BRAKE_LIM_LIMIT 12) 1).permitReason 12 = 0) ∧
    (let s := stored 0x180
     (∃ e ∈ nvesHeld s.nves.store, e.1 = field (511#32) 8 0) ∧ (∀ e ∈ nvesHeld State.reset.nves.store, e.1 ≠ 0) ∧ field (0x200#32) 31 9 ≠ 0 ∧ nvesSlots State.reset.nves.store = [] ∧
       (∃ b, nvesSlots s.nves.store = [(511, b)])) ∧
    (0x180 ≤ field (0x180#32) 8 0 ∧ ¬ 0x180 ≤ field (0x17F#32) 8 0 ∧ field (0x1FFFFF#32) 31 21 = 0 ∧ field (0x200000#32) 31 21 ≠ 0) ∧
    ((State.reset.wr (MBX_ARG 0) 0x5752).rd (MBX_ARG 0) = 0x5752#32 ∧ State.reset.rd (MBX_ARG 0) ≠ 0x5752#32 ∧ upOn.boot.refOe = true) ∧
    (({ upOn with mbx := { ans := some { result := 0, res := Vector.replicate 4 0 } } } : State).mbx.ans = some { result := 0, res := Vector.replicate 4 0 } ∧ upOn.mbx.ans = none) ∧
    (let f := fun r => ({ upOn with nves := { upOn.nves with queue := [r] } } : State)
     (f (aRecord true 0x180)).nves.queue = aRecord true 0x180 :: [] ∧ nvesFree 0x180 = false ∧ ((f (aRecord true 0x180)).put NVES_STAT_TOKENS 0).get NVES_STAT_TOKENS = 0 ∧
       nvesFree evNVES_SHUTDOWN = true ∧ ((f (aRecord true 0x180)).put NVES_STAT_TOKENS 1).get NVES_STAT_TOKENS ≠ 0 ∧
       (∀ e ∈ nvesHeld (f (aRecord true 0x180)).nves.store, e.1 ≠ 511) ∧ upOn.nves.queue = []) ∧
    (({ upOn with boot := { upOn.boot with scanDone := false } } : State).boot.scanDone = false ∧ upOn.boot.scanDone = true ∧ State.reset.boot.refOe = false) := by
  refine ⟨by decide +kernel, by decide +kernel, ⟨by decide +kernel, by decide +kernel, by decide +kernel, by decide +kernel, ?_⟩, by decide +kernel, by decide +kernel, by decide +kernel,
    by decide +kernel, by decide +kernel⟩
  exact ⟨(aRecord false 0x180).bytes 1, by decide +kernel⟩

/-- SC0 runs the boot ROM. -/
def inRom : State := upOn.modSup 0 (fun u => { u with running := true })

/-- An image of one byte, loaded and entered at 0x01B00000 − 1. -/
def anImage (magic : List Byte) : List Byte :=
  magic ++ [1, 0, 0, 0, 0, 0, 0, 0, 0xFF, 0xFF, 0xAF, 0x01, 0xFF, 0xFF, 0xAF, 0x01, 1, 0, 0, 0, 0, 0, 0, 0, 0, 0, 0, 0] ++ sha256 [0x5A] ++ List.replicate 192 0 ++ [0x5A]

theorem hyp_BootSecurityAndEvents :
    ((inRom.scs[(0 : Fin 2)].running && !inRom.boot.booted) = true ∧ (upOn.scs[(0 : Fin 2)].running && !upOn.boot.booted) = false ∧ inRom.get SYS_STRAP_BOOT_SRC ≠ 1 ∧
      (inRom.put SYS_STRAP_BOOT_SRC 1).get SYS_STRAP_BOOT_SRC = 1 ∧
      (let f := fun (img : List Byte) => inRom.imgCheck (slice img 0 256) (slice img 256 (leAt (slice img 0 256) 0x14 4)) inRom.otp.secure
       f (anImage [0x4D, 0x49, 0x58, 0x56]) = 0 ∧ f (anImage [0x4D, 0x49, 0x58, 0x57]) = 2 ∧ leAt (slice (anImage [0x4D, 0x49, 0x58, 0x57]) 0 256) 0 4 ≠ 0x5658494D)) ∧
    (let s := { upOn.put SEC_STAT_BOOT_VER 63 with boot := { upOn.boot with booted := true } }
     s.clocked .sec = true ∧ s.otp.rollback.toNat < 1 ∧ 63 ≤ s.get SEC_STAT_BOOT_VER ∧ s.boot.booted = true ∧ s.sec.otpWrite = none ∧ ¬ (s.otp.rollback.toNat < 0) ∧
       (¬ ((s.boot.booted = true ∧ (2 : Nat).testBit (s.get SEC_STAT_KEY_INDEX) = true) ∨ s.otp.revoked.toNat ||| 2 = 15 ∨ s.sec.otpWrite ≠ none)) ∧ s.otp.revoked.toNat ||| 15 = 15) ∧
    (let s := (upOn.set1 SEC_VER_STAT_BUSY).wr SEC_VER_LO 0x01000000
     s.flag SEC_VER_STAT_BUSY = true ∧ upOn.flag SEC_VER_STAT_BUSY = false ∧ 0x01000000 ≤ (s.rd64 SEC_VER_LO SEC_VER_HI).toNat % 2 ^ 40) ∧
    (({ upOn with sec := { upOn.sec with otpWrite := some (true, 63), nonce := some 5 } } : State).sec.otpWrite = some (true, 63) ∧ upOn.sec.otpWrite = none ∧ upOn.sec.nonce = none) ∧
    (field (0x180#32) 8 0 = 0x180 ∧ field (0x17F#32) 8 0 < 0x180) ∧
    (let r : EventRec := { event := 0x1FF, source := 0, value := 0, page := 0, line := 0, tbc := 0, nt := 0, only := none }
     let s := { upOn.wr (EVT_MASK (16 * 1 + 15)) 0x80000000 with evt := { upOn.evt with flight := [r] } }
     s.evt.flight = r :: [] ∧ r.only = none ∧ (s.rd (EVT_MASK (16 * 1 + r.event / 32))).getLsbD (r.event % 32) = true ∧ (upOn.rd (EVT_MASK (16 * 1 + r.event / 32))).getLsbD (r.event % 32) = false ∧
       s.evt.queues[(1 : Fin 2)].length < 64 ∧ (List.replicate 64 r).length = 64 ∧ upOn.evt.flight = []) := by
  refine ⟨?_, ?_, ?_, ?_, ?_, ?_⟩ <;> decide +kernel

theorem hyp_RegisterBusAndCrossings :
    (regionOf 0x3FFFFFFF = none ∧ blockAt 0x3FFFFFFF = none ∧ regionOf 0x082C0000 = some (.localMem 11) ∧
      (∃ b off, regionOf (SQ_CTRL 11) = none ∧ blockAt (SQ_CTRL 11) = some (b, off) ∧ b = .sq 11) ∧ (∃ off, blockAt (HP_CTRL 47) = some (.hp 47, off)) ∧ sqOf 47 ≠ 0) ∧
    (blockAt TIME_RATE = some (.time, TIME_RATE - Block.base .time) ∧ upOn.clocked .time = true ∧ State.reset.clocked .dma = false ∧ (blockAt (DMA_CH_SRC_LO 0)).isSome = true ∧
      upOn.clocked .dma = true) ∧
    (let o := DMA_CH_SRC_HI 0 - Block.base .dma
     Block.isHi .dma o = true ∧ Block.isLo .dma (o - 4) = true ∧ (rowAt (Block.table .dma) (o - 4)).isSome = true ∧ (rowAt (Block.table .dma) o).isSome = true ∧
       (upOn.writeRule (.sc 0) .dma (o - 4) 5).isNone = true ∧ (upOn.writeRule (.sc 0) .dma o 5).isNone = true ∧ (upOn.readView .dma o).isNone = true ∧ (upOn.readView .dma (o - 4)).isNone = true) ∧
    (let o := DMA_CH_VALUE 0 - Block.base .dma
     Block.isHi .dma o = false ∧ Block.isLo .dma o = false ∧ (rowAt (Block.table .dma) o).isSome = true ∧ (upOn.writeRule (.sc 0) .dma o 5).isNone = true ∧ (upOn.readView .dma o).isNone = true) ∧
    (rowAt (Block.table .mbx) 0xFF0 = none ∧ Block.isHi .mbx 0xFF0 = false ∧ Block.isLo .mbx 0xFF0 = false ∧ (upOn.writeRule (.sc 0) .mbx 0xFF0 5).isNone = true) ∧
    (regionOf 0x01BFFFFF = some .sram ∧ (0x01BFFFFF : Nat) % 1 = 0 ∧ (0x01BFFFFE : Nat) % 4 ≠ 0) ∧
    (let s := { upOn with seqTb := [{ tick := 0, word := .commit 47 7 3 }] }
     s.seqTb = { tick := 0, word := .commit 47 7 3 } :: [] ∧ upOn.seqTb = []) ∧
    (upOn.flag BOLT_CTRL_EN = false) := by
  refine ⟨⟨by decide, by decide, by decide, ⟨_, _, by decide, rfl, by decide⟩, ⟨_, rfl⟩, by decide⟩, by decide +kernel, by decide +kernel, by decide +kernel, by decide +kernel, by decide, by decide,
    by decide +kernel⟩

theorem hyp_EveryStepKeepsInv : (scRun 1 2 3).Inv := by
  refine ⟨?_, ?_, ?_, ?_⟩
  · decide +kernel
  · decide +kernel
  · rintro (x | k | _)
    · revert x; decide +kernel
    · revert k; decide +kernel
    · decide +kernel
  · decide +kernel

/-- Witness for the clauses of StepRunsFrontCommand: the queue is empty at reset. -/
theorem hyp_StepRunsFrontCommand : State.reset.pending = [] := rfl

theorem hyp_DecodeOfEncode :
    (wellFormed (.add .fantail 31 30 29) = true ∧ coreOf (.add .fantail 31 30 29) = some .fantail) ∧
    (decodeWord (.sq 11) (encode (.bxc (.sq 11) 1 0xFFFF)) = some (.bxc (.sq 11) 1 0xFFFF)) := by decide

/-! ## Ill-formed terms that the checks refuse -/

/-- A command out of the limits that the manual sets is refused, and its well-formed neighbour is not. -/
theorem test_refuses_lo_read_of_plain_register : wellFormed (.loReadCapture .fantail (BitVec.ofNat 40 (DMA_CH_VALUE 0))) = false ∧
    wellFormed (.loReadCapture .fantail (BitVec.ofNat 40 (DMA_CH_SRC_LO 0))) = true := by decide +kernel
theorem test_refuses_clear_of_plain_register : wellFormed (.rcReadClear .fantail (BitVec.ofNat 40 (DMA_CH_VALUE 0))) = false := by decide +kernel
theorem test_refuses_legal_word_as_illegal : wellFormed (.illegalInstruction (.sc 0) 0x00000008) = false ∧
    wellFormed (.illegalInstruction (.sc 0) 0) = true := by decide
theorem test_refuses_pos_frame_without_pairs : wellFormed (.posFrameReceived { aFrame (0, 0) with pairs := [] }) = false ∧
    wellFormed (.posFrameReceived { aFrame (0, 0) with pairs := List.replicate 5 (0, 0) }) = false ∧
    wellFormed (.posFrameReceived { aFrame (0, 0) with pairs := List.replicate 4 (0, 0) }) = true := by decide
theorem test_refuses_i2c_result_4 : wellFormed (.i2cDone 0 4 []) = false ∧ wellFormed (.i2cDone 0 5 []) = true := by decide
theorem test_refuses_field_past_bit_31 : wellFormed (.bextu (.sq 0) 5 6 24 8) = false ∧ wellFormed (.bextu (.sq 0) 5 6 24 7) = true := by decide
theorem test_refuses_write_of_ro_csr : wellFormed (.csrw (.sc 0) 5 6 2) = false ∧ wellFormed (.csrs (.sc 0) 5 0 2) = true := by decide
theorem test_refuses_waitq_condition_3 : wellFormed (.waitq (.sq 0) 1 2 3) = false ∧ wellFormed (.waitq (.sq 0) 1 2 2) = true := by decide
theorem test_refuses_fire_on_supervisor : wellFormed (.page (.sc 0) 6 7 15) = false ∧ wellFormed (.page (.sq 0) 6 7 15) = true := by decide
theorem test_refuses_trap_on_sequencer : wellFormed (.trap (.sq 0) 3) = false ∧ wellFormed (.trap .fantail 3) = false := by decide

/-! ## The check values and worked examples that the manual gives -/

/-- "123456789" in ASCII. -/
def digits : List Byte := [0x31, 0x32, 0x33, 0x34, 0x35, 0x36, 0x37, 0x38, 0x39]

theorem test_crc64_check : crc64 digits = 0x995DC9BBDF1939FA := by decide +kernel
theorem test_crc32c_check : crc32c digits = 0xE3069283 := by decide +kernel
theorem test_crc16_check : crc16 digits = 0x29B1 := by decide +kernel
theorem test_crc8_check : crc8 digits = 0xF4 := by decide +kernel
theorem test_adler32_check : adler32 digits = 0x091E01DE := by decide
/-- The speed example: one count in 40,000 fine steps. -/
theorem test_two_point_speed : vel2p { p := 4002, t := 16080000 } { p := 4001, t := 16040000 } = 112589990684#64 ∧
    ({ tick := 0, stall := false, vel := 112589990684#64, ap := 0, at_ := 0 } : AxisOut).speed = 1717986 ∧
    ({ tick := 0, stall := false, vel := 112589990684#64, ap := 0, at_ := 0 } : AxisOut).speedMms 0x000A0000 = 209715199 := by decide +kernel
/-- The fire position and time of line 1,891 on the reference bar, from the anchors of counts 4,001 and 4,002. -/
theorem test_fire_time_of_line_1891 : firePos 0 0 1891 0x0021DDDE = 262315502#64 ∧
    fireTime 262315502 { tick := 0, stall := false, vel := 112589990684#64, ap := 262209536, at_ := 16040000 } 3200 40000 = some 16101477#64 ∧
    fireTime 262315502 { tick := 0, stall := false, vel := 112589990684#64, ap := 4002 * 65536, at_ := 16080000 } 3200 40000 = some 16101477#64 := by decide +kernel
/-- The line of the DRAM address map example. -/
theorem test_dram_line_example : let n := dramLine 0x1012345680
    n = 0x48D15A ∧ dramSub n = 0 ∧ dramChan n = 1 ∧ dramRank false n = 0 ∧ dramRow false n = 582 ∧ dramGroup false n = 0 ∧ dramCol n = 160 ∧
      dramBank false n = 2 := by decide +kernel
/-- The Tentering example: the counts of group 1 give D = 9,120 fs and the table of the manual. -/
theorem test_tentering_example : tapDelay 69207 23283 = 9120 ∧
    (List.range 16).map (tapOf 9120) = [0, 9, 17, 26, 34, 43, 51, 60, 69, 77, 86, 94, 103, 111, 120, 128] := by decide +kernel

/-! ## Words written out from the encodings -/

theorem test_word_nor : encode (.norR (.sc 0) 1 2 3) = 0b00000000110_00011_00010_00001_000000#32 := by decide
theorem test_word_clz : encode (.clz (.sc 0) 1 2) = 0b00000001111_00000_00010_00001_000000#32 := by decide
theorem test_word_mulhu : encode (.mulhu (.sc 0) 1 2 3) = 0b00000000011_00011_00010_00001_000001#32 := by decide
theorem test_word_bins : encode (.bins (.sc 0) 1 2 3 4) = 0b000000_00100_00011_00010_00001_000100#32 := by decide
theorem test_word_lui : encode (.lui (.sc 0) 1 0x8001) = 0b1000000000000001_00000_00001_001110#32 := by decide
theorem test_word_lhu : encode (.lhu (.sc 0) 1 2 0xFFFE) = 0b1111111111111110_00010_00001_010101#32 := by decide
theorem test_word_sb : encode (.sb (.sc 0) 1 2 3) = 0b0000000000000011_00010_00001_011000#32 := by decide
theorem test_word_bgeu : encode (.bgeu (.sc 0) 1 2 0x8000) = 0b1000000000000000_00001_00010_100101#32 := by decide
theorem test_word_jump : encode (.jump (.sc 0) 0x3FFFFFF) = 0b11111111111111111111111111_101000#32 := by decide
theorem test_word_csrs : encode (.csrs (.sc 0) 1 2 0x14) = 0b0010000000010100_00010_00001_101100#32 := by decide
theorem test_word_rtw : encode (.rtw (.sc 0) 1 2) = 0b00000010001_00010_00001_00000_101110#32 := by decide
theorem test_word_fill : encode (.fill (.sq 0) 1 2 3 15) = 0b00000001111_00011_00010_00001_110110#32 := by decide
theorem test_word_waitq : encode (.waitq (.sq 0) 1 2 2) = 0b00000000010_00010_00001_00000_111010#32 := by decide
theorem test_word_bxs : encode (.bxs (.sq 0) 3 0xFFFF) = 0b1111111111111111_00011_00000_111110#32 := by decide
theorem test_words_read_back : ∀ i ∈ [Instr.norR (.sc 0) 1 2 3, .bins (.sc 1) 1 2 3 4, .lhu .fantail 1 2 0xFFFE, .bgeu (.sq 5) 1 2 0x8000, .csrs (.sc 0) 1 2 5,
    .rtw (.sc 0) 1 2, .fill (.sq 0) 1 2 3 15, .waitq (.sq 0) 1 2 2, .bxs (.sq 0) 3 0xFFFF], (coreOf i).bind (fun c => decodeWord c (encode i)) = some i := by
  decide

end Sys2Proof.Tests
end

section
/-!
PROOFS. The register bus and the clock crossings (R12 to R18, R29, R33): the gate of an access, the access codes, register pairs, memory behind
the bus, and the words of a crossing; then the obligation RegisterBusAndCrossings.
-/
namespace Sys2Proof.Machine

/-! ## The gate: who reaches what (R12, R18, R33) -/

section Gate
variable {s : State} {m : Master} {a : Nat} {b : Block} {off : Nat} {r : Region} {size : AccSize} {write : Bool}

theorem State.busGate_unmapped (hr : regionOf a = none) (hb : blockAt a = none) : s.busGate m a size write = (.errDecode, none) := by
  simp [State.busGate, hr, hb]

theorem State.busGate_foreign_memory (hr : regionOf a = some r) (hm : reachesMem m r = false) :
    s.busGate m a size write = (.errDecode, none) := by
  simp [State.busGate, hr, hm]

theorem State.busGate_aligned_memory (hr : regionOf a = some r) (hm : reachesMem m r = true) (ha : a % accBytes size = 0) :
    s.busGate m a size write = (.ok, none) := by
  simp [State.busGate, hr, hm, ha]

theorem State.busGate_misaligned_memory (hr : regionOf a = some r) (hm : reachesMem m r = true) (ha : a % accBytes size ≠ 0) :
    s.busGate m a size write = (.errUnit, none) := by
  simp [State.busGate, hr, hm, ha]

theorem State.busGate_foreign_block (hr : regionOf a = none) (hb : blockAt a = some (b, off)) (hm : reaches m b write = .errDecode) :
    s.busGate m a size write = (.errDecode, none) := by
  simp [State.busGate, hr, hb, hm]

theorem State.busGate_gated (hr : regionOf a = none) (hb : blockAt a = some (b, off)) (hm : reaches m b write = .ok)
    (hc : s.clocked b = false) : s.busGate m a size write = (.errGated, none) := by
  simp [State.busGate, hr, hb, hm, hc]

theorem State.busGate_not_word (hr : regionOf a = none) (hb : blockAt a = some (b, off)) (hm : reaches m b write = .ok)
    (hc : s.clocked b = true) (hw : size ≠ .word ∨ a % 4 ≠ 0) : s.busGate m a size write = (.errUnit, none) := by
  have hw : ¬ (size = .word ∧ a % 4 = 0) := by tauto
  simp [State.busGate, hr, hb, hm, hc, hw]

theorem State.busGate_register (hr : regionOf a = none) (hb : blockAt a = some (b, off)) (hm : reaches m b write = .ok)
    (hc : s.clocked b = true) (ha : a % 4 = 0) : s.busGate m a .word write = (.ok, some (b, off)) := by
  simp [State.busGate, hr, hb, hm, hc, ha]

end Gate

/-! ## What the bus commands answer -/

section Answers
variable {s : State} {m : Master} {addr : BitVec 40} {size : AccSize} {b : Block} {off : Nat} {e : Resp} {o : Option (Block × Nat)}

theorem exec_registerWrite_of_refused (h : s.busGate m addr.toNat size true = (e, o)) (he : e ≠ .ok) (v : Word) :
    exec (.registerWrite m addr size v) s = .next (s.bus e 0) := by
  change execRegisterWrite m addr size v s = _
  simp [execRegisterWrite, State.busWrite_of_refused h he, busAnswer_eq]

/-- A write whose block has no rule of its own for it goes by the access codes (R13, R14, R17). -/
theorem exec_registerWrite_of_no_rule {v : Word} (h : s.busGate m addr.toNat size true = (.ok, some (b, off)))
    (hn : s.writeRule m b off v = none) :
    exec (.registerWrite m addr size v) s = .next ((s.writePlain b off v).bus .ok 0) := by
  change execRegisterWrite m addr size v s = _
  simp [execRegisterWrite, State.busWrite_of_register h, State.writeUnit, hn, busAnswer_eq]

theorem exec_registerWrite_of_memory {v : Word} {r : Resp} {t : State} (h : s.busGate m addr.toNat size true = (.ok, none))
    (hw : s.memWrite addr.toNat (leBytes (accBytes size) v.toNat) = some (r, t)) :
    exec (.registerWrite m addr size v) s = .next (t.bus r 0) := by
  change execRegisterWrite m addr size v s = _
  simp [execRegisterWrite, State.busWrite_of_memory h, hw, busAnswer_eq]

/-- The two commands that read a word are one bus access. -/
theorem exec_of_mem_wordReads {i : Instr} (hi : i ∈ [Instr.loReadCapture m addr, .rcReadClear m addr]) :
    exec i s = s.busReadAnswer m addr := by
  simp only [List.mem_cons, List.not_mem_nil, or_false] at hi
  obtain rfl | rfl := hi <;> rfl

theorem State.busReadAnswer_of_refused (h : s.busGate m addr.toNat .word false = (e, o)) (he : e ≠ .ok) :
    s.busReadAnswer m addr = .next (s.bus e 0) := by
  simp [State.busReadAnswer, State.busRead_of_refused h he]

theorem State.busReadAnswer_of_register (h : s.busGate m addr.toNat .word false = (.ok, some (b, off))) :
    s.busReadAnswer m addr = .next ((s.readUnit b off).2.bus .ok (s.readUnit b off).1) := by
  simp [State.busReadAnswer, State.busRead, h]

end Answers

/-! ## Access codes (R13, R14) -/

/-- What a write of `w` does to the old word of a register by its access codes. -/
def RegRow.coded (r : RegRow) (old w : Word) : Word :=
  (((old &&& ~~~r.mask .rw) ||| (w &&& r.mask .rw)) &&& ~~~(w &&& r.mask .w1c)) ||| (w &&& r.mask .w1s)

theorem RegRow.getLsbD_coded (r : RegRow) (old w : Word) {i : Nat} (hi : i < 32) :
    (r.coded old w).getLsbD i = (((old.getLsbD i && !(r.mask .rw).getLsbD i) || (w.getLsbD i && (r.mask .rw).getLsbD i)) &&
      !(w.getLsbD i && (r.mask .w1c).getLsbD i) || (w.getLsbD i && (r.mask .w1s).getLsbD i)) := by
  simp [RegRow.coded, hi]

theorem State.writeCodes_of_row {b : Block} {off : Nat} {r : RegRow} (h : rowAt b.table off = some r) (s : State) (v : Word) :
    s.writeCodes b off v = s.wr (b.base + off) (r.coded (s.rd (b.base + off)) v) := by
  simp [State.writeCodes, h, RegRow.coded]

theorem State.writeCodes_of_no_row {b : Block} {off : Nat} (h : rowAt b.table off = none) (s : State) (v : Word) :
    s.writeCodes b off v = s := by
  simp [State.writeCodes, h]

/-- Writing by access codes changes the register table alone. -/
theorem State.writeCodes_only_regs (s : State) (b : Block) (off : Nat) (v : Word) :
    s.writeCodes b off v = { s with regs := (s.writeCodes b off v).regs } := by
  cases h : rowAt b.table off with
  | none => rw [State.writeCodes_of_no_row h]
  | some r => rw [State.writeCodes_of_row h]; rfl

/-- Writing by access codes changes one register. -/
theorem State.rd_writeCodes_ne (s : State) (b : Block) (off : Nat) (v : Word) {a : Nat} (ha : a ≠ b.base + off) :
    (s.writeCodes b off v).rd a = s.rd a := by
  cases h : rowAt b.table off with
  | none => rw [State.writeCodes_of_no_row h]
  | some r => rw [State.writeCodes_of_row h, State.rd_wr_ne _ _ _ _ ha]

/-- Between `s` and `t` the register of row `r` at `a` has taken the word `w` by its access codes: a bit with one code follows that code, and a
bit that no write reaches stays. -/
def TakesWord (s : State) (r : RegRow) (w : Word) (a : Nat) (t : State) : Prop :=
  ∀ i < 32,
    let rw := (r.mask .rw).getLsbD i
    let w1c := (r.mask .w1c).getLsbD i
    let w1s := (r.mask .w1s).getLsbD i
    (rw = true → w1c = false → w1s = false → t.bit a i = w.getLsbD i) ∧
    (rw = false → w1c = true → w1s = false → t.bit a i = (s.bit a i && !w.getLsbD i)) ∧
    (rw = false → w1c = false → w1s = true → t.bit a i = (s.bit a i || w.getLsbD i)) ∧
    (rw = false → w1c = false → w1s = false → t.bit a i = s.bit a i)

/-- The word that the access codes make is one that the register has taken. -/
theorem takesWord_of_rd_eq_coded {s t : State} {r : RegRow} {w : Word} {a : Nat} (h : t.rd a = r.coded (s.rd a) w) :
    TakesWord s r w a t := by
  intro i hi
  have hbit : t.bit a i = (r.coded (s.rd a) w).getLsbD i := by rw [State.bit, h]
  rw [hbit, RegRow.getLsbD_coded r _ _ hi]
  refine ⟨?_, ?_, ?_, ?_⟩ <;> intro hrw hw1c hw1s <;> simp [hrw, hw1c, hw1s, State.bit]

/-! ## Writes of register space by the access codes (R13, R14, R17) -/

section PlainWrite
variable {s : State} {b : Block} {off : Nat}

theorem State.writePlain_hi (h : b.isHi off = true) (v : Word) : s.writePlain b off v = s.stageHi (b.base + off) v := by
  simp [State.writePlain, h]

theorem State.writePlain_lo (hh : b.isHi off = false) (hl : b.isLo off = true) (v : Word) :
    s.writePlain b off v = (s.writeCodes b off v).writeCodes b (off + 4) (s.staged (b.base + (off + 4))) := by
  simp [State.writePlain, hh, hl, Nat.add_assoc]

theorem State.writePlain_single (hh : b.isHi off = false) (hl : b.isLo off = false) (v : Word) :
    s.writePlain b off v = s.writeCodes b off v := by
  simp [State.writePlain, hh, hl]

/-- The word written to a _HI register waits there for its _LO (R17). -/
theorem State.staged_stageHi (s : State) (a : Nat) (v : Word) : (s.stageHi a v).staged a = v := Table.get_set_same _ _ _ _

/-- A write by the access codes touches the register table and the waiting _HI words alone. -/
theorem State.writePlain_bus_frame (s : State) (b : Block) (off : Nat) (v : Word) :
    let t := (s.writePlain b off v).bus .ok 0
    t = { s with regs := t.regs, stage := t.stage, busResp := .ok, busData := 0 } := by
  cases hh : b.isHi off with
  | true => rw [State.writePlain_hi hh]; rfl
  | false =>
    cases hl : b.isLo off with
    | true =>
      rw [State.writePlain_lo hh hl, State.writeCodes_only_regs (s.writeCodes b off v), State.writeCodes_only_regs s]
      rfl
    | false => rw [State.writePlain_single hh hl, State.writeCodes_only_regs]; rfl

theorem State.writeCodes_takesWord {r : RegRow} (h : rowAt b.table off = some r) (s : State) (v : Word) :
    TakesWord s r v (b.base + off) (s.writeCodes b off v) :=
  takesWord_of_rd_eq_coded (by rw [State.writeCodes_of_row h, State.rd_wr_same])

theorem State.writeCodes_regsBut (s : State) (b : Block) (off : Nat) (v : Word) : RegsBut [b.base + off] s (s.writeCodes b off v) :=
  fun _ ha => State.rd_writeCodes_ne s b off v (by simpa using ha)

/-- A pair written by its _LO: the _LO takes the word, and the _HI the word that waits for it (R17). -/
theorem State.writeCodes_pair_takesWords {r u : RegRow} (hr : rowAt b.table off = some r) (hu : rowAt b.table (off + 4) = some u)
    (s : State) (v w : Word) :
    let t := (s.writeCodes b off v).writeCodes b (off + 4) w
    TakesWord s r v (b.base + off) t ∧ TakesWord s u w (b.base + (off + 4)) t := by
  have hlo : ((s.writeCodes b off v).writeCodes b (off + 4) w).rd (b.base + off) = (s.writeCodes b off v).rd (b.base + off) :=
    State.rd_writeCodes_ne _ _ _ _ (by omega)
  have hhi : (s.writeCodes b off v).rd (b.base + (off + 4)) = s.rd (b.base + (off + 4)) := State.rd_writeCodes_ne _ _ _ _ (by omega)
  constructor
  · exact takesWord_of_rd_eq_coded (by rw [hlo, State.writeCodes_of_row hr, State.rd_wr_same])
  · exact takesWord_of_rd_eq_coded (by rw [State.writeCodes_of_row hu, State.rd_wr_same, hhi])

theorem State.writeCodes_pair_regsBut (s : State) (b : Block) (off : Nat) (v w : Word) :
    RegsBut [b.base + off, b.base + (off + 4)] s ((s.writeCodes b off v).writeCodes b (off + 4) w) := by
  intro a ha
  obtain ⟨hlo, hhi⟩ : a ≠ b.base + off ∧ a ≠ b.base + (off + 4) := by simpa using ha
  rw [State.rd_writeCodes_ne _ _ _ _ hhi, State.rd_writeCodes_ne _ _ _ _ hlo]

end PlainWrite

/-! ## Reads of register space (R14, R17) -/

theorem State.clearRc_of_row {b : Block} {off : Nat} {r : RegRow} (h : rowAt b.table off = some r) (s : State) :
    s.clearRc b off = if r.mask .rc = 0 then s else s.wr (b.base + off) (s.rd (b.base + off) &&& ~~~r.mask .rc) := by
  rw [State.clearRc, h]

/-- A read clears the RC fields of its register and keeps the other bits. -/
theorem State.rd_clearRc_same {b : Block} {off : Nat} {r : RegRow} (h : rowAt b.table off = some r) (s : State) :
    (s.clearRc b off).rd (b.base + off) = s.rd (b.base + off) &&& ~~~r.mask .rc := by
  rw [State.clearRc_of_row h]
  split_ifs with h0
  · rw [h0, show ~~~(0 : Word) = BitVec.allOnes 32 from rfl, BitVec.and_allOnes]
  · rw [State.rd_wr_same]

/-- Clearing RC fields is at most one register write. -/
theorem State.clearRc_eq_or (s : State) (b : Block) (off : Nat) : s.clearRc b off = s ∨ ∃ v, s.clearRc b off = s.wr (b.base + off) v := by
  cases h : rowAt b.table off with
  | none => exact .inl (by rw [State.clearRc, h])
  | some r =>
    rw [State.clearRc_of_row h]
    split_ifs
    · exact .inl rfl
    · exact .inr ⟨_, rfl⟩

theorem State.clearRc_only_regs (s : State) (b : Block) (off : Nat) : s.clearRc b off = { s with regs := (s.clearRc b off).regs } := by
  obtain h | ⟨v, h⟩ := s.clearRc_eq_or b off <;> rw [h]
  rfl

theorem State.clearRc_regsBut (s : State) (b : Block) (off : Nat) : RegsBut [b.base + off] s (s.clearRc b off) := by
  intro a ha
  obtain h | ⟨v, h⟩ := s.clearRc_eq_or b off <;> rw [h]
  exact State.rd_wr_ne _ _ _ _ (by simpa using ha)

@[simp] theorem State.clearRc_cap (s : State) (b : Block) (off : Nat) : (s.clearRc b off).cap = s.cap := by
  rw [State.clearRc_only_regs]

/-- A value captured is the one that the next read of the register takes (R17). -/
theorem State.cap_capture (s : State) (a : Nat) (v : Word) : (s.capture a v).cap.get noCap a = some v := Table.get_set_same _ _ _ _

/-- A read of a register of a pair shows the captured word, or the live one where none is captured. -/
theorem State.captured_value (s : State) (a : Nat) (live : Word) : (s.captured a live).1 = (s.cap.get noCap a).getD live := by
  cases h : s.cap.get noCap a <;> simp [State.captured, h]

/-- A captured word is read once. -/
theorem State.cap_captured (s : State) (a : Nat) (live : Word) : (s.captured a live).2.cap.get noCap a = none := by
  cases h : s.cap.get noCap a <;> simp [State.captured, h]

section Read
variable {s : State} {b : Block} {off : Nat} (hv : s.readView b off = none)
include hv

theorem State.readUnit_single (hl : b.isLo off = false) (hh : b.isHi off = false) :
    s.readUnit b off = (s.stored b off, s.clearRc b off) := by
  simp [State.readUnit, hv, hl, hh]

theorem State.readUnit_lo (hl : b.isLo off = true) (hv4 : s.readView b (off + 4) = none) :
    s.readUnit b off = (s.stored b off, (s.clearRc b off).capture (b.base + off + 4) (s.stored b (off + 4))) := by
  simp [State.readUnit, hv, hl, hv4]

theorem State.readUnit_hi (hl : b.isLo off = false) (hh : b.isHi off = true) :
    s.readUnit b off = (s.clearRc b off).captured (b.base + off) (s.stored b off) := by
  simp [State.readUnit, hv, hl, hh]

end Read

theorem State.stored_of_row {b : Block} {off : Nat} {r : RegRow} (h : rowAt b.table off = some r) (s : State) :
    s.stored b off = s.rd (b.base + off) &&& ~~~r.mask .wo := by
  simp [State.stored, h]

/-! ## SRAM behind the bus (R33, R35, R36) -/

theorem regionOf_eq_sram_iff (a : Nat) : regionOf a = some .sram ↔ 0x1000000 ≤ a ∧ a < 0x1C00000 := by
  unfold regionOf
  split_ifs <;> simp <;> omega

/-- An aligned access that starts in SRAM ends there. -/
theorem regionOf_last_of_aligned {a : Nat} {size : AccSize} (h : regionOf a = some .sram) (ha : a % accBytes size = 0) :
    regionOf (a + accBytes size - 1) = some .sram := by
  rw [regionOf_eq_sram_iff] at h ⊢
  cases size <;> simp only [accBytes] at ha ⊢ <;> omega

theorem reachesMem_sram {m : Master} (hf : m ≠ .fantail) (hq : ∀ q, m ≠ .sq q) : reachesMem m .sram = true := by
  cases m with
  | sc x => rfl
  | dev => rfl
  | fantail => exact absurd rfl hf
  | sq q => exact absurd rfl (hq q)

@[simp] theorem length_leBytes (n v : Nat) : (leBytes n v).length = n := by
  induction n generalizing v with
  | zero => rfl
  | succ n ih => simp [leBytes, ih]

/-- Bytes written change memory alone. -/
theorem State.putBytes_only_mem (s : State) (a : Nat) (l : List Byte) : s.putBytes a l = { s with mem := (s.putBytes a l).mem } := by
  induction l generalizing s a with
  | nil => rfl
  | cons x t ih => rw [State.putBytes, ih]; rfl

/-- The bytes written read back in order. -/
theorem State.bytes_putBytes (s : State) (a : Nat) (l : List Byte) : (s.putBytes a l).bytes a l.length = l := by
  induction l generalizing s a with
  | nil => rfl
  | cons x t ih =>
    rw [List.length_cons, State.bytes, State.putBytes, ih, State.byte_putBytes_out _ _ _ _ (by omega), State.byte_putByte_same]

/-- The record of a bus access is no part of memory. -/
@[simp] theorem State.bytes_bus (s : State) (r : Resp) (v : Word) (a n : Nat) : (s.bus r v).bytes a n = s.bytes a n := by
  induction n generalizing a with
  | zero => rfl
  | succ n ih => rw [State.bytes, State.bytes, ih]; rfl

/-- A write of SRAM stores its bytes: no ECC and no DRAM slot takes part. -/
theorem State.memWrite_of_sram (s : State) {a : Nat} {bs : List Byte} (h : regionOf a = some .sram)
    (hl : regionOf (a + bs.length - 1) = some .sram) : s.memWrite a bs = some (.ok, s.putBytes a bs) := by
  have hg : s.memGate a bs.length = some .ok := by simp [State.memGate, h, hl]
  simp [State.memWrite, hg, h, State.dramTouch, State.eccWrite]

/-! ## The words of a crossing (R29, R116, R186) -/

/-- A COMMIT word marks its entry as known to the TB island (R116). -/
theorem State.fifoAt_tbCommit {s : State} {p : Fin 48} {page : Word} {line : Nat} {e : Entry} (h : s.fifoAt p page line = some e) :
    (s.tbCommit p page line).fifoAt p page line = some { e with tbKnown := true } := by
  have hkey : ((fun e : Entry => decide (e.page = page ∧ e.line = line)) ∘
      fun e : Entry => if e.page = page ∧ e.line = line then { e with tbKnown := true } else e) =
      fun e => decide (e.page = page ∧ e.line = line) := by
    funext e
    rw [Function.comp_apply]
    split_ifs <;> rfl
  have he : e.page = page ∧ e.line = line := by simpa using List.find?_some h
  rw [State.fifoAt] at h
  rw [State.fifoAt, State.tbCommit, State.fifoMap, State.modSq_same, vset_same, List.find?_map, hkey, h]
  simp [he]

theorem finOf_val {n : Nat} (h : 0 < n) (i : Fin n) : finOf n h i.val = i := Fin.ext (Nat.mod_eq_of_lt i.isLt)

/-- The Bolter drops a record while it is off, and one whose page it has no plan of (R270). -/
theorem State.boltFired_of_dropped {s : State} {r : FiredRec} (h : s.flag BOLT_CTRL_EN = false ∨ ∀ q ∈ s.bolt.plans, q.page ≠ r.page) :
    s.boltFired r = s := by
  have hoff : (s.flag BOLT_CTRL_EN && s.bolt.plans.any fun q => decide (q.page = r.page)) = false := by
    obtain h | h := h
    · rw [h, Bool.false_and]
    · rw [List.any_eq_false.2 fun q hq => by simpa using h q hq, Bool.and_false]
  rw [State.boltFired, hoff]
  rfl

/-! ## The obligation -/

/-- Settles O54: the gate turns an access away or names its register; there the access codes, the pairs and the captures say what it leaves; SRAM
takes its bytes; and each crossing hands over its oldest word. -/
theorem registerBusAndCrossings : Obligations.RegisterBusAndCrossings := by
  unfold Obligations.RegisterBusAndCrossings
  intro x k j m addr size v b off s a n err me ok codes
  have hn : n = accBytes size := by cases size <;> rfl
  refine ⟨fun hr hb => ?unmapped, fun hjk hr => ?foreignMemory, fun hjk hr hb => ?foreignSequencer, fun p hp hr hb => ?foreignPort,
    fun hr hb => ⟨fun hc => ?gated, fun hc hw => ?notWord, fun hc hs ha hrule => ?write, fun hc ha hv i hi => ?read⟩,
    fun hr hf hq => ⟨fun ha => ?sramMisaligned, fun ha => ?sram⟩, ?aonAny, fun c hc => ?immediate, fun h => ?seqTbEmpty,
    fun w rest p page line h hw => ?commit, fun w rest r h hw hoff => ?fired⟩
  case unmapped =>
    exact ⟨⟨_, exec_registerWrite_of_refused (State.busGate_unmapped hr hb) (by decide) v, rfl⟩,
      ⟨_, State.busReadAnswer_of_refused (State.busGate_unmapped hr hb) (by decide), rfl⟩⟩
  case foreignMemory =>
    have hm : reachesMem (.sq k) (.localMem j.val) = false := by simpa [reachesMem, Fin.val_inj] using hjk
    exact ⟨_, exec_registerWrite_of_refused (State.busGate_foreign_memory hr hm) (by decide) v, rfl⟩
  case foreignSequencer =>
    have hm : reaches (.sq k) (.sq j.val) true = .errDecode := by simp [reaches, Fin.val_inj, hjk]
    exact ⟨_, exec_registerWrite_of_refused (State.busGate_foreign_block hr hb hm) (by decide) v, rfl⟩
  case foreignPort =>
    have hm : reaches (.sq k) (.hp p.val) true = .errDecode := by
      have hpk : p.val / 4 ≠ k.val := fun h => hp (Fin.ext h)
      simp [reaches, hpk]
    exact ⟨_, exec_registerWrite_of_refused (State.busGate_foreign_block hr hb hm) (by decide) v, rfl⟩
  case gated =>
    exact ⟨⟨_, exec_registerWrite_of_refused (State.busGate_gated hr hb rfl hc) (by decide) v, rfl⟩,
      ⟨_, State.busReadAnswer_of_refused (State.busGate_gated hr hb rfl hc) (by decide), rfl⟩⟩
  case notWord =>
    exact ⟨_, exec_registerWrite_of_refused (State.busGate_not_word hr hb rfl hc hw) (by decide) v, rfl⟩
  case write =>
    subst hs
    have hexec := exec_registerWrite_of_no_rule (State.busGate_register hr hb rfl hc ha) hrule
    have hframe := s.writePlain_bus_frame b off v
    refine ⟨fun hh => ⟨_, hexec, hframe, ?_⟩, fun hh hl hrow => ⟨_, hexec, hframe, ?_⟩, fun r hh hl hrow => ⟨_, hexec, hframe, ?_⟩,
      fun r u hh hl hrow hrow4 => ⟨_, hexec, hframe, ?_⟩⟩
    · rw [State.writePlain_hi hh]
      exact ⟨State.staged_stageHi s _ v, fun _ _ => rfl⟩
    · rw [State.writePlain_single hh hl, State.writeCodes_of_no_row hrow]
      exact fun _ _ => rfl
    · rw [State.writePlain_single hh hl]
      exact ⟨State.writeCodes_takesWord hrow s v, State.writeCodes_regsBut s b off v⟩
    · rw [State.writePlain_lo hh hl]
      obtain ⟨hlo, hhi⟩ := State.writeCodes_pair_takesWords hrow hrow4 s v (s.staged (b.base + (off + 4)))
      exact ⟨hlo, hhi, State.writeCodes_pair_regsBut s b off v _⟩
  case read =>
    have hexec := (exec_of_mem_wordReads hi).trans (State.busReadAnswer_of_register (State.busGate_register (m := me) hr hb rfl hc ha))
    refine ⟨fun r hrow hl hh => ⟨_, hexec, ?_⟩, fun hl hv4 => ⟨_, hexec, ?_⟩, fun hl hh => ⟨_, hexec, ?_⟩⟩
    · rw [State.readUnit_single hv hl hh, State.stored_of_row hrow]
      refine ⟨rfl, rfl, State.rd_clearRc_same hrow s, State.clearRc_regsBut s b off, ?_⟩
      rw [State.clearRc_only_regs]
      rfl
    · rw [State.readUnit_lo hv hl hv4]
      exact ⟨rfl, rfl, State.cap_capture _ _ _⟩
    · rw [State.readUnit_hi hv hl hh]
      exact ⟨rfl, by rw [State.bus, State.captured_value, State.clearRc_cap], State.cap_captured _ _ _⟩
  case sramMisaligned =>
    rw [hn] at ha
    exact ⟨_, exec_registerWrite_of_refused (State.busGate_misaligned_memory hr (reachesMem_sram hf hq) ha) (by decide) v, rfl⟩
  case sram =>
    rw [hn] at ha ⊢
    have hw := s.memWrite_of_sram (bs := leBytes (accBytes size) v.toNat) hr (by simpa using regionOf_last_of_aligned hr ha)
    refine ⟨_, exec_registerWrite_of_memory (State.busGate_aligned_memory hr (reachesMem_sram hf hq) ha) hw, rfl, ?_, fun c hc => ?_, ?_⟩
    · simpa using s.bytes_putBytes a (leBytes (accBytes size) v.toNat)
    · exact s.byte_putBytes_out a c _ (by simpa using hc)
    · rw [State.putBytes_only_mem]
      rfl
  case aonAny => exact ⟨_, rfl, rfl⟩
  case immediate =>
    simp only [List.mem_cons, List.not_mem_nil, or_false] at hc
    obtain rfl | rfl | rfl := hc <;> exact ⟨s, rfl, rfl⟩
  case seqTbEmpty => exact ⟨_, rfl, by rw [State.seqTbArrive, h]⟩
  case commit =>
    refine ⟨({ s with seqTb := rest } : State).tbCommit p page line, ?_, rfl, fun e he => State.fifoAt_tbCommit he, rfl⟩
    change Host.Outcome.next s.seqTbArrive = _
    rw [State.seqTbArrive, h]
    simp only [State.seqTbWord, hw, finOf_val]
  case fired =>
    refine ⟨({ s with tbDsp := rest } : State).boltFired r, ?_, State.boltFired_of_dropped hoff⟩
    change Host.Outcome.next s.tbDspArrive = _
    rw [State.tbDspArrive, h]
    simp only [State.seqTbWord, hw]

end Sys2Proof.Machine
end

section
/-!
PROOFS. The record rings (R52, R53, R277): the control word that a write of a ring's control register leaves, the place that WIDX names after a
record, and the outcome of a record write; then the obligation RecordRings.
-/
namespace Sys2Proof.Machine

/-! ## Fields and their bits -/

/-- Words that agree on the bits of a field have the same value there. -/
theorem field_congr {w v : Word} {hi lo : Nat} (h : ∀ i, lo ≤ i → i ≤ hi → w.getLsbD i = v.getLsbD i) : field w hi lo = field v hi lo := by
  apply Nat.eq_of_testBit_eq
  intro i
  simp only [field, BitVec.testBit_toNat, BitVec.getLsbD_extractLsb']
  by_cases hlt : i < hi + 1 - lo
  · rw [h (lo + i) (by omega) (by omega)]
  · simp [hlt]

/-- A field of one bit is that bit. -/
theorem State.flag_eq_bit (s : State) (a i : Nat) : s.flag ⟨a, i, i⟩ = s.bit a i := by
  rw [State.flag, State.get, State.bit, field, Nat.add_sub_cancel_left, BitVec.getLsbD_eq_extractLsb']
  generalize (s.rd a).extractLsb' i 1 = x
  revert x
  decide

/-! ## The control register of a ring (R53) -/

/-- What a write of `v` makes of the control word `old` of a ring: EN and SIZE as written, PENDING kept, and LOST and BUS_ERR cleared by ones. -/
def rptCtrlWord (old v : Word) : Word := (old &&& 0x00070000#32) ||| (v &&& 0x80000007#32) ||| (old &&& ~~~v &&& 0x00000300#32)

theorem field_size_rptCtrlWord (old v : Word) : field (rptCtrlWord old v) 2 0 = field v 2 0 := by
  refine field_congr fun i _ hi => ?_
  interval_cases i <;> simp [rptCtrlWord]

theorem field_pending_rptCtrlWord (old v : Word) : field (rptCtrlWord old v) 18 16 = field old 18 16 := by
  refine field_congr fun i hl hi => ?_
  interval_cases i <;> simp [rptCtrlWord]

theorem getLsbD_en_rptCtrlWord (old v : Word) : (rptCtrlWord old v).getLsbD 31 = v.getLsbD 31 := by simp [rptCtrlWord]

section Ctrl
variable {s : State} {b : Nat} {v : Word}

/-- With EN set, a write that would change SIZE is turned away. -/
theorem State.rptCtrl_of_resize (he : s.flag ⟨b + 8, 31, 31⟩ = true) (hz : field v 2 0 ≠ s.get ⟨b + 8, 2, 0⟩) :
    s.rptCtrl b v = (.errUnit, s) := by
  rw [State.flag_eq_bit, State.bit] at he
  exact if_pos ⟨he, hz⟩

/-- Any other write stores its control word, and clears the indices where it sets EN. -/
theorem State.rptCtrl_of_taken (h : s.flag ⟨b + 8, 31, 31⟩ = false ∨ field v 2 0 = s.get ⟨b + 8, 2, 0⟩) :
    let u := s.wr (b + 8) (rptCtrlWord (s.rd (b + 8)) v)
    s.rptCtrl b v = (.ok, if v.getLsbD 31 && !s.flag ⟨b + 8, 31, 31⟩ then u.wr (b + 12) 0 else u) := by
  rw [State.flag_eq_bit, State.bit] at h ⊢
  refine if_neg fun ⟨he, hz⟩ => ?_
  obtain h | h := h
  · exact Bool.noConfusion (he.symm.trans h)
  · exact hz h

end Ctrl

/-- What a control word that is taken does to a ring. -/
structure RptCtrlTaken (b : Nat) (v : Word) (s t : State) : Prop where
  ctrl : t.rd (b + 8) = rptCtrlWord (s.rd (b + 8)) v
  idx : s.flag ⟨b + 8, 31, 31⟩ = false → v.getLsbD 31 = true → t.rd (b + 12) = 0
  frame : RegsBut [b + 8, b + 12] s t
  rest : t = { s with regs := t.regs, busResp := t.busResp, busData := t.busData }

/-- A control write that keeps SIZE, or finds EN clear, is taken. -/
theorem State.rptCtrl_taken {s : State} {b : Nat} {v : Word}
    (h : s.flag ⟨b + 8, 31, 31⟩ = false ∨ field v 2 0 = s.get ⟨b + 8, 2, 0⟩) :
    ∃ t, s.rptCtrl b v = (.ok, t) ∧ RptCtrlTaken b v s t := by
  refine ⟨_, State.rptCtrl_of_taken h, ?_⟩
  by_cases hset : (v.getLsbD 31 && !s.flag ⟨b + 8, 31, 31⟩) = true
  · rw [if_pos hset]
    refine ⟨?_, fun _ _ => State.rd_wr_same _ _ _, fun a ha => ?_, rfl⟩
    · rw [State.rd_wr_ne _ _ _ _ (by omega), State.rd_wr_same]
    · obtain ⟨h8, h12⟩ : a ≠ b + 8 ∧ a ≠ b + 12 := by simpa using ha
      rw [State.rd_wr_ne _ _ _ _ h12, State.rd_wr_ne _ _ _ _ h8]
  · rw [if_neg hset]
    exact ⟨State.rd_wr_same _ _ _, fun he hv => absurd (by simp [he, hv]) hset,
      fun a ha => State.rd_wr_ne _ _ _ _ (List.ne_of_not_mem_cons ha), rfl⟩

namespace RptCtrlTaken
variable {b : Nat} {v : Word} {s t : State} (h : RptCtrlTaken b v s t)
include h

theorem size : t.get ⟨b + 8, 2, 0⟩ = field v 2 0 := by rw [State.get, h.ctrl, field_size_rptCtrlWord]

theorem pending : t.get ⟨b + 8, 18, 16⟩ = s.get ⟨b + 8, 18, 16⟩ := by rw [State.get, h.ctrl, field_pending_rptCtrlWord]; rfl

theorem en : t.flag ⟨b + 8, 31, 31⟩ = v.getLsbD 31 := by rw [State.flag_eq_bit, State.bit, h.ctrl, getLsbD_en_rptCtrlWord]

/-- The answer at the bus is no part of a ring. -/
theorem bus (r : Resp) (w : Word) : RptCtrlTaken b v s (t.bus r w) := by
  have hrd (a : Nat) : (t.bus r w).rd a = t.rd a := State.rd_congr _ _ rfl a
  refine ⟨(hrd _).trans h.ctrl, fun he hv => (hrd _).trans (h.idx he hv), fun a ha => (hrd a).trans (h.frame a ha), ?_⟩
  rw [h.rest]
  rfl

end RptCtrlTaken

/-- The write of FSCH_RPT_CTRL is the page ring's control write: FSCH is always clocked. -/
theorem exec_fschRptCtrlWrite (x : Fin 2) (v : Word) (s : State) :
    exec (.fschRptCtrlWrite x v) s = .next ((s.rptCtrl rptFsch v).2.bus (s.rptCtrl rptFsch v).1 0) := by
  change busAnswer (s.supWrite x .fsch 0xF08 v) = _
  rw [State.supWrite_of_clocked rfl]
  rfl

/-! ## A record put into its ring (R52, R277) -/

/-- A field is read from the register table alone. -/
theorem State.get_congr {s t : State} (h : t.regs = s.regs) (f : RegField) : t.get f = s.get f := by
  rw [State.get, State.get, State.rd_congr _ _ h]

/-- WIDX of the state `t` that a record written from `u` leaves: its ring's registers are those of `u`, one field of another register put and WIDX
advanced. -/
theorem State.widx_of_record {s t u : State} {b : Nat} {f : RegField} {n : Nat} (hf : f.addr ≠ b + 12) (hs : s.regs = u.regs)
    (ht : t.regs = ((s.put f n).rptAdvance b).regs) : t.get ⟨b + 12, 31, 16⟩ = (u.get ⟨b + 12, 31, 16⟩ + 1) % 65536 := by
  rw [State.get_congr ht, State.rptAdvance, State.get_put_same _ _ _ (show 31 < 32 by decide), State.get_put_ne _ _ _ _ hf.symm,
    State.get_congr hs]
  exact Nat.mod_mod _ _

/-- A page report that memory takes leaves the held ones, and its event names its page. -/
theorem exec_reportWrite_of_taken {s u : State} {h : HeldReport} {t : List HeldReport} (hh : s.fsch.held = h :: t)
    (ho : s.rptOpen rptFsch = true) (hw : s.dmaWrite 10 (s.rptSlot rptFsch 512) (h.report.bytes h.chip) 0 = some (none, u)) :
    exec .reportWrite s = .next
      ((({ u with fsch := { u.fsch with held := t } } : State).rptPending.rptAdvance rptFsch).raiseAt evPAGE_REPORT 0 0 h.report.page 0) := by
  change Host.Outcome.next s.reportWrite = _
  simp only [State.reportWrite, hh, ho, hw, if_true]

/-- A Bolter record that memory takes leaves the held ones. -/
theorem exec_boltRecordWrite_of_taken {s u : State} {h : List Byte} {t : List (List Byte)} (hh : s.bolt.held = h :: t)
    (ho : s.rptOpen rptBolt = true) (hw : s.dmaWrite 3 (s.rptSlot rptBolt 64) h 0 = some (none, u)) :
    exec .boltRecordWrite s = .next
      (((({ u with bolt := { u.bolt with held := t } } : State).put BOLT_RPT_CTRL_PENDING t.length).rptAdvance rptBolt).raise
        evBOLT_RECORD 0 0) := by
  change Host.Outcome.next s.boltWrite = _
  simp only [State.boltWrite, hh, ho, hw, if_true]

/-! ## The obligation -/

/-- Settles O36: a record that memory takes advances WIDX by the ring's one rule, and the control write either changes nothing or stores its control
word. -/
theorem recordRings : Obligations.RecordRings := by
  unfold Obligations.RecordRings
  intro x v s u
  refine ⟨fun h t hh ho hw => ?report, fun h t hh ho hw => ?record, ?ctrl⟩
  case report =>
    refine ⟨_, exec_reportWrite_of_taken hh ho hw, rfl, ?_, rfl, ⟨_, State.raiseAt_flight .., rfl, rfl⟩, rfl⟩
    exact State.widx_of_record (by decide) rfl (State.raiseAt_regs ..)
  case record =>
    refine ⟨_, exec_boltRecordWrite_of_taken hh ho hw, rfl, ?_, rfl, ⟨_, State.raiseAt_flight .., rfl⟩, rfl⟩
    exact State.widx_of_record (by decide) rfl (State.raiseAt_regs ..)
  case ctrl =>
    refine ⟨_, exec_fschRptCtrlWrite x v s, fun he hz => ?_, fun h => ?_⟩
    · rw [State.rptCtrl_of_resize he hz]
      rfl
    · obtain ⟨t, ht, taken⟩ := State.rptCtrl_taken (b := rptFsch) h
      rw [ht]
      have taken := taken.bus .ok 0
      exact ⟨rfl, taken.size, taken.en, taken.pending, taken.idx, taken.frame, taken.rest⟩

end Sys2Proof.Machine
end

section
/-!
PROOFS. Fire instructions (R99 to R102, R133): what one that executes answers, and what its building blocks (a condition set, the instruction done,
a result given, cycles counted) do to its sequencer and leave as it was. The sittings' proofs on sequencers rest on these rules.
-/
namespace Sys2Proof.Machine

/-! ## A fire instruction that executes -/

/-- A fire instruction that executes answers what its body makes of the fetched state, with its cycles counted. -/
theorem answers_fire {s u : State} {k : Fin 12} {rs : List (Fin 32)} {i : Instr} {word : Word} {n : Nat} {body : State → Fin 12 → State}
    {P : State → Prop} {a : Answer} (h : Executes s (.sq k) 2 rs u) (hi : exec i s = a) (ha : a = s.fireInstr (.sq k) word rs n body)
    (hP : P ((body u k).spend (.sq k) n)) : Answers i s P :=
  ⟨_, by rw [hi, ha, State.fireInstr, State.runInstr_of_executes h], hP⟩

/-- With no build queued no register is owned by one (R123). -/
theorem Executes.of_no_builds {s u : State} {k : Fin 12} {ext : Nat} {rs : List (Fin 32)} (h : Executes s (.sq k) ext rs u)
    (hb : u.sqs[k].builds = []) (rs' : List (Fin 32)) : Executes s (.sq k) ext rs' u := by
  obtain ⟨hr, hd, hf, he, -⟩ := h
  exact ⟨hr, hd, hf, he, by rw [State.buildPends, hb]; rfl⟩

/-! ## The building blocks on their own sequencer -/

/-- A sequencer changed twice. -/
theorem State.modSq_modSq (s : State) (k : Fin 12) (f g : Seq → Seq) : (s.modSq k f).modSq k g = s.modSq k (fun q => g (f q)) := by
  simp [State.modSq, vset_vset]

/-- What a change makes of the sequencer is all of it. -/
theorem State.modSq_congr {s : State} {k : Fin 12} {f g : Seq → Seq} (h : f s.sqs[k] = g s.sqs[k]) : s.modSq k f = s.modSq k g := by
  rw [State.modSq, State.modSq, h]

/-- A change that leaves the sequencer as it is changes nothing. -/
theorem State.modSq_of_fixed {s : State} {k : Fin 12} {f : Seq → Seq} (h : f s.sqs[k] = s.sqs[k]) : s.modSq k f = s := by
  rw [State.modSq, h]
  simp [vset]

@[simp] theorem State.setG_at (s : State) (k : Fin 12) (r : Fin 32) (v : Word) :
    (s.setG (.sq k) r v).sqs[k.val] = { s.sqs[k.val] with core := s.sqs[k.val].core.setG r v } := State.modSq_at ..

@[simp] theorem State.spend_at (s : State) (k : Fin 12) (n : Nat) :
    (s.spend (.sq k) n).sqs[k.val] = { s.sqs[k.val] with core := { s.sqs[k.val].core with cycle := s.sqs[k.val].core.cycle + BitVec.ofNat 64 n } } :=
  State.modSq_at ..

@[simp] theorem State.fireDone_at (s : State) (k : Fin 12) :
    (s.fireDone k).sqs[k.val] = { s.sqs[k.val] with wait := .none, stall := 0, core := s.sqs[k.val].core.next } := by
  simp [State.fireDone, State.nextPc, sqCore, State.modCore]

@[simp] theorem State.fireResult_at (s : State) (k : Fin 12) (rd : Fin 32) (v : Nat) :
    (s.fireResult k rd v).sqs[k.val] =
      { s.sqs[k.val] with wait := .none, stall := 0, core := (s.sqs[k.val].core.setG rd (BitVec.ofNat 32 v)).next } := by
  simp [State.fireResult, sqCore]

/-- A condition set is a bit of XSTAT, and for four of them an event (R102). -/
theorem State.condAt_eq_or (s : State) (k : Fin 12) (bit : Nat) (page : Word) :
    let t := s.modSq k (fun q => { q with xstat := setBit q.xstat bit true })
    s.condAt k bit page = t ∨ s.condAt k bit page = t.raiseAt evSQ_COND k (value1 bit) page (BitVec.ofNat 32 t.sqs[k].lowNb) := by
  rw [State.condAt]
  split_ifs
  · exact .inr rfl
  · exact .inl rfl

theorem State.condAt_sqs (s : State) (k : Fin 12) (bit : Nat) (page : Word) :
    (s.condAt k bit page).sqs = (s.modSq k (fun q => { q with xstat := setBit q.xstat bit true })).sqs := by
  obtain h | h := s.condAt_eq_or k bit page <;> rw [h]
  rfl

@[simp] theorem State.cond_at (s : State) (k : Fin 12) (bit : Nat) :
    (s.cond k bit).sqs[k.val] = { s.sqs[k.val] with xstat := setBit s.sqs[k.val].xstat bit true } := by
  simp [State.cond, State.condAt_sqs]

/-- Conditions open and close no page. -/
@[simp] theorem State.conds_pageOpen (k : Fin 12) (l : List (Bool × Nat)) (s : State) :
    (s.conds k l).sqs[k.val].pageOpen = s.sqs[k.val].pageOpen :=
  List.foldlRecOn l _ (motive := fun t : State => t.sqs[k.val].pageOpen = s.sqs[k.val].pageOpen) rfl fun t ht c _ => by
    split_ifs
    · simpa using ht
    · exact ht

/-- Setting one bit of a vector. -/
theorem getLsbD_setBit_true {w : Nat} (v : BitVec w) (b i : Nat) (hi : i < w) : (setBit v b true).getLsbD i = (v.getLsbD i || decide (i = b)) := by
  simp only [setBit, if_true, BitVec.getLsbD_or, BitVec.getLsbD_ofNat, hi, decide_true, Bool.true_and, Nat.testBit_two_pow, eq_comm]

/-! ## What stays -/

namespace OnlySqs
variable {s t u : State}

theorem refl (s : State) : OnlySqs s s := rfl

theorem trans (h : OnlySqs s t) (g : OnlySqs t u) : OnlySqs s u := by
  unfold OnlySqs at *
  rw [g, h]

theorem modSq (h : OnlySqs s t) (k : Fin 12) (f : Seq → Seq) : OnlySqs s (t.modSq k f) := h.trans rfl

theorem condAt (h : OnlySqs s t) (k : Fin 12) (bit : Nat) (page : Word) : OnlySqs s (t.condAt k bit page) := by
  refine h.trans ?_
  obtain e | e := t.condAt_eq_or k bit page <;> rw [e] <;> rfl

theorem cond (h : OnlySqs s t) (k : Fin 12) (bit : Nat) : OnlySqs s (t.cond k bit) := h.condAt ..

theorem conds (h : OnlySqs s t) (k : Fin 12) (l : List (Bool × Nat)) : OnlySqs s (t.conds k l) :=
  List.foldlRecOn l _ (motive := OnlySqs s) h fun u hu c _ => by
    split_ifs
    · exact hu.cond ..
    · exact hu

theorem setPc (h : OnlySqs s t) (k : Fin 12) (v : Word) : OnlySqs s (t.setPc (.sq k) v) := h.trans rfl

theorem nextPc (h : OnlySqs s t) (k : Fin 12) : OnlySqs s (t.nextPc (.sq k)) := h.trans rfl

theorem fireDone (h : OnlySqs s t) (k : Fin 12) : OnlySqs s (t.fireDone k) := h.trans rfl

theorem fireResult (h : OnlySqs s t) (k : Fin 12) (rd : Fin 32) (v : Nat) : OnlySqs s (t.fireResult k rd v) := h.trans rfl

theorem spend (h : OnlySqs s t) (k : Fin 12) (n : Nat) : OnlySqs s (t.spend (.sq k) n) := h.trans rfl

end OnlySqs

/-- From `s` to `t` sequencer `k` keeps its core and gains the conditions `l`, and the other sequencers stay. -/
structure Gains (k : Fin 12) (l : List Nat) (s t : State) : Prop where
  core : t.sqs[k].core = s.sqs[k].core
  conds : CondsAdd k l s t
  others : ∀ j ≠ k, t.sqs[j] = s.sqs[j]

namespace Gains
variable {k : Fin 12} {l m : List Nat} {s t u : State}

theorem of_sqs_eq (h : t.sqs = s.sqs) : Gains k [] s t := by
  constructor <;> simp [CondsAdd, h]

theorem refl (k : Fin 12) (s : State) : Gains k [] s s := of_sqs_eq rfl

theorem trans (h : Gains k l s t) (g : Gains k m t u) : Gains k (l ++ m) s u where
  core := g.core.trans h.core
  conds i hi := by rw [g.conds i hi, h.conds i hi, List.contains_append, Bool.or_assoc]
  others j hj := (g.others j hj).trans (h.others j hj)

/-- What leaves the sequencers as they are is no gain. -/
theorem sqs_eq (h : Gains k l s t) (e : u.sqs = t.sqs) : Gains k l s u := by
  simpa using h.trans (of_sqs_eq (k := k) e)

theorem modSq (h : Gains k l s t) {f : Seq → Seq} (hc : ∀ q, (f q).core = q.core := by intro _; rfl)
    (hx : ∀ q, (f q).xstat = q.xstat := by intro _; rfl) :
    Gains k l s (t.modSq k f) := by
  have g : Gains k [] t (t.modSq k f) := by
    refine ⟨?_, fun i _ => ?_, fun j hj => State.modSq_ne _ _ _ _ hj⟩
    · rw [State.modSq_same, hc]
    · simp [hx]
  simpa using h.trans g

theorem condAt (h : Gains k l s t) {bit : Nat} (page : Word) : Gains k (l ++ [bit]) s (t.condAt k bit page) := by
  refine h.trans ⟨?_, fun i hi => ?_, fun j hj => ?_⟩
  · simp [State.condAt_sqs]
  · simp [State.condAt_sqs, getLsbD_setBit_true _ _ _ hi]
  · rw [State.condAt_sqs, State.modSq_ne _ _ _ _ hj]

theorem cond (h : Gains k l s t) {bit : Nat} : Gains k (l ++ [bit]) s (t.cond k bit) := h.condAt _

/-- Of several conditions those are set that apply. -/
theorem condList (h : Gains k l s t) (cs : List (Bool × Nat)) : Gains k (l ++ (cs.filter (·.1)).map (·.2)) s (t.conds k cs) := by
  induction cs generalizing l t with
  | nil => simpa [State.conds] using h
  | cons c cs ih =>
    obtain ⟨b, bit⟩ := c
    cases b with
    | false => exact ih h
    | true => simpa [State.conds] using ih h.cond

end Gains

/-- The instruction of sequencer `k` is complete in `t`, with its result and its conditions. -/
structure Completes (k : Fin 12) (res : Option (Fin 32 × Word)) (l : List Nat) (s t : State) : Prop where
  done : SqDone k res s t
  conds : CondsAdd k l s t

namespace Gains
variable {k : Fin 12} {l : List Nat} {s t : State}

theorem fireDone (h : Gains k l s t) : Completes k none l s (t.fireDone k) where
  done := by
    have hcore : (t.fireDone k).sqs[k].core = s.sqs[k].core.next := by rw [← h.core]; simp
    refine ⟨?_, by simp, by simp, fun j hj => ?_, fun r => State.gr_congr ?_ r⟩
    · simp only [State.pcOf, State.core, hcore, Core.next]
    · rw [← h.others j hj]
      exact (State.modSq_ne _ _ _ _ hj).trans (State.modSq_ne _ _ _ _ hj)
    · simp only [State.core, hcore, Core.next]
  conds i hi := by simpa using h.conds i hi

theorem fireResult (h : Gains k l s t) (rd : Fin 32) (v : Nat) :
    Completes k (some (rd, BitVec.ofNat 32 v)) l s (t.fireResult k rd v) where
  done := by
    have hcore : (t.fireResult k rd v).core (.sq k) = (s.result (.sq k) rd (BitVec.ofNat 32 v)).core (.sq k) := by
      have hk : t.core (.sq k) = s.core (.sq k) := h.core
      have hr : (t.fireResult k rd v).core (.sq k) = ((t.core (.sq k)).setG rd (BitVec.ofNat 32 v)).next := by simp [State.core]
      rw [hr, hk]
      simp [State.result, State.setG, State.nextPc]
    refine ⟨?_, by simp, by simp, fun j hj => ?_, fun r => ?_⟩
    · rw [State.pcOf, hcore]
      exact State.pcOf_result ..
    · rw [← h.others j hj]
      exact (State.modSq_ne _ _ _ _ hj).trans ((State.modSq_ne _ _ _ _ hj).trans (State.modSq_ne _ _ _ _ hj))
    · rw [State.gr_congr (congrArg Core.g hcore), State.gr_result]
  conds i hi := by simpa using h.conds i hi

end Gains

/-- A sequencer that waits inside its instruction keeps its registers and its pc. -/
theorem Gains.waits {k : Fin 12} {l : List Nat} {s t : State} (h : Gains k l s t) (n : Nat) :
    CondsAdd k l s (t.spend (.sq k) n) ∧ (t.spend (.sq k) n).pcOf (.sq k) = s.pcOf (.sq k) ∧
      ∀ r, (t.spend (.sq k) n).gr (.sq k) r = s.gr (.sq k) r := by
  refine ⟨fun i hi => by simpa using h.conds i hi, ?_, fun r => ?_⟩
  · rw [State.pcOf_spend]
    exact congrArg Core.pc h.core
  · rw [State.gr_spend]
    exact State.gr_congr (c := .sq k) (congrArg Core.g h.core) r

/-- A sequencer whose pc is set keeps its registers. -/
theorem Gains.jumps {k : Fin 12} {l : List Nat} {s t : State} (h : Gains k l s t) (v : Word) (n : Nat) :
    CondsAdd k l s ((t.setPc (.sq k) v).spend (.sq k) n) ∧ ((t.setPc (.sq k) v).spend (.sq k) n).pcOf (.sq k) = v ∧
      ∀ r, ((t.setPc (.sq k) v).spend (.sq k) n).gr (.sq k) r = s.gr (.sq k) r := by
  refine ⟨fun i hi => ?_, ?_, fun r => ?_⟩
  · rw [← h.conds i hi]
    simp [State.setPc, State.modCore]
  · rw [State.pcOf_spend, State.pcOf, State.setPc, State.core_modCore]
  · rw [State.gr_spend]
    have hg : ((t.setPc (.sq k) v).core (.sq k)).g = (t.core (.sq k)).g := by rw [State.setPc, State.core_modCore]
    exact State.gr_congr (hg.trans (congrArg Core.g h.core)) r

/-- A sequencer that moves on keeps its registers. -/
theorem Gains.moves {k : Fin 12} {l : List Nat} {s t : State} (h : Gains k l s t) (n : Nat) :
    CondsAdd k l s ((t.nextPc (.sq k)).spend (.sq k) n) ∧ ((t.nextPc (.sq k)).spend (.sq k) n).pcOf (.sq k) = s.pcOf (.sq k) + 4 ∧
      ∀ r, ((t.nextPc (.sq k)).spend (.sq k) n).gr (.sq k) r = s.gr (.sq k) r := by
  have hpc : t.pcOf (.sq k) = s.pcOf (.sq k) := congrArg Core.pc h.core
  rw [← hpc]
  exact h.jumps (t.pcOf (.sq k) + 4) n

/-- Cycles counted change nothing that an instruction's completion speaks of. -/
theorem Completes.spend {k : Fin 12} {res : Option (Fin 32 × Word)} {l : List Nat} {s t : State} (h : Completes k res l s t) (n : Nat) :
    Completes k res l s (t.spend (.sq k) n) where
  done := by
    obtain ⟨hpc, hwait, hstall, hne, hgr⟩ := h.done
    exact ⟨by rw [State.pcOf_spend, hpc], by simpa using hwait, by simpa using hstall,
      fun j hj => (State.modSq_ne _ _ _ _ hj).trans (hne j hj), fun r => by rw [State.gr_spend, hgr]⟩
  conds i hi := by simpa using h.conds i hi

end Sys2Proof.Machine
end

section
/-!
PROOFS. Pages (R49, R103, R106, R107): how a page opens on its sequencer and in the scheduler, how it closes, and the three instructions that do it;
then the obligation PageEndpgSetport.
-/
namespace Sys2Proof.Machine

/-! ## Reports of pages -/

theorem State.reportOf_congr {s t : State} (h : t.fsch.reports = s.fsch.reports) (page : Word) : t.reportOf page = s.reportOf page := by
  rw [State.reportOf, State.reportOf, h]

section ModReport
variable {f : Report → Report} (hf : ∀ r, (f r).page = r.page)
include hf

theorem State.reportOf_modReport_same (s : State) (page : Word) : (s.modReport page f).reportOf page = (s.reportOf page).map f := by
  simp only [State.reportOf, State.modReport, List.find?_map]
  have hkey : (fun r : Report => decide (r.page = page)) ∘ (fun r => if r.page = page then f r else r) = fun r => decide (r.page = page) := by
    funext r
    by_cases h : r.page = page <;> simp [h, hf]
  rw [hkey]
  cases h : s.fsch.reports.find? (fun r => decide (r.page = page)) with
  | none => rfl
  | some r => simpa using fun hne => absurd (by simpa using List.find?_some h) hne

theorem State.reportOf_modReport_ne (s : State) {page g : Word} (hg : g ≠ page) : (s.modReport page f).reportOf g = s.reportOf g := by
  simp only [State.reportOf, State.modReport, List.find?_map]
  have hkey : (fun r : Report => decide (r.page = g)) ∘ (fun r => if r.page = page then f r else r) = fun r => decide (r.page = g) := by
    funext r
    by_cases h : r.page = page <;> simp [h, hf]
  rw [hkey]
  cases h : s.fsch.reports.find? (fun r => decide (r.page = g)) with
  | none => rfl
  | some r =>
    have hr : r.page = g := by simpa using List.find?_some h
    simp [hr, hg]

end ModReport

/-! ## A page taken by the ports of a set (R49) -/

/-- The page is among those of a port. -/
def State.OnPort (s : State) (page : Word) (p : Fin 48) : Prop := ∃ pg ∈ s.fsch.ports[p].pages, pg.page = page

/-- One port takes the page, if it has not had it. -/
def State.takePage (had : BitVec 48) (page : Word) (lines : Nat) (s : State) (p : Fin 48) : State :=
  if had.getLsbD p.val || s.fsch.ports[p].pages.any (fun q => decide (q.page = page)) then s
  else
    ((s.modPort p (fun f => { f with pages := f.pages ++ [{ page := page, lines := lines, next := 0, abortFrom := none, top := none }] })).modHp p
      (fun h => { h with svc := h.svc.map (fun v => if v.page = page then { v with seen := true } else v) })).noplanCheck p

/-- What opening a page leaves as it was: the sequencers, memory, and the pages that ports have. -/
structure PagesGrow (s t : State) : Prop where
  sqs : t.sqs = s.sqs
  mem : t.mem = s.mem
  reports : t.fsch.reports = s.fsch.reports
  ports : ∀ page p, s.OnPort page p → t.OnPort page p

namespace PagesGrow
variable {s t u : State}

theorem refl (s : State) : PagesGrow s s := ⟨rfl, rfl, rfl, fun _ _ h => h⟩

theorem trans (h : PagesGrow s t) (g : PagesGrow t u) : PagesGrow s u :=
  ⟨g.sqs.trans h.sqs, g.mem.trans h.mem, g.reports.trans h.reports, fun page p hp => g.ports page p (h.ports page p hp)⟩

theorem of_eq (hq : t.sqs = s.sqs) (hm : t.mem = s.mem) (hf : t.fsch = s.fsch) : PagesGrow s t :=
  ⟨hq, hm, by rw [hf], fun page p h => by rwa [State.OnPort, hf]⟩

theorem modPort (h : PagesGrow s t) {p : Fin 48} {f : PortFire → PortFire} (hf : ∀ x, ∀ pg ∈ x.pages, pg ∈ (f x).pages) :
    PagesGrow s (t.modPort p f) := by
  refine h.trans ⟨rfl, rfl, rfl, fun page r ⟨pg, hpg, he⟩ => ⟨pg, ?_, he⟩⟩
  by_cases hr : r = p
  · subst hr
    rw [State.modPort_same]
    exact hf _ pg hpg
  · rwa [State.modPort_ne _ _ _ _ hr]

theorem modHp (h : PagesGrow s t) {p : Fin 48} {f : HeadPort → HeadPort} : PagesGrow s (t.modHp p f) := h.trans (.of_eq rfl rfl rfl)

theorem noplanCheck (h : PagesGrow s t) (p : Fin 48) : PagesGrow s (t.noplanCheck p) := by
  refine h.trans ?_
  rw [State.noplanCheck]
  split
  · exact .refl t
  · rename_i q _ _
    have noted : PagesGrow t (t.modPort p (fun f => { f with noplan := some q.page })) := (PagesGrow.refl t).modPort fun _ _ h => h
    dsimp only
    split_ifs
    · exact noted.trans (.of_eq rfl rfl rfl)
    · exact noted.trans (.of_eq rfl rfl rfl)
    · exact .refl t

end PagesGrow

theorem State.takePage_pagesGrow (had : BitVec 48) (page : Word) (lines : Nat) (s : State) (p : Fin 48) :
    PagesGrow s (s.takePage had page lines p) := by
  rw [State.takePage]
  split_ifs
  · exact .refl s
  · refine .noplanCheck (.modHp (.modPort (.refl s) fun _ _ h => ?_)) p
    exact List.mem_append_left _ h

/-- A port that was not in the port set has the page afterwards. -/
theorem State.takePage_onPort {had : BitVec 48} {p : Fin 48} (h : had.getLsbD p.val = false) (page : Word) (lines : Nat) (s : State) :
    (s.takePage had page lines p).OnPort page p := by
  rw [State.takePage, h, Bool.false_or]
  split_ifs with hany
  · simpa [State.OnPort] using hany
  · refine (PagesGrow.noplanCheck (.refl _) p).ports page p ⟨⟨page, lines, 0, none, none⟩, ?_, rfl⟩
    simp [State.modHp]

theorem State.foldl_takePage_pagesGrow (had : BitVec 48) (page : Word) (lines : Nat) (l : List (Fin 48)) (s : State) :
    PagesGrow s (l.foldl (State.takePage had page lines) s) :=
  List.foldlRecOn l _ (motive := PagesGrow s) (.refl s) fun t ht p _ => ht.trans (State.takePage_pagesGrow had page lines t p)

theorem State.foldl_takePage_onPort {had : BitVec 48} {p : Fin 48} (h : had.getLsbD p.val = false) (page : Word) (lines : Nat)
    {l : List (Fin 48)} (hp : p ∈ l) (s : State) : (l.foldl (State.takePage had page lines) s).OnPort page p := by
  induction l generalizing s with
  | nil => simp at hp
  | cons r l ih =>
    rw [List.foldl_cons]
    obtain rfl | hp := List.mem_cons.mp hp
    · exact (State.foldl_takePage_pagesGrow had page lines l _).ports page p (State.takePage_onPort h page lines s)
    · exact ih hp _

/-! ## A new page opened in the scheduler (R49) -/

/-- The report that a new page opens with. -/
def State.newReport (s : State) (page : Word) (lines : Nat) (m : BitVec 48) : Report := {
  page := page, serial := s.fsch.serial, lines := lines, portSet := m, first := none, last := 0, resolved := 0, reprint := false,
  runsIncomplete := false, aborted := false, epochRefused := false, staleCal := false, epochs := 0,
  counts := Vector.replicate 14 0, marks := 0, crc := Vector.replicate 48 (BitVec.allOnes 64) }

/-- A page without a report opens one and is taken by the ports of its set. -/
theorem State.openPage_of_new {s : State} {page : Word} (h : s.reportOf page = none) (lines : Nat) (m : BitVec 48) :
    s.openPage page lines m = (portsOf m).foldl (State.takePage 0 page lines)
      { s with fsch := { s.fsch with reports := s.fsch.reports ++ [s.newReport page lines m], serial := s.fsch.serial + 1 } } := by
  simp only [State.openPage, h]
  rfl

section OpenPage
variable {s : State} {page : Word} (h : s.reportOf page = none) (lines : Nat) (m : BitVec 48)
include h

theorem State.openPage_sqs : (s.openPage page lines m).sqs = s.sqs := by
  rw [State.openPage_of_new h]
  exact (State.foldl_takePage_pagesGrow ..).sqs

theorem State.openPage_mem : (s.openPage page lines m).mem = s.mem := by
  rw [State.openPage_of_new h]
  exact (State.foldl_takePage_pagesGrow ..).mem

theorem State.reportOf_openPage : (s.openPage page lines m).reportOf page = some (s.newReport page lines m) := by
  rw [State.openPage_of_new h, State.reportOf_congr (State.foldl_takePage_pagesGrow ..).reports]
  simp only [State.reportOf] at h ⊢
  rw [List.find?_append, h]
  simp [State.newReport]

theorem State.openPage_onPort {p : Fin 48} (hp : m.getLsbD p.val = true) : (s.openPage page lines m).OnPort page p := by
  rw [State.openPage_of_new h]
  exact State.foldl_takePage_onPort (by simp) page lines (List.mem_filter.2 ⟨List.mem_finRange p, hp⟩) _

end OpenPage

/-- The lanes of a mask are ports of its port set. -/
theorem getLsbD_portMask (k : Fin 12) (m : BitVec 4) (j : Fin 4) : (portMask k m).getLsbD (portOf k j).val = m.getLsbD j.val := by
  have hlt : 4 * k.val + j.val < 48 := by omega
  rw [portMask, portOf, BitVec.getLsbD_ofNat, Nat.testBit_mul_two_pow, decide_eq_true hlt, decide_eq_true (Nat.le_add_right ..),
    Nat.add_sub_cancel_left]
  rfl

/-! ## The automatic commit (R287) -/

/-- What an automatic commit leaves as it was: of the reports it changes a count of epochs alone. -/
structure EpochOnly (page : Word) (s t : State) : Prop where
  sqs : t.sqs = s.sqs
  mem : t.mem = s.mem
  report : (t.reportOf page).map (fun r => (r.lines, r.portSet)) = (s.reportOf page).map (fun r => (r.lines, r.portSet))
  ports : t.fsch.ports = s.fsch.ports

/-- An accepted set counts in its page's report, and changes nothing else of the scheduler. -/
theorem State.csAccept_fsch (s : State) (page : Word) (line : Nat) :
    (s.csAccept page line).fsch = (s.modReport page (fun q => { q with epochs := q.epochs + 1 })).fsch := by
  simp [State.csAccept, State.setShadow, State.modReport]

theorem State.csAuto_epochOnly (s : State) (page : Word) : EpochOnly page s (s.csAuto page) := by
  rw [State.csAuto]
  split_ifs
  · have hfsch : ((s.csAccept page 0).set1 BOLT_STAT_AUTO_DONE).fsch = _ := State.csAccept_fsch s page 0
    refine ⟨by simp [State.csAccept, State.setShadow, State.modReport], by simp [State.csAccept, State.setShadow, State.modReport], ?_,
      by rw [hfsch]; rfl⟩
    rw [State.reportOf_congr (congrArg Fsch.reports hfsch), State.reportOf_modReport_same fun _ => by rfl, Option.map_map]
    rfl
  · exact ⟨rfl, rfl, rfl, rfl⟩

/-! ## PAGE (R103) -/

/-- A sequencer with a page opened on it, `n` in page order. -/
def Seq.opened (q : Seq) (page lines : Word) (mask : BitVec 4) (n : Nat) : Seq := { q with
  pageOpen := true, page := page, lines := lines, pmask := mask, am := mask, nextSeg := 0, arrival := none
  nb := q.nb.mapFinIdx (fun j n _ => if mask.getLsbD j then 0 else n)
  ldWsel := Vector.replicate 4 [], ldSw := Vector.replicate 4 [], seg := none, serial := n }

/-- What opening a page that has no report does. -/
structure OpensPage (k : Fin 12) (page lines : Word) (mask : BitVec 4) (s t : State) : Prop where
  own : ∃ n, t.sqs[k] = s.sqs[k].opened page lines mask n
  others : ∀ j ≠ k, t.sqs[j] = s.sqs[j]
  mem : t.mem = s.mem
  report : (t.reportOf page).map (fun r => (r.lines, r.portSet)) = some (lines.toNat, portMask k mask)
  ports : ∀ p : Fin 48, (portMask k mask).getLsbD p.val = true → t.OnPort page p

theorem OpensPage.gains {k : Fin 12} {page lines : Word} {mask : BitVec 4} {s t : State} (h : OpensPage k page lines mask s t) :
    Gains k [] s t := by
  obtain ⟨n, own⟩ := h.own
  exact ⟨by rw [own]; rfl, fun i _ => by rw [own]; simp [Seq.opened], h.others⟩

/-- A page without a report opens on its sequencer, then in the scheduler, and an automatic commit may follow. -/
theorem State.pageOpenAt_of_new {s : State} {page : Word} (h : s.reportOf page = none) (k : Fin 12) (lines : Word) (mask : BitVec 4) :
    let u := (s.modSq k (fun q => q.opened page lines mask q.serial)).openPage page lines.toNat (portMask k mask)
    ∃ (n : Nat) (b : Bolt), s.pageOpenAt k page lines mask = ({ u.modSq k (fun q => { q with serial := n }) with bolt := b } : State).csAuto page := by
  simp only [State.pageOpenAt, h, Option.isNone_none, if_true]
  exact ⟨_, _, rfl⟩

theorem State.pageOpenAt_opensPage {s : State} {page : Word} (h : s.reportOf page = none) (k : Fin 12) (lines : Word) (mask : BitVec 4) :
    OpensPage k page lines mask s (s.pageOpenAt k page lines mask) := by
  have hu : (s.modSq k (fun q => q.opened page lines mask q.serial)).reportOf page = none := h
  obtain ⟨n, b, hb⟩ := State.pageOpenAt_of_new h k lines mask
  rw [hb]
  obtain ⟨asqs, amem, areport, aports⟩ := State.csAuto_epochOnly _ page
  refine ⟨⟨n, ?_⟩, fun j hj => ?_, amem.trans (State.openPage_mem hu ..), ?_, fun p hp => ?_⟩
  · rw [asqs, State.modSq_same, State.openPage_sqs hu, State.modSq_same]
    rfl
  · rw [asqs, State.modSq_ne _ _ _ _ hj, State.openPage_sqs hu, State.modSq_ne _ _ _ _ hj]
  · rw [areport]
    exact congrArg (Option.map _) (State.reportOf_openPage hu ..)
  · rw [State.OnPort, aports]
    exact State.openPage_onPort hu _ _ hp

/-- A page that can be opened on no port, or on none of its lines, sets its conditions and stays closed. -/
theorem State.sqPage_of_refused {s : State} {k : Fin 12} {page lines : Word} {mask : BitVec 4} (hp : s.sqs[k].pageOpen = false)
    (hk : s.flag (SQ_CTRL_PARK_REQ k) = false) (h : lines = 0 ∨ mask = 0) :
    s.sqPage k page lines mask =
      ((s.modSq k (fun q => { q with resumed := none })).conds k [(decide (lines = 0), xRANGE), (decide (mask = 0), xMASK)]).fireDone k := by
  have hk' : (s.modSq k (fun q => { q with resumed := none })).flag (SQ_CTRL_PARK_REQ k) = false := hk
  simp only [State.sqPage, hp, hk', Bool.and_false, Bool.false_and, if_false, Bool.false_eq_true, false_or, h, if_true]
  rfl

/-- A page that no report is open for opens. -/
theorem State.sqPage_of_new {s : State} {k : Fin 12} {page lines : Word} {mask : BitVec 4} (hp : s.sqs[k].pageOpen = false)
    (hk : s.flag (SQ_CTRL_PARK_REQ k) = false) (hl : lines ≠ 0) (hm : mask ≠ 0) (hr : s.reportOf page = none) :
    s.sqPage k page lines mask = ((s.modSq k (fun q => { q with resumed := none })).pageOpenAt k page lines mask).fireDone k := by
  have hk' : (s.modSq k (fun q => { q with resumed := none })).flag (SQ_CTRL_PARK_REQ k) = false := hk
  have hr' : (s.modSq k (fun q => { q with resumed := none })).reportOf page = none := hr
  simp only [State.sqPage, hp, hk', hr', hl, hm, Bool.and_false, Bool.false_and, if_false, Bool.false_eq_true, false_or]

/-! ## A page closed (R97, R106) -/

/-- The mark of a line changes the scheduler alone. -/
theorem State.tbVoid_only_fsch (s : State) (p : Fin 48) (m : VoidMark) : s.tbVoid p m = { s with fsch := (s.tbVoid p m).fsch } := by
  simp only [State.tbVoid]
  split_ifs <;> rfl

/-- Marks change the scheduler alone. -/
theorem State.foldl_tbVoid_only_fsch (p : Fin 48) (l : List VoidMark) (s : State) :
    l.foldl (fun s v => s.tbVoid p v) s = { s with fsch := (l.foldl (fun s v => s.tbVoid p v) s).fsch } :=
  List.foldlRecOn l _ (motive := fun t : State => t = { s with fsch := t.fsch }) rfl fun t ht m _ => by
    rw [State.tbVoid_only_fsch t p m, ht]

/-- A sequencer after its page has closed: no build, no open segment, and of the page's lines only the committed ones. -/
def Seq.closed (q : Seq) : Seq := { q with
  pageOpen := false, seg := none, builds := []
  fifo := q.fifo.map (fun l => l.filter (fun e => !decide (e.page = q.page) || e.committed)) }

/-- An open page closes: what is left of its segment, then the sequencer, then the marks in the scheduler. -/
theorem State.closePage_of_open {s : State} {k : Fin 12} (h : s.sqs[k].pageOpen = true) :
    s.closePage k = { (s.dropSeg k).modSq k Seq.closed with fsch := (s.closePage k).fsch } := by
  have hmarks (l : List (Fin 4 × List VoidMark)) (u : State) :
      l.foldl (fun s m => m.2.foldl (fun s v => s.tbVoid (portOf k m.1) v) s) u =
        { u with fsch := (l.foldl (fun s m => m.2.foldl (fun s v => s.tbVoid (portOf k m.1) v) s) u).fsch } :=
    List.foldlRecOn l _ (motive := fun t : State => t = { u with fsch := t.fsch }) rfl fun t ht m _ => by
      rw [State.foldl_tbVoid_only_fsch, ht]
  simp only [State.closePage, h, if_true]
  exact hmarks _ _

section ClosePage
variable {s : State} {k : Fin 12} (h : s.sqs[k].pageOpen = true)
include h

theorem State.closePage_sqs : (s.closePage k).sqs = ((s.dropSeg k).modSq k Seq.closed).sqs := by rw [State.closePage_of_open h]

theorem State.closePage_frame : s.closePage k = { s.dropSeg k with sqs := (s.closePage k).sqs, fsch := (s.closePage k).fsch } := by
  rw [State.closePage_of_open h]
  rfl

end ClosePage

/-- With no segment open there is nothing to drop. -/
theorem State.dropSeg_of_none {s : State} {k : Fin 12} (h : s.sqs[k].seg = none) : s.dropSeg k = s := by
  rw [State.dropSeg, h]

/-! ## ENDPG and SETPORT (R106, R107) -/

section Endpg
variable {s : State} {k : Fin 12} (hb : s.sqs[k].builds = [])
include hb

theorem State.sqEndpg_of_closed (hp : s.sqs[k].pageOpen = false) : s.sqEndpg k = (s.cond k xPAGE_STATE).fireDone k := by
  simp [State.sqEndpg, -Fin.getElem_fin, hb, hp]

theorem State.sqEndpg_of_no_seg (hp : s.sqs[k].pageOpen = true) (hg : s.sqs[k].seg = none) : s.sqEndpg k = (s.closePage k).fireDone k := by
  simp [State.sqEndpg, State.discardSeg, State.afterVerdict, -Fin.getElem_fin, hb, hp, hg]

end Endpg

theorem State.sqSetport_of_closed {s : State} {k : Fin 12} (hp : s.sqs[k].pageOpen = false) (mask : BitVec 4) :
    s.sqSetport k mask = (s.cond k xPAGE_STATE).fireDone k := by
  simp [State.sqSetport, -Fin.getElem_fin, hp]

section Setport
variable {s : State} {k : Fin 12} {mask : BitVec 4} (hp : s.sqs[k].pageOpen = true)
include hp

theorem State.sqSetport_of_bad_mask (h : ¬ (mask ≠ 0 ∧ mask &&& ~~~ s.sqs[k].pmask = 0)) :
    s.sqSetport k mask = (s.cond k xMASK).fireDone k := by
  have hbad : mask = 0 ∨ mask &&& ~~~ s.sqs[k].pmask ≠ 0 := by tauto
  simp only [State.sqSetport, hp, Bool.not_true, Bool.false_eq_true, if_false, hbad, if_true]

theorem State.sqSetport_of_mask (h0 : mask ≠ 0) (h : mask &&& ~~~ s.sqs[k].pmask = 0) :
    s.sqSetport k mask = (s.modSq k (fun q => { q with am := mask })).fireDone k := by
  simp only [State.sqSetport, hp, Bool.not_true, Bool.false_eq_true, if_false, h0, h, ne_eq, not_true, or_self]

end Setport

/-- Two conditions of which each may apply. -/
theorem map_filter_pair (p q : Prop) [Decidable p] [Decidable q] (a b : Nat) :
    ([(decide p, a), (decide q, b)].filter (·.1)).map (·.2) = (if p then [a] else []) ++ (if q then [b] else []) := by
  by_cases hp : p <;> by_cases hq : q <;> simp [hp, hq]

/-! ## The obligation -/

/-- Settles O16: each of the three instructions by the case it is in, through what opening and closing a page do. -/
theorem pageEndpgSetport : Obligations.PageEndpgSetport := by
  unfold Obligations.PageEndpgSetport
  intro k ra rb mask s u
  refine ⟨fun hx hp hk => ⟨fun hl hm hr => ?opens, fun h => ?refused⟩, fun hx hp hb hg => ?closes, fun hx hp hb => ?noPage, fun hx => ?setport⟩
  case opens =>
    refine answers_fire hx (a := execPage (.sq k) ra rb mask s) rfl rfl ?_
    rw [State.sqPage_of_new hp hk hl hm hr]
    have opens := State.pageOpenAt_opensPage (s := u.modSq k (fun q => { q with resumed := none })) hr k (u.gr (.sq k) rb) mask
    generalize State.pageOpenAt (u.modSq k (fun q => { q with resumed := none })) k (u.gr (.sq k) ra) (u.gr (.sq k) rb) mask = v at opens ⊢
    obtain ⟨done, conds⟩ := ((Gains.refl k u).modSq.trans opens.gains).fireDone.spend 4
    obtain ⟨n, own⟩ := opens.own
    simp only [Fin.getElem_fin, State.modSq_at] at own
    refine ⟨done, ?_, ?_, ?_, ?_, ?_, ?_, fun j => ?_, ?_, opens.report, fun j hj => opens.ports _ (by rwa [getLsbD_portMask]), conds,
      fun b => congrArg (fun m => m.get memDefault b) opens.mem⟩
    all_goals simp [own, Seq.opened]
  case refused =>
    refine answers_fire hx (a := execPage (.sq k) ra rb mask s) rfl rfl ?_
    rw [State.sqPage_of_refused hp hk h]
    obtain ⟨done, conds⟩ := ((Gains.refl k u).modSq (f := fun q => { q with resumed := none })).condList
      [(decide (u.gr (.sq k) rb = 0), xRANGE), (decide (mask = 0), xMASK)] |>.fireDone.spend 4
    refine ⟨done, by simpa using hp, ?_, (((OnlySqs.refl u).modSq ..).conds ..).fireDone k |>.spend k 4⟩
    rwa [List.nil_append, map_filter_pair] at conds
  case closes =>
    refine answers_fire hx (a := execEndpg (.sq k) s) rfl rfl ?_
    rw [State.sqEndpg_of_no_seg hb hp hg]
    have hsqs := State.closePage_sqs hp
    have hframe := State.closePage_frame hp
    rw [State.dropSeg_of_none hg] at hsqs hframe
    generalize u.closePage k = v at hsqs hframe ⊢
    obtain ⟨done, conds⟩ := (((Gains.refl k u).modSq (f := Seq.closed)).sqs_eq hsqs).fireDone.spend 2
    refine ⟨done, ?_, fun j => ?_, conds, ?_⟩
    · simp [hsqs, Seq.closed]
    · simp [hsqs, Seq.closed]
    · rw [hframe]
      rfl
  case noPage =>
    refine answers_fire hx (a := execEndpg (.sq k) s) rfl rfl ?_
    rw [State.sqEndpg_of_closed hb hp]
    obtain ⟨done, conds⟩ := (Gains.refl k u).cond.fireDone.spend 2
    exact ⟨done, conds, (((OnlySqs.refl u).cond ..).fireDone k).spend k 2⟩
  case setport =>
    refine answers_fire hx (a := execSetport (.sq k) mask s) rfl rfl ?_
    cases hp : u.sqs[k].pageOpen with
    | false =>
      rw [State.sqSetport_of_closed hp]
      obtain ⟨done, conds⟩ := (Gains.refl k u).cond.fireDone.spend 1
      exact ⟨done, (((OnlySqs.refl u).cond ..).fireDone k).spend k 1, fun h => absurd h.1 (by simp), fun _ => ⟨by simp, conds⟩⟩
    | true =>
      by_cases hm : mask ≠ 0 ∧ mask &&& ~~~ u.sqs[k].pmask = 0
      · rw [State.sqSetport_of_mask hp hm.1 hm.2]
        obtain ⟨done, conds⟩ := ((Gains.refl k u).modSq (f := fun q => { q with am := mask })).fireDone.spend 1
        exact ⟨done, ((OnlySqs.refl u).modSq ..).fireDone k |>.spend k 1, fun _ => ⟨by simp, conds⟩, fun h => absurd ⟨rfl, hm⟩ h⟩
      · rw [State.sqSetport_of_bad_mask hp hm]
        obtain ⟨done, conds⟩ := (Gains.refl k u).cond.fireDone.spend 1
        exact ⟨done, (((OnlySqs.refl u).cond ..).fireDone k).spend k 1, fun h => absurd h.2 hm, fun _ => ⟨by simp, conds⟩⟩

end Sys2Proof.Machine
end

section
/-!
PROOFS. Streams (R104, R105): the open segment discarded, and the header of the next container taken or skipped; then the obligation
StreamAndHeader.
-/
namespace Sys2Proof.Machine

/-! ## STREAM (R105) -/

theorem State.sqStream_of_open {s : State} {k : Fin 12} (hb : s.sqs[k].builds = []) (hp : s.sqs[k].pageOpen = true) (rd : Fin 32) (id : Word) :
    s.sqStream k rd id = (s.modSq k (fun q => { q with streamId := id.setWidth 16 })).discardSeg k (some (rd, id)) := by
  simp [State.sqStream, -Fin.getElem_fin, hb, hp]

/-- The bytes of the open segment that no build has consumed. -/
def Seq.left (q : Seq) : List Byte :=
  match q.seg with
  | some g => g.data
  | none => []

/-- The open segment's bytes discarded: RESIDUE where there are any (R105, R106). -/
def State.residue (s : State) (k : Fin 12) : State :=
  if s.sqs[k].left.isEmpty then s else (s.modSeg k (fun g => { g with data := [] })).cond k xRESIDUE

theorem State.residue_gains (s : State) (k : Fin 12) : Gains k (if s.sqs[k].left.isEmpty then [] else [xRESIDUE]) s (s.residue k) := by
  rw [State.residue]
  split_ifs
  · exact .refl k s
  · exact (Gains.refl k s).modSq.cond

theorem State.residue_onlySqs (s : State) (k : Fin 12) : OnlySqs s (s.residue k) := by
  rw [State.residue]
  split_ifs
  · exact .refl s
  · exact ((OnlySqs.refl s).modSq ..).cond ..

theorem State.residue_streamId (s : State) (k : Fin 12) : (s.residue k).sqs[k].streamId = s.sqs[k].streamId := by
  rw [State.residue]
  split_ifs <;> simp [State.modSeg]

/-- A segment whose verdict is PASS, or none, leaves nothing but the RESIDUE of its bytes (R105). -/
theorem State.discardSeg_of_passed {s : State} {k : Fin 12} (h : ∀ g, s.sqs[k].seg = some g → g.verdict = some .pass)
    (stream : Option (Fin 32 × Word)) : s.discardSeg k stream = (s.residue k).afterVerdict k stream := by
  cases hg : s.sqs[k].seg with
  | none => simp only [State.discardSeg, State.residue, Seq.left, hg, List.isEmpty_nil, if_true]
  | some g => simp only [State.discardSeg, State.residue, Seq.left, hg, h g hg, State.takeVerdict]

/-! ## The next container (R105, R253) -/

/-- A container opened or skipped by its sink is no change of a sequencer. -/
theorem State.contTaken_sqs (s : State) (e : Fin 16) (skip : Bool) : (s.contTaken e skip).sqs = s.sqs := by
  simp only [State.contTaken]
  split <;> rfl

/-- The segment that a container opens. -/
def Cont.toSeg (c : Cont) (e : Fin 16) : OpenSeg :=
  { eng := e, index := c.index, page := c.page, number := c.segment, data := c.data, verdict := none, bad := false, seen := false }

section Header
variable {s : State} {k : Fin 12} {rd : Fin 32} {id : Word} {e : Fin 16} {c : Cont} (hw : s.sqs[k].wait = .header rd id)
  (hf : s.feeder k = some e) (hc : s.engines[e].nextCont = some c) (hbad : c.hdrBad = false) (ha : s.sqs[k].lastAborted ≠ some c.page)
include hw hf hc hbad ha

/-- The header of a container of another page or stream is skipped. -/
theorem State.sqHeader_of_other (h : c.page ≠ s.sqs[k].page ∨ c.stream.setWidth 32 ≠ id) :
    s.sqHeader k = ((s.contTaken e true).cond k xHDR).fireResult k rd 0 := by
  simp only [State.sqHeader, hw, hf, hc, hbad, ha, h, Bool.false_eq_true, if_false, if_true]

/-- A container of the page and the stream opens its segment. -/
theorem State.sqHeader_of_match (hp : c.page = s.sqs[k].page) (hs : c.stream.setWidth 32 = id) :
    let t := (s.contTaken e false).modSq k (fun q => { q with seg := some (c.toSeg e), nextSeg := BitVec.ofNat 24 (c.segment + 1) })
    s.sqHeader k = (if s.sqs[k].nextSeg = BitVec.ofNat 24 c.segment then t else t.cond k xSEQ).fireResult k rd (c.segment * 256 + c.lines) := by
  have h : ¬ (c.page ≠ s.sqs[k].page ∨ c.stream.setWidth 32 ≠ id) := by tauto
  simp only [State.sqHeader, hw, hf, hc, hbad, ha, h, Bool.false_eq_true, if_false]
  rfl

end Header

/-! ## The obligation -/

/-- Settles O17: STREAM by what discarding its segment leaves, the header by the container's page and stream. -/
theorem streamAndHeader : Obligations.StreamAndHeader := by
  unfold Obligations.StreamAndHeader
  intro k rd ra s u
  refine ⟨?stream, fun id e c hw hf hc hbad ha => ⟨fun hpage hid => ?opens, fun h => ?skipped⟩⟩
  case stream =>
    intro hx hb hp left hv
    refine answers_fire hx (a := execStream (.sq k) rd ra s) rfl rfl ?_
    rw [State.sqStream_of_open hb hp]
    set v := u.modSq k (fun q => { q with streamId := (u.gr (.sq k) ra).setWidth 16 }) with hvdef
    have gain : Gains k [] u v := (Gains.refl k u).modSq
    have only : OnlySqs u v := (OnlySqs.refl u).modSq ..
    have hid : v.sqs[k].streamId = (u.gr (.sq k) ra).setWidth 16 := by rw [hvdef, State.modSq_same]
    have hseg : v.sqs[k].seg = u.sqs[k].seg := by rw [hvdef, State.modSq_same]
    have hleft : v.sqs[k].left = left := (show v.sqs[k].left = u.sqs[k].left by rw [Seq.left, Seq.left, hseg]).trans rfl
    rw [State.discardSeg_of_passed (by rwa [hseg])]
    obtain ⟨conds, pc, gr⟩ := ((gain.trans (v.residue_gains k)).modSq
      (f := fun q => { q with seg := none, wait := .header rd (u.gr (.sq k) ra), stall := 0 })).waits 2
    rw [hleft] at conds
    refine ⟨?_, ?_, ?_, conds, pc, gr, ((only.trans (v.residue_onlySqs k)).modSq ..).spend ..⟩
    · rw [← hid, ← v.residue_streamId k]
      simp [State.afterVerdict]
    · simp [State.afterVerdict]
    · simp [State.afterVerdict]
  case opens =>
    refine ⟨_, (congrArg Host.Outcome.next (State.sqHeader_of_match hw hf hc hbad ha hpage hid)), ?_⟩
    have gain : Gains k [] s (s.contTaken e false) := .of_sqs_eq (State.contTaken_sqs ..)
    have opened := gain.modSq (f := fun q => { q with seg := some (c.toSeg e), nextSeg := BitVec.ofNat 24 (c.segment + 1) })
    by_cases hseq : s.sqs[k].nextSeg = BitVec.ofNat 24 c.segment
    · rw [if_pos hseq, if_pos hseq]
      obtain ⟨done, conds⟩ := opened.fireResult rd (c.segment * 256 + c.lines)
      exact ⟨done, by simp [Cont.toSeg], by simp, conds⟩
    · rw [if_neg hseq, if_neg hseq]
      obtain ⟨done, conds⟩ := opened.cond.fireResult rd (c.segment * 256 + c.lines)
      exact ⟨done, by simp [Cont.toSeg], by simp, conds⟩
  case skipped =>
    refine ⟨_, (congrArg Host.Outcome.next (State.sqHeader_of_other hw hf hc hbad ha h)), ?_⟩
    have gain : Gains k [] s (s.contTaken e true) := .of_sqs_eq (State.contTaken_sqs ..)
    obtain ⟨done, conds⟩ := gain.cond.fireResult rd 0
    exact ⟨done, by simp [State.contTaken_sqs], by simp [State.contTaken_sqs], conds⟩

end Sys2Proof.Machine
end

section
/-!
PROOFS. The builder's queue (R109 to R113, R123): a build that enters it, is refused, or waits for room, the same for the three build instructions;
then the obligation BuildsEnterTheQueue.
-/
namespace Sys2Proof.Machine

/-! ## A line in work (R124) -/

/-- While the head build has a line in work the builder ends no build. -/
theorem State.settle_of_busy {s : State} {k : Fin 12} {h : BuildOp} {l : List BuildOp} (hb : s.sqs[k].builds = h :: l) (hr : h.rest ≠ []) :
    s.settle k = s := by
  have hr' : h.rest.isEmpty = false := by simpa using hr
  rw [State.settle, State.builderSettle]
  simp only [hb, hr', Bool.not_false, if_true]

/-! ## A build issued (R123) -/

section BuildIssue
variable {s : State} {k : Fin 12} {b : BuildOp}

theorem State.buildIssue_of_full (h : 4 ≤ s.sqs[k].builds.length) : s.buildIssue k b = s.stallSq k 4 := by
  simp only [State.buildIssue, h, if_true]

theorem State.buildIssue_of_closed (h : s.sqs[k].builds.length < 4) (hp : s.sqs[k].pageOpen = false) :
    s.buildIssue k b = (s.cond k xPAGE_STATE).fireResult k b.rd 0 := by
  simp only [State.buildIssue, Nat.not_le.2 h, hp, Bool.not_false, if_true, if_false]

/-- A build queued behind one with a line in work. -/
theorem State.buildIssue_of_busy {h : BuildOp} {l : List BuildOp} (hb : s.sqs[k].builds = h :: l) (hr : h.rest ≠ []) (hl : l.length < 3)
    (hp : s.sqs[k].pageOpen = true) :
    s.buildIssue k b =
      (s.modSq k (fun q => { q with builds := q.builds ++ [{ b with am := q.am }], stall := 0 })).nextPc (sqCore k) := by
  have hlen : ¬ 4 ≤ s.sqs[k].builds.length := by
    rw [hb, List.length_cons]
    omega
  simp only [State.buildIssue, hlen, hp, Bool.not_true, Bool.false_eq_true, if_false]
  refine State.settle_of_busy (h := h) (l := l ++ [{ b with am := s.sqs[k].am }]) ?_ hr
  simp [State.nextPc, sqCore, State.modCore, -Fin.getElem_fin, State.modSq_same, hb]

end BuildIssue

/-- What an instruction that issues the build `b` does, by the state of the queue and of the page. -/
theorem answers_buildIssue {s u : State} {k : Fin 12} {i : Instr} {b : BuildOp}
    (h : ∀ P : State → Prop, P ((u.buildIssue k b).spend (.sq k) 1) → Answers i s P) :
    let q := u.sqs[k]
    (∀ h l, q.builds = h :: l → h.rest ≠ [] → l.length < 3 → q.pageOpen = true → Answers i s (fun t =>
      t.sqs[k].builds = q.builds ++ [{ b with am := q.am }] ∧ t.pcOf (.sq k) = u.pcOf (.sq k) + 4 ∧ t.sqs[k].stall = 0 ∧
      (∀ r, t.gr (.sq k) r = u.gr (.sq k) r) ∧ CondsAdd k [] u t ∧ OnlySqs u t)) ∧
    (q.builds = [] → q.pageOpen = false → Answers i s (fun t =>
      SqDone k (some (b.rd, 0)) u t ∧ CondsAdd k [xPAGE_STATE] u t ∧ OnlySqs u t)) ∧
    (q.builds.length = 4 → Answers i s (fun t =>
      t.sqs[k].stall = 4 ∧ t.sqs[k].builds = q.builds ∧ t.pcOf (.sq k) = u.pcOf (.sq k) ∧ (∀ r, t.gr (.sq k) r = u.gr (.sq k) r) ∧ OnlySqs u t)) := by
  refine ⟨fun hd l hb hr hl hp => h _ ?queued, fun hb hp => h _ ?closed, fun hlen => h _ ?full⟩
  case queued =>
    rw [State.buildIssue_of_busy hb hr hl hp]
    obtain ⟨conds, pc, gr⟩ := ((Gains.refl k u).modSq
      (f := fun q => { q with builds := q.builds ++ [{ b with am := q.am }], stall := 0 })).moves 1
    refine ⟨?_, pc, ?_, gr, conds, (((OnlySqs.refl u).modSq ..).nextPc k).spend ..⟩
    · simp [State.nextPc, sqCore, State.modCore]
    · simp [State.nextPc, sqCore, State.modCore]
  case closed =>
    rw [State.buildIssue_of_closed (by rw [hb]; decide) hp]
    obtain ⟨done, conds⟩ := ((Gains.refl k u).cond.fireResult b.rd 0).spend 1
    exact ⟨done, conds, ((OnlySqs.refl u).cond ..).fireResult .. |>.spend ..⟩
  case full =>
    rw [State.buildIssue_of_full hlen.ge]
    obtain ⟨-, pc, gr⟩ := ((Gains.refl k u).modSq (f := fun q => { q with stall := 4, stallExt := true })).waits 1
    exact ⟨by simp [State.stallSq], by simp [State.stallSq], pc, gr, ((OnlySqs.refl u).modSq ..).spend ..⟩

/-! ## The obligation -/

/-- Settles O18: the three instructions issue a build alike; PATT takes its four parameters from the fields of one register. -/
theorem buildsEnterTheQueue : Obligations.BuildsEnterTheQueue := by
  unfold Obligations.BuildsEnterTheQueue
  intro k rd ra rb level s u hx q a b n op p hp
  simp only [List.mem_cons, List.not_mem_nil, or_false] at hp
  obtain rfl | rfl | rfl := hp
  · exact answers_buildIssue fun P hP => answers_fire hx (a := execBuildn (.sq k) rd ra rb s) rfl rfl hP
  · exact answers_buildIssue fun P hP => answers_fire hx (a := execFill (.sq k) rd ra rb level s) rfl rfl hP
  · exact answers_buildIssue fun P hP => answers_fire hx (a := execPatt (.sq k) rd ra rb s) rfl rfl hP

end Sys2Proof.Machine
end

section
/-!
PROOFS. A port-line built (R110, R114, R124): the last port-line of a line placed in its FIFO, NB moved on, and the builder brought up to date with
lines left to build; then the obligation PortLineBuiltIsPlaced.
-/
namespace Sys2Proof.Machine

/-! ## The builder with lines left (R109, R111) -/

/-- A FILL or PATT with lines left and room on every lane has a next line. -/
theorem State.buildNext_of_room {s : State} {k : Fin 12} {b : BuildOp} (hd : b.done < b.count) (hk : b.kind ≠ .stream)
    (h : ∀ j : Fin 4, s.sqs[k].fifo[j].length < 64) : s.buildNext k b = .line := by
  have hroom (j : Fin 4) : ¬ 64 ≤ s.sqs[k].fifo[j].length := Nat.not_le.2 (h j)
  simp only [State.buildNext, Nat.not_le.2 hd, hroom, decide_false, Bool.false_and, List.any_eq_true, Bool.false_eq_true, and_false, exists_false,
    if_false, hk, ne_eq, not_false_eq_true, if_true]

/-- A checked build with a line to start stays at the head of the queue. -/
theorem State.settle_of_line {s : State} {k : Fin 12} {b : BuildOp} {l : List BuildOp} (hb : s.sqs[k].builds = b :: l) (hr : b.rest = [])
    (hc : b.checked = true) (hn : (s.modBuild k (fun b => { b with checked := true })).buildNext k b = .line) :
    s.settle k = s.modBuild k (fun b => { b with checked := true }) := by
  rw [State.settle, State.builderSettle]
  simp only [hb, hr, hc, hn, List.isEmpty_nil, Bool.not_true, Bool.false_and, Bool.false_eq_true, if_false]

/-! ## A port-line placed (R114, R124) -/

/-- The last port-line of the head build's line is placed, the line counts as built, and NB moves past it on the build's ports (R110). -/
theorem State.builderStep_of_last {s : State} {k : Fin 12} {b : BuildOp} {l : List BuildOp} {x : BuiltLine} (hb : s.sqs[k].builds = b :: l)
    (hr : b.rest = [x]) (hp : s.canPlace k x = true) :
    s.builderStep k = (((s.placeLine k b x).modBuild k (fun b => { b with rest := [], done := b.done + 1 })).modSq k (fun q => { q with
      nb := q.nb.mapFinIdx (fun j n _ => if b.am.getLsbD j then b.first + b.done + 1 else n) })).settle k := by
  have hs : s.settle k = s := State.settle_of_busy hb (by simp [hr])
  simp only [State.builderStep, hs, hb, hr, hp, List.isEmpty_cons, List.isEmpty_nil, Bool.false_and, Bool.false_eq_true, if_false, if_true]

/-- What a port-line that is placed puts into its FIFO: not a line of a stream, and before its deadline. -/
structure PlacedEntry (page : Word) (b : BuildOp) (x : BuiltLine) (e : Entry) : Prop where
  page : e.page = page
  line : e.line = b.first + b.done
  kind : e.kind = b.kind
  levels : e.levels = x.levels
  committed : e.committed = false
  expired : e.expired = false
  released : e.released = true
  bad : e.bad = x.bad

/-- Off the fall-back path a port-line goes to the end of its FIFO. -/
theorem State.placeLine_of_direct {s : State} {k : Fin 12} {b : BuildOp} {x : BuiltLine} (hf : s.fallback k x.lane = false) (hk : b.kind ≠ .stream)
    (hd : s.deadlinePast (portOf k x.lane) s.sqs[k].page (b.first + b.done) = false) :
    ∃ e, PlacedEntry s.sqs[k].page b x e ∧ s.placeLine k b x = s.modSq k (fun q => q.setFifo x.lane (q.fifo[x.lane] ++ [e])) := by
  simp only [State.placeLine, hf, hd, Bool.false_and, Bool.false_eq_true, if_false]
  refine ⟨_, ?_, rfl⟩
  constructor <;> simp [hk]

/-- A sequencer after the last port-line `x` of the head build's line has been placed as `e`: the build has one line more, with `more` behind it. -/
def Seq.lineBuilt (b : BuildOp) (more : List BuildOp) (x : BuiltLine) (e : Entry) (q : Seq) : Seq := { q.setFifo x.lane (q.fifo[x.lane] ++ [e]) with
  builds := { b with rest := [], done := b.done + 1 } :: more
  nb := q.nb.mapFinIdx (fun j n _ => if b.am.getLsbD j then b.first + b.done + 1 else n) }

theorem Seq.length_fifo_lineBuilt {b : BuildOp} {more : List BuildOp} {x : BuiltLine} {e : Entry} {q : Seq} (hx : q.fifo[x.lane].length < 63)
    (h : ∀ j : Fin 4, j ≠ x.lane → q.fifo[j].length < 64) (j : Fin 4) : (q.lineBuilt b more x e).fifo[j].length < 64 := by
  simp only [Seq.lineBuilt, Seq.setFifo]
  by_cases hj : j = x.lane
  · subst hj
    rw [vset_same, List.length_append, List.length_singleton]
    omega
  · rw [vset_ne _ _ _ _ hj]
    exact h j hj

/-- The builder places the last port-line of a line and is left with the build's next line to start. -/
theorem State.builderStep_lineBuilt {s : State} {k : Fin 12} {b : BuildOp} {more : List BuildOp} {x : BuiltLine} {e : Entry}
    (hb : s.sqs[k].builds = b :: more) (hr : b.rest = [x]) (hdone : b.done + 1 < b.count) (hc : b.checked = true) (hk : b.kind ≠ .stream)
    (hcan : s.canPlace k x = true) (hplace : s.placeLine k b x = s.modSq k (fun q => q.setFifo x.lane (q.fifo[x.lane] ++ [e])))
    (hx : s.sqs[k].fifo[x.lane].length < 63) (hroom : ∀ j : Fin 4, j ≠ x.lane → s.sqs[k].fifo[j].length < 64) :
    s.builderStep k = s.modSq k (Seq.lineBuilt b more x e) := by
  set u := s.modSq k (Seq.lineBuilt b more x e)
  have hown : u.sqs[k] = s.sqs[k].lineBuilt b more x e := State.modSq_same ..
  have hchecked : u.modBuild k (fun b => { b with checked := true }) = u := by
    refine State.modSq_of_fixed ?_
    rw [hown]
    simp only [Seq.lineBuilt, hc]
  have hline : u.buildNext k { b with rest := [], done := b.done + 1 } = .line :=
    State.buildNext_of_room hdone hk (by simpa only [hown] using Seq.length_fifo_lineBuilt hx hroom)
  have hsettle : u.settle k = u := by
    rw [State.settle_of_line (b := { b with rest := [], done := b.done + 1 }) (l := more) (by rw [hown]; rfl) rfl hc (by rwa [hchecked]), hchecked]
  rw [State.builderStep_of_last hb hr hcan, hplace, State.modBuild, State.modSq_modSq, State.modSq_modSq]
  refine Eq.trans (congrArg (State.settle · k) (State.modSq_congr ?_)) hsettle
  simp only [Seq.setFifo, Seq.lineBuilt, hb]

/-! ## The obligation -/

/-- Settles O19: the port-line enters its FIFO, NB moves on, and as lines are left and no FIFO is full the builder only waits for the next. -/
theorem portLineBuiltIsPlaced : Obligations.PortLineBuiltIsPlaced := by
  unfold Obligations.PortLineBuiltIsPlaced
  intro k s b more x q hb hr hdone hc hf hw hx hd hroom hk
  have hcan : s.canPlace k x = true := by simp [State.canPlace, hf]
  obtain ⟨e, entry, hplace⟩ := State.placeLine_of_direct hf hk hd
  have hstep := State.builderStep_lineBuilt hb hr hdone hc hk hcan hplace hx hroom
  have hexec : exec (.portLineBuilt k) s = .next (s.modSq k (Seq.lineBuilt b more x e)) := by
    change Host.Outcome.next ((s.builderStep k).fbStart k) = _
    rw [hstep, State.fbStart, State.modSq_same, Seq.lineBuilt]
    simp only [Seq.setFifo, show s.sqs[k].fbWait = [] from hw]
  have gain : Gains k [] s (s.modSq k (Seq.lineBuilt b more x e)) := (Gains.refl k s).modSq
  refine ⟨_, hexec, ?_⟩
  dsimp only
  rw [State.modSq_same]
  refine ⟨⟨e, vset_same .., entry.page, entry.line, entry.kind, entry.levels, entry.committed, entry.expired, entry.released, entry.bad⟩,
    fun j hj => vset_ne _ _ _ _ hj, fun j => ?_, ⟨_, rfl, rfl, rfl⟩, gain.conds, fun _ => rfl, gain.others⟩
  simp [Seq.lineBuilt, q]

end Sys2Proof.Machine
end

section
/-!
PROOFS. COMMIT and VOID (R115 to R117): the entry that a commit marks, the line that a void passes over, and what the two instructions do with a range of
one line; then the obligation CommitAndVoid.
-/
namespace Sys2Proof.Machine

/-! ## One lane (R100, R107) -/

theorem lanes_single (j : Fin 4) : lanes (BitVec.ofNat 4 (2 ^ j.val)) = [j] := by
  revert j
  decide

/-- A place of a vector replaced by what it holds. -/
theorem vset_self {α : Type} {n : Nat} (v : Vector α n) (i : Fin n) : vset v i v[i] = v := by
  simp [vset]

/-! ## A line committed (R115, R116) -/

/-- What a commit of a line makes of a FIFO entry: its own is marked, or leaves where it has expired. -/
def commitEntry (page : Word) (line : Nat) (e : Entry) : Option Entry :=
  if e.page = page ∧ e.line = line ∧ e.committed = false then (if e.expired then none else some { e with committed := true }) else some e

section CommitEntry
variable {page : Word} {line : Nat} {l : List Entry}

theorem committed_of_mem_filterMap {x : Entry} (hx : x ∈ l.filterMap (commitEntry page line)) (hp : x.page = page) (hl : x.line = line) :
    x.committed = true := by
  obtain ⟨e, -, he⟩ := List.mem_filterMap.1 hx
  rw [commitEntry] at he
  split_ifs at he with hown hexp
  · cases he
    rfl
  · cases he
    simpa [hp, hl] using hown

theorem mem_filterMap_commitEntry {e : Entry} (h : e ∈ l) (hp : e.page = page) (hl : e.line = line) (hc : e.committed = false)
    (hx : e.expired = false) : { e with committed := true } ∈ l.filterMap (commitEntry page line) :=
  List.mem_filterMap.2 ⟨e, h, by simp [commitEntry, hp, hl, hc, hx]⟩

end CommitEntry

/-- The oldest entry not yet committed is in its FIFO and is not committed. -/
theorem Seq.mem_of_oldestOpen {q : Seq} {j : Fin 4} {e : Entry} (h : q.oldestOpen j = some e) : e ∈ q.fifo[j] ∧ e.committed = false :=
  ⟨List.mem_of_find?_eq_some h, by simpa using List.find?_some h⟩

section CommitLine
variable {s : State} {k : Fin 12} {j : Fin 4} {line : Nat} {e : Entry} (ham : lanes s.sqs[k].am = [j]) (ho : s.sqs[k].oldestOpen j = some e)
include ham ho

/-- A commit of the oldest open line of a single lane. -/
theorem State.commitLine_of_oldest (he : e.line = line) :
    s.commitLine k line =
      some (((s.modSq k (fun q => q.setFifo j (q.fifo[j].filterMap (commitEntry s.sqs[k].page line)))).toTb
        (.commit (portOf k j) s.sqs[k].page line)).modSq k (fun q => { q with lastCommitted := line })) := by
  simp only [State.commitLine, ham, ho, he, List.all_cons, List.all_nil, decide_true, Bool.and_true, if_true, List.foldl_cons, List.foldl_nil]
  rfl

theorem State.commitLine_of_other (he : e.line ≠ line) : s.commitLine k line = none := by
  simp only [State.commitLine, ham, ho, he, List.all_cons, List.all_nil, decide_false, Bool.and_true, Bool.false_eq_true, if_false]

end CommitLine

/-! ## A line voided (R117) -/

/-- A line that every entry of a single lane has passed is voided by its mark, and NB moves past it. -/
theorem State.voidLine_of_passed {s : State} {k : Fin 12} {j : Fin 4} {line : Nat} (ham : lanes s.sqs[k].am = [j])
    (ho : s.sqs[k].oldestOpen j = none) (hn : s.sqs[k].nb[j] ≤ line) :
    s.voidLine k line =
      some ((s.modSq k (fun q => { q with nb := vset q.nb j (line + 1) })).toTb
        (.void (portOf k j) { page := s.sqs[k].page, line := line, program := true, entry := none })) := by
  have hall (e : Entry) (he : e ∈ s.sqs[k].fifo[j]) : e.committed = true := by simpa using List.find?_eq_none.1 ho e he
  have hfind : s.sqs[k].fifo[j].find? (fun e => decide (e.page = s.sqs[k].page ∧ e.line = line) && !e.committed) = none :=
    List.find?_eq_none.2 fun e he => by simp [hall e he]
  have hfilter : s.sqs[k].fifo[j].filter (fun e => !decide (e.page = s.sqs[k].page ∧ e.line = line) || e.committed) = s.sqs[k].fifo[j] :=
    List.filter_eq_self.2 fun e he => by simp [hall e he]
  simp only [State.voidLine, ham, ho, hn, List.all_cons, List.all_nil, decide_true, Bool.and_true, if_true, List.foldl_cons, List.foldl_nil, hfind]
  refine congrArg (fun u => some (State.toTb u _)) (State.modSq_congr ?_)
  simp only [Seq.setFifo, hfilter, vset_self, Nat.max_eq_right (Nat.le_succ_of_le hn)]

/-- A word sent to the TB island is no change of a sequencer. -/
theorem Gains.toTb {k : Fin 12} {l : List Nat} {s t : State} (h : Gains k l s t) (w : XWord) : Gains k l s (t.toTb w) := h.sqs_eq rfl

/-- Nothing but the sequencers and the words under way to the TB island has changed. -/
def OnlySends (s t : State) : Prop := t = { s with sqs := t.sqs, seqTb := t.seqTb }

namespace OnlySends
variable {s t u : State}

theorem trans (h : OnlySends s t) (g : OnlySends t u) : OnlySends s u := by
  unfold OnlySends at *
  rw [g, h]

theorem modSq (h : OnlySends s t) (k : Fin 12) (f : Seq → Seq) : OnlySends s (t.modSq k f) := h.trans rfl

theorem toTb (h : OnlySends s t) (w : XWord) : OnlySends s (t.toTb w) := h.trans rfl

theorem fireResult (h : OnlySends s t) (k : Fin 12) (rd : Fin 32) (v : Nat) : OnlySends s (t.fireResult k rd v) := h.trans rfl

theorem spend (h : OnlySends s t) (k : Fin 12) (n : Nat) : OnlySends s (t.spend (.sq k) n) := h.trans rfl

end OnlySends

/-! ## A range of one line (R101, R115, R117) -/

section OneLine
variable {s u : State} {k : Fin 12} {rd : Fin 32} {line : Word} (hp : s.sqs[k].pageOpen = true) (hb : s.sqs[k].builds = [])
include hp hb

/-- Past the end of the page both instructions set RANGE alone. -/
theorem State.sqRange_of_past {f : State → Fin 12 → Fin 32 → Word → Word → State} (hf : f ∈ [State.sqCommit, State.sqVoid])
    (hl : s.sqs[k].lines.toNat ≤ line.toNat) : f s k rd line 1 = (s.cond k xRANGE).fireResult k rd 0 := by
  have hr : s.sqs[k].lines.toNat < line.toNat + 1 := Nat.lt_succ_of_le hl
  simp only [List.mem_cons, List.not_mem_nil, or_false] at hf
  obtain rfl | rfl := hf <;>
    simp only [State.sqCommit, State.sqVoid, Seq.queuedAt, hp, hb, show countOf 1 = 1 from rfl, hr, List.any_nil, Bool.not_true, Bool.false_eq_true,
      if_false, or_true, if_true]

variable (hl : line.toNat < s.sqs[k].lines.toNat)
include hl

theorem State.sqCommit_of_some (h : s.commitLine k line.toNat = some u) : s.sqCommit k rd line 1 = u.fireResult k rd 1 := by
  have hr : ¬ (64 < 1 ∨ s.sqs[k].lines.toNat < line.toNat + 1) := by omega
  simp only [State.sqCommit, Seq.queuedAt, hp, hb, show countOf 1 = 1 from rfl, hr, List.any_nil, Bool.not_true, Bool.false_eq_true, if_false,
    State.commitLines, h]

theorem State.sqCommit_of_none (h : s.commitLine k line.toNat = none) : s.sqCommit k rd line 1 = (s.cond k xORDER).fireResult k rd 0 := by
  have hr : ¬ (64 < 1 ∨ s.sqs[k].lines.toNat < line.toNat + 1) := by omega
  simp only [State.sqCommit, Seq.queuedAt, hp, hb, show countOf 1 = 1 from rfl, hr, List.any_nil, Bool.not_true, Bool.false_eq_true, if_false,
    State.commitLines, h]

theorem State.sqVoid_of_some (h : s.voidLine k line.toNat = some u) : s.sqVoid k rd line 1 = u.fireResult k rd 1 := by
  have hr : ¬ (64 < 1 ∨ s.sqs[k].lines.toNat < line.toNat + 1) := by omega
  simp only [State.sqVoid, Seq.queuedAt, hp, hb, show countOf 1 = 1 from rfl, hr, List.any_nil, Bool.not_true, Bool.false_eq_true, if_false,
    State.voidLines, h]

end OneLine

/-! ## The obligation -/

/-- Settles O20: by where the line stands against the oldest open entry of its lane and the end of the page. -/
theorem commitAndVoid : Obligations.CommitAndVoid := by
  unfold Obligations.CommitAndVoid
  intro k rd ra rb j s u hx q line hp hb ham hcount
  have hlanes : lanes u.sqs[k].am = [j] := by rw [show u.sqs[k].am = _ from ham, lanes_single]
  have hx3 := hx.of_no_builds hb [rd, ra, rb]
  refine ⟨fun hl => ⟨fun e ho => ⟨fun he hpage hexp => ?commits, fun he => ?order⟩, fun ho hn => ?voids⟩, fun hl i hi => ?past⟩
  case commits =>
    refine answers_fire hx3 (a := execCommit (.sq k) rd ra rb s) rfl rfl ?_
    rw [hcount, State.sqCommit_of_some hp hb hl (State.commitLine_of_oldest hlanes ho he)]
    obtain ⟨hmem, hopen⟩ := Seq.mem_of_oldestOpen ho
    obtain ⟨done, conds⟩ := ((((Gains.refl k u).modSq (f := fun q => q.setFifo j (q.fifo[j].filterMap (commitEntry u.sqs[k].page line)))).toTb
      (.commit (portOf k j) u.sqs[k].page line)).modSq (f := fun q => { q with lastCommitted := line })).fireResult rd 1 |>.spend 2
    refine ⟨done, conds, ?_, fun x hx => committed_of_mem_filterMap (l := q.fifo[j]) ?_, ?_, rfl, ?_⟩
    · simp [line]
    · simpa [State.toTb, Seq.setFifo, q, line, -List.mem_filterMap] using hx
    · simpa [State.toTb, Seq.setFifo, q, line, -List.mem_filterMap] using mem_filterMap_commitEntry hmem hpage he hopen hexp
    · exact ((((show OnlySends u u from rfl).modSq ..).toTb ..).modSq ..).fireResult .. |>.spend ..
  case order =>
    refine answers_fire hx3 (a := execCommit (.sq k) rd ra rb s) rfl rfl ?_
    rw [hcount, State.sqCommit_of_none hp hb hl (State.commitLine_of_other hlanes ho he)]
    obtain ⟨done, conds⟩ := ((Gains.refl k u).cond.fireResult rd 0).spend 2
    exact ⟨done, conds, ((OnlySqs.refl u).cond ..).fireResult .. |>.spend ..⟩
  case voids =>
    refine answers_fire hx3 (a := execVoidL (.sq k) rd ra rb s) rfl rfl ?_
    rw [hcount, State.sqVoid_of_some hp hb hl (State.voidLine_of_passed hlanes ho hn)]
    obtain ⟨done, conds⟩ := (((Gains.refl k u).modSq (f := fun q => { q with nb := vset q.nb j (line + 1) })).toTb
      (.void (portOf k j) { page := u.sqs[k].page, line := line, program := true, entry := none })).fireResult rd 1 |>.spend 2
    refine ⟨done, conds, ?_, ?_, rfl, (((show OnlySends u u from rfl).modSq ..).toTb ..).fireResult .. |>.spend ..⟩
    · simp [State.toTb, line]
    · simp [State.toTb, q]
  case past =>
    have range {f : State → Fin 12 → Fin 32 → Word → Word → State} (hf : f ∈ [State.sqCommit, State.sqVoid]) :
        let t := (f u k rd (u.gr (.sq k) ra) (u.gr (.sq k) rb)).spend (.sq k) 2
        SqDone k (some (rd, 0)) u t ∧ CondsAdd k [xRANGE] u t ∧ OnlySqs u t := by
      rw [hcount, State.sqRange_of_past hp hb hf hl]
      obtain ⟨done, conds⟩ := ((Gains.refl k u).cond.fireResult rd 0).spend 2
      exact ⟨done, conds, ((OnlySqs.refl u).cond ..).fireResult .. |>.spend ..⟩
    simp only [List.mem_cons, List.not_mem_nil, or_false] at hi
    obtain rfl | rfl := hi
    · exact answers_fire hx3 (a := execCommit (.sq k) rd ra rb s) rfl rfl (range (by simp))
    · exact answers_fire hx3 (a := execVoidL (.sq k) rd ra rb s) rfl rfl (range (by simp))

end Sys2Proof.Machine
end

section
/-!
PROOFS. Waits on FIFOs and barriers (R118, R119): the condition of WAITQ on every lane, the members of a barrier group, and a wait at SYNCL looked at
again; then the obligation WaitqAndSyncl.
-/
namespace Sys2Proof.Machine

/-! ## WAITQ (R118) -/

theorem mem_lanes {m : BitVec 4} {j : Fin 4} : j ∈ lanes m ↔ m.getLsbD j.val = true := by
  simp [lanes, fins]

/-- A count operand is at least one (R100). -/
theorem countOf_pos (v : Word) : 0 < countOf v := by
  rw [countOf]
  split_ifs with h
  · decide
  · exact Nat.pos_of_ne_zero fun h0 => h (BitVec.eq_of_toNat_eq h0)

/-- The condition of WAITQ: room for `n` entries, every committed entry READY, or an empty FIFO, on every lane of AM. -/
theorem Seq.waitHolds_iff (q : Seq) {n : Nat} (hn : 0 < n) (cond : BitVec 4) (hc : cond.toNat < 3) :
    q.waitHolds n cond.toNat = true ↔ ∀ j : Fin 4, q.am.getLsbD j.val = true →
      (cond = 0 → n + q.fifo[j].length ≤ 64) ∧ (cond = 1 → ∀ e ∈ q.fifo[j], e.committed = true → e.released = true ∧ e.fbPending = false) ∧
      (cond = 2 → q.fifo[j] = []) := by
  simp only [Seq.waitHolds, List.all_eq_true, mem_lanes]
  refine forall₂_congr fun j _ => ?_
  have hcases : cond = 0 ∨ cond = 1 ∨ cond = 2 := by bv_omega
  obtain rfl | rfl | rfl := hcases
  · have hroom : n ≤ 64 - q.fifo[j].length ↔ n + q.fifo[j].length ≤ 64 := by omega
    simp [Seq.freeAt, -Fin.getElem_fin, hroom]
  · simp [Entry.waiting, imp_iff_not_or]
  · simp

section Waitq
variable {s : State} {k : Fin 12} {us need : Word} {cond : Nat} (hp : s.sqs[k].pageOpen = true) (hn : cond = 0 → countOf need ≤ 64)
include hp hn

theorem State.sqWaitq_of_holds (h : s.sqs[k].waitHolds (countOf need) cond = true) : s.sqWaitq k us need cond = s.fireDone k := by
  have hr : ¬ (cond = 0 ∧ 64 < countOf need) := fun ⟨h0, h64⟩ => absurd (hn h0) (by omega)
  simp only [State.sqWaitq, hp, h, hr, Bool.not_true, Bool.false_eq_true, if_false, if_true]

theorem State.sqWaitq_of_waits (h : s.sqs[k].waitHolds (countOf need) cond = false) :
    s.sqWaitq k us need cond = s.modSq k (fun q => { q with wait := .waitq (countOf need) cond (us ≠ 0), stall := 0 }) := by
  have hr : ¬ (cond = 0 ∧ 64 < countOf need) := fun ⟨h0, h64⟩ => absurd (hn h0) (by omega)
  simp only [State.sqWaitq, hp, h, hr, Bool.not_true, Bool.false_eq_true, if_false]

end Waitq

theorem State.waitqTimeout_of_waits {s : State} {k : Fin 12} {need c : Nat} (hw : s.sqs[k].wait = .waitq need c true)
    (h : s.sqs[k].waitHolds need c = false) : s.waitqTimeout k = (s.cond k xWAIT_TO).fireDone k := by
  simp only [State.waitqTimeout, hw, h, Bool.false_eq_true, if_false]

/-! ## The barrier group (R119) -/

theorem mem_syncGroup {s : State} {k j : Fin 12} : j ∈ s.syncGroup k ↔ j = k ∨ (s.get (SQ_SYNC_MASK k)).testBit j.val = true := by
  simp [State.syncGroup, fins]

/-- A sequencer that names itself alone is its own group. -/
theorem syncGroup_self {s : State} {k : Fin 12} (h : s.get (SQ_SYNC_MASK k) = 2 ^ k.val) {j : Fin 12} : j ∈ s.syncGroup k ↔ j = k := by
  rw [mem_syncGroup, h, Nat.testBit_two_pow, decide_eq_true_eq, Fin.val_inj, eq_comm (a := k), or_self]

/-! ## A wait at SYNCL looked at (R119) -/

theorem State.pollSync_of_away {s : State} {k : Fin 12} (h : s.sqs[k].atSync = false) : s.pollSync k = s := by
  simp only [State.pollSync, h, Bool.false_eq_true, if_false]

/-- The wait ends once every member of the group has arrived with the same page and line. -/
theorem State.pollSync_of_arrived {s : State} {k : Fin 12} (hk : s.sqs[k].atSync = true)
    (h : ∀ j ∈ s.syncGroup k, s.sqs[j].arrival = s.sqs[k].arrival) : s.pollSync k = s.fireDone k := by
  have hall : (s.syncGroup k).all (fun j => decide (s.sqs[j].arrival = s.sqs[k].arrival)) = true := by simpa using h
  simp only [State.pollSync, hk, hall, if_true]

/-- While a member of another arrival is not at its barrier, the wait goes on or fails for its own sequencer. -/
theorem State.pollSync_of_missing {s : State} {k j : Fin 12} (hk : s.sqs[k].atSync = true) (hj : j ∈ s.syncGroup k)
    (ha : s.sqs[j].arrival ≠ s.sqs[k].arrival) (hs : s.sqs[j].atSync = false) : s.pollSync k = s ∨ s.pollSync k = s.syncFail k := by
  have hall : (s.syncGroup k).all (fun j => decide (s.sqs[j].arrival = s.sqs[k].arrival)) = false :=
    List.all_eq_false.2 ⟨j, hj, by simpa using ha⟩
  have hsync : (s.syncGroup k).all (fun j => s.sqs[j].atSync) = false := List.all_eq_false.2 ⟨j, hj, by simpa using hs⟩
  simp only [State.pollSync, hk, hall, hsync, Bool.false_eq_true, if_false, if_true]
  split_ifs
  · exact .inr rfl
  · exact .inl rfl

/-- With no sequencer at a barrier nothing is to look at. -/
theorem State.foldl_pollSync_of_away {s : State} (h : ∀ j : Fin 12, s.sqs[j].atSync = false) (l : List (Fin 12)) :
    l.foldl (fun s k => s.pollSync k) s = s := by
  induction l with
  | nil => rfl
  | cons j l ih => rw [List.foldl_cons, State.pollSync_of_away (h j), ih]

/-- Looking at every wait ends that of a sequencer whose group has arrived, where no other waits. -/
theorem State.pollSyncAll_of_alone {s : State} {k : Fin 12} (hk : s.sqs[k].atSync = true)
    (h : ∀ j ∈ s.syncGroup k, s.sqs[j].arrival = s.sqs[k].arrival) (hj : ∀ j ≠ k, s.sqs[j].atSync = false) :
    s.pollSyncAll = s.fireDone k := by
  have haway (j : Fin 12) : (s.fireDone k).sqs[j].atSync = false := by
    by_cases hjk : j = k
    · subst hjk
      simp [Seq.atSync]
    · rw [(Gains.refl k s).fireDone.done.2.2.2.1 j hjk]
      exact hj j hjk
  have hfold (l : List (Fin 12)) (hl : k ∈ l) : l.foldl (fun s k => s.pollSync k) s = s.fireDone k := by
    induction l with
    | nil => simp at hl
    | cons j l ih =>
      by_cases hjk : j = k
      · rw [List.foldl_cons, hjk, State.pollSync_of_arrived hk h, State.foldl_pollSync_of_away haway]
      · rw [List.foldl_cons, State.pollSync_of_away (hj j hjk), ih ((List.mem_cons.1 hl).resolve_left (Ne.symm hjk))]
  exact hfold (fins 12) (List.mem_finRange k)

/-! ## SYNCL (R119) -/

/-- A sequencer that waits at the barrier with an arrival value. -/
def Seq.arrive (q : Seq) (line : Word) (timed : Bool) : Seq := { q with arrival := some (q.page, line), wait := .syncl timed, stall := 0 }

/-- SYNCL in a group of its own ends at once. -/
theorem State.sqSyncl_of_alone {s : State} {k : Fin 12} (hp : s.sqs[k].pageOpen = true) (hm : s.get (SQ_SYNC_MASK k) = 2 ^ k.val)
    (hj : ∀ j ≠ k, s.sqs[j].atSync = false) (line : Word) :
    s.sqSyncl k line = (s.modSq k (fun q => q.arrive line (s.get (SQ_SYNC_TIMEOUT k) ≠ 0))).fireDone k := by
  set v := s.modSq k (fun q => q.arrive line (s.get (SQ_SYNC_TIMEOUT k) ≠ 0)) with hv
  have hissue : s.sqSyncl k line = v.pollSyncAll := by
    simp only [State.sqSyncl, hp, Bool.not_true, Bool.false_eq_true, if_false]
    rfl
  rw [hissue]
  refine State.pollSyncAll_of_alone ?_ (fun j hjg => ?_) fun j hjk => ?_
  · rw [hv, State.modSq_same]
    rfl
  · rw [(syncGroup_self (s := v) hm).1 hjg]
  · rw [hv, State.modSq_ne _ _ _ _ hjk]
    exact hj j hjk

/-- SYNCL's timeout fails the wait, whether or not a look at it has failed it before. -/
theorem State.synclTimeout_of_missing {s : State} {k j : Fin 12} (hw : s.sqs[k].wait = .syncl true) (hj : j ∈ s.syncGroup k)
    (ha : s.sqs[j].arrival ≠ s.sqs[k].arrival) (hs : s.sqs[j].atSync = false) : s.synclTimeout k = (s.cond k xSYNC).fireDone k := by
  have hk : s.sqs[k].atSync = true := by rw [Seq.atSync, hw]
  have hnone : (s.syncFail k).sqs[k].wait = .none := by simp [State.syncFail]
  obtain hpoll | hpoll := State.pollSync_of_missing hk hj ha hs
  · simp only [State.synclTimeout, hpoll, hw]
    rfl
  · simp only [State.synclTimeout, hpoll, hnone]
    rfl

/-! ## The obligation -/

/-- Settles O21: WAITQ by its condition on the lanes of AM, SYNCL by who is in its group and has arrived. -/
theorem waitqAndSyncl : Obligations.WaitqAndSyncl := by
  unfold Obligations.WaitqAndSyncl
  intro k ra rb cond s u q n
  refine ⟨?waitq, fun need c hw h => ?timeout, fun hx hp hm hj => ?syncl, fun j hjk hw hm ha hs hrun => ?missing⟩
  case waitq =>
    intro hx hp hc hn holds
    have hiff : q.waitHolds n cond.toNat = true ↔ holds := q.waitHolds_iff (countOf_pos _) cond hc
    have hn' : cond.toNat = 0 → n ≤ 64 := fun h0 => hn (BitVec.eq_of_toNat_eq h0)
    refine answers_fire hx (a := execWaitq (.sq k) ra rb cond s) rfl rfl ?_
    rw [if_pos hc]
    cases hh : q.waitHolds n cond.toNat with
    | true =>
      rw [State.sqWaitq_of_holds hp hn' hh]
      obtain ⟨done, conds⟩ := (Gains.refl k u).fireDone.spend 2
      exact ⟨((OnlySqs.refl u).fireDone k).spend .., conds, fun _ => done, fun h => absurd (hiff.1 hh) h⟩
    | false =>
      rw [State.sqWaitq_of_waits hp hn' hh]
      obtain ⟨conds, pc, gr⟩ := ((Gains.refl k u).modSq (f := fun q => { q with wait := .waitq n cond.toNat (u.gr (.sq k) ra ≠ 0), stall := 0 })).waits 2
      exact ⟨((OnlySqs.refl u).modSq ..).spend .., conds, fun h => absurd (hiff.2 h) (by simp [hh]), fun _ => ⟨by simp; rfl, pc, gr⟩⟩
  case timeout =>
    refine ⟨_, congrArg Host.Outcome.next (State.waitqTimeout_of_waits hw h), ?_⟩
    obtain ⟨done, conds⟩ := (Gains.refl k s).cond.fireDone
    exact ⟨done, conds, ((OnlySqs.refl s).cond ..).fireDone ..⟩
  case syncl =>
    refine answers_fire hx (a := execSyncl (.sq k) ra s) rfl rfl ?_
    rw [State.sqSyncl_of_alone hp hm hj]
    obtain ⟨done, conds⟩ := ((Gains.refl k u).modSq (f := fun q => q.arrive (u.gr (.sq k) ra) (u.get (SQ_SYNC_TIMEOUT k) ≠ 0))).fireDone.spend 2
    exact ⟨done, by simp [Seq.arrive, q], conds, ((OnlySqs.refl u).modSq ..).fireDone k |>.spend ..⟩
  case missing =>
    have hjg : j ∈ s.syncGroup k := by
      have hkj : k.val ≠ j.val := fun h => hjk (Fin.ext h.symm)
      rw [mem_syncGroup, hm, Nat.add_comm, Nat.testBit_two_pow_add_eq, Nat.testBit_two_pow, decide_eq_false hkj]
      exact .inr rfl
    refine ⟨_, congrArg Host.Outcome.next (State.synclTimeout_of_missing hw hjg ha hs), ?_⟩
    obtain ⟨done, conds⟩ := (Gains.refl k s).cond.fireDone
    exact ⟨done, conds, ((OnlySqs.refl s).cond ..).fireDone ..⟩

end Sys2Proof.Machine
end

section
/-!
PROOFS. The other fire instructions (R108, R120, R121): profile values, marks, epochs, the state that FREAD shows, and the conditions cleared and
branched on; then the obligation OtherFireInstructions.
-/
namespace Sys2Proof.Machine

/-! ## LDPROF (R108) -/

/-- A value in range on a port: of the waveform select for field 0, of the strobe width for field 1. -/
theorem State.profOk_iff (s : State) (p : Nat) (fld : BitVec 4) (v : Nat) :
    s.profOk p fld.toNat v = true ↔ (fld = 0 ∧ v < 2 ^ min 8 (s.get (HP_PROFILE_WSEL_W p))) ∨
      (fld = 1 ∧ s.get (HP_STROBE_SW_MIN p) ≤ v ∧ v ≤ s.get (HP_STROBE_SW_MAX p)) := by
  have h0 : fld.toNat = 0 ↔ fld = 0 := BitVec.toNat_inj (y := 0#4)
  have h1 : fld.toNat = 1 ↔ fld = 1 := BitVec.toNat_inj (y := 1#4)
  have hne : (0#4) ≠ 1 := by decide
  rw [State.profOk]
  split_ifs with h
  · have hf := h0.1 h
    rw [decide_eq_true_iff, State.wselW]
    exact ⟨fun hv => .inl ⟨hf, hv⟩, fun hv => hv.elim And.right fun hw => absurd (hf.symm.trans hw.1) hne⟩
  · rw [decide_eq_true_iff, h1]
    exact ⟨.inr, fun hv => hv.resolve_left fun hw => h (h0.2 hw.1)⟩

/-- The values of LDPROF from a line on are in range and the line is not yet built, on every lane of AM. -/
def State.profFits (s : State) (k : Fin 12) (line v fld : Nat) : Bool :=
  (lanes s.sqs[k].am).all (fun j => s.profOk (portOf k j) fld v && decide (s.sqs[k].nb[j] ≤ line))

theorem State.profFits_iff {s : State} {k : Fin 12} (ham : s.sqs[k].am ≠ 0) (line v : Nat) (fld : BitVec 4) :
    let onAm := fun (f : Fin 4 → Prop) => ∀ j : Fin 4, s.sqs[k].am.getLsbD j.val = true → f j
    s.profFits k line v fld.toNat = true ↔ onAm (fun j => s.sqs[k].nb[j] ≤ line) ∧
      ((fld = 0 ∧ onAm (fun j => v < 2 ^ min 8 (s.get (HP_PROFILE_WSEL_W (portOf k j))))) ∨
       (fld = 1 ∧ onAm (fun j => s.get (HP_STROBE_SW_MIN (portOf k j)) ≤ v ∧ v ≤ s.get (HP_STROBE_SW_MAX (portOf k j))))) := by
  obtain ⟨j0, hj0⟩ : ∃ j : Fin 4, s.sqs[k].am.getLsbD j.val = true := by
    generalize s.sqs[k].am = m at ham
    revert m
    decide
  simp only [State.profFits, List.all_eq_true, mem_lanes, Bool.and_eq_true, State.profOk_iff, decide_eq_true_eq]
  constructor
  · intro h
    refine ⟨fun j hj => (h j hj).2, ?_⟩
    obtain ⟨hf, -⟩ | ⟨hf, -⟩ := (h j0 hj0).1
    · exact .inl ⟨hf, fun j hj => by simpa [hf] using (h j hj).1⟩
    · exact .inr ⟨hf, fun j hj => by simpa [hf] using (h j hj).1⟩
  · rintro ⟨hn, ⟨hf, hv⟩ | ⟨hf, hv⟩⟩ j hj
    · exact ⟨.inl ⟨hf, hv j hj⟩, hn j hj⟩
    · exact ⟨.inr ⟨hf, hv j hj⟩, hn j hj⟩

/-- A list of values of each lane, with one more on the lanes of AM. -/
def Seq.addOnAm (q : Seq) (line v : Nat) (x : Vector (List (Nat × Nat)) 4) : Vector (List (Nat × Nat)) 4 :=
  x.mapFinIdx (fun j l _ => if q.am.getLsbD j then (line, v) :: l else l)

/-- A sequencer with the value of one more LDPROF. -/
def Seq.loadProf (q : Seq) (line v fld : Nat) : Seq :=
  if fld = 0 then { q with ldWsel := q.addOnAm line v q.ldWsel } else { q with ldSw := q.addOnAm line v q.ldSw }

section Ldprof
variable {s : State} {k : Fin 12} {line v : Word} {fld : Nat} (hb : s.sqs[k].builds = [])
include hb

theorem State.sqLdprof_of_closed (hp : s.sqs[k].pageOpen = false) : s.sqLdprof k line v fld = (s.cond k xPAGE_STATE).fireDone k := by
  simp only [State.sqLdprof, hb, hp, List.isEmpty_nil, Bool.not_true, Bool.not_false, Bool.false_eq_true, if_false, if_true]

variable (hp : s.sqs[k].pageOpen = true)
include hp

theorem State.sqLdprof_of_misfit (h : s.profFits k line.toNat v.toNat fld = false) :
    s.sqLdprof k line v fld = (s.cond k xPROF).fireDone k := by
  rw [State.profFits] at h
  simp only [State.sqLdprof, hb, hp, h, List.isEmpty_nil, Bool.not_true, Bool.false_eq_true, if_false]

theorem State.sqLdprof_of_fits (h : s.profFits k line.toNat v.toNat fld = true) :
    s.sqLdprof k line v fld = (s.modSq k (fun q => q.loadProf line.toNat v.toNat fld)).fireDone k := by
  rw [State.profFits] at h
  simp only [State.sqLdprof, hb, hp, h, List.isEmpty_nil, Bool.not_true, Bool.false_eq_true, if_false, if_true]
  refine congrArg (State.fireDone · k) (State.modSq_congr ?_)
  rfl

end Ldprof

/-- The value of one more LDPROF stands first on the ports of AM, for field 0 or 1, and every other list stays. -/
theorem Seq.loadProf_lists (q : Seq) (line v : Nat) {fld : BitVec 4} (hf : fld = 0 ∨ fld = 1) (j : Fin 4) :
    (q.loadProf line v fld.toNat).ldWsel[j] = (if fld = 0 ∧ q.am.getLsbD j.val = true then (line, v) :: q.ldWsel[j] else q.ldWsel[j]) ∧
      (q.loadProf line v fld.toNat).ldSw[j] = (if fld = 1 ∧ q.am.getLsbD j.val = true then (line, v) :: q.ldSw[j] else q.ldSw[j]) := by
  obtain rfl | rfl := hf <;> simp [Seq.loadProf, Seq.addOnAm]

/-- LDPROF leaves its sequencer's core and conditions. -/
theorem State.loadProf_gains (s : State) (k : Fin 12) (line v fld : Nat) : Gains k [] s (s.modSq k (fun q => q.loadProf line v fld)) := by
  refine (Gains.refl k s).modSq (fun q => ?_) (fun q => ?_) <;> by_cases h : fld = 0 <;> simp [Seq.loadProf, h]

/-! ## MARK and EPOCHQ (R120, R121) -/

theorem State.sqMark_of_closed {s : State} {k : Fin 12} (hp : s.sqs[k].pageOpen = false) (code line : Word) :
    s.sqMark k code line = (s.cond k xPAGE_STATE).fireDone k := by
  simp only [State.sqMark, hp, Bool.not_false, if_true]

/-- An instruction that completes from a state with the same cores and other sequencers completes. -/
theorem SqDone.of_core_eq {k : Fin 12} {s t u : State} (h : SqDone k none t u) (hc : t.sqs[k].core = s.sqs[k].core)
    (ho : ∀ j ≠ k, t.sqs[j] = s.sqs[j]) : SqDone k none s u := by
  obtain ⟨hpc, hwait, hstall, hne, hgr⟩ := h
  exact ⟨hpc.trans (congrArg (·.pc + 4) hc), hwait, hstall, fun j hj => (hne j hj).trans (ho j hj),
    fun r => (hgr r).trans (State.gr_congr (c := .sq k) (congrArg Core.g hc) r)⟩

/-- Completing an instruction changes only the sequencers. -/
theorem State.fireDone_spend_frame (s : State) (k : Fin 12) (n : Nat) :
    (s.fireDone k).spend (.sq k) n = { s with sqs := ((s.fireDone k).spend (.sq k) n).sqs } := rfl

/-- A mark raised and counted in its page's report. -/
def State.marked (s : State) (k : Fin 12) (code line : Word) : State :=
  (s.raiseAt evSQ_MARK k code s.sqs[k].page line).modReport s.sqs[k].page (fun r => { r with marks := r.marks + 1 })

theorem State.sqMark_of_open {s : State} {k : Fin 12} (hp : s.sqs[k].pageOpen = true) (code line : Word) :
    s.sqMark k code line = (s.marked k code line).fireDone k := by
  simp only [State.sqMark, hp, Bool.not_true, Bool.false_eq_true, if_false, State.marked]

theorem State.marked_sqs (s : State) (k : Fin 12) (code line : Word) : (s.marked k code line).sqs = s.sqs := rfl

/-- What a mark changes beside the sequencers: the event in flight and the count of its page's report. -/
theorem State.marked_effect {s t : State} {k : Fin 12} {code line : Word} (h : t = { s.marked k code line with sqs := t.sqs }) :
    Raised evSQ_MARK k.val code s.sqs[k].page line s t ∧
      (t.reportOf s.sqs[k].page).map (fun r => r.marks) = (s.reportOf s.sqs[k].page).map (fun r => r.marks + 1) ∧
      (∀ g ≠ s.sqs[k].page, t.reportOf g = s.reportOf g) ∧ t = { s with sqs := t.sqs, evt := t.evt, fsch := t.fsch } := by
  generalize t.sqs = sqs at h
  subst h
  refine ⟨State.raiseAt_flight .., ?_, fun g hg => ?_, rfl⟩
  · exact (congrArg (Option.map _) (State.reportOf_modReport_same (fun _ => by rfl) ..)).trans (Option.map_map ..)
  · exact State.reportOf_modReport_ne (fun _ => by rfl) _ hg

/-- The newest commit that stands at or before a line is the one in force (R283). -/
theorem State.epochAt_of_newest {s : State} {e : EpochRec} {l : List EpochRec} {serial line : Nat} (hl : s.corr.log = e :: l)
    (h : e.serial < serial ∨ (e.serial = serial ∧ e.line ≤ line)) : s.epochAt serial line = e.epoch := by
  have hge : lineGe serial line e.serial e.line = true := decide_eq_true h
  simp only [State.epochAt, State.epochRec, hl, List.find?_cons, hge]

theorem State.sqEpochq_of_open {s : State} {k : Fin 12} (hp : s.sqs[k].pageOpen = true) (rd : Fin 32) (line : Word) :
    s.sqEpochq k rd line = s.fireResult k rd (s.epochAt s.sqs[k].serial line.toNat).toNat := by
  simp only [State.sqEpochq, hp, Bool.not_true, Bool.false_eq_true, if_false]

/-! ## FREAD, XCLR, BXS and BXC (R121, R101) -/

/-- FREAD's room in the FIFO of a lane. -/
theorem State.freadValue_room (s : State) (k : Fin 12) (j : Fin 4) : s.freadValue k (5 + j.val) = 64 - s.sqs[k].fifo[j].length := by
  have hj : finOf 4 (by decide) (5 + j.val - 5) = j := by rw [Nat.add_sub_cancel_left, finOf_val]
  simp only [State.freadValue]
  rw [if_neg (by omega), if_neg (by omega), if_neg (by omega), if_neg (by omega), if_neg (by omega), if_pos (by omega), hj]
  rfl

/-- FREAD's next line of a lane. -/
theorem State.freadValue_nb (s : State) (k : Fin 12) (j : Fin 4) : s.freadValue k (9 + j.val) = s.sqs[k].nb[j] := by
  have hj : finOf 4 (by decide) (9 + j.val - 9) = j := by rw [Nat.add_sub_cancel_left, finOf_val]
  simp only [State.freadValue]
  rw [if_neg (by omega), if_neg (by omega), if_neg (by omega), if_neg (by omega), if_neg (by omega), if_neg (by omega), if_pos (by omega)]
  exact congrArg (fun i : Fin 4 => s.sqs[k].nb[i]) hj

/-- FREAD's time is the low word of the time base. -/
theorem State.freadValue_time (s : State) (k : Fin 12) : BitVec.ofNat 32 (s.freadValue k 13) = s.tbc.setWidth 32 := by
  have h : s.freadValue k 13 = s.tbc.toNat % 2 ^ 32 := rfl
  apply BitVec.eq_of_toNat_eq
  rw [h, BitVec.toNat_ofNat, Nat.mod_mod, BitVec.toNat_setWidth]

/-- FREAD shows what a queued build may still change once no build is queued, and the rest at once. -/
theorem State.sqFread_of_ready {s : State} {k : Fin 12} {sel : Nat} (h : s.sqs[k].builds = [] ∨ (sel ≠ 0 ∧ (sel < 9 ∨ 13 ≤ sel))) (rd : Fin 32) :
    s.sqFread k rd sel = s.fireResult k rd (s.freadValue k sel) := by
  have hgo : (decide (sel = 0 ∨ 9 ≤ sel ∧ sel < 13) && !s.sqs[k].builds.isEmpty) = false := by
    obtain h | h := h
    · rw [h, List.isEmpty_nil, Bool.not_true, Bool.and_false]
    · have hsel : ¬ (sel = 0 ∨ 9 ≤ sel ∧ sel < 13) := fun e => e.elim h.1 fun e => h.2.elim e.1.not_gt e.2.not_ge
      rw [decide_eq_false hsel, Bool.false_and]
  rw [State.sqFread, hgo, if_neg Bool.false_ne_true]

theorem State.sqXclr_of_no_builds {s : State} {k : Fin 12} (hb : s.sqs[k].builds = []) (m : Word) : s.sqXclr k m = (s.condClear k m).fireDone k := by
  simp only [State.sqXclr, hb, List.isEmpty_nil, Bool.not_true, Bool.false_eq_true, if_false]

/-- The offset of a branch is four times its immediate (R67). -/
theorem branchOff_eq (off : BitVec 16) : branchOff off = BitVec.ofInt 32 (4 * off.toInt) := by
  rw [branchOff, BitVec.shiftLeft_eq_mul_twoPow, BitVec.signExtend, BitVec.ofInt_mul, BitVec.mul_comm]
  rfl

/-- A branch on a condition goes on to the next instruction where the condition is not as asked. -/
theorem State.sqBranch_of_ne {s : State} {k : Fin 12} (hb : s.sqs[k].builds = []) {set : Bool} {bit : Nat} (off : BitVec 16)
    (h : s.sqs[k].xstat.getLsbD bit ≠ set) : s.sqBranch k set bit off = s.fireDone k := by
  rw [State.sqBranch, hb, List.isEmpty_nil, Bool.not_true, if_neg Bool.false_ne_true, State.hasCond, if_neg h]

theorem State.sqBranch_of_eq {s : State} {k : Fin 12} (hb : s.sqs[k].builds = []) {set : Bool} {bit : Nat} (off : BitVec 16)
    (h : s.sqs[k].xstat.getLsbD bit = set) : s.sqBranch k set bit off =
      (s.modSq k (fun q => { q with stall := 0 })).setPc (.sq k) (s.pcOf (.sq k) + branchOff off) := by
  rw [State.sqBranch, hb, List.isEmpty_nil, Bool.not_true, if_neg Bool.false_ne_true, State.hasCond, if_pos h]
  rfl

/-- What a branch on a condition makes of the state: only the pc, to the target where the condition is as asked. -/
theorem State.sqBranch_effect {s : State} {k : Fin 12} (hb : s.sqs[k].builds = []) (set : Bool) (bit : Nat) (off : BitVec 16) (n : Nat) :
    let t := (s.sqBranch k set bit off).spend (.sq k) n
    t.pcOf (.sq k) = (if s.sqs[k].xstat.getLsbD bit = set then s.pcOf (.sq k) + BitVec.ofInt 32 (4 * off.toInt) else s.pcOf (.sq k) + 4) ∧
      (∀ r, t.gr (.sq k) r = s.gr (.sq k) r) ∧ CondsAdd k [] s t ∧ OnlySqs s t := by
  by_cases h : s.sqs[k].xstat.getLsbD bit = set
  · obtain ⟨conds, pc, gr⟩ := ((Gains.refl k s).modSq (f := fun q => { q with stall := 0 })).jumps (s.pcOf (.sq k) + branchOff off) n
    rw [if_pos h, State.sqBranch_of_eq hb off h, ← branchOff_eq]
    exact ⟨pc, gr, conds, ((OnlySqs.refl s).modSq ..).setPc .. |>.spend ..⟩
  · obtain ⟨⟨hpc, -, -, -, hgr⟩, conds⟩ := (Gains.refl k s).fireDone.spend n
    rw [if_neg h, State.sqBranch_of_ne hb off h]
    exact ⟨hpc, hgr, conds, ((OnlySqs.refl s).fireDone ..).spend ..⟩

/-! ## The obligation -/

/-- Settles O22: each instruction by its equation where it executes, with the rules for what completes it. -/
theorem otherFireInstructions : Obligations.OtherFireInstructions := by
  unfold Obligations.OtherFireInstructions
  intro k rd ra rb fld off s u q a b onAm width ok with'
  refine ⟨?ldprof, ?mark, ?epochq, ?fread, ?xclr, ?branch⟩
  case ldprof =>
    intro hx hb ham
    have hfit : u.profFits k a.toNat b.toNat fld.toNat = true ↔ ok := State.profFits_iff ham ..
    refine answers_fire hx (a := execLdprof (.sq k) ra rb fld s) rfl rfl ?_
    cases hp : u.sqs[k].pageOpen with
    | false =>
      rw [State.sqLdprof_of_closed hb hp]
      obtain ⟨done, conds⟩ := (Gains.refl k u).cond.fireDone.spend 4
      exact ⟨done, ((OnlySqs.refl u).cond ..).fireDone k |>.spend .., by simp [q], by simp [q], fun _ => ⟨conds, by simp [q], by simp [q]⟩⟩
    | true =>
      cases hfits : u.profFits k a.toNat b.toNat fld.toNat with
      | false =>
        rw [State.sqLdprof_of_misfit hb hp hfits]
        obtain ⟨done, conds⟩ := (Gains.refl k u).cond.fireDone.spend 4
        have hno : ¬ ok := fun h => by simp [hfit.2 h] at hfits
        exact ⟨done, ((OnlySqs.refl u).cond ..).fireDone k |>.spend .., fun _ h => absurd h hno, fun _ _ => ⟨conds, by simp [q], by simp [q]⟩, by simp [q]⟩
      | true =>
        rw [State.sqLdprof_of_fits hb hp hfits]
        obtain ⟨done, conds⟩ := (u.loadProf_gains k a.toNat b.toNat fld.toNat).fireDone.spend 4
        have hok : ok := hfit.1 hfits
        have hf : fld = 0 ∨ fld = 1 := hok.2.imp And.left And.left
        exact ⟨done, ((OnlySqs.refl u).modSq ..).fireDone k |>.spend .., fun _ _ => ⟨conds, fun j => by simpa [q, with'] using q.loadProf_lists a.toNat b.toNat hf j⟩,
          fun _ h => absurd hok h, by simp [q]⟩
  case mark =>
    intro hx
    refine answers_fire hx (a := execMark (.sq k) ra rb s) rfl rfl ?_
    cases hp : u.sqs[k].pageOpen with
    | false =>
      rw [State.sqMark_of_closed hp]
      obtain ⟨done, conds⟩ := (Gains.refl k u).cond.fireDone.spend 2
      exact ⟨done, by simp [q], fun _ => ⟨conds, ((OnlySqs.refl u).cond ..).fireDone k |>.spend ..⟩⟩
    | true =>
      rw [State.sqMark_of_open hp]
      obtain ⟨done, conds⟩ := (Gains.of_sqs_eq (k := k) (u.marked_sqs k a b)).fireDone.spend 2
      obtain ⟨raised, marks, others, frame⟩ := State.marked_effect ((u.marked k a b).fireDone_spend_frame k 2)
      exact ⟨done, fun _ => ⟨raised, conds, marks, others, frame⟩, by simp⟩
  case epochq =>
    intro hx hp e l hl he
    refine answers_fire hx (a := execEpochq (.sq k) rd ra s) rfl rfl ?_
    rw [State.sqEpochq_of_open hp, State.epochAt_of_newest hl he]
    obtain ⟨done, conds⟩ := ((Gains.refl k u).fireResult rd e.epoch.toNat).spend 12
    rw [BitVec.ofNat_toNat, BitVec.setWidth_eq] at done
    exact ⟨done, conds, ((OnlySqs.refl u).fireResult k ..).spend ..⟩
  case fread =>
    intro hx gives
    have hgives (sel : Fin 32) (v : Word) (hsel : sel.val < 14) (hgo : q.builds = [] ∨ (sel.val ≠ 0 ∧ (sel.val < 9 ∨ 13 ≤ sel.val)))
        (hv : BitVec.ofNat 32 (u.freadValue k sel.val) = v) : gives sel v := by
      refine answers_fire hx (a := execFread (.sq k) rd sel s) rfl rfl ?_
      rw [if_pos hsel, State.sqFread_of_ready hgo, ← hv]
      obtain ⟨done, conds⟩ := ((Gains.refl k u).fireResult rd (u.freadValue k sel.val)).spend 1
      exact ⟨done, conds, ((OnlySqs.refl u).fireResult k ..).spend ..⟩
    refine ⟨hgives 1 _ (by decide) (.inr (by decide)) rfl, hgives 2 _ (by decide) (.inr (by decide)) (u.sqs[k].page.ofNat_toNat ..), hgives 3 _ (by decide) (.inr (by decide)) (u.sqs[k].lines.ofNat_toNat ..),
      hgives 4 _ (by decide) (.inr (by decide)) (BitVec.ofNat_toNat ..), hgives 13 _ (by decide) (.inr (by decide)) (u.freadValue_time k), fun hb => hgives 0 _ (by decide) (.inl hb) (BitVec.ofNat_toNat ..),
      fun j => ⟨hgives _ _ (by simp; omega) (.inr (by simp; omega)) (by rw [u.freadValue_room]),
        fun hb => hgives _ _ (by simp; omega) (.inl hb) (by rw [u.freadValue_nb])⟩⟩
  case xclr =>
    intro hx hb
    refine answers_fire hx (a := execXclr (.sq k) ra s) rfl rfl ?_
    rw [State.sqXclr_of_no_builds hb]
    obtain ⟨done, -⟩ := (Gains.refl k (u.condClear k a)).fireDone.spend 1
    exact ⟨done.of_core_eq (by simp [State.condClear]) (fun j hj => State.modSq_ne _ _ _ _ hj), by simp [State.condClear, q, a],
      ((OnlySqs.refl u).modSq ..).fireDone k |>.spend ..⟩
  case branch =>
    intro hx hb c hc far near branches
    constructor
    · refine answers_fire hx (a := s.condBranch (.sq k) (encode (.bxs (.sq k) c off)) true c off) rfl rfl ?_
      rw [if_pos hc]
      exact State.sqBranch_effect hb ..
    · refine answers_fire hx (a := s.condBranch (.sq k) (encode (.bxc (.sq k) c off)) false c off) rfl rfl ?_
      have hif : (if q.xstat.getLsbD c.val then near else far) = if q.xstat.getLsbD c.val = false then far else near := by
        cases q.xstat.getLsbD c.val <;> rfl
      rw [if_pos hc, hif]
      exact State.sqBranch_effect hb ..

end Sys2Proof.Machine
end

section
/-!
PROOFS. Run control of a sequencer (R97, R130, R132): what a write of SQk_CTRL makes of its register, how a page closes, and the job queue with its
count; then the obligation SequencerRunControl.
-/
namespace Sys2Proof.Machine

/-! ## The control register (R97) -/

/-- The fields of SQk_CTRL that a write of `v` stores. -/
def State.ctrlFields (s : State) (k : Fin 12) (v : Word) : State :=
  ((s.put (SQ_CTRL_HOLD k) (field v 3 3)).put (SQ_CTRL_PARK_REQ k) (field v 2 2)).put (SQ_CTRL_FRESH k) (field v 1 1)

section CtrlFields
variable (s : State) (k : Fin 12) (v : Word)

theorem State.ctrlFields_frame : s.ctrlFields k v = { s with regs := (s.ctrlFields k v).regs } := rfl

theorem State.ctrlFields_regsBut : RegsBut [SQ_CTRL k] s (s.ctrlFields k v) := fun a ha => by
  have hne : a ≠ SQ_CTRL k := List.ne_of_not_mem_cons ha
  rw [State.ctrlFields, State.rd_put_ne _ _ _ _ hne, State.rd_put_ne _ _ _ _ hne, State.rd_put_ne _ _ _ _ hne]

theorem testBit_field_bit (i : Nat) : (field v i i).testBit 0 = v.getLsbD i := by simp [field, ← BitVec.testBit_toNat]

theorem State.rd_ctrlFields : (s.ctrlFields k v).rd (SQ_CTRL k) =
    withField (withField (withField (s.rd (SQ_CTRL k)) 3 3 (field v 3 3)) 2 2 (field v 2 2)) 1 1 (field v 1 1) := by
  rw [State.ctrlFields, State.rd_put_same _ (SQ_CTRL_FRESH k), State.rd_put_same _ (SQ_CTRL_PARK_REQ k), State.rd_put_same _ (SQ_CTRL_HOLD k)]

theorem State.hold_ctrlFields : (s.ctrlFields k v).flag (SQ_CTRL_HOLD k) = v.getLsbD 3 := by
  rw [State.flag_eq_bit, State.bit, State.rd_ctrlFields]
  simp only [getLsbD_withField _ _ _ _ _ (show 1 < 32 by decide), getLsbD_withField _ _ _ _ _ (show 2 < 32 by decide),
    getLsbD_withField _ _ _ _ _ (show 3 < 32 by decide), Nat.reduceLeDiff, and_false, and_true, if_false, if_true, le_refl, Nat.sub_self, testBit_field_bit]

theorem State.fresh_ctrlFields : (s.ctrlFields k v).flag (SQ_CTRL_FRESH k) = v.getLsbD 1 := by
  rw [State.flag_eq_bit, State.bit, State.rd_ctrlFields]
  simp only [getLsbD_withField _ _ _ _ _ (show 1 < 32 by decide), getLsbD_withField _ _ _ _ _ (show 2 < 32 by decide),
    getLsbD_withField _ _ _ _ _ (show 3 < 32 by decide), Nat.reduceLeDiff, and_true, if_false, if_true, le_refl, Nat.sub_self, testBit_field_bit]

end CtrlFields

section Write
variable {s : State} {k : Fin 12} (h : s.bit CLK_EN1 k.val = true) (x : Fin 2) (value : Word)
include h

/-- A supervisor's write that the control block of a clocked sequencer answers. -/
theorem State.supWrite_sq {off : Nat} {v : Word} {r : Resp × State} (hw : s.sqWrite k off v = some r) : s.supWrite x (.sq k.val) off v = r := by
  have hrule : s.writeRule (.sc x) (.sq k.val) off v = s.sqWrite k off v := congrArg (fun i => s.sqWrite i off v) (finOf_val _ k)
  rw [State.supWrite_of_clocked (b := .sq k.val) h, State.writeUnit, hrule, hw]

theorem exec_go : exec (.go x k value) s = .next ((s.sqCtrl k (value ||| fieldMask 0 0)).bus .ok 0) :=
  congrArg busAnswer (State.supWrite_sq h x (off := 0x0) (r := (.ok, s.sqCtrl k (value ||| fieldMask 0 0))) rfl)

theorem exec_hold : exec (.hold x k value) s = .next ((s.sqCtrl k (value ||| fieldMask 3 3)).bus .ok 0) :=
  congrArg busAnswer (State.supWrite_sq h x (off := 0x0) (r := (.ok, s.sqCtrl k (value ||| fieldMask 3 3))) rfl)

omit value in
theorem exec_jobPush : exec (.jobPush x k) s = .next ((s.jobPush k).bus .ok 0) :=
  congrArg busAnswer (State.supWrite_sq h x (off := 0x104) (v := 0) (r := (.ok, s.jobPush k)) rfl)

end Write

/-- A write with GO and without HOLD. -/
theorem State.sqCtrl_of_go {s : State} {k : Fin 12} {v : Word} (h3 : v.getLsbD 3 = false) (h0 : v.getLsbD 0 = true) :
    s.sqCtrl k v = (s.ctrlFields k v).sqGo k := by
  simp only [State.sqCtrl, h3, h0, Bool.false_eq_true, if_false, if_true]
  rfl

/-- A write with HOLD and without GO. -/
theorem State.sqCtrl_of_hold {s : State} {k : Fin 12} {v : Word} (h3 : v.getLsbD 3 = true) (h0 : v.getLsbD 0 = false) :
    s.sqCtrl k v = (s.ctrlFields k v).sqHold k := by
  simp only [State.sqCtrl, h3, h0, Bool.false_eq_true, if_false, if_true]
  rfl

/-- GO starts a sequencer in RESET with HOLD = 0, and a FRESH one from PARKED. -/
theorem State.sqGo_of_starts {s : State} {k : Fin 12} (h : (s.sqs[k].st = .reset ∧ s.flag (SQ_CTRL_HOLD k) = false) ∨
    (s.sqs[k].st = .parked ∧ s.flag (SQ_CTRL_FRESH k) = true)) : s.sqGo k = s.sqStart k := by
  obtain ⟨hst, hf⟩ | ⟨hst, hf⟩ := h
  · rw [State.sqGo, hst]
    simp only [hf, Bool.false_eq_true, if_false]
  · rw [State.sqGo, hst]
    simp only [hf, if_true]

/-- What a start makes of its sequencer, and what it keeps. -/
structure Starts (k : Fin 12) (s t : State) : Prop where
  st : t.sqs[k].st = .run
  pc : t.sqs[k].core.pc = s.rd (SQ_ENTRY k) &&& 0xFFFFFFFC#32
  gr : ∀ r, t.gr (.sq k) r = 0
  pageOpen : t.sqs[k].pageOpen = false
  xstat : t.sqs[k].xstat = 0
  builds : t.sqs[k].builds = []
  fifo : t.sqs[k].fifo = s.sqs[k].fifo
  jobs : t.sqs[k].jobs = s.sqs[k].jobs
  others : ∀ j ≠ k, t.sqs[j] = s.sqs[j]

theorem State.sqStart_starts (s : State) (k : Fin 12) : Starts k s (s.sqStart k) := by
  constructor
  case gr => simp [State.sqStart, State.gr, State.core, Core.gr]
  case others => exact fun j hj => State.modSq_ne _ _ _ _ hj
  all_goals simp [State.sqStart]

/-! ## A page closed (R106) -/

/-- The bad verdict of the open segment is noted once. -/
theorem State.segBad_eq_or (s : State) (k : Fin 12) :
    s.segBad k = s ∨ s.segBad k = (s.modSeg k (fun g => { g with seen := true })).cond k xSEG_BAD := by
  rw [State.segBad]
  split
  · split_ifs
    · exact .inl rfl
    · exact .inr rfl
  · exact .inl rfl

/-- What closing takes from the open segment is its RESIDUE, and its verdict where that is bad. -/
theorem State.dropSeg_eq_or (s : State) (k : Fin 12) : s.dropSeg k = s.residue k ∨ s.dropSeg k = (s.residue k).segBad k := by
  cases hg : s.sqs[k].seg with
  | none =>
    left
    rw [State.dropSeg_of_none hg, State.residue, Seq.left, hg]
    rfl
  | some g =>
    have hleft : s.sqs[k].left = g.data := by rw [Seq.left, hg]
    simp only [State.dropSeg, hg, State.residue, hleft]
    split
    · exact .inr rfl
    · exact .inl rfl

/-- From `s` to `t` the page of sequencer `k` has been closed, whether or not one was open. -/
structure Closes (k : Fin 12) (s t : State) : Prop where
  core : t.sqs[k].core = s.sqs[k].core
  jobs : t.sqs[k].jobs = s.sqs[k].jobs
  pageOpen : t.sqs[k].pageOpen = false
  residue : s.sqs[k].pageOpen = true → s.sqs[k].left ≠ [] → t.sqs[k].xstat.getLsbD xRESIDUE = true
  others : ∀ j ≠ k, t.sqs[j] = s.sqs[j]
  frame : t = { s with sqs := t.sqs, fsch := t.fsch, evt := t.evt }

theorem State.segBad_gains (s : State) (k : Fin 12) : ∃ l, Gains k l s (s.segBad k) := by
  obtain h | h := s.segBad_eq_or k <;> rw [h]
  · exact ⟨_, .refl k s⟩
  · exact ⟨_, (Gains.refl k s).modSq.cond⟩

theorem State.segBad_onlySqs (s : State) (k : Fin 12) : OnlySqs s (s.segBad k) := by
  obtain h | h := s.segBad_eq_or k <;> rw [h]
  · exact .refl s
  · exact ((OnlySqs.refl s).modSq ..).cond ..

theorem State.segBad_jobs (s : State) (k : Fin 12) : (s.segBad k).sqs[k].jobs = s.sqs[k].jobs := by
  obtain h | h := s.segBad_eq_or k <;> rw [h]
  simp [State.modSeg]

theorem State.residue_jobs (s : State) (k : Fin 12) : (s.residue k).sqs[k].jobs = s.sqs[k].jobs := by
  rw [State.residue]
  split_ifs <;> simp [State.modSeg]

theorem State.dropSeg_gains (s : State) (k : Fin 12) : ∃ l, Gains k ((if s.sqs[k].left.isEmpty then [] else [xRESIDUE]) ++ l) s (s.dropSeg k) := by
  obtain ⟨l, hl⟩ := (s.residue k).segBad_gains k
  obtain h | h := s.dropSeg_eq_or k <;> rw [h]
  · exact ⟨[], by simpa using s.residue_gains k⟩
  · exact ⟨l, (s.residue_gains k).trans hl⟩

theorem State.dropSeg_onlySqs (s : State) (k : Fin 12) : OnlySqs s (s.dropSeg k) := by
  obtain h | h := s.dropSeg_eq_or k <;> rw [h]
  · exact s.residue_onlySqs k
  · exact (s.residue_onlySqs k).trans (State.segBad_onlySqs ..)

theorem State.dropSeg_jobs (s : State) (k : Fin 12) : (s.dropSeg k).sqs[k].jobs = s.sqs[k].jobs := by
  obtain h | h := s.dropSeg_eq_or k <;> rw [h]
  · exact s.residue_jobs k
  · rw [State.segBad_jobs, State.residue_jobs]

theorem State.closePage_closes (s : State) (k : Fin 12) : Closes k s (s.closePage k) := by
  cases hp : s.sqs[k].pageOpen with
  | false =>
    have h : s.closePage k = s := by simp only [State.closePage, hp, Bool.false_eq_true, if_false]
    rw [h]
    exact ⟨rfl, rfl, hp, fun h => Bool.noConfusion (hp.symm.trans h), fun _ _ => rfl, rfl⟩
  | true =>
    have hsqs := State.closePage_sqs hp
    have hframe := State.closePage_frame hp
    obtain ⟨l, gains⟩ := s.dropSeg_gains k
    have hjobs := s.dropSeg_jobs k
    have honly := s.dropSeg_onlySqs k
    generalize s.dropSeg k = u at *
    generalize s.closePage k = t at *
    obtain ⟨core, conds, others⟩ := (gains.modSq (f := Seq.closed)).sqs_eq hsqs
    refine ⟨core, ?_, ?_, fun _ hleft => ?_, others, ?_⟩
    · rw [← hjobs, hsqs, State.modSq_same]
      rfl
    · rw [hsqs, State.modSq_same]
      rfl
    · have hne : s.sqs[k].left.isEmpty = false := by simpa using hleft
      rw [conds _ (by decide), hne]
      simp
    · have hevt : t.evt = u.evt := by rw [hframe]
      unfold OnlySqs at honly
      rw [hevt, hframe, honly]

/-- HOLD closes the page and puts the sequencer in RESET with nothing pending. -/
theorem State.sqHold_holds (s : State) (k : Fin 12) : Closes k s (s.sqHold k) ∧ (s.sqHold k).sqs[k].st = .reset ∧
    (s.sqHold k).sqs[k].builds = [] ∧ (s.sqHold k).sqs[k].seg = none := by
  obtain ⟨core, jobs, pageOpen, residue, others, frame⟩ := s.closePage_closes k
  rw [State.sqHold]
  generalize s.closePage k = t at *
  rw [State.modSq_same]
  refine ⟨⟨?_, ?_, ?_, ?_, ?_, ?_⟩, rfl, rfl, rfl⟩
  iterate 4 rwa [State.modSq_same]
  · exact fun j hj => (State.modSq_ne _ _ _ _ hj).trans (others j hj)
  · rw [frame]
    rfl

/-! ## The job queue (R130) -/

/-- A count of jobs stored in SQk_JOB_STAT. -/
theorem State.get_jobCount (s : State) (k : Fin 12) {n : Nat} (h : n < 8) : (s.put (SQ_JOB_STAT_COUNT k) n).get (SQ_JOB_STAT_COUNT k) = n := by
  rw [State.get_put_same _ _ _ (show 2 < 32 by decide)]
  exact Nat.mod_eq_of_lt h

theorem State.flag_jobOvf (s : State) (k : Fin 12) : (s.put (SQ_JOB_STAT_OVF k) 1).flag (SQ_JOB_STAT_OVF k) = true := by
  rw [State.flag, State.get_put_same _ _ _ (show 8 < 32 by decide)]
  rfl

theorem State.jobPush_of_room {s : State} {k : Fin 12} (h : s.sqs[k].jobs.length < 4) :
    s.jobPush k = (s.modSq k (fun q => { q with jobs := q.jobs ++ [Vector.ofFn (fun i : Fin 4 => s.rd (SQ_JOB_IN k i))] })).put
      (SQ_JOB_STAT_COUNT k) (s.sqs[k].jobs.length + 1) := by
  simp only [State.jobPush, if_pos h, State.modSq_same, List.length_append, List.length_singleton]

theorem State.jobPush_of_full {s : State} {k : Fin 12} (h : 4 ≤ s.sqs[k].jobs.length) : s.jobPush k = s.put (SQ_JOB_STAT_OVF k) 1 := by
  rw [State.jobPush, if_neg (Nat.not_lt.2 h)]
  rfl

theorem State.jobPop_eq (s : State) (k : Fin 12) :
    s.jobPop k = (s.modSq k (fun q => { q with jobs := q.jobs.drop 1 })).put (SQ_JOB_STAT_COUNT k) (s.sqs[k].jobs.length - 1) := by
  simp only [State.jobPop, State.modSq_same, List.length_drop]

/-! ## The obligation -/

/-- Settles O23: the write of SQk_CTRL by its fields and what GO or HOLD then does, the job queue by its equations. -/
theorem sequencerRunControl : Obligations.SequencerRunControl := by
  unfold Obligations.SequencerRunControl
  intro x k value s hclk q
  refine ⟨fun h3 hst => ?go, fun h0 => ?hold, ?push, ?pop⟩
  case go =>
    have hv3 : (value ||| fieldMask 0 0).getLsbD 3 = false := by simp only [BitVec.getLsbD_or, h3, Bool.false_or]; decide
    have hv0 : (value ||| fieldMask 0 0).getLsbD 0 = true := by rw [BitVec.getLsbD_or]; exact Bool.or_true _
    have hv1 : (value ||| fieldMask 0 0).getLsbD 1 = value.getLsbD 1 := by rw [BitVec.getLsbD_or]; exact Bool.or_false _
    have hstart : s.sqCtrl k (value ||| fieldMask 0 0) = (s.ctrlFields k (value ||| fieldMask 0 0)).sqStart k := by
      rw [State.sqCtrl_of_go hv3 hv0]
      refine State.sqGo_of_starts (hst.imp (fun h => ⟨h, ?_⟩) fun h => ⟨h.1, ?_⟩)
      · rw [State.hold_ctrlFields, hv3]
      · rw [State.fresh_ctrlFields, hv1, h.2]
    refine ⟨_, exec_go hclk x value, ?_⟩
    rw [hstart]
    have hregs := s.ctrlFields_regsBut k (value ||| fieldMask 0 0)
    have hframe := s.ctrlFields_frame k (value ||| fieldMask 0 0)
    have hsqs : (s.ctrlFields k (value ||| fieldMask 0 0)).sqs = s.sqs := rfl
    generalize s.ctrlFields k (value ||| fieldMask 0 0) = v at *
    obtain ⟨st, pc, gr, pageOpen, xstat, builds, fifo, jobs, others⟩ := v.sqStart_starts k
    rw [hsqs] at fifo jobs others
    rw [hregs _ (by simp)] at pc
    exact ⟨rfl, st, pc, gr, pageOpen, xstat, builds, fifo, jobs, others, hregs, by rw [hframe]; rfl⟩
  case hold =>
    have hv3 : (value ||| fieldMask 3 3).getLsbD 3 = true := by rw [BitVec.getLsbD_or]; exact Bool.or_true _
    have hv0 : (value ||| fieldMask 3 3).getLsbD 0 = false := by simp only [BitVec.getLsbD_or, h0, Bool.false_or]; decide
    refine ⟨_, exec_hold hclk x value, ?_⟩
    rw [State.sqCtrl_of_hold hv3 hv0]
    have hhold := s.hold_ctrlFields k (value ||| fieldMask 3 3)
    have hregs := s.ctrlFields_regsBut k (value ||| fieldMask 3 3)
    have hframe := s.ctrlFields_frame k (value ||| fieldMask 3 3)
    have hsqs : (s.ctrlFields k (value ||| fieldMask 3 3)).sqs = s.sqs := rfl
    generalize s.ctrlFields k (value ||| fieldMask 3 3) = v at *
    obtain ⟨⟨core, jobs, pageOpen, residue, others, frame⟩, st, builds, seg⟩ := v.sqHold_holds k
    have hregs' : (v.sqHold k).regs = v.regs := by rw [frame]
    rw [hsqs] at core jobs residue others
    refine ⟨rfl, st, builds, seg, pageOpen, core, jobs, others, ?_, fun a ha => ?_, fun g hg hp hdata => ?_, ?_⟩
    · exact (congrArg (fun n => decide (n ≠ 0)) (State.get_congr hregs' _)).trans (hhold.trans hv3)
    · exact (State.rd_congr _ _ hregs' a).trans (hregs a ha)
    · have hleft : s.sqs[k].left = g.data := by rw [Seq.left, hg]
      exact residue hp (by rwa [hleft])
    · rw [frame, hframe]
      rfl
  case push =>
    refine ⟨_, exec_jobPush hclk x, ?_⟩
    obtain hroom | hfull := Nat.lt_or_ge q.jobs.length 4
    · rw [State.jobPush_of_room hroom]
      refine ⟨rfl, fun _ => ⟨by simp [q], ?_⟩, fun h => absurd h (Nat.not_le.2 hroom), fun a ha => ?_, rfl⟩
      · exact State.get_jobCount _ k (Nat.succ_lt_succ (hroom.trans (by decide)))
      · exact State.rd_put_ne _ _ _ _ (List.ne_of_not_mem_cons ha)
    · rw [State.jobPush_of_full hfull]
      exact ⟨rfl, fun h => absurd h (Nat.not_lt.2 hfull), fun _ => ⟨rfl, s.flag_jobOvf k⟩,
        fun a ha => State.rd_put_ne _ _ _ _ (List.ne_of_not_mem_cons ha), rfl⟩
  case pop =>
    refine ⟨_, congrArg Host.Outcome.next (s.jobPop_eq k), by simp [q], fun a ha => ?_, fun h => ?_, rfl⟩
    · exact State.rd_put_ne _ _ _ _ (List.ne_of_not_mem_cons ha)
    · exact State.get_jobCount _ k ((Nat.sub_le ..).trans_lt (h.trans_lt (by decide)))

end Sys2Proof.Machine
end

section
/-!
PROOFS. What the statements on position and time share: fields read after a write of another field, counters, the registers that a chain of writes
leaves, a bus write that its unit's rule answers, and the records in flight.
-/
namespace Sys2Proof.Machine

/-! ## Fields of registers (R13, R16) -/

section Fields
variable (s : State) {f g : RegField} (hh : f.hi < 32)
include hh

theorem State.flag_put_one (hl : f.lo ≤ f.hi) : (s.put f 1).flag f = true := by
  have h1 : 1 % 2 ^ (f.hi + 1 - f.lo) = 1 := Nat.mod_eq_of_lt (Nat.one_lt_two_pow (by omega))
  rw [State.flag, State.get_put_same _ _ _ hh, h1]
  rfl

theorem State.flag_put_zero : (s.put f 0).flag f = false := by
  rw [State.flag, State.get_put_same _ _ _ hh, Nat.zero_mod]
  rfl

/-- A field of another register, or of other bits of the same one, reads as before. -/
theorem State.get_put_apart (v : Nat) (hd : g.addr ≠ f.addr ∨ g.hi < f.lo ∨ f.hi < g.lo) : (s.put f v).get g = s.get g := by
  by_cases ha : g.addr = f.addr
  · rw [State.get, ha, State.rd_put_same, field_withField_disjoint _ _ _ _ _ _ hh (hd.resolve_left fun h => h ha), ← ha, State.get]
  · exact State.get_put_ne _ _ _ _ ha

theorem State.flag_put_apart (v : Nat) (hd : g.addr ≠ f.addr ∨ g.hi < f.lo ∨ f.hi < g.lo) : (s.put f v).flag g = s.flag g := by
  rw [State.flag, State.get_put_apart s hh v hd, State.flag]

/-- A counter increased holds one more, or stays at all ones (R16). -/
theorem State.get_bump_same : (s.bump f).get f = min (s.get f + 1) (2 ^ (f.hi + 1 - f.lo) - 1) := by
  have hpos : 0 < 2 ^ (f.hi + 1 - f.lo) := Nat.two_pow_pos _
  rw [State.bump, State.get_put_same _ _ _ hh, satAdd]
  exact Nat.mod_eq_of_lt (by omega)

end Fields

/-- A flag set and a counter of another register increased. -/
theorem State.put_bump_apart (s : State) {f g : RegField} (hf : f.hi < 32) (hl : f.lo ≤ f.hi) (hg : g.hi < 32) (hne : g.addr ≠ f.addr) :
    ((s.put f 1).bump g).flag f = true ∧ ((s.put f 1).bump g).get g = min (s.get g + 1) (2 ^ (g.hi + 1 - g.lo) - 1) := by
  refine ⟨?_, by rw [State.get_bump_same _ hg, State.get_put_ne _ _ _ _ hne]⟩
  rw [State.bump, State.flag_put_apart _ hg _ (.inl hne.symm)]
  exact s.flag_put_one hf hl

theorem State.get_wr_ne (s : State) {f : RegField} {a : Nat} (v : Word) (h : f.addr ≠ a) : (s.wr a v).get f = s.get f := by
  rw [State.get, State.rd_wr_ne _ _ _ _ h, State.get]

theorem State.flag_wr_ne (s : State) {f : RegField} {a : Nat} (v : Word) (h : f.addr ≠ a) : (s.wr a v).flag f = s.flag f := by
  rw [State.flag, State.get_wr_ne s v h, State.flag]

/-- A state with the same register table shows every flag alike. -/
theorem State.flag_congr {s t : State} (h : t.regs = s.regs) (f : RegField) : t.flag f = s.flag f := by
  rw [State.flag, State.get_congr h, State.flag]

/-! ## What leaves every register as it is -/

@[simp] theorem State.get_raise (s : State) (ev src : Nat) (v : Word) (f : RegField) : (s.raise ev src v).get f = s.get f := rfl
@[simp] theorem State.flag_raise (s : State) (ev src : Nat) (v : Word) (f : RegField) : (s.raise ev src v).flag f = s.flag f := rfl
@[simp] theorem State.flag_bus (s : State) (r : Resp) (v : Word) (f : RegField) : (s.bus r v).flag f = s.flag f := rfl
@[simp] theorem State.get_modPos (s : State) (c : Fin 10) (f : PosChan → PosChan) (g : RegField) : (s.modPos c f).get g = s.get g := rfl
@[simp] theorem State.flag_modPos (s : State) (c : Fin 10) (f : PosChan → PosChan) (g : RegField) : (s.modPos c f).flag g = s.flag g := rfl

/-! ## The registers that a chain of writes leaves -/

namespace RegsBut
variable {l : List Nat} {s t u : State}

theorem refl (l : List Nat) (s : State) : RegsBut l s s := fun _ _ => rfl

theorem trans (h : RegsBut l s t) (g : RegsBut l t u) : RegsBut l s u := fun a ha => (g a ha).trans (h a ha)

theorem wr (h : RegsBut l s t) {a : Nat} (ha : a ∈ l) (v : Word) : RegsBut l s (t.wr a v) := fun b hb =>
  (State.rd_wr_ne _ _ _ _ (ne_of_mem_of_not_mem ha hb).symm).trans (h b hb)

theorem put (h : RegsBut l s t) {f : RegField} (hf : f.addr ∈ l) (v : Nat) : RegsBut l s (t.put f v) := h.wr hf _

theorem bump (h : RegsBut l s t) {f : RegField} (hf : f.addr ∈ l) : RegsBut l s (t.bump f) := h.wr hf _

/-- What leaves the register table as it is. -/
theorem regs_eq (h : RegsBut l s t) (e : u.regs = t.regs) : RegsBut l s u := fun a ha => (State.rd_congr _ _ e a).trans (h a ha)

theorem raise (h : RegsBut l s t) (ev src : Nat) (v : Word) : RegsBut l s (t.raise ev src v) := h.regs_eq rfl

theorem modPos (h : RegsBut l s t) (c : Fin 10) (f : PosChan → PosChan) : RegsBut l s (t.modPos c f) := h.regs_eq rfl

theorem bus (h : RegsBut l s t) (r : Resp) (v : Word) : RegsBut l s (t.bus r v) := h.regs_eq rfl

theorem of_wr (s : State) (a : Nat) (v : Word) : RegsBut [a] s (s.wr a v) := (refl _ s).wr (List.mem_singleton_self a) v

theorem of_put (s : State) (f : RegField) (v : Nat) : RegsBut [f.addr] s (s.put f v) := of_wr s f.addr _

theorem get_eq (h : RegsBut l s t) {f : RegField} (hf : f.addr ∉ l) : t.get f = s.get f := by rw [State.get, h _ hf, State.get]

theorem flag_eq (h : RegsBut l s t) {f : RegField} (hf : f.addr ∉ l) : t.flag f = s.flag f := by rw [State.flag, h.get_eq hf, State.flag]

theorem mono {m : List Nat} (h : RegsBut l s t) (hs : l ⊆ m) : RegsBut m s t := fun a ha => h a fun hl => ha (hs hl)

end RegsBut

/-! ## A write that its unit's rule answers (R18) -/

theorem State.supWrite_of_rule {s : State} {b : Block} {off : Nat} {v : Word} {r : Resp × State} (hc : s.clocked b = true) (x : Fin 2)
    (h : s.writeRule (.sc x) b off v = some r) : s.supWrite x b off v = r := by
  rw [State.supWrite_of_clocked hc, State.writeUnit, h]

/-! ## One position channel -/

/-- A state whose channels are those of a change of one. -/
theorem State.pos_of_modPos {s t : State} {c : Fin 10} {f : PosChan → PosChan} (h : t.pos = (s.modPos c f).pos) :
    t.pos[c] = f s.pos[c] ∧ ∀ d ≠ c, t.pos[d] = s.pos[d] := by
  rw [h]
  exact ⟨State.modPos_same .., fun d hd => State.modPos_ne _ _ _ _ hd⟩

/-- A position channel changed twice. -/
theorem State.modPos_modPos (s : State) (c : Fin 10) (f g : PosChan → PosChan) : (s.modPos c f).modPos c g = s.modPos c (fun q => g (f q)) := by
  simp [State.modPos, vset_vset]

/-! ## Records in flight (R433) -/

/-- The record of a raised event: its number, its source and its time. -/
theorem State.raise_flight (s : State) (ev src : Nat) (v : Word) :
    ∃ r ∈ (s.raise ev src v).evt.flight, r.event = ev ∧ r.source = src % 4096 ∧ r.value = v ∧ r.tbc = s.tbc :=
  ⟨_, State.raiseAt_flight .., rfl, rfl, rfl, rfl⟩

end Sys2Proof.Machine
end

section
/-!
PROOFS. Every command completes, and a step runs the front command (log 9); then the obligation StepRunsFrontCommand.
-/
namespace Sys2Proof.Machine

/-- A bit-field instruction completes, whether or not its field goes past bit 31. -/
theorem State.bitInstr_completes (s : State) (c : CoreId) (word : Word) (rd ra pos w : Fin 32) (v : State → Word) :
    ∃ t, s.bitInstr c word rd ra pos w v = .next t := by
  rw [State.bitInstr]
  split_ifs <;> exact ⟨_, rfl⟩

/-- A write by a master completes, whether or not it is answered. -/
theorem execRegisterWrite_completes (m : Master) (addr : BitVec 40) (size : AccSize) (v : Word) (s : State) :
    ∃ t, execRegisterWrite m addr size v s = .next t := by
  rw [execRegisterWrite]
  cases s.busWrite m addr.toNat size v <;> exact ⟨_, rfl⟩

/-- A read by a master completes, whether or not it is answered. -/
theorem State.busReadAnswer_completes (s : State) (m : Master) (addr : BitVec 40) : ∃ t, s.busReadAnswer m addr = .next t := by
  rw [State.busReadAnswer]
  cases s.busRead m addr.toNat .word <;> exact ⟨_, rfl⟩

theorem execEvtRaise_completes (m : Master) (v : Word) (s : State) : ∃ t, execEvtRaise m v s = .next t := by
  rw [execEvtRaise]
  cases s.busWrite m EVT_RAISE .word v <;> exact ⟨_, rfl⟩

/-- Every command completes: those that a bus access or a bit field's range decides by their two cases, and every other arm is a next state as it
stands. -/
theorem exec_completes (i : Instr) (s : State) : ∃ t, exec i s = .next t := by
  cases i
  case registerWrite m addr size v => exact execRegisterWrite_completes m addr size v s
  case loReadCapture m addr => exact s.busReadAnswer_completes m addr
  case rcReadClear m addr => exact s.busReadAnswer_completes m addr
  case evtRaise m v => exact execEvtRaise_completes m v s
  case bextu => exact s.bitInstr_completes ..
  case bexts => exact s.bitInstr_completes ..
  case bins => exact s.bitInstr_completes ..
  all_goals exact ⟨_, rfl⟩

/-- The step on an empty queue is a tick (log 9). -/
theorem step_of_empty {s : State} (h : s.pending = []) : step s = .next s.tick := by rw [step, h]

/-- Settles O55: exec by its arms, and the step on a queue by its front command. -/
theorem stepRunsFrontCommand : Obligations.StepRunsFrontCommand := by
  unfold Obligations.StepRunsFrontCommand
  exact ⟨exec_completes, step_cons, fun _ => step_of_empty⟩

end Sys2Proof.Machine
end
section
/-!
PROOFS. Network time and TIME_RATE (R151, R152): the rate that a write installs and the OFFSET that keeps NT; then the obligation
RateChangeKeepsNetworkTime.
-/
namespace Sys2Proof.Machine

/-! ## TIME_RATE (R151, R152) -/

/-- OFFSET enters NT as it is. -/
theorem ofInt_ntQ16_offset (tbc : Nat) (rate : Int) (off : BitVec 80) :
    BitVec.ofInt 80 (ntQ16 tbc rate off.toInt) = BitVec.ofInt 80 (ntQ16 tbc rate 0) + off := by
  simp only [ntQ16, Int.add_zero, BitVec.ofInt_add, BitVec.ofInt_toInt]

/-- The rate that a write installs. -/
def clampRate (v : Word) : Int := max (-549755813) (min 549755813 v.toInt)

theorem toInt_ofInt_clampRate (v : Word) : (BitVec.ofInt 32 (clampRate v)).toInt = clampRate v := by
  rw [BitVec.toInt_ofInt, clampRate]
  exact Int.bmod_eq_of_le (by omega) (by omega)

/-- A rate installed, with OFFSET changed by what it makes NT jump. -/
def State.setRate (s : State) (c : Int) : State :=
  { s.wr TIME_RATE (BitVec.ofInt 32 c) with offset := s.offset + BitVec.ofInt 80 (ntQ16 s.now s.rate 0 - ntQ16 s.now c 0) }

theorem State.rate_setRate (s : State) (v : Word) : (s.setRate (clampRate v)).rate = clampRate v := by
  have hrd : (s.setRate (clampRate v)).rd TIME_RATE = BitVec.ofInt 32 (clampRate v) := State.rd_wr_same ..
  rw [State.rate, hrd, toInt_ofInt_clampRate]

/-- NT goes on where it was (R152). -/
theorem State.nt_setRate (s : State) (v : Word) : (s.setRate (clampRate v)).nt = s.nt := by
  have hoff : (s.setRate (clampRate v)).offset = s.offset + BitVec.ofInt 80 (ntQ16 s.now s.rate 0 - ntQ16 s.now (clampRate v) 0) := rfl
  rw [State.nt, State.nt, State.rate_setRate, hoff, ofInt_ntQ16_offset, ofInt_ntQ16_offset _ _ s.offset, Int.sub_eq_add_neg, BitVec.ofInt_add,
    BitVec.ofInt_neg]
  change BitVec.ofInt 80 (ntQ16 s.now (clampRate v) 0) + _ = _
  ring

theorem State.timeRate_of_holdover {s : State} (h : s.flag TIME_STAT_HOLDOVER = true) (v : Word) : s.timeRate v = s.put TIME_STAT_HOLD_WR 1 := by
  simp [State.timeRate, h]

/-- Outside HOLDOVER the clamped rate is installed, where it was clamped after RATE_CLAMPED. -/
theorem State.timeRate_of_running {s : State} (h : s.flag TIME_STAT_HOLDOVER = false) (v : Word) :
    s.timeRate v = (if clampRate v = v.toInt then s else s.put TIME_STAT_RATE_CLAMPED 1).setRate (clampRate v) := by
  simp only [State.timeRate, h, Bool.false_eq_true, if_false]
  rfl

theorem exec_timeRateWrite (x : Fin 2) (v : Word) (s : State) : exec (.timeRateWrite x v) s = .next ((s.timeRate v).bus .ok 0) := rfl

/-- Settles O28: a rate installed with its change of OFFSET keeps NT, whether or not RATE_CLAMPED was set before it. -/
theorem rateChangeKeepsNetworkTime : Obligations.RateChangeKeepsNetworkTime := by
  unfold Obligations.RateChangeKeepsNetworkTime
  intro x value s
  refine ⟨_, exec_timeRateWrite x value s, rfl, fun h => ?running, fun h => ?holdover⟩
  case running =>
    have hnt (u : State) := u.nt_setRate value
    have hrate (u : State) := u.rate_setRate value
    have hregs (u : State) : RegsBut [TIME_RATE] u (u.setRate (clampRate value)) := RegsBut.of_wr u _ _
    rw [State.timeRate_of_running h]
    split_ifs with hc
    · exact ⟨hnt s, hrate s, fun hne => absurd ((hrate s).trans hc) hne, (hregs s).mono (by simp), rfl⟩
    · have hstat : RegsBut [TIME_STAT] s (s.put TIME_STAT_RATE_CLAMPED 1) := RegsBut.of_put s TIME_STAT_RATE_CLAMPED 1
      have hflag : (s.put TIME_STAT_RATE_CLAMPED 1).flag TIME_STAT_RATE_CLAMPED = true := State.flag_put_one s (by decide) (by decide)
      have hsame : (s.put TIME_STAT_RATE_CLAMPED 1).nt = s.nt := by
        rw [State.nt, State.rate, hstat TIME_RATE (by decide)]
        rfl
      have hframe : s.put TIME_STAT_RATE_CLAMPED 1 = { s with regs := (s.put TIME_STAT_RATE_CLAMPED 1).regs } := rfl
      generalize s.put TIME_STAT_RATE_CLAMPED 1 = u at *
      refine ⟨(hnt u).trans hsame, hrate u, fun _ => (State.flag_wr_ne u _ (by decide)).trans hflag,
        (hstat.mono (by simp)).trans ((hregs u).mono (by simp)), ?_⟩
      rw [hframe]
      rfl
  case holdover =>
    rw [State.timeRate_of_holdover h]
    exact ⟨State.flag_put_one s (by decide) (by decide), rfl, (RegsBut.of_put s TIME_STAT_HOLD_WR 1).bus _ _, rfl⟩

end Sys2Proof.Machine
end

section
/-!
PROOFS. A change of OFFSET (R153, R154): accepted, refused, or ignored in HOLDOVER; then the obligation OffsetSteps.
-/
namespace Sys2Proof.Machine

/-! ## A change accepted (R154, R166) -/

/-- VENC histories that move change channels alone. -/
theorem State.foldl_histShift_only_pos (s : State) (l : List (Fin 10)) (d : Int) :
    l.foldl (fun s c => s.histShift c d) s = { s with pos := (l.foldl (fun s c => s.histShift c d) s).pos } :=
  List.foldlRecOn l _ (motive := fun t : State => t = { s with pos := t.pos }) rfl fun t ht c _ => by
    conv_lhs => rw [ht]
    rfl

/-- OFFSET moved by `d`, with the step counted and recorded (R154). -/
def State.offsetNoted (s : State) (d : Int) : State :=
  (({ s with offset := s.offset + BitVec.ofInt 80 d } : State).put TIME_STAT_TSTEP ((s.get TIME_STAT_TSTEP + 1) % 256)).wr TIME_LAST_STEP
    (BitVec.ofInt 32 (satStep d))

theorem State.offsetNoted_regsBut (s : State) (d : Int) : RegsBut [TIME_STAT, TIME_LAST_STEP] s (s.offsetNoted d) := by
  have hput := RegsBut.of_put ({ s with offset := s.offset + BitVec.ofInt 80 d } : State) TIME_STAT_TSTEP ((s.get TIME_STAT_TSTEP + 1) % 256)
  exact RegsBut.wr (hput.mono (List.cons_subset_cons _ (List.nil_subset _))) (by simp) _

theorem State.tstep_offsetNoted (s : State) (d : Int) : (s.offsetNoted d).get TIME_STAT_TSTEP = (s.get TIME_STAT_TSTEP + 1) % 256 := by
  rw [State.offsetNoted, State.get_wr_ne _ _ (by decide), State.get_put_same _ _ _ (by decide)]
  exact Nat.mod_mod _ _

theorem State.lastStep_offsetNoted (s : State) {d : Int} (hl : -0x7FFFFFFF ≤ d) (hu : d ≤ 0x7FFFFFFF) :
    ((s.offsetNoted d).rd TIME_LAST_STEP).toInt = d := by
  have hsat : satStep d = d := by rw [satStep]; omega
  rw [State.offsetNoted, State.rd_wr_same, hsat, BitVec.toInt_ofInt]
  exact Int.bmod_eq_of_le (by omega) (by omega)

/-- An accepted change is the noted step, perhaps its event, and VENC histories that move. -/
theorem State.offsetMoved_rest (s : State) (d : Int) :
    s.offsetMoved d = { s.offsetNoted d with pos := (s.offsetMoved d).pos, evt := (s.offsetMoved d).evt } := by
  have h : s.offsetMoved d = [6, 7, 8, 9].foldl (fun s (c : Fin 10) => s.histShift c (-(roundDiv d 5120)))
      (if ((s.offsetNoted d).rd TIME_JUMP_MAX).toNat * 65536 < d.natAbs then (s.offsetNoted d).raise evTIME_STEP 0 (valueSigned d)
        else s.offsetNoted d) := rfl
  rw [h, State.foldl_histShift_only_pos]
  split_ifs
  · rfl
  · rfl

/-! ## A change tried (R153, R155) -/

section Change
variable {s : State} {d : Int}

theorem State.offsetChange_of_holdover (h : s.flag TIME_STAT_HOLDOVER = true) :
    s.offsetChange d = (s.put TIME_CTRL_STEP_ALLOW 0).put TIME_STAT_HOLD_WR 1 := by
  have h0 : (s.put TIME_CTRL_STEP_ALLOW 0).flag TIME_STAT_HOLDOVER = true := by rw [State.flag_put_apart s (by decide) 0 (by decide), h]
  simp [State.offsetChange, h0]

/-- The limit that a step is held against is not touched by STEP_ALLOW. -/
theorem State.jumpMax_put_stepAllow (s : State) : (s.put TIME_CTRL_STEP_ALLOW 0).rd TIME_JUMP_MAX = s.rd TIME_JUMP_MAX :=
  State.rd_put_ne _ _ _ _ (by decide)

theorem State.offsetChange_of_refused (h : s.flag TIME_STAT_HOLDOVER = false) (hb : (s.rd TIME_JUMP_MAX).toNat * 65536 < d.natAbs)
    (ha : s.flag TIME_CTRL_STEP_ALLOW = false) : s.offsetChange d =
      ((s.put TIME_CTRL_STEP_ALLOW 0).put TIME_STAT_JUMP_REFUSED 1).raise evTIME_JUMP_REFUSED 0 (valueSigned d) := by
  have h0 : (s.put TIME_CTRL_STEP_ALLOW 0).flag TIME_STAT_HOLDOVER = false := by rw [State.flag_put_apart s (by decide) 0 (by decide), h]
  simp [State.offsetChange, h0, State.jumpMax_put_stepAllow, hb, ha]

theorem State.offsetChange_of_accepted (h : s.flag TIME_STAT_HOLDOVER = false)
    (ha : ¬ (s.rd TIME_JUMP_MAX).toNat * 65536 < d.natAbs ∨ s.flag TIME_CTRL_STEP_ALLOW = true) :
    s.offsetChange d = (s.put TIME_CTRL_STEP_ALLOW 0).offsetMoved d := by
  have h0 : (s.put TIME_CTRL_STEP_ALLOW 0).flag TIME_STAT_HOLDOVER = false := by rw [State.flag_put_apart s (by decide) 0 (by decide), h]
  have hn : ¬ ((s.rd TIME_JUMP_MAX).toNat * 65536 < d.natAbs ∧ s.flag TIME_CTRL_STEP_ALLOW = false) := by
    rintro ⟨hb, hf⟩
    obtain h1 | h1 := ha
    · exact h1 hb
    · exact Bool.noConfusion (hf.symm.trans h1)
  simp only [State.offsetChange, State.clr_eq_put, h0, Bool.false_eq_true, if_false, State.jumpMax_put_stepAllow, if_neg hn]

end Change

/-- What every change of OFFSET leaves, accepted or not: STEP_ALLOW is clear, and nothing but the three registers, OFFSET, the channels and the
events has changed. -/
structure OffsetTried (s t : State) : Prop where
  stepAllow : t.flag TIME_CTRL_STEP_ALLOW = false
  regs : RegsBut [TIME_CTRL, TIME_STAT, TIME_LAST_STEP] s t
  frame : t = { s with offset := t.offset, pos := t.pos, regs := t.regs, evt := t.evt }

theorem OffsetTried.of_regs {s t : State} (h : RegsBut [TIME_STAT, TIME_LAST_STEP] (s.put TIME_CTRL_STEP_ALLOW 0) t)
    (hf : t = { s with offset := t.offset, pos := t.pos, regs := t.regs, evt := t.evt }) : OffsetTried s t where
  stepAllow := by rw [h.flag_eq (by decide), State.flag_put_zero s (by decide)]
  regs := ((RegsBut.of_put s TIME_CTRL_STEP_ALLOW 0).mono (List.cons_subset_cons _ (List.nil_subset _))).trans (h.mono (List.subset_cons_self _ _))
  frame := hf

theorem State.offsetChange_tried (s : State) (d : Int) : OffsetTried s (s.offsetChange d) := by
  cases h : s.flag TIME_STAT_HOLDOVER with
  | true =>
    rw [State.offsetChange_of_holdover h]
    exact .of_regs ((RegsBut.refl _ _).put (by simp) 1) rfl
  | false =>
    by_cases hr : (s.rd TIME_JUMP_MAX).toNat * 65536 < d.natAbs ∧ s.flag TIME_CTRL_STEP_ALLOW = false
    · rw [State.offsetChange_of_refused h hr.1 hr.2]
      exact .of_regs (((RegsBut.refl _ _).put (by simp) 1).regs_eq (State.raise_regs ..)) rfl
    · have ha : ¬ (s.rd TIME_JUMP_MAX).toNat * 65536 < d.natAbs ∨ s.flag TIME_CTRL_STEP_ALLOW = true := by
        rwa [not_and_or, Bool.not_eq_false] at hr
      rw [State.offsetChange_of_accepted h ha, State.offsetMoved_rest]
      exact .of_regs ((State.offsetNoted_regsBut _ d).regs_eq rfl) rfl

theorem exec_of_mem_offsetWrites (x : Fin 2) (v : Word) (s : State) :
    ∀ p ∈ [(Instr.timeOffsetWrite x v, ((s.staged TIME_OFFSET_HI ++ v ++ (s.staged TIME_OFFSET_FRAC).extractLsb' 0 16 : BitVec 80) - s.offset).toInt),
      (.timeAdjWrite x v, v.toInt)], exec p.1 s = .next ((s.offsetChange p.2).bus .ok 0) := by
  intro p hp
  simp only [List.mem_cons, List.not_mem_nil, or_false] at hp
  obtain rfl | rfl := hp <;> rfl

/-- Settles O29: both writes are one change of OFFSET, and each of its three outcomes by its equation. -/
theorem offsetSteps : Obligations.OffsetSteps := by
  unfold Obligations.OffsetSteps
  intro x value s new p hp big
  refine ⟨_, exec_of_mem_offsetWrites x value s p hp, rfl, ?_⟩
  obtain ⟨hallow, hregs, hframe⟩ := s.offsetChange_tried p.2
  refine ⟨hallow, fun h => ?holdover, fun h hb ha => ?refused, fun h ha => ?accepted, hregs.bus _ _, ?frame⟩
  case holdover =>
    rw [State.offsetChange_of_holdover h]
    exact ⟨rfl, State.flag_put_one _ (by decide) (by decide)⟩
  case refused =>
    rw [State.offsetChange_of_refused h hb ha]
    obtain ⟨e, he, hev, -, -, htbc⟩ := State.raise_flight ((s.put TIME_CTRL_STEP_ALLOW 0).put TIME_STAT_JUMP_REFUSED 1) evTIME_JUMP_REFUSED 0
      (valueSigned p.2)
    exact ⟨rfl, State.flag_put_one _ (by decide) (by decide), e, he, hev, htbc⟩
  case accepted =>
    have htstep := (s.put TIME_CTRL_STEP_ALLOW 0).tstep_offsetNoted p.2
    rw [State.get_put_ne _ _ _ _ (by decide)] at htstep
    rw [State.offsetChange_of_accepted h ha, State.offsetMoved_rest]
    exact ⟨rfl, htstep, (s.put TIME_CTRL_STEP_ALLOW 0).lastStep_offsetNoted⟩
  case frame =>
    rw [hframe]
    rfl

end Sys2Proof.Machine
end

section
/-!
PROOFS. SYNC messages and HOLDOVER (R155), the checkpoint that follows one (R316), the compare units (R156) and the stamp FIFO (R157); then the
obligation SyncCompareAndStamps.
-/
namespace Sys2Proof.Machine

/-! ## HOLDOVER (R155) -/

/-- What entering HOLDOVER does: the flag, its cause, its event, and nothing else. -/
structure EntersHoldover (cause : Nat) (s t : State) : Prop where
  flag : t.flag TIME_STAT_HOLDOVER = true
  cause : t.get TIME_STAT_HOLD_CAUSE = cause
  event : ∃ e ∈ t.evt.flight, e.event = evTIME_HOLDOVER ∧ e.tbc = s.tbc
  regs : RegsBut [TIME_STAT] s t
  frame : t = { s with regs := t.regs, evt := t.evt }

theorem State.holdover_of_running {s : State} (h : s.flag TIME_STAT_HOLDOVER = false) (cause : Nat) :
    s.holdover cause = ((s.put TIME_STAT_HOLDOVER 1).put TIME_STAT_HOLD_CAUSE cause).raise evTIME_HOLDOVER 0 0 := by
  simp [State.holdover, h]

theorem State.holdover_enters {s : State} (h : s.flag TIME_STAT_HOLDOVER = false) {cause : Nat} (hc : cause < 4) :
    EntersHoldover cause s (s.holdover cause) := by
  have hflag : ((s.put TIME_STAT_HOLDOVER 1).put TIME_STAT_HOLD_CAUSE cause).flag TIME_STAT_HOLDOVER = true := by
    rw [State.flag_put_apart _ (by decide) _ (by decide), State.flag_put_one s (by decide) (by decide)]
  have hcause : ((s.put TIME_STAT_HOLDOVER 1).put TIME_STAT_HOLD_CAUSE cause).get TIME_STAT_HOLD_CAUSE = cause := by
    rw [State.get_put_same _ _ _ (by decide)]
    exact Nat.mod_eq_of_lt hc
  have hregs := (RegsBut.of_put s TIME_STAT_HOLDOVER 1).put (f := TIME_STAT_HOLD_CAUSE) (List.mem_singleton_self _) cause
  obtain ⟨e, he, hev, -, -, htbc⟩ := ((s.put TIME_STAT_HOLDOVER 1).put TIME_STAT_HOLD_CAUSE cause).raise_flight evTIME_HOLDOVER 0 0
  rw [State.holdover_of_running h]
  exact ⟨hflag, hcause, ⟨e, he, hev, htbc⟩, hregs, rfl⟩

/-- HOLDOVER touches TIME_STAT and the events alone, whether it is entered or lasts. -/
theorem State.holdover_keeps (s : State) (cause : Nat) :
    RegsBut [TIME_STAT] s (s.holdover cause) ∧ s.holdover cause = { s with regs := (s.holdover cause).regs, evt := (s.holdover cause).evt } := by
  rw [State.holdover]
  split_ifs
  · exact ⟨.refl _ s, rfl⟩
  · exact ⟨(RegsBut.of_put s TIME_STAT_HOLDOVER 1).put (f := TIME_STAT_HOLD_CAUSE) (List.mem_singleton_self _) cause, rfl⟩

/-! ## SYNC (R155, R316) -/

/-- A checkpoint touches its count and the links alone, and keeps when SYNC was last seen. -/
theorem State.ckptSync_keeps (s : State) : s.ckptSync.links.syncAt = s.links.syncAt ∧ RegsBut [MR_SAVE 0] s s.ckptSync ∧
    s.ckptSync = { s with regs := s.ckptSync.regs, links := s.ckptSync.links } := by
  rw [State.ckptSync]
  split_ifs
  · exact ⟨rfl, .refl _ s, rfl⟩
  · exact ⟨rfl, RegsBut.of_wr s (MR_SAVE 0) _, rfl⟩

/-- A pair read after it was written. -/
theorem State.rd64_wr64 (s : State) {lo hi : Nat} (h : lo ≠ hi) (v : Dword) : (s.wr64 lo hi v).rd64 lo hi = v := by
  rw [State.rd64, State.wr64, State.rd_wr_same, State.rd_wr_ne _ _ _ _ h, State.rd_wr_same]
  exact (BitVec.extractLsb'_append_extractLsb'_eq_extractLsb' rfl).trans BitVec.extractLsb'_eq_self

theorem State.rd64_congr {s t : State} {lo hi : Nat} (hlo : t.rd lo = s.rd lo) (hhi : t.rd hi = s.rd hi) : t.rd64 lo hi = s.rd64 lo hi := by
  rw [State.rd64, State.rd64, hlo, hhi]

/-- What a SYNC on the watched port does (R155). -/
structure SyncTaken (clock : Dword) (s t : State) : Prop where
  syncAt : t.links.syncAt = s.now
  first : s.rd64 TIME_MASTER_ID_LO TIME_MASTER_ID_HI = 0 → t.rd64 TIME_MASTER_ID_LO TIME_MASTER_ID_HI = clock
  later : s.rd64 TIME_MASTER_ID_LO TIME_MASTER_ID_HI ≠ 0 →
    t.rd64 TIME_MASTER_ID_LO TIME_MASTER_ID_HI = s.rd64 TIME_MASTER_ID_LO TIME_MASTER_ID_HI
  other : s.rd64 TIME_MASTER_ID_LO TIME_MASTER_ID_HI ≠ 0 → s.rd64 TIME_MASTER_ID_LO TIME_MASTER_ID_HI ≠ clock →
    s.flag TIME_STAT_HOLDOVER = false → t.flag TIME_STAT_HOLDOVER = true ∧ t.get TIME_STAT_HOLD_CAUSE = 1 ∧
      ∃ e ∈ t.evt.flight, e.event = evTIME_HOLDOVER ∧ e.tbc = s.tbc
  frame : t = { s with links := t.links, regs := t.regs, evt := t.evt }

/-- The state in which the time and the number of a SYNC are noted. -/
def State.syncNoted (s : State) (seq : Nat) : State := { s with links := { s.links with syncAt := s.now, syncSeq := seq } }

theorem State.syncSeen_taken {s : State} {p : Fin 4} (h : s.syncPort = some p) (clock : Dword) (seq : Nat) :
    SyncTaken clock s (s.syncSeen p clock seq) := by
  have hseen : s.syncSeen p clock seq =
      if s.rd64 TIME_MASTER_ID_LO TIME_MASTER_ID_HI = 0 then (s.syncNoted seq).wr64 TIME_MASTER_ID_LO TIME_MASTER_ID_HI clock
      else if s.rd64 TIME_MASTER_ID_LO TIME_MASTER_ID_HI ≠ clock then (s.syncNoted seq).holdover 1 else s.syncNoted seq := by
    rw [State.syncSeen, if_pos h]
    rfl
  rw [hseen]
  split_ifs with h0 hne
  · exact ⟨rfl, fun _ => State.rd64_wr64 _ (by decide) clock, fun h => absurd h0 h, fun h => absurd h0 h, rfl⟩
  · obtain ⟨hregs, hframe⟩ := (s.syncNoted seq).holdover_keeps 1
    refine ⟨by rw [hframe]; rfl, fun h => absurd h h0, fun _ => State.rd64_congr (hregs _ (by decide)) (hregs _ (by decide)), fun _ _ hr => ?_,
      by rw [hframe]; rfl⟩
    obtain ⟨hflag, hcause, hevent, -, -⟩ := (s.syncNoted seq).holdover_enters hr (show 1 < 4 by decide)
    exact ⟨hflag, hcause, hevent⟩
  · exact ⟨rfl, fun h => absurd h h0, fun _ => rfl, fun _ h => absurd h hne, rfl⟩

theorem SyncTaken.ckptSync {clock : Dword} {s t : State} (h : SyncTaken clock s t) : SyncTaken clock s t.ckptSync := by
  obtain ⟨hat, hregs, hframe⟩ := t.ckptSync_keeps
  have hevt : t.ckptSync.evt = t.evt := by rw [hframe]
  have hid : t.ckptSync.rd64 TIME_MASTER_ID_LO TIME_MASTER_ID_HI = t.rd64 TIME_MASTER_ID_LO TIME_MASTER_ID_HI :=
    State.rd64_congr (hregs _ (by decide)) (hregs _ (by decide))
  refine ⟨hat.trans h.syncAt, fun h0 => hid.trans (h.first h0), fun h0 => hid.trans (h.later h0), fun h0 hne hr => ?_, ?_⟩
  · rw [hregs.flag_eq (by decide), hregs.get_eq (by decide), hevt]
    exact h.other h0 hne hr
  · rw [hframe, h.frame]

/-! ## Compare units (R156) -/

/-- What a compare unit that fires does to its control word, and its event. -/
structure Fires (n : Nat) (s t : State) : Prop where
  en : t.flag (TIME_CMP_CTRL_EN n) = false
  fired : t.flag (TIME_CMP_CTRL_FIRED n) = true
  late : t.flag (TIME_CMP_CTRL_LATE n) = s.flag (TIME_CMP_CTRL_LATE n)
  event : ∃ e ∈ t.evt.flight, e.event = evTIME_CMP0 + n ∧ e.source = n % 4096 ∧ e.tbc = s.tbc
  regs : RegsBut [TIME_CMP_CTRL n] s t
  frame : t = { s with regs := t.regs, evt := t.evt }

theorem State.tCmpFire_fires (s : State) (n : Nat) : Fires n s (s.tCmpFire n) where
  en := by
    rw [State.tCmpFire, State.flag_raise, State.set1_eq_put, State.flag_put_apart _ (show 2 < 32 by decide) _ (.inr (.inr (show 2 < 31 by decide)))]
    exact State.flag_put_zero s (show 31 < 32 by decide)
  fired := by
    rw [State.tCmpFire, State.flag_raise]
    exact State.flag_put_one _ (show 2 < 32 by decide) (le_refl 2)
  late := by
    rw [State.tCmpFire, State.flag_raise, State.set1_eq_put, State.flag_put_apart _ (show 2 < 32 by decide) _ (.inr (.inr (show 2 < 3 by decide)))]
    exact State.flag_put_apart s (show 31 < 32 by decide) _ (.inr (.inl (show 3 < 31 by decide)))
  event := by
    obtain ⟨e, he, hev, hsrc, -, htbc⟩ := ((s.clr (TIME_CMP_CTRL_EN n)).set1 (TIME_CMP_CTRL_FIRED n)).raise_flight (evTIME_CMP0 + n) n 0
    exact ⟨e, he, hev, hsrc, htbc⟩
  regs := ((RegsBut.of_put s (TIME_CMP_CTRL_EN n) 0).put (f := TIME_CMP_CTRL_FIRED n) (List.mem_singleton_self _) 1).raise _ _ _
  frame := rfl

/-- The control word that arming a unit stores. -/
def State.cmpArmed (s : State) (n : Nat) (v : Word) : State :=
  s.wr (TIME_CMP_CTRL n) (((v ||| 0x80000000#32) &&& 0x80000001#32) ||| (s.rd (TIME_CMP_CTRL n) &&& ~~~(v ||| 0x80000000#32) &&& 0x0000000C#32))

theorem State.en_cmpArmed (s : State) (n : Nat) (v : Word) : (s.cmpArmed n v).flag (TIME_CMP_CTRL_EN n) = true := by
  rw [State.flag_eq_bit, State.bit, State.cmpArmed, State.rd_wr_same]
  simp

theorem State.base_cmpArmed (s : State) (n : Nat) (v : Word) : (s.cmpArmed n v).flag (TIME_CMP_CTRL_BASE n) = v.getLsbD 0 := by
  rw [State.flag_eq_bit, State.bit, State.cmpArmed, State.rd_wr_same]
  simp

/-- NT depends on the counter, the rate and OFFSET. -/
theorem State.nt_congr {s t : State} (ht : t.tbc = s.tbc) (hr : t.rd TIME_RATE = s.rd TIME_RATE) (ho : t.offset = s.offset) : t.nt = s.nt := by
  rw [State.nt, State.nt, State.now, State.now, State.rate, State.rate, ht, hr, ho]

/-- What an armed unit compares with is what its BASE bit as written names. -/
theorem State.tCmpNow_cmpArmed (s : State) (n : Nat) (v : Word) :
    (s.cmpArmed n v).tCmpNow n = if v.getLsbD 0 then s.tbc.setWidth 32 else s.nt.extractLsb' 16 32 := by
  have hnt : (s.cmpArmed n v).nt = s.nt := State.nt_congr rfl (State.rd_wr_ne _ _ _ _ (by rw [TIME_CMP_CTRL, TIME_RATE]; omega)) rfl
  have htbc : (s.cmpArmed n v).tbc = s.tbc := rfl
  rw [State.tCmpNow, State.base_cmpArmed, hnt, htbc, BitVec.setWidth_eq_extractLsb' (by decide)]

theorem State.tCmpCtrl_of_arm (s : State) (n : Nat) (v : Word) : s.tCmpCtrl n (v ||| 0x80000000#32) =
    if (s.cmpArmed n v).tCmpDue n then ((s.cmpArmed n v).put (TIME_CMP_CTRL_LATE n) 1).tCmpFire n else s.cmpArmed n v := by
  have hen : (v ||| 0x80000000#32).getLsbD 31 = true := by simp
  simp only [State.tCmpCtrl, hen, Bool.true_and]
  rfl

theorem State.tCmpDue_cmpArmed (s : State) (n : Nat) (v : Word) : (s.cmpArmed n v).tCmpDue n =
    decide (0 ≤ ((if v.getLsbD 0 then s.tbc.setWidth 32 else s.nt.extractLsb' 16 32) - s.rd (TIME_CMP_VAL n)).toInt) := by
  have hval : (s.cmpArmed n v).rd (TIME_CMP_VAL n) = s.rd (TIME_CMP_VAL n) :=
    State.rd_wr_ne _ _ _ _ (by rw [TIME_CMP_CTRL, TIME_CMP_VAL]; omega)
  rw [State.tCmpDue, State.tCmpNow_cmpArmed, hval]

theorem exec_timeCmpArm (x : Fin 2) (n : Fin 8) (v : Word) (s : State) :
    exec (.timeCmpArm x n v) s = .next ((s.tCmpCtrl n (v ||| 0x80000000#32)).bus .ok 0) := by
  fin_cases n <;> rfl

theorem exec_timeCmp_of_due {s : State} {n : Fin 8} (hen : s.flag (TIME_CMP_CTRL_EN n) = true) (hdue : s.tCmpDue n = true) :
    exec (.timeCmp n) s = .next (s.tCmpFire n) := by
  change Host.Outcome.next (if s.flag (TIME_CMP_CTRL_EN n) && s.tCmpDue n then s.tCmpFire n else s) = _
  rw [hen, hdue]
  rfl

/-! ## The obligation -/

/-- Settles O30: a SYNC by what it takes, HOLDOVER by what entering it does, and a compare unit by what firing does. -/
theorem syncCompareAndStamps : Obligations.SyncCompareAndStamps := by
  unfold Obligations.SyncCompareAndStamps
  intro x port n clock value s master
  refine ⟨fun h => ?sync, fun hport hne hlim hr => ?timeout, ?arm, fun hen hdue => ?fire, ⟨_, rfl, rfl⟩⟩
  case sync =>
    obtain ⟨hat, hfirst, hlater, hother, hframe⟩ := (State.syncSeen_taken h clock ((s.links.syncSeq + 1) % 65536)).ckptSync
    exact ⟨_, rfl, hat, hfirst, hlater, hother, hframe⟩
  case timeout =>
    have htimeout : s.syncTimeout = s.holdover 2 := by simp [State.syncTimeout, hport, hne, hlim]
    obtain ⟨hflag, hcause, ⟨e, he, hev, -⟩, hregs, hframe⟩ := s.holdover_enters hr (show 2 < 4 by decide)
    refine ⟨_, congrArg Host.Outcome.next htimeout, hflag, hcause, ⟨e, he, hev⟩, hregs, hframe⟩
  case arm =>
    refine ⟨_, exec_timeCmpArm x n value s, ?_⟩
    have hregs : RegsBut [TIME_CMP_CTRL n] s (s.cmpArmed n value) := .of_wr s _ _
    beta_reduce
    intro now due
    simp only [State.flag_bus]
    rw [State.tCmpCtrl_of_arm, State.tCmpDue_cmpArmed]
    by_cases hdue : due
    · obtain ⟨hen, hfired, hlate, ⟨e, he, hev, hsrc, -⟩, hfire, hframe⟩ :=
        ((s.cmpArmed n value).put (TIME_CMP_CTRL_LATE n) 1).tCmpFire_fires n
      have hlate1 := State.flag_put_one (f := TIME_CMP_CTRL_LATE n) (s.cmpArmed n value) (show 3 < 32 by decide) (le_refl 3)
      have hput := hregs.put (f := TIME_CMP_CTRL_LATE n) (List.mem_singleton_self _) 1
      rw [if_pos (decide_eq_true hdue)]
      have hall : ((s.cmpArmed n value).put (TIME_CMP_CTRL_LATE n) 1) = { s with regs := ((s.cmpArmed n value).put (TIME_CMP_CTRL_LATE n) 1).regs } := rfl
      generalize (s.cmpArmed n value).put (TIME_CMP_CTRL_LATE n) 1 = u at *
      generalize u.tCmpFire n = t at *
      refine ⟨rfl, fun _ => ⟨hen, hfired, hlate.trans hlate1, e, he, hev, ?_⟩, fun h => absurd hdue h, (hput.trans hfire).bus _ _, ?_⟩
      · rw [hsrc, Nat.mod_eq_of_lt (by omega)]
      · rw [hframe, hall]
        rfl
    · rw [if_neg fun h => hdue (of_decide_eq_true h)]
      have hen := s.en_cmpArmed n value
      have hall : s.cmpArmed n value = { s with regs := (s.cmpArmed n value).regs } := rfl
      generalize s.cmpArmed n value = u at *
      exact ⟨rfl, fun h => absurd h hdue, fun _ => ⟨hen, by rw [hall]; rfl⟩, hregs.bus _ _, by rw [hall]; rfl⟩
  case fire =>
    have hdue' : s.tCmpDue n = true := decide_eq_true hdue
    obtain ⟨hen', hfired, hlate, ⟨e, he, hev, hsrc, htbc⟩, hregs, hframe⟩ := s.tCmpFire_fires n
    refine ⟨_, exec_timeCmp_of_due hen hdue', hen', hfired, hlate, ⟨e, he, hev, ?_, htbc⟩, hregs, hframe⟩
    rw [hsrc, Nat.mod_eq_of_lt (by omega)]

end Sys2Proof.Machine
end

section
/-!
PROOFS. Position channels (R135, R144, R168): histories and the axes that follow them, and writes of channel registers; then the obligation
ChannelCommands.
-/
namespace Sys2Proof.Machine

/-! ## Histories and the axes that follow them (R144, R146) -/

/-- The axes replaced. -/
def State.withAxes (s : State) (x : Vector Axis 4) : State := { s with axes := x }

/-- What changes axes alone, done for every axis of a channel, changes axes alone. -/
theorem State.axesOf_eq_withAxes {f : State → Fin 4 → State} (hf : ∀ s a, ∃ x, f s a = s.withAxes x) (s : State) (c : Fin 10) :
    ∃ x, s.axesOf c f = s.withAxes x :=
  List.foldlRecOn (fins 4) _ (motive := fun t : State => ∃ x, t = s.withAxes x) ⟨s.axes, rfl⟩ fun t ⟨x, ht⟩ a _ => by
    split_ifs
    · obtain ⟨y, hy⟩ := hf t a
      exact ⟨y, by rw [hy, ht]; rfl⟩
    · exact ⟨x, ht⟩

theorem State.axUpdate_eq_withAxes (s : State) (a : Fin 4) : ∃ x, s.axUpdate a = s.withAxes x := by
  rw [State.axUpdate]
  split_ifs
  · exact ⟨_, rfl⟩
  · exact ⟨_, rfl⟩
  · exact ⟨s.axes, rfl⟩

/-- A history cleared: its channel, and the axes. -/
theorem State.histClear_eq (s : State) (c : Fin 10) : ∃ x, s.histClear c = (s.modPos c (fun q => { q with hist := [] })).withAxes x := by
  refine State.axesOf_eq_withAxes (fun s a => ?_) _ c
  split_ifs
  · exact ⟨_, rfl⟩
  · exact ⟨s.axes, rfl⟩

/-- What a pair latched makes of its channel (R140, R160). -/
def PosChan.latched (q : PosChan) (relays : Bool) (now : Nat) (e : Pair) : PosChan :=
  { q with hist := (e :: q.hist).take 16, relay := if relays then q.relay ++ [(now, e)] else q.relay }

/-- A pair latched: its channel, and the axes. -/
theorem State.latch_eq (s : State) (c : Fin 10) (e : Pair) :
    ∃ x, s.latch c e = (s.modPos c (fun q => q.latched (s.relays c) s.now e)).withAxes x :=
  State.axesOf_eq_withAxes State.axUpdate_eq_withAxes _ c

/-! ## Writes of channel registers (R168) -/

/-- The place of a channel's registers in the POS unit. -/
theorem State.posWrite_ch (s : State) (c : Fin 10) {off : Nat} (h : off < 0x200) (v : Word) : s.posWrite (chOff c off) v = s.chWrite c off v := by
  have hc : finOf 10 (by decide) ((chOff c off - 0x1000) / 0x200) = c := Fin.ext (by simp only [finOf, chOff]; omega)
  have ho : chOff c off % 0x200 = off := by rw [chOff]; omega
  rw [State.posWrite, if_neg (by rw [chOff]; omega), if_neg (by rw [chOff]; omega), if_neg (by rw [chOff]; omega), if_pos (by rw [chOff]; omega), hc, ho]

theorem State.supWrite_ch {s : State} {c : Fin 10} {off : Nat} (h : off < 0x200) {v : Word} {r : Resp × State} (hw : s.chWrite c off v = some r)
    (x : Fin 2) : s.supWrite x .pos (chOff c off) v = r :=
  State.supWrite_of_rule rfl x ((s.posWrite_ch c h v).trans hw)

theorem exec_channelEnable (x : Fin 2) (c : Fin 10) (v : Word) (s : State) :
    exec (.channelEnable x c v) s = .next ((s.chCfg c (v ||| 1#32)).2.bus (s.chCfg c (v ||| 1#32)).1 0) :=
  congrArg busAnswer (State.supWrite_ch (by decide) rfl x)

theorem exec_armCh (x : Fin 2) (c : Fin 10) (s : State) :
    exec (.armCh x c) s = .next ((s.chCfg c (s.rd (CH_CFG c) ||| 8#32)).2.bus (s.chCfg c (s.rd (CH_CFG c) ||| 8#32)).1 0) :=
  congrArg busAnswer (State.supWrite_ch (by decide) rfl x)

theorem exec_histSnap (x : Fin 2) (c : Fin 10) (s : State) :
    exec (.histSnap x c) s = .next ((s.modPos c (fun q => { q with snap := q.hist })).bus .ok 0) :=
  congrArg busAnswer (State.supWrite_ch (off := 0x24) (v := 1) (r := (.ok, s.modPos c (fun q => { q with snap := q.hist }))) (by decide) rfl x)

/-! ## CHc_CFG (R138, R141, R168) -/

/-- The word that CHc_CFG takes of a written one: MIN_EDGE at least 2. -/
def minEdged (v : Word) : Word := if field v 19 10 < 2 then withField v 19 10 2 else v

/-- Bits below MIN_EDGE are taken as written. -/
theorem getLsbD_minEdged (v : Word) {i : Nat} (hi : i < 10) : (minEdged v).getLsbD i = v.getLsbD i := by
  rw [minEdged]
  split_ifs
  · rw [getLsbD_withField _ _ _ _ _ (by decide), if_neg (by omega)]
  · rfl

theorem minEdged_of_le {v : Word} (h : 2 ≤ field v 19 10) : minEdged v = v := if_neg (by omega)

section Cfg
variable {s : State} {c : Fin 10} {v : Word}

/-- While EN = 1 another change than of EN and ARM is turned away. -/
theorem State.chCfg_of_refused (hen : s.flag (CH_CFG_EN c) = true) (hm : 2 ≤ field v 19 10)
    (hv : v &&& 0xFFFFFFF6#32 ≠ s.rd (CH_CFG c) &&& 0xFFFFFFF6#32) : s.chCfg c v = (.errUnit, s) := by
  rw [State.flag_eq_bit, State.bit] at hen
  have h := minEdged_of_le hm
  rw [minEdged] at h
  simp only [State.chCfg, h, hen, Bool.true_and, decide_eq_true hv, if_true]

/-- EN written to a channel that is off starts it. -/
theorem State.chCfg_of_enable (hen : s.flag (CH_CFG_EN c) = false) (h3 : v.getLsbD 3 = false) (h0 : v.getLsbD 0 = true) :
    s.chCfg c v = (.ok, (s.wr (CH_CFG c) (minEdged v &&& 0xFFFFFFF7#32)).channelStart c) := by
  have h3' := (getLsbD_minEdged v (show 3 < 10 by decide)).trans h3
  have h0' := (getLsbD_minEdged v (show 0 < 10 by decide)).trans h0
  rw [State.flag_eq_bit, State.bit] at hen
  rw [minEdged] at h3' h0' ⊢
  simp only [State.chCfg, hen, h3', h0', Bool.false_and, Bool.false_eq_true, if_false, Bool.true_and, Bool.not_false, if_true]

/-- What ARM makes of its channel (R141). -/
def PosChan.arm (q : PosChan) (tbc : Dword) : PosChan := { q with armed := q.isArmed tbc.toNat, armAt := some tbc }

/-- ARM written beside the word as it stands arms the channel. -/
theorem State.chCfg_of_arm (hm : 2 ≤ s.get (CH_CFG_MIN_EDGE c)) : s.chCfg c (s.rd (CH_CFG c) ||| 8#32) =
    (.ok, (s.wr (CH_CFG c) ((s.rd (CH_CFG c) ||| 8#32) &&& 0xFFFFFFF7#32)).modPos c (fun q => q.arm s.tbc)) := by
  generalize hold : s.rd (CH_CFG c) = old
  have hfield : field (old ||| 8#32) 19 10 = field old 19 10 :=
    field_congr fun i hl hu => by interval_cases i <;> simp
  have hedge : minEdged (old ||| 8#32) = old ||| 8#32 := minEdged_of_le (by rw [hfield, ← hold]; exact hm)
  have hmask : (old ||| 8#32) &&& 0xFFFFFFF6#32 = old &&& 0xFFFFFFF6#32 := by
    rw [BitVec.and_or_distrib_right, show 8#32 &&& 0xFFFFFFF6#32 = 0#32 by decide, BitVec.or_zero]
  have h0 : (old ||| 8#32).getLsbD 0 = old.getLsbD 0 := by rw [BitVec.getLsbD_or]; exact Bool.or_false _
  have h3 : (old ||| 8#32).getLsbD 3 = true := by rw [BitVec.getLsbD_or]; exact Bool.or_true _
  rw [minEdged] at hedge
  simp only [State.chCfg, hold, hedge, hmask, ne_eq, not_true, decide_false, Bool.and_false, Bool.false_eq_true, if_false, h0, h3, if_true,
    Bool.and_not_self]
  rfl

/-- A flag of CHc_CFG below MIN_EDGE, but for ARM, stands as written. -/
theorem State.en_cfgWord (s : State) (w : Word) : (s.wr (CH_CFG c) (w &&& 0xFFFFFFF7#32)).flag (CH_CFG_EN c) = w.getLsbD 0 := by
  rw [State.flag_eq_bit, State.bit, State.rd_wr_same, BitVec.getLsbD_and]
  exact Bool.and_true _

end Cfg

/-- A channel started (R138, R144). -/
def PosChan.started (q : PosChan) (now : Nat) : PosChan :=
  { q with levels := q.balls, cands := [], startAt := some now, ssiLast := none, ssiPrev := none, ssiFrame := none, vencSeq := none, vencTstep := none,
           vencWait := [], relay := [], relayIllegal := false, hist := [] }

theorem State.channelStart_eq (s : State) (c : Fin 10) : ∃ x, s.channelStart c = (s.modPos c (fun q => q.started s.now)).withAxes x := by
  obtain ⟨x, hx⟩ := (s.modPos c _).histClear_eq c
  exact ⟨x, by rw [State.channelStart, hx, State.modPos_modPos]; rfl⟩

/-! ## CHc_POS (R17, R144) -/

theorem State.posSet_eq (s : State) (c : Fin 10) (p : BitVec 48) :
    ∃ x, s.posSet c p = (s.modPos c (fun q => { q with pos := p, hist := [] })).withAxes x := by
  obtain ⟨x, hx⟩ := (s.modPos c (fun q => { q with pos := p })).histClear_eq c
  exact ⟨x, by rw [State.posSet, hx, State.modPos_modPos]⟩

theorem exec_posWrite_of_on {s : State} {c : Fin 10} (h : s.flag (CH_CFG_EN c) = true) (x : Fin 2) (p : BitVec 48) :
    exec (.posWrite x c p) s = .next (s.bus .errUnit 0) := by
  have hw : s.chWrite c 8 ((p.extractLsb' 32 16).setWidth 32) = some (.errUnit, s) := if_pos h
  change execPosWrite x c p s = _
  simp only [execPosWrite, State.supWrite_ch (by decide) hw, if_neg (show Resp.errUnit ≠ .ok by decide)]
  rfl

theorem isHi_posHi (c : Fin 10) : Block.pos.isHi (chOff c 8) = true := by
  revert c
  decide

/-- With EN = 0 the high half waits for the low one (R17). -/
theorem State.supWrite_posHi {s : State} {c : Fin 10} (h : s.flag (CH_CFG_EN c) = false) (x : Fin 2) (v : Word) :
    s.supWrite x .pos (chOff c 8) v = (.ok, s.stageHi (CH_POS_HI c) v) := by
  have hrule : s.writeRule (.sc x) .pos (chOff c 8) v = none := by
    refine (s.posWrite_ch c (by decide) v).trans ?_
    simp [State.chWrite, h]
  have haddr : Block.pos.base + chOff c 8 = CH_POS_HI c := by
    rw [chOff, CH_POS_HI, Block.base]
    omega
  rw [State.supWrite_of_clocked rfl, State.writeUnit, hrule, ← haddr, ← State.writePlain_hi (isHi_posHi c)]

theorem exec_posWrite_of_off {s : State} {c : Fin 10} (h : s.flag (CH_CFG_EN c) = false) (x : Fin 2) (p : BitVec 48) :
    exec (.posWrite x c p) s = .next (((s.stageHi (CH_POS_HI c) ((p.extractLsb' 32 16).setWidth 32)).posSet c p).bus .ok 0) := by
  have hp : ((p.extractLsb' 32 16).setWidth 32 : Word).extractLsb' 0 16 ++ p.extractLsb' 0 32 = p := by
    rw [BitVec.extractLsb'_setWidth_of_le (by decide), BitVec.extractLsb'_eq_self]
    exact (BitVec.extractLsb'_append_extractLsb'_eq_extractLsb' rfl).trans BitVec.extractLsb'_eq_self
  have hw : (s.stageHi (CH_POS_HI c) ((p.extractLsb' 32 16).setWidth 32)).chWrite c 4 (p.extractLsb' 0 32) =
      some (.ok, (s.stageHi (CH_POS_HI c) ((p.extractLsb' 32 16).setWidth 32)).posSet c p) := by
    have hen : (s.stageHi (CH_POS_HI c) ((p.extractLsb' 32 16).setWidth 32)).flag (CH_CFG_EN c) = false := (State.flag_congr rfl _).trans h
    simp only [State.chWrite, hen, Bool.false_eq_true, if_false, State.staged_stageHi, hp]
  change execPosWrite x c p s = _
  simp only [execPosWrite, State.supWrite_posHi h, if_true, State.supWrite_ch (by decide) hw]
  rfl

/-! ## The obligation -/

/-- Settles O25: each write of a channel's registers by its equation. -/
theorem channelCommands : Obligations.ChannelCommands := by
  unfold Obligations.ChannelCommands
  intro x ch value pos s q others
  have h0 : (value ||| 1#32).getLsbD 0 = true := by rw [BitVec.getLsbD_or]; exact Bool.or_true _
  refine ⟨fun hen h3 => ?enable, fun hen hm hv => ?refused, fun hm => ?arm, ?posWrite, ⟨_, exec_histSnap x ch s, rfl, ?snap⟩⟩
  case enable =>
    have h3' : (value ||| 1#32).getLsbD 3 = false := by rw [BitVec.getLsbD_or, h3]; rfl
    have hon := (s.en_cfgWord (c := ch) (minEdged (value ||| 1#32))).trans ((getLsbD_minEdged _ (by decide)).trans h0)
    obtain ⟨y, hy⟩ := (s.wr (CH_CFG ch) (minEdged (value ||| 1#32) &&& 0xFFFFFFF7#32)).channelStart_eq ch
    refine ⟨_, exec_channelEnable x ch value s, ?_⟩
    rw [State.chCfg_of_enable hen h3' h0, hy]
    generalize minEdged (value ||| 1#32) &&& 0xFFFFFFF7#32 = w at *
    obtain ⟨hch, hothers⟩ := State.pos_of_modPos (s := s) (c := ch) (f := fun q => q.started s.now)
      (t := ((s.wr (CH_CFG ch) w).modPos ch (fun q => q.started s.now)).withAxes y) rfl
    exact ⟨rfl, hon, congrArg PosChan.hist hch, congrArg PosChan.cands hch, congrArg PosChan.levels hch, (congrArg PosChan.pos hch :), hothers,
      (RegsBut.of_wr s (CH_CFG ch) w).regs_eq rfl, rfl⟩
  case refused =>
    have hfield : field (value ||| 1#32) 19 10 = field value 19 10 := field_congr fun i hl hu => by interval_cases i <;> simp
    refine ⟨_, exec_channelEnable x ch value s, ?_⟩
    rw [State.chCfg_of_refused hen (by rwa [hfield]) hv]
    rfl
  case arm =>
    refine ⟨_, exec_armCh x ch s, ?_⟩
    rw [State.chCfg_of_arm hm]
    have hon := s.en_cfgWord (c := ch) (s.rd (CH_CFG ch) ||| 8#32)
    have hbit : (s.rd (CH_CFG ch) ||| 8#32).getLsbD 0 = s.flag (CH_CFG_EN ch) := by
      rw [BitVec.getLsbD_or, State.flag_eq_bit]
      exact Bool.or_false _
    generalize (s.rd (CH_CFG ch) ||| 8#32) &&& 0xFFFFFFF7#32 = w at *
    obtain ⟨hch, hothers⟩ := State.pos_of_modPos (s := s) (c := ch) (f := fun q => q.arm s.tbc)
      (t := (s.wr (CH_CFG ch) w).modPos ch (fun q => q.arm s.tbc)) rfl
    refine ⟨rfl, hch, fun n hn => ?_, hothers, hon.trans hbit, (RegsBut.of_wr s (CH_CFG ch) w).regs_eq rfl, rfl⟩
    exact (congrArg (fun q => PosChan.isArmed q n) hch).trans (by simpa [PosChan.isArmed, PosChan.arm] using .inr hn)
  case posWrite =>
    cases hen : s.flag (CH_CFG_EN ch) with
    | true => exact ⟨_, exec_posWrite_of_on hen x pos, fun h => Bool.noConfusion h, fun _ => rfl⟩
    | false =>
      refine ⟨_, exec_posWrite_of_off hen x pos, fun _ => ?_, fun h => Bool.noConfusion h⟩
      obtain ⟨y, hy⟩ := (s.stageHi (CH_POS_HI ch) ((pos.extractLsb' 32 16).setWidth 32)).posSet_eq ch pos
      rw [hy]
      obtain ⟨hch, hothers⟩ := State.pos_of_modPos (s := s) (c := ch) (f := fun q => { q with pos := pos, hist := [] })
        (t := ((s.stageHi (CH_POS_HI ch) ((pos.extractLsb' 32 16).setWidth 32)).modPos ch (fun q => { q with pos := pos, hist := [] })).withAxes y) rfl
      exact ⟨rfl, congrArg PosChan.pos hch, congrArg PosChan.hist hch, hothers, rfl⟩
  case snap =>
    obtain ⟨hch, hothers⟩ := State.pos_of_modPos (s := s) (c := ch) (f := fun q => { q with snap := q.hist }) rfl
    exact ⟨hch, hothers, rfl⟩

end Sys2Proof.Machine
end

section
/-!
PROOFS. Encoder inputs (R136 to R142): a transition at the ball and the candidates, and a confirmed edge, counted or illegal; then the obligation
EncoderEdges.
-/
namespace Sys2Proof.Machine

/-! ## A transition at the ball (R136 to R138) -/

section Transition
variable {s : State} {n : Fin 4} {input : Fin 3} {level : Bool} (hb : s.pos[encCh n].balls[input] ≠ level)
include hb

/-- A transition that reached the ball by the tick of the EN write belongs to the starting levels. -/
theorem State.encTransition_of_start (h : (s.pos[encCh n].startAt.any fun t => decide (s.now ≤ t + 3)) = true) :
    s.encTransition n input level =
      s.modPos (encCh n) (fun q => { q with balls := vset q.balls input level, levels := vset q.levels input level }) := by
  have h' : (s.pos[encCh n].startAt.any fun t => decide ((s.modPos (encCh n) fun q => { q with balls := vset q.balls input level }).now ≤ t + 3)) = true := h
  rw [State.encTransition, if_neg hb, if_pos h', State.modPos_modPos]

/-- A candidate of the same input so near that a transition now discards both (R137). -/
def State.near (s : State) (c : Fin 10) (input : Fin 3) (e : Candidate) : Bool :=
  decide (e.input = input ∧ ((s.tbc - 3) - e.stamp).toNat < s.get (CH_CFG_MIN_EDGE c))

/-- A later transition joins the candidates, or discards the near ones with itself. -/
theorem State.encTransition_of_running (hen : s.flag (CH_CFG_EN (encCh n)) = true)
    (h : (s.pos[encCh n].startAt.any fun t => decide (s.now ≤ t + 3)) = false) :
    s.encTransition n input level = if s.pos[encCh n].cands.any (s.near (encCh n) input)
      then (s.modPos (encCh n) (fun q => { q with balls := vset q.balls input level, cands := q.cands.filter (fun e => !s.near (encCh n) input e) })).bump
        (CH_ERR_CNT_CNT_B (encCh n))
      else s.modPos (encCh n) (fun q => { q with
        balls := vset q.balls input level, cands := q.cands ++ [{ input := input, stamp := s.tbc - 3, level := level }] }) := by
  have h' : (s.pos[encCh n].startAt.any fun t =>
      decide ((s.modPos (encCh n) fun q => { q with balls := vset q.balls input level }).now ≤ t + 3)) = false := h
  have hen' : (s.modPos (encCh n) fun q => { q with balls := vset q.balls input level }).flag (CH_CFG_EN (encCh n)) = true := hen
  rw [State.encTransition, if_neg hb, if_neg (by rw [h']; exact Bool.false_ne_true), if_pos hen']
  simp only [State.modPos_modPos]
  rfl

end Transition

/-! ## One count (R138, R140) -/

/-- The step of a count with the direction that DIR_INV gives it. -/
def State.stepOf (s : State) (c : Fin 10) (d : Int) : Int := if s.flag (CH_CFG_DIR_INV c) then -d else d

/-- A channel moved by a step. -/
def PosChan.stepped (q : PosChan) (d : Int) : PosChan := { q with pos := q.pos + BitVec.ofInt 48 d, rev := q.rev + BitVec.ofInt 32 d }

/-- A count moves its channel by its step and shows DIR; what it latches stands in the history, the relay and the axes alone. -/
theorem State.count_eq (s : State) (c : Fin 10) (d : Int) (stamp : Dword) : ∃ (g : PosChan → PosChan) (x : Vector Axis 4),
    (∀ q, (g q).pos = q.pos ∧ (g q).rev = q.rev ∧ (g q).levels = q.levels ∧ (g q).cands = q.cands) ∧
    s.count c d stamp =
      ((s.put (CH_STAT_DIR c) (b2n (decide (s.stepOf c d < 0)))).modPos c (fun q => g (q.stepped (s.stepOf c d)))).withAxes x := by
  obtain h | h : s.count c d stamp = State.latch _ c _ ∨ s.count c d stamp = _ := ite_eq_or_eq _ _ _
  · obtain ⟨x, hx⟩ := State.latch_eq ((s.put (CH_STAT_DIR c) (b2n (decide (s.stepOf c d < 0)))).modPos c (fun q => q.stepped (s.stepOf c d))) c
      { p := s.pos[c].pos + BitVec.ofInt 48 (s.stepOf c d), t := stamp * 16 }
    exact ⟨fun q => q.latched _ _ _, x, fun _ => ⟨rfl, rfl, rfl, rfl⟩, h.trans (hx.trans (by rw [State.modPos_modPos]))⟩
  · exact ⟨id, s.axes, fun _ => ⟨rfl, rfl, rfl, rfl⟩, h⟩

/-- A change of one input moves the quadrature sequence by one. -/
theorem quadStep_of_a {a b a' : Bool} (h : a' ≠ a) : quadStep a b a' b = 1 ∨ quadStep a b a' b = -1 := by
  revert a b a'
  decide

theorem quadStep_of_b {a b b' : Bool} (h : b' ≠ b) : quadStep a b a b' = 1 ∨ quadStep a b a b' = -1 := by
  revert a b b'
  decide

/-! ## Confirmed edges decoded (R138, R142) -/

/-- The candidate of an input among those of a stamp. -/
def State.found (s : State) (c : Fin 10) (stamp : Dword) (i : Fin 3) : Option Candidate :=
  (s.pos[c].cands.filter (fun e => decide (e.stamp = stamp))).find? (fun e => decide (e.input = i))

/-- The level of an input once the candidates of a stamp are confirmed. -/
def State.foundLevel (s : State) (c : Fin 10) (stamp : Dword) (i : Fin 3) : Bool :=
  ((s.found c stamp i).map (fun e => e.level)).getD s.pos[c].levels[i]

/-- The candidates of a stamp taken off the channel into its levels. -/
def State.decoded (s : State) (c : Fin 10) (stamp : Dword) : State :=
  s.modPos c (fun q => { q with
    cands := q.cands.filter (fun e => decide (e.stamp ≠ stamp)), levels := q.levels.mapFinIdx (fun i _ h => s.foundLevel c stamp ⟨i, h⟩) })

section Decode
variable {s : State} {c : Fin 10} {stamp : Dword} (h2 : s.found c stamp 2 = none)
include h2

/-- An edge of A alone or of B alone is a count. -/
theorem State.edgeDecode_of_count (h : (s.found c stamp 0).isSome ≠ (s.found c stamp 1).isSome) : s.edgeDecode c stamp =
    (s.decoded c stamp).count c (quadStep s.pos[c].levels[0] s.pos[c].levels[1] (s.foundLevel c stamp 0) (s.foundLevel c stamp 1)) stamp := by
  unfold State.found at h h2
  simp only [State.edgeDecode, h2]
  split
  · rename_i h0 h1
    exact absurd (by rw [h0, h1]; rfl) h
  · rename_i h0 h1
    exact absurd (by rw [h0, h1]) h
  · rfl

/-- Edges of A and of B with one stamp are an illegal step. -/
theorem State.edgeDecode_of_illegal {e f : Candidate} (h0 : s.found c stamp 0 = some e) (h1 : s.found c stamp 1 = some f) :
    s.edgeDecode c stamp = ((((s.decoded c stamp).put (CH_STAT_ILLEGAL c) 1).bump (CH_ERR_CNT_CNT_A c)).modPos c
      (fun q => { q with relayIllegal := true })).raise evENC_ILLEGAL c (valueSigned s.pos[c].pos.toInt) := by
  unfold State.found at h0 h1 h2
  simp only [State.edgeDecode, h0, h1, h2]
  rfl

end Decode

section One
variable {s : State} {c : Fin 10} {e : Candidate} {rest : List Candidate} (hc : s.pos[c].cands = e :: rest) (hne : ∀ f ∈ rest, f.stamp ≠ e.stamp)
include hc hne

/-- The oldest candidate with a stamp of its own is all that its stamp names. -/
theorem State.found_of_one (i : Fin 3) : s.found c e.stamp i = if e.input = i then some e else none := by
  have hmine : (e :: rest).filter (fun x => decide (x.stamp = e.stamp)) = [e] := by
    rw [List.filter_cons_of_pos (by simp), List.filter_eq_nil_iff.2 (by simpa using hne)]
  rw [State.found, hc, hmine]
  by_cases h : e.input = i <;> simp [h]

theorem State.foundLevel_of_one (i : Fin 3) : s.foundLevel c e.stamp i = if e.input = i then e.level else s.pos[c].levels[i] := by
  rw [State.foundLevel, State.found_of_one hc hne]
  split_ifs <;> rfl

theorem State.decoded_of_one : (s.decoded c e.stamp).pos[c].cands = rest ∧ (s.decoded c e.stamp).pos[c].levels[e.input] = e.level := by
  have hrest : (e :: rest).filter (fun x => decide (x.stamp ≠ e.stamp)) = rest := by
    rw [List.filter_cons_of_neg (by simp), List.filter_eq_self.2 (by simpa using hne)]
  rw [State.decoded, State.modPos_same]
  refine ⟨by rw [hc, hrest], ?_⟩
  have hl := State.foundLevel_of_one hc hne e.input
  rw [if_pos rfl] at hl
  simpa using hl

/-- An edge of A alone or of B alone moves the count by one. -/
theorem State.edgeDecode_of_one (hl : e.level ≠ s.pos[c].levels[e.input]) (hi : e.input.val < 2) :
    ∃ d, (d = 1 ∨ d = -1) ∧ s.edgeDecode c e.stamp = (s.decoded c e.stamp).count c d e.stamp := by
  have h01 : e.input = 0 ∨ e.input = 1 := by omega
  have hcount := State.edgeDecode_of_count (s := s) (c := c) (stamp := e.stamp)
  simp only [State.found_of_one hc hne, State.foundLevel_of_one hc hne] at hcount
  obtain h | h := h01
  · simp only [h] at hl hcount
    exact ⟨_, quadStep_of_a hl, hcount (if_neg (by decide)) (by simp)⟩
  · simp only [h] at hl hcount
    exact ⟨_, quadStep_of_b hl, hcount (if_neg (by decide)) (by simp)⟩

end One

section Two
variable {s : State} {c : Fin 10} {e f : Candidate} (hc : s.pos[c].cands = [e, f]) (h0 : e.input = 0) (h1 : f.input = 1) (hs : f.stamp = e.stamp)
include hc h0 h1 hs

/-- Two candidates of one stamp, of A and of B, and none of the index. -/
theorem State.found_of_two : s.found c e.stamp 0 = some e ∧ s.found c e.stamp 1 = some f ∧ s.found c e.stamp 2 = none := by
  rw [State.found, State.found, State.found, hc]
  simp [h0, h1, hs]

theorem State.decoded_of_two : (s.decoded c e.stamp).pos[c].cands = [] ∧ (s.decoded c e.stamp).pos[c].levels[0] = e.level ∧
    (s.decoded c e.stamp).pos[c].levels[1] = f.level := by
  obtain ⟨hf0, hf1, -⟩ := State.found_of_two hc h0 h1 hs
  rw [State.decoded, State.modPos_same]
  exact ⟨by rw [hc]; simp [hs], by simp [State.foundLevel, hf0], by simp [State.foundLevel, hf1]⟩

end Two

/-- DIR_INV keeps the size of a step. -/
theorem State.stepOf_unit (s : State) (c : Fin 10) {d : Int} (h : d = 1 ∨ d = -1) : s.stepOf c d = 1 ∨ s.stepOf c d = -1 := by
  rw [State.stepOf]
  split_ifs <;> omega

theorem PosChan.stepped_unit (q : PosChan) {d : Int} (h : d = 1 ∨ d = -1) :
    (q.stepped d).pos = q.pos + 1 ∧ (q.stepped d).rev = q.rev + 1 ∨ (q.stepped d).pos = q.pos - 1 ∧ (q.stepped d).rev = q.rev - 1 := by
  obtain rfl | rfl := h
  · exact .inl ⟨congrArg (q.pos + ·) (by decide), congrArg (q.rev + ·) (by decide)⟩
  · rw [BitVec.sub_eq_add_neg, BitVec.sub_eq_add_neg]
    exact .inr ⟨congrArg (q.pos + ·) (by decide), congrArg (q.rev + ·) (by decide)⟩

/-- Decoding takes candidates into levels, and leaves the counts and the other channels. -/
theorem State.decoded_keeps (s : State) (c : Fin 10) (stamp : Dword) : (s.decoded c stamp).pos[c].pos = s.pos[c].pos ∧
    (s.decoded c stamp).pos[c].rev = s.pos[c].rev ∧ ∀ d ≠ c, (s.decoded c stamp).pos[d] = s.pos[d] := by
  obtain ⟨hch, hothers⟩ := State.pos_of_modPos (s := s) (t := s.decoded c stamp) (c := c) rfl
  exact ⟨(congrArg PosChan.pos hch :), (congrArg PosChan.rev hch :), hothers⟩

theorem exec_edgeConfirm_of_due {s : State} {n : Fin 4} {e : Candidate} {rest : List Candidate} (hc : s.pos[encCh n].cands = e :: rest)
    (hen : s.flag (CH_CFG_EN (encCh n)) = true) (hdue : e.stamp.toNat + s.get (CH_CFG_MIN_EDGE (encCh n)) + 4 ≤ s.now) :
    exec (.edgeConfirm n) s = .next (s.edgeDecode (encCh n) e.stamp) := by
  change Host.Outcome.next (s.edgeConfirm n) = _
  simp only [State.edgeConfirm, hen, if_true, hc, if_pos hdue]

/-! ## The obligation -/

/-- Settles O24: a transition by its place to the start and to the candidates, a confirmed edge by what else has its stamp. -/
theorem encoderEdges : Obligations.EncoderEdges := by
  unfold Obligations.EncoderEdges
  intro n input level s c q stamp near
  refine ⟨fun hb hen hstart hsome => ?start, fun hb hen hstart => ?running, fun e rest hc hen hdue =>
    ⟨fun hi hl hne => ?count, fun f h0 h1 hs hrest => ?illegal⟩⟩
  case start =>
    have hany : (s.pos[c].startAt.any fun t => decide (s.now ≤ t + 3)) = true := by
      obtain ⟨t0, ht0⟩ := Option.ne_none_iff_exists'.1 hsome
      rw [ht0]
      exact decide_eq_true (hstart t0 ht0)
    refine ⟨_, congrArg Host.Outcome.next (State.encTransition_of_start hb hany), ?_⟩
    obtain ⟨hch, hothers⟩ := State.pos_of_modPos (s := s) (c := c)
      (f := fun q => { q with balls := vset q.balls input level, levels := vset q.levels input level }) rfl
    exact ⟨hch, hothers, rfl⟩
  case running =>
    have hany : (s.pos[c].startAt.any fun t => decide (s.now ≤ t + 3)) = false := by
      cases ht : s.pos[c].startAt with
      | none => rfl
      | some t0 => exact decide_eq_false (Nat.not_le.2 (hstart t0 ht))
    refine ⟨_, congrArg Host.Outcome.next (State.encTransition_of_running hb hen hany), ?_⟩
    by_cases hnear : q.cands.any near = true
    · have hnear' : s.pos[c].cands.any (s.near c input) = true := hnear
      rw [if_pos hnear', if_pos hnear, if_pos hnear]
      obtain ⟨hch, hothers⟩ := State.pos_of_modPos (s := s) (c := c)
        (f := fun q => { q with balls := vset q.balls input level, cands := q.cands.filter (fun e => !s.near c input e) }) rfl
      exact ⟨hch, hothers, State.get_bump_same _ (show 31 < 32 by decide), ((RegsBut.refl _ s).modPos _ _).bump (List.mem_singleton_self _), rfl⟩
    · have hnear' : ¬ s.pos[c].cands.any (s.near c input) = true := hnear
      rw [if_neg hnear', if_neg hnear, if_neg hnear]
      obtain ⟨hch, hothers⟩ := State.pos_of_modPos (s := s) (c := c)
        (f := fun q => { q with balls := vset q.balls input level, cands := q.cands ++ [{ input := input, stamp := s.tbc - 3, level := level }] }) rfl
      exact ⟨hch, hothers, rfl, (RegsBut.refl _ s).modPos _ _, rfl⟩
  case count =>
    obtain ⟨d, hd, hdecode⟩ := State.edgeDecode_of_one hc hne hl hi
    obtain ⟨g, x, hg, hcount⟩ := (s.decoded c e.stamp).count_eq c d e.stamp
    refine ⟨_, exec_edgeConfirm_of_due hc hen hdue, ?_⟩
    rw [hdecode, hcount]
    obtain ⟨hcands, hlevel⟩ := State.decoded_of_one hc hne
    obtain ⟨hpos, hrev, hothers⟩ := s.decoded_keeps c e.stamp
    have hregs : (s.decoded c e.stamp).regs = s.regs := rfl
    have hframe : s.decoded c e.stamp = { s with pos := (s.decoded c e.stamp).pos } := rfl
    generalize s.decoded c e.stamp = u at *
    have hunit := u.pos[c].stepped_unit (u.stepOf_unit c hd)
    obtain ⟨gpos, grev, glevels, gcands⟩ := hg (u.pos[c].stepped (u.stepOf c d))
    generalize u.stepOf c d = w at *
    obtain ⟨hch, hrest⟩ := State.pos_of_modPos (s := u) (c := c) (f := fun q => g (q.stepped w))
      (t := ((u.put (CH_STAT_DIR c) (b2n (decide (w < 0)))).modPos c (fun q => g (q.stepped w))).withAxes x) rfl
    generalize ht : ((u.put (CH_STAT_DIR c) (b2n (decide (w < 0)))).modPos c (fun q => g (q.stepped w))).withAxes x = t at *
    refine ⟨?_, ?_, ?_, fun k hk => (hrest k hk).trans (hothers k hk), ?_, ?_⟩
    · rw [hch, gpos, grev, ← hpos, ← hrev]
      exact hunit
    · rw [hch, glevels]
      exact hlevel
    · rw [hch, gcands]
      exact hcands
    · rw [← ht]
      exact (((RegsBut.refl _ s).regs_eq hregs).put (f := CH_STAT_DIR c) (List.mem_singleton_self _) _).regs_eq rfl
    · rw [← ht, hframe]
      rfl
  case illegal =>
    obtain ⟨hf0, hf1, hf2⟩ := State.found_of_two (hc.trans (congrArg _ hrest)) h0 h1 hs
    obtain ⟨hcands, hl0, hl1⟩ := State.decoded_of_two (hc.trans (congrArg _ hrest)) h0 h1 hs
    obtain ⟨hpos, hrev, hothers⟩ := s.decoded_keeps c e.stamp
    have hregs : (s.decoded c e.stamp).regs = s.regs := rfl
    have hframe : s.decoded c e.stamp = { s with pos := (s.decoded c e.stamp).pos } := rfl
    refine ⟨_, exec_edgeConfirm_of_due hc hen hdue, ?_⟩
    rw [State.edgeDecode_of_illegal hf2 hf0 hf1]
    generalize s.decoded c e.stamp = u at *
    have hne : CH_ERR_CNT c ≠ CH_STAT c := by rw [CH_ERR_CNT, CH_STAT]; omega
    obtain ⟨hill, hcnt⟩ := State.put_bump_apart u (f := CH_STAT_ILLEGAL c) (g := CH_ERR_CNT_CNT_A c) (show 0 < 32 by decide) (le_refl 0)
      (show 15 < 32 by decide) hne
    rw [State.get_congr hregs] at hcnt
    obtain ⟨r, hr, hev, hsrc, -, htbc⟩ := (((u.put (CH_STAT_ILLEGAL c) 1).bump (CH_ERR_CNT_CNT_A c)).modPos c
      (fun q => { q with relayIllegal := true })).raise_flight evENC_ILLEGAL c (valueSigned s.pos[c].pos.toInt)
    obtain ⟨hch, hrest⟩ := State.pos_of_modPos (s := u) (c := c) (f := fun q => { q with relayIllegal := true })
      (t := (((u.put (CH_STAT_ILLEGAL c) 1).bump (CH_ERR_CNT_CNT_A c)).modPos c (fun q => { q with relayIllegal := true })).raise evENC_ILLEGAL c
        (valueSigned s.pos[c].pos.toInt)) rfl
    refine ⟨?_, ?_, (congrArg PosChan.pos hch :).trans hpos, (congrArg PosChan.rev hch :).trans hrev, (congrArg PosChan.cands hch :).trans hcands,
      ?_, ?_, ⟨r, hr, hev, hsrc.trans (Nat.mod_eq_of_lt (by omega)), htbc.trans (by rw [hframe]; rfl)⟩, by rw [hframe]; rfl⟩
    · rw [State.flag_raise, State.flag_modPos, hill]
    · rw [State.get_raise, State.get_modPos, hcnt]
      rfl
    · exact (congrArg (fun q => q.levels[0]) hch :).trans hl0
    · exact (congrArg (fun q => q.levels[1]) hch :).trans hl1

end Sys2Proof.Machine
end

section
/-!
PROOFS. SSI reads (R143): what a frame's end stores, and a state in which the unwrapped difference is not that of the obligation; then the refutation
of SsiReads.
-/
namespace Sys2Proof.Machine

/-- A pair latched keeps what its channel's count was set to. -/
theorem State.latch_modPos_pos (s : State) (c : Fin 10) (f : PosChan → PosChan) (e : Pair) : ((s.modPos c f).latch c e).pos[c].pos = (f s.pos[c]).pos := by
  obtain ⟨x, hx⟩ := (s.modPos c f).latch_eq c e
  rw [hx, State.modPos_modPos]
  exact (congrArg PosChan.pos (s.modPos_same c fun q => (f q).latched _ _ e) :)

/-- A later read without Gray code moves POS by the unwrapped difference, which the model takes in natural numbers. -/
theorem State.ssiDone_pos {s : State} {n : Fin 2} {raw : BitVec 40} {stamp : Dword} {w prev : Nat} (hframe : s.pos[ssiCh n].ssiFrame = some stamp)
    (hprev : s.pos[ssiCh n].ssiPrev = some prev) (hw : field (s.rd (CH_AUX (ssiCh n))) 5 0 = w)
    (hgray : (s.rd (CH_AUX (ssiCh n))).getLsbD 11 = false) (hdue : s.ssiEntry (ssiCh n) stamp ≤ s.now) :
    (s.ssiDone n raw).pos[ssiCh n].pos = s.pos[ssiCh n].pos + BitVec.ofInt 48 (sext w (raw.toNat % 2 ^ w + 2 ^ w - prev)) := by
  simp only [State.ssiDone, hframe, hprev, hw, hgray, if_neg (Nat.not_lt.2 hdue), Bool.false_eq_true, if_false]
  exact State.latch_modPos_pos ..

/-- An SSI channel of 8 bits whose frame is due, and whose last value, 257, is wider than its frames. -/
def ssiWidePrev : State :=
  { (State.reset.wr (CH_AUX 4) 0x01027008#32).modPos 4 (fun q => { q with pos := 0, ssiFrame := some 0, ssiPrev := some 257 }) with tbc := 1000 }

theorem ssiWidePrev_ch : ssiWidePrev.pos[ssiCh 0].pos = 0 ∧ ssiWidePrev.pos[ssiCh 0].ssiFrame = some 0 ∧
    ssiWidePrev.pos[ssiCh 0].ssiPrev = some 257 := by
  have h := (State.reset.wr (CH_AUX 4) 0x01027008#32).modPos_same 4 (fun q => { q with pos := 0, ssiFrame := some 0, ssiPrev := some 257 })
  exact ⟨congrArg PosChan.pos h, congrArg PosChan.ssiFrame h, congrArg PosChan.ssiPrev h⟩

theorem ssiWidePrev_aux : ssiWidePrev.rd (CH_AUX (ssiCh 0)) = 0x01027008#32 := State.rd_wr_same ..

theorem ssiWidePrev_bits : field (ssiWidePrev.rd (CH_AUX (ssiCh 0))) 5 0 = 8 := by
  rw [ssiWidePrev_aux]
  rfl

theorem ssiWidePrev_gray : (ssiWidePrev.rd (CH_AUX (ssiCh 0))).getLsbD 11 = false := by
  rw [ssiWidePrev_aux]
  rfl

/-- Refutes O26: with the last value 257 on a channel of 8 bits a read of 0 leaves POS, as the model's difference 0 + 2^8 − 257 is cut off at 0,
where the statement moves it by −1. No read leaves such a last value; the statement is about every state. -/
theorem not_ssiReads : ¬ Obligations.SsiReads := by
  unfold Obligations.SsiReads
  intro h
  obtain ⟨hpos, hframe, hprev⟩ := ssiWidePrev_ch
  have hdue : ssiWidePrev.ssiEntry (ssiCh 0) 0 ≤ ssiWidePrev.now := by
    rw [State.ssiEntry, ssiWidePrev_aux]
    decide
  obtain ⟨v, hv, -, t, ht, hp, -⟩ := (h 0 false 0 ssiWidePrev).2 0 hframe hdue
  have hmodel := State.ssiDone_pos (raw := 0) hframe hprev ssiWidePrev_bits ssiWidePrev_gray hdue
  obtain rfl : ssiWidePrev.ssiDone 0 0 = t := Host.Outcome.next.inj ht
  have hv0 : v = 0 := (hv ssiWidePrev_gray).trans (Nat.zero_mod _)
  clear h hv
  simp only [hpos, hprev, hv0] at hmodel hp
  rw [ssiWidePrev_bits] at hp
  exact absurd (hmodel.symm.trans hp) (by decide)

end Sys2Proof.Machine
end

section
/-!
PROOFS. The relay of positions (R160 to R165): a POS frame cast on the chain ports, a frame on the VENC channels, and the entry of a waiting pair; then
the obligation PositionRelay.
-/
namespace Sys2Proof.Machine

/-! ## Frames queued on a chain port (R23, R309) -/

/-- The item that a frame of the chip's own is in a queue. -/
def MFrame.item (f : MFrame) : QItem := { frame := f, from_ := none, desc := none }

theorem State.vc_linkSend_same (s : State) (p : Fin 4) (f : MFrame) :
    ((s.linkSend p f).vc p (typeVc f.type)).queue = (s.vc p (typeVc f.type)).queue ++ [f.item] := by
  simp [State.linkSend, State.linkQueue, State.modVc, State.modSess, State.vc, MFrame.item]

theorem State.vc_linkSend_ne (s : State) {p p' : Fin 4} (h : sessOf p' ≠ sessOf p) (f : MFrame) (v : Fin 2) : (s.linkSend p f).vc p' v = s.vc p' v :=
  congrArg (fun q : Session => q.vcs[v]) (vset_ne _ _ _ _ h)

/-- A POS frame cast on U and on D: the ring break on D discards its copy there. -/
theorem State.linkCast_chain (s : State) {f : MFrame} (h : f.type = 4) : (s.linkCast 2 f).linkCast 3 f =
    if s.flag (PX_STAT_RING_BREAK 3) then (s.linkSend 2 f).bump (PX_CNT_LOW 3 4) else (s.linkSend 2 f).linkSend 3 f := by
  have h2 : s.breakStops 2 f.type = false := by rw [h]; rfl
  have h3 : (s.linkSend 2 f).breakStops 3 f.type = s.flag (PX_STAT_RING_BREAK 3) := by rw [h]; rfl
  rw [State.linkCast, State.linkCast, h2, if_neg Bool.false_ne_true, h3]
  rfl

section Cast
variable (s : State) {f : MFrame} (h : f.type = 4)
include h

theorem State.queue_linkCast_chain :
    (((s.linkCast 2 f).linkCast 3 f).vc 2 1).queue = (s.vc 2 1).queue ++ [f.item] ∧
    (((s.linkCast 2 f).linkCast 3 f).vc 3 1).queue = (s.vc 3 1).queue ++ (if s.flag (PX_STAT_RING_BREAK 3) then [] else [f.item]) := by
  have hvc : typeVc f.type = 1 := by rw [h]; rfl
  have h2 := s.vc_linkSend_same 2 f
  have h3 := (s.linkSend 2 f).vc_linkSend_same 3 f
  rw [hvc] at h2 h3
  have hfar := s.vc_linkSend_ne (p := 2) (p' := 3) (by decide) f 1
  rw [State.linkCast_chain s h]
  split_ifs
  · exact ⟨h2, by rw [List.append_nil, ← hfar]; rfl⟩
  · exact ⟨by rw [State.vc_linkSend_ne _ (by decide), h2], by rw [h3, hfar]⟩

theorem State.linkCast_chain_frame :
    (s.linkCast 2 f).linkCast 3 f = { s with links := ((s.linkCast 2 f).linkCast 3 f).links, regs := ((s.linkCast 2 f).linkCast 3 f).regs } := by
  rw [State.linkCast_chain s h]
  split_ifs <;> rfl

theorem State.linkCast_chain_regs (hb : s.flag (PX_STAT_RING_BREAK 3) = false) : ((s.linkCast 2 f).linkCast 3 f).regs = s.regs := by
  rw [State.linkCast_chain s h, hb]
  rfl

end Cast

/-! ## The frame of a relayed channel (R160, R161) -/

/-- The next POS frame of a channel. -/
def State.posFrameNext (s : State) (c : Fin 10) : PosFrame := {
  src := BitVec.ofNat 12 s.chipId, ch := c, seq := s.pos[c].relaySeq, tstep := BitVec.ofNat 8 (s.get TIME_STAT_TSTEP), lastStep := s.rd TIME_LAST_STEP,
  illegal := s.pos[c].relayIllegal,
  pairs := (s.pos[c].relay.take 4).map (fun e => (e.2.p, BitVec.ofInt 80 (Int.fdiv (ntQ16 e.2.t.toNat s.rate (s.offset.toInt * 16)) 16))) }

/-- A channel once its frame has left. -/
def PosChan.relayed (q : PosChan) : PosChan := { q with relay := q.relay.drop 4, relaySeq := q.relaySeq + 1, relayIllegal := false }

theorem State.posSend_of_due {s : State} {ch : Fin 6} {c : Fin 10} (hc : c = ⟨ch.val, by omega⟩) {t0 : Nat} {e : Pair} {l : List (Nat × Pair)}
    (hr : s.pos[c].relay = (t0, e) :: l) (hdue : 4 ≤ s.pos[c].relay.length ∨ t0 + 160 ≤ s.now) : s.posSend ch =
      ((s.modPos c PosChan.relayed).linkCast 2 (s.ownFrame 4 0xFFF (posFrameBytes (s.posFrameNext c)))).linkCast 3
        (s.ownFrame 4 0xFFF (posFrameBytes (s.posFrameNext c))) := by
  subst hc
  simp only [State.posSend, hr] at hdue ⊢
  rw [if_pos hdue, State.posFrameNext, hr]
  rfl

/-! ## What a frame on some channels leaves (R162 to R165) -/

/-- What is done to channels of a list: the others, the registers but their CHc_STAT and CHc_ERR_CNT, the time base and OFFSET stay. -/
structure ByChannels (l : List (Fin 10)) (s t : State) : Prop where
  pos : ∀ g ∉ l, t.pos[g] = s.pos[g]
  rd : ∀ a, (∀ c ∈ l, a ≠ CH_STAT c ∧ a ≠ CH_ERR_CNT c) → t.rd a = s.rd a
  tbc : t.tbc = s.tbc
  offset : t.offset = s.offset

namespace ByChannels
variable {l : List (Fin 10)} {s t u : State} {c : Fin 10}

theorem refl (l : List (Fin 10)) (s : State) : ByChannels l s s := ⟨fun _ _ => rfl, fun _ _ => rfl, rfl, rfl⟩

theorem trans (h : ByChannels l s t) (g : ByChannels l t u) : ByChannels l s u :=
  ⟨fun k hk => (g.pos k hk).trans (h.pos k hk), fun a ha => (g.rd a ha).trans (h.rd a ha), g.tbc.trans h.tbc, g.offset.trans h.offset⟩

theorem mono {m : List (Fin 10)} (h : ByChannels l s t) (hs : l ⊆ m) : ByChannels m s t :=
  ⟨fun k hk => h.pos k fun hl => hk (hs hl), fun a ha => h.rd a fun k hk => ha k (hs hk), h.tbc, h.offset⟩

theorem modPos (s : State) (c : Fin 10) (f : PosChan → PosChan) : ByChannels [c] s (s.modPos c f) :=
  ⟨fun _ hg => State.modPos_ne _ _ _ _ (List.ne_of_not_mem_cons hg), fun _ _ => rfl, rfl, rfl⟩

theorem withAxes (s : State) (x : Vector Axis 4) : ByChannels [c] s (s.withAxes x) := ⟨fun _ _ => rfl, fun _ _ => rfl, rfl, rfl⟩

theorem raise (s : State) (ev src : Nat) (v : Word) : ByChannels [c] s (s.raise ev src v) := ⟨fun _ _ => rfl, fun _ _ => rfl, rfl, rfl⟩

theorem put {f : RegField} (h : f.addr = CH_STAT c ∨ f.addr = CH_ERR_CNT c) (s : State) (v : Nat) : ByChannels [c] s (s.put f v) := by
  refine ⟨fun _ _ => rfl, fun a ha => State.rd_put_ne _ _ _ _ ?_, rfl, rfl⟩
  obtain ⟨hstat, herr⟩ := ha c (List.mem_singleton_self c)
  obtain h | h := h
  · rwa [h]
  · rwa [h]

theorem histClear (s : State) (c : Fin 10) : ByChannels [c] s (s.histClear c) := by
  obtain ⟨x, hx⟩ := s.histClear_eq c
  rw [hx]
  exact (modPos s c _).trans (withAxes _ x)

theorem latch (s : State) (c : Fin 10) (e : Pair) : ByChannels [c] s (s.latch c e) := by
  obtain ⟨x, hx⟩ := s.latch_eq c e
  rw [hx]
  exact (modPos s c _).trans (withAxes _ x)

theorem vencEnter (s : State) (c : Fin 10) (e : Pair) : ByChannels [c] s (s.vencEnter c e) := by
  rw [State.vencEnter]
  split_ifs
  · exact put (.inl rfl) s 1
  · exact (modPos s c _).trans (latch _ c e)

theorem vencPair (s : State) (c : Fin 10) (e : Pair) : ByChannels [c] s (s.vencPair c e) := by
  rw [State.vencPair]
  split_ifs
  · exact modPos s c _
  · exact (((put (.inl rfl) s 1).trans (put (.inr rfl) _ _)).trans (raise _ _ _ _)).trans (vencEnter _ c e)
  · exact vencEnter s c e

theorem foldl {α : Type} {f : State → α → State} (hf : ∀ s x, ByChannels l s (f s x)) (xs : List α) (s : State) : ByChannels l s (xs.foldl f s) :=
  List.foldlRecOn xs _ (motive := ByChannels l s) (refl l s) fun t ht x _ => ht.trans (hf t x)

/-- The gap of the sequence numbers shown and counted. -/
theorem gap (s : State) (c : Fin 10) (b : Bool) :
    ByChannels [c] s (if b then (s.put (CH_STAT_GAP c) 1).bump (CH_ERR_CNT_CNT_A c) else s) := by
  split_ifs
  · exact (put (.inl rfl) s 1).trans (put (.inr rfl) _ _)
  · exact refl _ s

/-- A step of the sender's time: the history moved by it, or cleared when a step was missed. -/
theorem timeStep (h : ByChannels [c] s t) (f : PosFrame) (n : BitVec 8) :
    ByChannels [c] s (if f.tstep = n then t else if f.tstep = n + 1 then t.histShift c (roundDiv f.lastStep.toInt 5120)
      else (t.histClear c).put (CH_STAT_STEP_LOST c) 1) := by
  split_ifs
  · exact h
  · exact h.trans (modPos t c _)
  · exact h.trans ((histClear t c).trans (put (.inl rfl) _ 1))

theorem vencFrame (s : State) (c : Fin 10) (f : PosFrame) : ByChannels [c] s (s.vencFrame c f) := by
  rw [State.vencFrame]
  refine (trans ?step (modPos _ c _)).trans (foldl (fun t x => vencPair t c _) f.pairs _)
  cases s.pos[c].vencTstep with
  | none => exact gap s c _
  | some n => exact timeStep (gap s c _) f n

/-- A frame on the channels of a list that it matches. -/
theorem vencFrames (f : PosFrame) (l : List (Fin 10)) (p : State → Fin 10 → Bool) (s : State) :
    ByChannels l s (l.foldl (fun s c => if p s c then s.vencFrame c f else s) s) := by
  induction l generalizing s with
  | nil => exact refl _ s
  | cons c l ih =>
    refine trans (t := if p s c then s.vencFrame c f else s) ?head ((ih _).mono (List.subset_cons_self c l))
    split_ifs
    · exact (vencFrame s c f).mono (List.cons_subset_cons c (List.nil_subset l))
    · exact refl _ s

end ByChannels


/-! ## A frame on the VENC channel that names its source (R162, R163) -/

/-- A pair of a POS frame, its time converted to local time (R163). -/
def State.relayPair (s : State) (p : BitVec 48 × BitVec 80) : Pair := { p := p.1, t := tbc16Of p.2.toInt s.rate s.offset.toInt }

/-- A channel that takes the next frame of its source, the pair of which waits. -/
def PosChan.waiting (q : PosChan) (f : PosFrame) (e : Pair) : PosChan :=
  { q with vencSeq := some f.seq, vencTstep := some f.tstep, vencWait := q.vencWait ++ [e] }

/-- Whether a VENC channel takes a POS frame. -/
def State.takesFrame (s : State) (f : PosFrame) (c : Fin 10) : Bool :=
  s.flag (CH_CFG_EN c) && decide (field (s.rd (CH_AUX c)) 15 4 = f.src.toNat ∧ field (s.rd (CH_AUX c)) 3 0 = f.ch)

theorem State.posFrame_eq (s : State) (f : PosFrame) :
    s.posFrame f = [6, 7, 8, 9].foldl (fun s (c : Fin 10) => if s.takesFrame f c then s.vencFrame c f else s) s := rfl

theorem State.vencFrame_of_next {s : State} {d : Fin 10} {f : PosFrame} {p : BitVec 48 × BitVec 80} (hp : f.pairs = [p])
    (hseq : s.pos[d].vencSeq = some (f.seq - 1)) (htstep : s.pos[d].vencTstep = some f.tstep) (hwait : s.now < s.vencTick d (s.relayPair p).t) :
    s.vencFrame d f = s.modPos d (fun q => q.waiting f (s.relayPair p)) := by
  have hpair : (s.modPos d (fun q => { q with vencSeq := some f.seq, vencTstep := some f.tstep })).vencPair d (s.relayPair p) =
      s.modPos d (fun q => q.waiting f (s.relayPair p)) := (if_pos hwait).trans (State.modPos_modPos ..)
  rw [State.vencFrame]
  simp only [hseq, htstep, hp, BitVec.sub_add_cancel, ne_eq, not_true, decide_false, Bool.false_eq_true, if_false, if_true]
  exact hpair

/-- The VENC channels are each named once. -/
theorem vencChannels_split (v : Fin 4) : ∃ l₁ l₂ : List (Fin 10), [6, 7, 8, 9] = l₁ ++ (⟨6 + v.val, by omega⟩ : Fin 10) :: l₂ ∧
    (⟨6 + v.val, by omega⟩ : Fin 10) ∉ l₁ ++ l₂ ∧ ∀ c ∈ l₁ ++ l₂, 6 ≤ c.val := by
  have hmem : (⟨6 + v.val, by omega⟩ : Fin 10) ∈ ([6, 7, 8, 9] : List (Fin 10)) := by
    revert v
    decide
  obtain ⟨l₁, l₂, h⟩ := List.append_of_mem hmem
  have hnodup : ([6, 7, 8, 9] : List (Fin 10)).Nodup := by decide
  have hven : ∀ c ∈ ([6, 7, 8, 9] : List (Fin 10)), 6 ≤ c.val := by decide
  rw [h, List.nodup_middle, List.nodup_cons] at hnodup
  exact ⟨l₁, l₂, h, hnodup.1, fun c hc => hven c (by rw [h]; simp only [List.mem_append, List.mem_cons] at hc ⊢; tauto)⟩

namespace ByChannels
variable {l : List (Fin 10)} {s t : State} (h : ByChannels l s t)
include h

theorem rd_cfg (d : Fin 10) : t.rd (CH_CFG d) = s.rd (CH_CFG d) := h.rd _ fun c _ => by
  rw [CH_CFG, CH_STAT, CH_ERR_CNT]
  omega

theorem rd_aux (d : Fin 10) : t.rd (CH_AUX d) = s.rd (CH_AUX d) := h.rd _ fun c _ => by
  rw [CH_AUX, CH_STAT, CH_ERR_CNT]
  omega

theorem rate : t.rate = s.rate := congrArg BitVec.toInt (h.rd _ fun c _ => by
  rw [TIME_RATE, CH_STAT, CH_ERR_CNT]
  omega)

theorem takesFrame (f : PosFrame) (d : Fin 10) : t.takesFrame f d = s.takesFrame f d := by
  rw [State.takesFrame, State.flag, State.get, h.rd_cfg, h.rd_aux, State.takesFrame, State.flag, State.get]

theorem relayPair (p : BitVec 48 × BitVec 80) : t.relayPair p = s.relayPair p := by rw [State.relayPair, h.rate, h.offset, State.relayPair]

theorem vencTick (d : Fin 10) (τ : Dword) : t.vencTick d τ = s.vencTick d τ := by rw [State.vencTick, h.rd_aux, State.vencTick]

end ByChannels

/-- The frames on the other VENC channels leave what one channel takes. -/
theorem State.posFrame_of_next {s : State} {v : Fin 4} {d : Fin 10} (hd : d = ⟨6 + v.val, by omega⟩) {f : PosFrame} {p : BitVec 48 × BitVec 80}
    (hp : f.pairs = [p]) (htakes : s.takesFrame f d = true) (hseq : s.pos[d].vencSeq = some (f.seq - 1)) (htstep : s.pos[d].vencTstep = some f.tstep)
    (hwait : s.now < s.vencTick d (s.relayPair p).t) :
    (s.posFrame f).pos[d] = s.pos[d].waiting f (s.relayPair p) ∧ ∀ g : Fin 10, g.val < 6 → (s.posFrame f).pos[g] = s.pos[g] := by
  obtain ⟨l₁, l₂, hsplit, hnot, hven⟩ := vencChannels_split v
  rw [← hd] at hsplit hnot
  rw [State.posFrame_eq, hsplit, List.foldl_append, List.foldl_cons]
  have hbefore := ByChannels.vencFrames f l₁ (fun s c => s.takesFrame f c) s
  generalize l₁.foldl (fun s c => if s.takesFrame f c then s.vencFrame c f else s) s = u at *
  have hu := hbefore.pos d fun h => hnot (List.mem_append_left _ h)
  rw [if_pos ((hbefore.takesFrame f d).trans htakes), State.vencFrame_of_next hp (by rw [hu, hseq]) (by rw [hu, htstep])
    (by rw [hbefore.relayPair, hbefore.vencTick, State.now, hbefore.tbc]; exact hwait), hbefore.relayPair]
  have hafter := ByChannels.vencFrames f l₂ (fun s c => s.takesFrame f c) (u.modPos d (fun q => q.waiting f (s.relayPair p)))
  refine ⟨?_, fun g hg => ?_⟩
  · rw [hafter.pos d fun h => hnot (List.mem_append_right _ h), State.modPos_same, hu]
  · have hgd : g ≠ d := by
      rw [hd]
      exact Fin.ne_of_lt (show g.val < 6 + v.val by omega)
    have hg' : ∀ l : List (Fin 10), (∀ c ∈ l, 6 ≤ c.val) → g ∉ l := fun l hl hm => Nat.not_le.2 hg (hl g hm)
    rw [hafter.pos g (hg' _ fun c hc => hven c (List.mem_append_right _ hc)), State.modPos_ne _ _ _ _ hgd,
      hbefore.pos g (hg' _ fun c hc => hven c (List.mem_append_left _ hc))]


/-! ## The entry of a waiting pair (R163, R164) -/

theorem mem_of_earliestPair {l : List Pair} {f : Pair} (h : earliestPair l = some f) : f ∈ l := by
  induction l generalizing f with
  | nil => cases h
  | cons a l ih =>
    rw [earliestPair] at h
    cases hl : earliestPair l with
    | none =>
      rw [hl] at h
      exact Option.some.inj h ▸ List.mem_cons_self ..
    | some g =>
      simp only [hl] at h
      split_ifs at h
      · exact Option.some.inj h ▸ List.mem_cons_of_mem a (ih hl)
      · exact Option.some.inj h ▸ List.mem_cons_self ..

/-- A pair with a stamp before those of all others is the earliest. -/
theorem earliestPair_of_first {l : List Pair} {e : Pair} (hm : e ∈ l) (h : ∀ g ∈ l, g = e ∨ e.t.toNat < g.t.toNat) : earliestPair l = some e := by
  induction l with
  | nil => exact absurd hm List.not_mem_nil
  | cons a l ih =>
    have htail : ∀ g ∈ l, g = e ∨ e.t.toNat < g.t.toNat := fun g hg => h g (List.mem_cons_of_mem a hg)
    rw [earliestPair]
    obtain rfl | ha := h a (List.mem_cons_self ..)
    · cases hl : earliestPair l with
      | none => rfl
      | some f =>
        obtain rfl | hf := htail f (mem_of_earliestPair hl)
        · exact ite_self _
        · exact if_neg (Nat.lt_asymm hf)
    · have hne : e ≠ a := fun he => Nat.lt_irrefl _ (he ▸ ha)
      rw [ih ((List.mem_cons.1 hm).resolve_left hne) htail]
      exact if_pos ha

/-- A channel whose waiting pair has left. -/
def PosChan.without (q : PosChan) (e : Pair) : PosChan := { q with vencWait := q.vencWait.erase e }

/-- Whether a pair is not newer than the history (R164). -/
def PosChan.isLate (q : PosChan) (e : Pair) : Bool := q.hist.head?.any (fun h => decide (e.t.toNat ≤ h.t.toNat))

theorem PosChan.isLate_of_new {q : PosChan} {e : Pair} (h : ∀ g l, q.hist = g :: l → g.t.toNat < e.t.toNat) : q.isLate e = false := by
  rw [PosChan.isLate]
  cases hh : q.hist with
  | nil => rfl
  | cons g l => exact decide_eq_false (Nat.not_le.2 (h g l hh))

theorem PosChan.isLate_of_old {q : PosChan} {e g : Pair} {l : List Pair} (hh : q.hist = g :: l) (h : e.t.toNat ≤ g.t.toNat) : q.isLate e = true := by
  rw [PosChan.isLate, hh]
  exact decide_eq_true h

theorem State.vencEnter_of_late {s : State} {d : Fin 10} {e : Pair} (h : s.pos[d].isLate e = true) :
    s.vencEnter d e = s.put (CH_STAT_ORDER d) 1 := by
  rw [PosChan.isLate] at h
  rw [State.vencEnter, h]
  rfl

section Entry
variable {s : State} {v : Fin 4} {d : Fin 10} (hd : d = ⟨6 + v.val, by omega⟩) {e : Pair}
include hd

theorem State.vencDue_of_first (hm : e ∈ s.pos[d].vencWait) (h : ∀ g ∈ s.pos[d].vencWait, g = e ∨ e.t.toNat < g.t.toNat)
    (hdue : s.vencTick d e.t ≤ s.now) : s.vencDue v = (s.modPos d (fun q => q.without e)).vencEnter d e := by
  subst hd
  rw [State.vencDue, earliestPair_of_first hm h]
  exact if_pos hdue

/-- VENC channels relay nothing. -/
theorem State.relays_venc : s.relays d = false := by
  subst hd
  rw [State.relays, decide_eq_false (show ¬ 6 + v.val < 6 by omega), Bool.false_and]

theorem State.vencEnter_of_new (h : s.pos[d].isLate e = false) :
    ∃ x, s.vencEnter d e = (s.modPos d (fun q => { q with pos := e.p }.latched false s.now e)).withAxes x := by
  obtain ⟨x, hx⟩ := (s.modPos d (fun q => { q with pos := e.p })).latch_eq d e
  rw [PosChan.isLate] at h
  rw [State.relays_venc hd, State.modPos_modPos] at hx
  refine ⟨x, ?_⟩
  rw [State.vencEnter, h]
  exact hx

end Entry

/-! ## The obligation -/

/-- Settles O31: a frame is cast on U and on D, the channels beside one leave what it takes, and the earliest pair enters or is late. -/
theorem positionRelay : Obligations.PositionRelay := by
  unfold Obligations.PositionRelay
  intro ch v f s c d q sent item broken
  refine ⟨fun t0 e l hr hdue => ?send, fun p hp hen hsrc hch hseq htstep => ?receive, fun e hm hfirst hdue =>
    ⟨fun hnew => ?enter, fun h l hh hle => ?order⟩⟩
  case send =>
    have hsend := State.posSend_of_due (s := s) (ch := ch) (c := c) rfl hr hdue
    have htype : (s.ownFrame 4 0xFFF (posFrameBytes (s.posFrameNext c))).type = 4 := rfl
    have hitem : (s.ownFrame 4 0xFFF (posFrameBytes (s.posFrameNext c))).item = item := rfl
    refine ⟨_, congrArg Host.Outcome.next hsend, ?_⟩
    generalize s.ownFrame 4 0xFFF (posFrameBytes (s.posFrameNext c)) = m at htype hitem ⊢
    obtain ⟨hu, hd⟩ := (s.modPos c PosChan.relayed).queue_linkCast_chain htype
    have hframe := (s.modPos c PosChan.relayed).linkCast_chain_frame htype
    have hregs := (s.modPos c PosChan.relayed).linkCast_chain_regs htype
    rw [hitem] at hu hd
    rw [State.flag_modPos] at hd hregs
    generalize ht : ((s.modPos c PosChan.relayed).linkCast 2 m).linkCast 3 m = t at *
    obtain ⟨hch, hothers⟩ := State.pos_of_modPos (s := s) (t := t) (c := c) (f := PosChan.relayed) (by rw [hframe])
    exact ⟨hch, hu, hd, hothers, fun hb => (RegsBut.refl _ s).regs_eq (hregs hb), by rw [hframe]; rfl⟩
  case receive =>
    intro e hwait
    have htakes : s.takesFrame f d = true := by
      rw [State.takesFrame, hen, Bool.true_and]
      exact decide_eq_true ⟨hsrc, hch⟩
    exact ⟨_, rfl, State.posFrame_of_next rfl hp htakes hseq htstep hwait⟩
  case enter =>
    have hnotlate : (s.modPos d (fun q => q.without e)).pos[d].isLate e = false := by
      rw [State.modPos_same]
      exact PosChan.isLate_of_new hnew
    obtain ⟨x, hx⟩ := State.vencEnter_of_new (v := v) (d := d) rfl hnotlate
    refine ⟨_, congrArg Host.Outcome.next (State.vencDue_of_first (v := v) rfl hm hfirst hdue), ?_⟩
    rw [State.modPos_modPos] at hx
    rw [hx]
    obtain ⟨hch, hothers⟩ := State.pos_of_modPos (s := s) (c := d) (f := fun q => { q.without e with pos := e.p }.latched false s.now e)
      (t := (s.modPos d (fun q => { q.without e with pos := e.p }.latched false s.now e)).withAxes x) rfl
    exact ⟨(congrArg PosChan.pos hch :), (congrArg PosChan.hist hch :), (congrArg PosChan.vencWait hch :), hothers, rfl⟩
  case order =>
    have hislate : (s.modPos d (fun q => q.without e)).pos[d].isLate e = true := by
      rw [State.modPos_same]
      exact PosChan.isLate_of_old hh hle
    refine ⟨_, congrArg Host.Outcome.next (State.vencDue_of_first (v := v) rfl hm hfirst hdue), ?_⟩
    rw [State.vencEnter_of_late hislate]
    obtain ⟨hch, hothers⟩ := State.pos_of_modPos (s := s) (t := (s.modPos d (fun q => q.without e)).put (CH_STAT_ORDER d) 1) (c := d)
      (f := fun q => q.without e) rfl
    refine ⟨State.flag_put_one _ (show 4 < 32 by decide) (le_refl 4), hch, hothers,
      ((RegsBut.refl _ s).modPos _ _).put (f := CH_STAT_ORDER d) (List.mem_singleton_self _) 1, rfl⟩

end Sys2Proof.Machine
end

section
/-!
PROOFS. Axes and position triggers (R144 to R149): an estimator restarted, the first pending position of a trigger, and its pulses; then the obligation
AxesAndTriggers.
-/
namespace Sys2Proof.Machine

/-! ## Writes of axis and trigger registers (R168) -/

theorem State.posWrite_ax (s : State) (a : Fin 4) (v : Word) : s.posWrite (0x400 + 0x40 * a.val) v = some (s.axCfg a v) := by
  have ha : finOf 4 (by decide) ((0x400 + 0x40 * a.val - 0x400) / 0x40) = a := Fin.ext (by simp only [finOf]; omega)
  have ho : (0x400 + 0x40 * a.val) % 0x40 = 0 := by omega
  rw [State.posWrite, if_neg (by omega), if_pos (by omega), ha, ho]
  rfl

theorem State.posWrite_trig (s : State) (g : Fin 16) (v : Word) : s.posWrite (0x800 + 0x20 * g.val) v = some (.ok, s.trigCfg g v) := by
  have hg : finOf 16 (by decide) ((0x800 + 0x20 * g.val - 0x800) / 0x20) = g := Fin.ext (by simp only [finOf]; omega)
  rw [State.posWrite, if_neg (by omega), if_neg (by omega), if_pos (by omega), if_pos (by omega), hg]

theorem exec_axisCfgWrite (x : Fin 2) (a : Fin 4) (v : Word) (s : State) :
    exec (.axisCfgWrite x a v) s = .next ((s.axCfg a v).2.bus (s.axCfg a v).1 0) :=
  congrArg busAnswer (State.supWrite_of_rule rfl x (s.posWrite_ax a v))

theorem exec_triggerEnable (x : Fin 2) (g : Fin 16) (v : Word) (s : State) :
    exec (.triggerEnable x g v) s = .next ((s.trigCfg g (v ||| 0x80000000#32)).bus .ok 0) :=
  congrArg busAnswer (State.supWrite_of_rule (b := .pos) rfl x (s.posWrite_trig g _))

/-! ## An estimator restarted (R144 to R146) -/

/-- The newest of the outputs kept is in force from its tick. -/
theorem Axis.at_trimOuts {now n : Nat} {o : AxisOut} (h : now ≤ o.tick) (hn : o.tick ≤ n) (l : List AxisOut) (b : Option AlphaBeta) :
    Axis.at { outs := trimOuts now (o :: l), ab := b } n = o := by
  have hkeep : decide (now < o.tick + 6) = true := decide_eq_true (by omega)
  rw [Axis.at, trimOuts, List.takeWhile_cons_of_pos (p := fun o : AxisOut => decide (now < o.tick + 6)) hkeep, List.cons_append,
    List.find?_cons_of_pos (p := fun o : AxisOut => decide (o.tick ≤ n)) (decide_eq_true hn)]
  rfl

/-- The output that a restarted estimator computes from the history held. -/
def State.axFirst (s : State) (a : Fin 4) : AxisOut :=
  let v := validPairs s.pos[s.axSrc a].hist
  let tick := s.now + s.axLatency a
  if s.axEst a = 2 then (s.axAlphaBeta a tick none (v.take 2)).2 else s.axCompute a tick v

theorem State.axRestart_of_off {s : State} {a : Fin 4} (h : s.flag (AX_CFG_EN a) = false) :
    s.axRestart a = s.setAxis a { outs := [stalled s.now 0 0], ab := none } := by
  simp only [State.axRestart, h, Bool.false_eq_true, if_false]

theorem State.axRestart_of_on {s : State} {a : Fin 4} (h : s.flag (AX_CFG_EN a) = true) :
    ∃ l b, s.axRestart a = s.setAxis a { outs := trimOuts s.now (s.axFirst a :: l), ab := b } := by
  simp only [State.axRestart, State.axFirst, h, if_true]
  split_ifs
  · exact ⟨_, _, rfl⟩
  · exact ⟨_, _, rfl⟩

theorem validPairs_of_near {e f : Pair} (l : List Pair) (h : (e.t - f.t).toNat ≤ 2 ^ 36) : ∃ m, validPairs (e :: f :: l) = e :: f :: m :=
  ⟨_, congrArg (e :: ·) (List.takeWhile_cons_of_pos (p := fun g : Pair => decide ((e.t - g.t).toNat ≤ 2 ^ 36)) (decide_eq_true h))⟩

theorem State.axCompute_tick (s : State) (a tick : Nat) : ∀ v, (s.axCompute a tick v).tick = tick
  | [] => rfl
  | [_] => rfl
  | _ :: _ :: _ => rfl

theorem State.axAlphaBeta_tick (s : State) (a tick : Nat) (old : Option AlphaBeta) : ∀ v, (s.axAlphaBeta a tick old v).2.tick = tick
  | [] => rfl
  | [_] => rfl
  | _ :: _ :: _ => rfl

section First
variable {s : State} {a : Fin 4}

theorem State.axFirst_of_none (h : s.pos[s.axSrc a].hist = []) : s.axFirst a = stalled (s.now + s.axLatency a) 0 0 := by
  simp only [State.axFirst, h, validPairs]
  exact ite_self _

theorem State.axFirst_of_one {e : Pair} (h : s.pos[s.axSrc a].hist = [e]) :
    s.axFirst a = stalled (s.now + s.axLatency a) (posQ16 e.p) e.t := by
  simp only [State.axFirst, h, validPairs]
  exact ite_self _

theorem State.axFirst_of_two {e f : Pair} {l : List Pair} (h : s.pos[s.axSrc a].hist = e :: f :: l) (hnear : (e.t - f.t).toNat ≤ 2 ^ 36)
    (hest : s.get (AX_CFG_EST a) = 0) :
    s.axFirst a = { tick := s.now + s.axLatency a, stall := false, vel := vel2p e f, ap := posQ16 e.p, at_ := e.t } := by
  have hest' : s.axEst a = 0 := by rw [State.axEst, hest]; rfl
  obtain ⟨m, hm⟩ := validPairs_of_near l hnear
  simp only [State.axFirst, h, hm, hest', State.axCompute]
  rfl

theorem State.axFirst_tick : (s.axFirst a).tick = s.now + s.axLatency a := by
  rw [State.axFirst]
  split_ifs
  · exact State.axAlphaBeta_tick ..
  · exact State.axCompute_tick ..

end First

/-- A state whose axes are those of a change of one. -/
theorem State.axes_of_setAxis {s t : State} {a : Fin 4} {x : Axis} (h : t.axes = (s.setAxis a x).axes) : t.axes[a] = x ∧ ∀ b ≠ a, t.axes[b] = s.axes[b] := by
  rw [h]
  exact ⟨vset_same _ _ _, fun b hb => vset_ne _ _ _ _ hb⟩

/-- A restart replaces one axis. -/
theorem State.axRestart_eq (s : State) (a : Fin 4) : ∃ x : Axis, s.axRestart a = s.setAxis a x ∧
    (s.flag (AX_CFG_EN a) = false → x.at s.now = stalled s.now 0 0) ∧ (s.flag (AX_CFG_EN a) = true → x.at (s.now + s.axLatency a) = s.axFirst a) := by
  cases h : s.flag (AX_CFG_EN a) with
  | false => exact ⟨_, State.axRestart_of_off h, fun _ => by simp [Axis.at, stalled], fun h => Bool.noConfusion h⟩
  | true =>
    obtain ⟨l, b, hx⟩ := State.axRestart_of_on h
    exact ⟨_, hx, fun h => Bool.noConfusion h, fun _ =>
      Axis.at_trimOuts (by rw [State.axFirst_tick]; exact Nat.le_add_right ..) (le_of_eq State.axFirst_tick) l b⟩

/-- A write of AXa_CFG of an axis that is not in use: the word, and the axis by it. -/
theorem State.axCfg_of_free {s : State} {a : Fin 4} (h : s.axisUsed a = false) (v : Word) : ∃ (u : State) (x : Axis),
    s.axCfg a v = (.ok, u.setAxis a x) ∧ u.rd (AX_CFG a) = v &&& 0x800F0330#32 ∧ RegsBut [AX_CFG a] s u ∧ u = { s with regs := u.regs } ∧
    (v.getLsbD 31 = false → x.at s.now = stalled s.now 0 0) ∧ (v.getLsbD 31 = true → x.at (s.now + u.axLatency a) = u.axFirst a) := by
  have hword : (s.wr (AX_CFG a) (v &&& 0x800F0330#32)).rd (AX_CFG a) = v &&& 0x800F0330#32 := State.rd_wr_same ..
  have hen : (s.wr (AX_CFG a) (v &&& 0x800F0330#32)).flag (AX_CFG_EN a) = v.getLsbD 31 := by
    rw [State.flag_eq_bit, State.bit, hword, BitVec.getLsbD_and]
    exact Bool.and_true _
  obtain ⟨x, hx, hoff, hon⟩ := (s.wr (AX_CFG a) (v &&& 0x800F0330#32)).axRestart_eq a
  refine ⟨s.wr (AX_CFG a) (v &&& 0x800F0330#32), x, ?_, hword, RegsBut.of_wr _ _ _, rfl, fun hv => hoff (hen.trans hv), fun hv => hon (hen.trans hv)⟩
  rw [State.axCfg, if_neg (by rw [h]; exact Bool.false_ne_true), hx]

/-! ## The first pending position of a trigger (R149) -/

/-- How many positions lie behind a distance. -/
def positionsBehind (d : Int) (pitch : Nat) : Nat := if d ≤ 0 then 0 else if pitch = 0 then 0 else ceilDiv d.toNat pitch

theorem positionsBehind_of_nonpos {d : Int} (h : d ≤ 0) (pitch : Nat) : positionsBehind d pitch = 0 := if_pos h

theorem positionsBehind_zero (d : Int) : positionsBehind d 0 = 0 := ite_self _

/-- The first position that does not lie behind it. -/
theorem positionsBehind_first {d : Int} {pitch : Nat} (hd : 0 < d) (hp : pitch ≠ 0) :
    d.toNat ≤ positionsBehind d pitch * pitch ∧ positionsBehind d pitch * pitch < d.toNat + pitch := by
  rw [positionsBehind, if_neg (Int.not_le.2 hd), if_neg hp, ceilDiv, if_neg hp]
  have hdiv := Nat.div_add_mod (d.toNat + pitch - 1) pitch
  have hmod := Nat.mod_lt (d.toNat + pitch - 1) (Nat.pos_of_ne_zero hp)
  rw [Nat.mul_comm] at hdiv
  omega

/-- An axis output that STALLs without an anchor. -/
def AxisOut.unanchored (o : AxisOut) : Prop := o.stall = true ∧ o.ap = 0 ∧ o.at_ = 0

theorem AxisOut.unanchored_iff {o : AxisOut} : o.unanchored ↔ (o.stall && o.at_ = 0 && o.ap = 0) = true := by
  simp only [AxisOut.unanchored, Bool.and_eq_true, decide_eq_true_eq]
  tauto

/-- The number of a trigger's positions limits its first one. -/
def limited (count k : Nat) : Nat := if count = 0 then k else min k count

theorem limited_le (count k : Nat) : limited count k ≤ k := by
  rw [limited]
  split_ifs
  · exact le_refl k
  · exact Nat.min_le_left ..

theorem limited_le_count {count : Nat} (h : count ≠ 0) (k : Nat) : limited count k ≤ count := by
  rw [limited, if_neg h]
  exact Nat.min_le_right ..

theorem limited_eq {count k : Nat} (h : count = 0 ∨ limited count k < count) : limited count k = k := by
  rw [limited] at h ⊢
  split_ifs at h ⊢ <;> omega

section Start
variable (s : State) (g : Nat)

/-- The output that decides a trigger's first position. -/
def State.trigOut : AxisOut := s.axes[(finOf 4 (by decide) (s.get (PTRG_CFG_AX g)) : Fin 4)].at s.now

/-- How far its anchor lies beyond START. -/
def State.trigAhead : Int := ((s.trigOut g).ap - s.rd64 (PTRG_START_LO g) (PTRG_START_HI g)).toInt

theorem State.trigStart_of_unanchored (h : (s.trigOut g).unanchored) : s.trigStart g = 0 := if_pos (AxisOut.unanchored_iff.1 h)

theorem State.trigStart_of_anchored (h : ¬ (s.trigOut g).unanchored) :
    s.trigStart g = limited (s.rd (PTRG_COUNT g)).toNat (positionsBehind (s.trigAhead g) ((s.rd (PTRG_PITCH g)).toNat * 16)) :=
  if_neg fun hc => h (AxisOut.unanchored_iff.2 hc)

theorem State.trigStart_le : s.trigStart g ≤ positionsBehind (s.trigAhead g) ((s.rd (PTRG_PITCH g)).toNat * 16) := by
  by_cases h : (s.trigOut g).unanchored
  · rw [State.trigStart_of_unanchored s g h]
    exact Nat.zero_le _
  · rw [State.trigStart_of_anchored s g h]
    exact limited_le ..

theorem State.trigStart_le_count (h : (s.rd (PTRG_COUNT g)).toNat ≠ 0) : s.trigStart g ≤ (s.rd (PTRG_COUNT g)).toNat := by
  by_cases ho : (s.trigOut g).unanchored
  · rw [State.trigStart_of_unanchored s g ho]
    exact Nat.zero_le _
  · rw [State.trigStart_of_anchored s g ho]
    exact limited_le_count h _

theorem State.trigStart_of_reached (h : s.trigAhead g ≤ 0) : s.trigStart g = 0 :=
  Nat.le_zero.1 ((s.trigStart_le g).trans (le_of_eq (positionsBehind_of_nonpos h _)))

theorem State.trigStart_of_no_pitch (h : (s.rd (PTRG_PITCH g)).toNat * 16 = 0) : s.trigStart g = 0 := by
  have hle := s.trigStart_le g
  rw [h, positionsBehind_zero] at hle
  exact Nat.le_zero.1 hle

/-- With an anchor beyond START: the first position that does not lie behind it, unless COUNT ends them before. -/
theorem State.trigStart_first (h : ¬ (s.trigOut g).unanchored) (hd : 0 < s.trigAhead g) (hp : (s.rd (PTRG_PITCH g)).toNat * 16 ≠ 0) :
    s.trigStart g * ((s.rd (PTRG_PITCH g)).toNat * 16) < (s.trigAhead g).toNat + (s.rd (PTRG_PITCH g)).toNat * 16 ∧
    ((s.rd (PTRG_COUNT g)).toNat = 0 ∨ s.trigStart g < (s.rd (PTRG_COUNT g)).toNat →
      (s.trigAhead g).toNat ≤ s.trigStart g * ((s.rd (PTRG_PITCH g)).toNat * 16)) := by
  obtain ⟨hge, hlt⟩ := positionsBehind_first hd hp
  refine ⟨Nat.lt_of_le_of_lt (Nat.mul_le_mul_right _ (s.trigStart_le g)) hlt, fun hc => ?_⟩
  rw [State.trigStart_of_anchored s g h] at hc ⊢
  rwa [limited_eq hc]

end Start

/-- A trigger whose positions start again. -/
def Trig.started (r : Trig) (k : Nat) : Trig := { r with k := k, frozen := none }

/-- Writing EN = 1 starts a trigger at its first pending position by the word written. -/
theorem State.trigCfg_of_enable (s : State) (g : Fin 16) (v : Word) : ∃ u : State,
    s.trigCfg g (v ||| 0x80000000#32) = u.modTrig g (fun q => q.started (u.trigStart g)) ∧
    u.rd (PTRG_CFG g) = v ||| 0x80000000#32 ∧ RegsBut [PTRG_CFG g] s u ∧ u = { s with regs := u.regs } :=
  ⟨s.wr (PTRG_CFG g) (v ||| 0x80000000#32), if_pos (by rw [BitVec.getLsbD_or]; exact Bool.or_true _), State.rd_wr_same .., RegsBut.of_wr _ _ _, rfl⟩

/-! ## Pulses (R148, R149) -/

/-- A state whose triggers are those of a change of one. -/
theorem State.trigs_of_modTrig {s t : State} {g : Fin 16} {f : Trig → Trig} (h : t.trigs = (s.modTrig g f).trigs) :
    t.trigs[g] = f s.trigs[g] ∧ ∀ k ≠ g, t.trigs[k] = s.trigs[k] := by
  rw [h]
  exact ⟨vset_same _ _ _, fun k hk => vset_ne _ _ _ _ hk⟩

/-- The record of a trigger's next position. -/
def State.trigRec (s : State) (g : Fin 16) (T : Dword) : TrigRec := { k := s.trigs[g].k, tp := s.trigPos g s.trigs[g].k, tick := T.toNat / 16 }

/-- The record goes to the camera port of a trigger that has one. -/
def State.recorded (s : State) (g : Fin 16) (r : TrigRec) : State := if h : g.val < 8 then s.camTrigger ⟨g.val, h⟩ r else s

/-- A trigger whose pulse begins. -/
def Trig.pulsing (r : Trig) (last : Nat) : Trig := { k := r.k + 1, frozen := none, pulseEnd := some last }

section Pulse
variable {s : State} {g : Fin 16} {T : Dword} (hT : s.trigs[g].frozen = some T)
include hT

theorem State.trigFreeze_of_frozen : s.trigFreeze g = s := by
  have hf : s.trigs[g].frozen.isNone = false := by rw [hT]; rfl
  simp only [State.trigFreeze, hf, Bool.and_false, Bool.false_and, Bool.false_eq_true, if_false]

variable (hen : s.flag (PTRG_CFG_EN g) = true) (hdue : T.toNat / 16 ≤ s.now)
include hen hdue

/-- While the previous pulse lasts the position is skipped. -/
theorem State.trigPulse_of_busy {e : Nat} (hp : s.trigs[g].pulseEnd = some e) (h : T.toNat / 16 < e) : s.trigPulse g =
    ((s.modTrig g (fun r => { r with k := r.k + 1, frozen := none })).bump (PTRG_SKIP_SKIP_CNT g)).raise evTRG_SKIP g (value1 s.trigs[g].k) := by
  simp only [State.trigPulse, State.trigFreeze_of_frozen hT, hT, hen, decide_eq_true hdue, hp, decide_eq_true h, Bool.and_self, if_true]

theorem State.trigPulse_of_free (h : ∀ e, s.trigs[g].pulseEnd = some e → e ≤ T.toNat / 16) : s.trigPulse g =
    (s.modTrig g (fun r => r.pulsing (T.toNat / 16 + max 1 (s.get (PTRG_CFG_WIDTH g))))).recorded g (s.trigRec g T) := by
  cases hp : s.trigs[g].pulseEnd with
  | none =>
    simp only [State.trigPulse, State.trigFreeze_of_frozen hT, hT, hen, decide_eq_true hdue, hp, Bool.and_self, if_true, Bool.false_eq_true, if_false]
    rfl
  | some e =>
    simp only [State.trigPulse, State.trigFreeze_of_frozen hT, hT, hen, decide_eq_true hdue, hp, decide_eq_false (Nat.not_lt.2 (h e hp)),
      Bool.and_self, if_true, Bool.false_eq_true, if_false]
    rfl

end Pulse

/-- What a record leaves but its camera port. -/
theorem State.recorded_frame (s : State) (g : Fin 16) (r : TrigRec) : s.recorded g r = { s with cams := (s.recorded g r).cams } := by
  rw [State.recorded]
  split_ifs <;> rfl

theorem State.mem_recorded (s : State) {g : Fin 16} {n : Fin 8} (h : n.val = g.val) (r : TrigRec) : r ∈ (s.recorded g r).cams[n].trigs := by
  have hn : (⟨g.val, by omega⟩ : Fin 8) = n := Fin.ext h.symm
  rw [State.recorded, dif_pos (by omega), hn, State.camTrigger, vset_same]
  exact List.mem_append_right _ (List.mem_singleton_self r)

/-! ## The PAGE records that a trigger record completes (R277) -/

/-- What the writing of PAGE records leaves: triggers, channels, axes, ports, cameras, the events in flight, and the registers but their own. -/
structure PagesKeep (s t : State) : Prop where
  trigs : t.trigs = s.trigs
  pos : t.pos = s.pos
  axes : t.axes = s.axes
  fsch : t.fsch = s.fsch
  cams : t.cams = s.cams
  regs : RegsBut [BOLT_RPT_CTRL] s t
  flight : ∀ e ∈ s.evt.flight, e ∈ t.evt.flight

namespace PagesKeep
variable {s t u : State}

theorem refl (s : State) : PagesKeep s s := ⟨rfl, rfl, rfl, rfl, rfl, RegsBut.refl _ s, fun _ h => h⟩

theorem trans (h : PagesKeep s t) (g : PagesKeep t u) : PagesKeep s u :=
  ⟨g.trigs.trans h.trigs, g.pos.trans h.pos, g.axes.trans h.axes, g.fsch.trans h.fsch, g.cams.trans h.cams, h.regs.trans g.regs,
    fun e he => g.flight e (h.flight e he)⟩

/-- The Bolter's own state changed. -/
theorem bolt (s : State) (b : Bolt) : PagesKeep s { s with bolt := b } := ⟨rfl, rfl, rfl, rfl, rfl, (RegsBut.refl _ s).regs_eq rfl, fun _ h => h⟩

theorem put {f : RegField} (hf : f.addr = BOLT_RPT_CTRL) (s : State) (v : Nat) : PagesKeep s (s.put f v) :=
  ⟨rfl, rfl, rfl, rfl, rfl, (RegsBut.refl _ s).put (List.mem_singleton.2 hf) v, fun _ h => h⟩

theorem raiseAt (s : State) (ev src : Nat) (v page line : Word) : PagesKeep s (s.raiseAt ev src v page line) :=
  ⟨rfl, rfl, rfl, rfl, rfl, (RegsBut.refl _ s).regs_eq rfl, fun e h => mem_insertEvent_of_mem _ e _ h⟩

theorem boltHold (s : State) (bs : List Byte) (page : Word) : PagesKeep s (s.boltHold bs page) := by
  rw [State.boltHold]
  split_ifs
  · exact (bolt s _).trans (put rfl _ _)
  · exact (put rfl s 1).trans (raiseAt _ _ _ _ _ _)

theorem boltPast (s : State) (page : Word) : PagesKeep s (s.boltPast page) := by
  rw [State.boltPast]
  split_ifs
  · exact refl s
  · exact bolt s _

theorem boltPages (s : State) : PagesKeep s s.boltPages := by
  rw [State.boltPages]
  split_ifs
  · exact List.foldlRecOn _ _ (motive := PagesKeep s) (refl s) fun t ht q _ =>
      ht.trans (((boltHold t _ q.page).trans (bolt _ _)).trans (boltPast _ q.page))
  · exact refl s

end PagesKeep

/-! ## The obligation -/

/-- Settles O27: AXa_CFG and PTRGt_CFG by the equations of their writes, a pulse by whether the previous one lasts. -/
theorem axesAndTriggers : Obligations.AxesAndTriggers := by
  unfold Obligations.AxesAndTriggers
  intro x a g value s r
  refine ⟨⟨_, exec_axisCfgWrite x a value s, fun hused => ?used, fun hfree => ?restart⟩, ⟨_, exec_triggerEnable x g value s, ?enable⟩,
    fun T hT hen hdue => ⟨fun hfree => ?pulse, fun e hp he => ?skip⟩, fun e hp he => ?finish⟩
  case used =>
    rw [State.axCfg, if_pos hused]
    rfl
  case restart =>
    obtain ⟨u, y, hcfg, hword, hregs, hframe, hoff, hon⟩ := State.axCfg_of_free hfree value
    rw [hcfg]
    have hpos : u.pos = s.pos := by rw [hframe]
    have haxes : u.axes = s.axes := by rw [hframe]
    obtain ⟨hax, hothers⟩ := State.axes_of_setAxis (s := u) (t := (u.setAxis a y).bus .ok 0) (a := a) (x := y) rfl
    refine ⟨rfl, hword, hregs.regs_eq rfl, fun b hb => (hothers b hb).trans (by rw [haxes]), fun hv => ?_, fun hv => ?_, ?_⟩
    · rw [hax, hframe]
      exact hoff hv
    · intro o hist
      have ho : o = u.axFirst a := (congrArg (fun q : Axis => q.at (s.now + u.axLatency a)) hax).trans (hon hv)
      have hhist : u.pos[u.axSrc a].hist = hist := by rw [hpos]; rfl
      refine ⟨fun h => ?_, fun e h => ?_, fun e f l h hnear hest => ?_⟩
      · rw [ho, State.axFirst_of_none (hhist.trans h)]
        exact ⟨rfl, rfl, rfl, rfl⟩
      · rw [ho, State.axFirst_of_one (hhist.trans h)]
        exact ⟨rfl, rfl, rfl, rfl⟩
      · rw [ho, State.axFirst_of_two (hhist.trans h) hnear hest]
        exact ⟨rfl, rfl, rfl, rfl⟩
    · rw [hframe]
      rfl
  case enable =>
    obtain ⟨u, hcfg, hword, hregs, hframe⟩ := State.trigCfg_of_enable s g value
    rw [hcfg]
    have haxes : u.axes = s.axes := by rw [hframe]
    have htrigs : u.trigs = s.trigs := by rw [hframe]
    have hnow : u.now = s.now := by rw [hframe]; rfl
    have hpitch : u.rd (PTRG_PITCH g) = s.rd (PTRG_PITCH g) := hregs _ (by rw [List.mem_singleton, PTRG_PITCH, PTRG_CFG]; omega)
    have hcount : u.rd (PTRG_COUNT g) = s.rd (PTRG_COUNT g) := hregs _ (by rw [List.mem_singleton, PTRG_COUNT, PTRG_CFG]; omega)
    have hstart : u.rd64 (PTRG_START_LO g) (PTRG_START_HI g) = s.rd64 (PTRG_START_LO g) (PTRG_START_HI g) := by
      rw [State.rd64, hregs _ (by rw [List.mem_singleton, PTRG_START_HI, PTRG_CFG]; omega),
        hregs _ (by rw [List.mem_singleton, PTRG_START_LO, PTRG_CFG]; omega), State.rd64]
    obtain ⟨htrig, hothers⟩ := State.trigs_of_modTrig (s := u) (t := (u.modTrig g (fun q => q.started (u.trigStart g))).bus .ok 0) (g := g)
      (f := fun q => q.started (u.trigStart g)) rfl
    intro o d pitch count
    have ho : o = u.trigOut g := by rw [State.trigOut, haxes, hnow]; rfl
    have hd : d = u.trigAhead g := by rw [State.trigAhead, hstart, ← ho]
    have hp : pitch = (u.rd (PTRG_PITCH g)).toNat * 16 := by rw [hpitch]
    have hc : count = (u.rd (PTRG_COUNT g)).toNat := by rw [hcount]
    have hk := congrArg Trig.k htrig
    clear_value o d pitch count
    subst ho hd hp hc
    refine ⟨rfl, hword, congrArg Trig.frozen htrig, (congrArg Trig.pulseEnd htrig).trans (by rw [htrigs]; rfl),
      fun h hh => (hothers h hh).trans (by rw [htrigs]), fun h => hk.trans (u.trigStart_of_unanchored g h), fun h => hk.trans (u.trigStart_of_reached g h),
      fun h => hk.trans (u.trigStart_of_no_pitch g h), fun hno hpos hp => hk ▸ u.trigStart_first g hno hpos hp,
      fun h => hk.trans_le (u.trigStart_le_count g h), hregs.regs_eq rfl, ?_⟩
    rw [hframe]
    rfl
  case pulse =>
    have hrun := State.trigPulse_of_free hT hen hdue hfree
    have hrec : ∀ n : Fin 8, n.val = g.val → s.trigRec g T ∈ (s.trigPulse g).cams[n].trigs := fun n hn => by
      rw [hrun]
      exact State.mem_recorded _ hn _
    have hframe := (s.modTrig g (fun r => r.pulsing (T.toNat / 16 + max 1 (s.get (PTRG_CFG_WIDTH g))))).recorded_frame g (s.trigRec g T)
    rw [← hrun] at hframe
    obtain ⟨htrig, hothers⟩ := State.trigs_of_modTrig (s := s) (t := s.trigPulse g) (g := g)
      (f := fun r => r.pulsing (T.toNat / 16 + max 1 (s.get (PTRG_CFG_WIDTH g)))) (by rw [hframe])
    obtain ⟨ktrigs, kpos, kaxes, kfsch, kcams, -, -⟩ := PagesKeep.boltPages (s.trigPulse g)
    exact ⟨_, rfl, (congrArg (·[g]) ktrigs).trans htrig, ⟨fun k hk => (congrArg (·[k]) ktrigs).trans (hothers k hk), kpos.trans (by rw [hframe]; rfl),
      kaxes.trans (by rw [hframe]; rfl), kfsch.trans (by rw [hframe]; rfl)⟩, fun n hn => by rw [kcams]; exact hrec n hn⟩
  case skip =>
    have hrun := State.trigPulse_of_busy hT hen hdue hp he
    obtain ⟨y, hy, hev, hsrc, hval, -⟩ := ((s.modTrig g (fun r => { r with k := r.k + 1, frozen := none })).bump
      (PTRG_SKIP_SKIP_CNT g)).raise_flight evTRG_SKIP g (value1 s.trigs[g].k)
    obtain ⟨htrig, hothers⟩ := State.trigs_of_modTrig (s := s) (t := s.trigPulse g) (g := g)
      (f := fun r => { r with k := r.k + 1, frozen := none }) (by rw [hrun]; rfl)
    have hcount : (s.trigPulse g).get (PTRG_SKIP_SKIP_CNT g) = min (s.get (PTRG_SKIP_SKIP_CNT g) + 1) 65535 := by
      rw [hrun, State.get_raise]
      exact State.get_bump_same _ (show 15 < 32 by decide)
    obtain ⟨ktrigs, kpos, kaxes, kfsch, kcams, kregs, kflight⟩ := PagesKeep.boltPages (s.trigPulse g)
    have haddr : PTRG_SKIP g ∉ [BOLT_RPT_CTRL] := by
      rw [List.mem_singleton, PTRG_SKIP, BOLT_RPT_CTRL]
      omega
    refine ⟨_, rfl, ((congrArg (·[g]) ktrigs).trans htrig).trans ?_, ⟨fun k hk => (congrArg (·[k]) ktrigs).trans (hothers k hk),
      kpos.trans (by rw [hrun]; rfl), kaxes.trans (by rw [hrun]; rfl), kfsch.trans (by rw [hrun]; rfl)⟩, kcams.trans (by rw [hrun]; rfl),
      (kregs.get_eq (f := PTRG_SKIP_SKIP_CNT g) haddr).trans hcount,
      ⟨y, kflight y (by rw [hrun]; exact hy), hev, hsrc.trans (Nat.mod_eq_of_lt (by omega)), hval⟩⟩
    rw [← show s.trigs[g].pulseEnd = some e from hp]
  case finish =>
    have hend : s.trigEnd g = s.modTrig g (fun r => { r with pulseEnd := none }) := by
      rw [State.trigEnd, show s.trigs[g].pulseEnd = some e from hp]
      exact if_pos he
    obtain ⟨htrig, hothers⟩ := State.trigs_of_modTrig (s := s) (g := g) (f := fun r => { r with pulseEnd := none }) rfl
    exact ⟨_, congrArg Host.Outcome.next hend, htrig, hothers, rfl⟩

end Sys2Proof.Machine
end

section
/-!
PROOFS. The records of resolved port-lines (R47, R55, R180, R186, R196): what writing them on one port leaves of the other ports, the open reports and the
registers; then what a line that resolves counts in its page's report (R44, R49). The sittings' proofs on the fire scheduler rest on these rules.
-/
namespace Sys2Proof.Machine

/-! ## A list of updates seen from one of its places -/

/-- Where every update but that of place `i` keeps the view, running the updates of a list shows what the one of `i` does. -/
theorem foldl_view {ι σ α : Type} {f : σ → ι → σ} {v : σ → α} {i : ι} (hv : ∀ s j, j ≠ i → v (f s j) = v s) {l : List ι} (hn : l.Nodup)
    (hi : i ∈ l) (s : σ) : ∃ u, v u = v s ∧ v (l.foldl f s) = v (f u i) := by
  obtain ⟨before, after, rfl, hb⟩ := List.eq_append_cons_of_mem hi
  have hrest (m : List ι) (hm : i ∉ m) (u : σ) : v (m.foldl f u) = v u :=
    List.foldlRecOn m f (motive := fun t => v t = v u) rfl fun t ht j hj => (hv t j (ne_of_mem_of_not_mem hj hm)).trans ht
  have ha : i ∉ after := (List.nodup_cons.1 (List.nodup_append.1 hn).2.1).1
  exact ⟨before.foldl f s, hrest before hb s, by rw [List.foldl_append, List.foldl_cons, hrest after ha]⟩

theorem fins_nodup (n : Nat) : (fins n).Nodup := List.nodup_finRange n

theorem mem_fins {n : Nat} (i : Fin n) : i ∈ fins n := List.mem_finRange i

/-! ## One port of the scheduler -/

/-- A port changed twice. -/
theorem State.modPort_modPort (s : State) (p : Fin 48) (f g : PortFire → PortFire) : (s.modPort p f).modPort p g = s.modPort p (fun q => g (f q)) := by
  simp [State.modPort, vset_vset]

/-- What a change makes of the port is all of it. -/
theorem State.modPort_congr {s : State} {p : Fin 48} {f g : PortFire → PortFire} (h : f s.fsch.ports[p] = g s.fsch.ports[p]) :
    s.modPort p f = s.modPort p g := by
  rw [State.modPort, State.modPort, h]

/-- A port whose line has changed. -/
theorem State.modTracked_port (s : State) (p : Fin 48) (page : Word) (line : Nat) (f : Tracked → Tracked) :
    (s.modTracked p page line f).fsch.ports[p] =
      { s.fsch.ports[p] with tracked := s.fsch.ports[p].tracked.map (fun t => if t.page = page ∧ t.line = line then f t else t) } :=
  State.modPort_same ..

/-- A line that stands where one was changed is the changed one. -/
theorem mem_map_line {l : List Tracked} {page : Word} {line : Nat} {f : Tracked → Tracked} {u : Tracked}
    (hu : u ∈ l.map (fun t => if t.page = page ∧ t.line = line then f t else t)) (hp : u.page = page) (hl : u.line = line) :
    ∃ v ∈ l, v.page = page ∧ v.line = line ∧ u = f v := by
  obtain ⟨v, hv, rfl⟩ := List.mem_map.1 hu
  split_ifs at hp hl with h
  · exact ⟨v, hv, h.1, h.2, by rw [if_pos h]⟩
  · exact absurd ⟨hp, hl⟩ h

/-- Freeing an entry changes its FIFO alone. -/
theorem State.freeEntry_eq_or (s : State) (p : Fin 48) (page : Word) (line : Nat) : s.freeEntry p page line = s ∨
    s.freeEntry p page line = s.fifoKeep p (fun e => !decide (e.page = page ∧ e.line = line) || e.expired) := by
  rw [State.freeEntry]
  split
  · split_ifs
    · exact .inl rfl
    · exact .inr rfl
  · exact .inr rfl

theorem State.freeEntry_only_sqs (s : State) (p : Fin 48) (page : Word) (line : Nat) :
    s.freeEntry p page line = { s with sqs := (s.freeEntry p page line).sqs } := by
  obtain h | h := s.freeEntry_eq_or p page line <;> rw [h]
  rfl

theorem State.freeEntry_fsch (s : State) (p : Fin 48) (page : Word) (line : Nat) : (s.freeEntry p page line).fsch = s.fsch := by
  rw [State.freeEntry_only_sqs]

/-! ## Reports of pages -/

/-- The report of a page closed and gone (R49). -/
def State.dropReport (s : State) (page : Word) : State :=
  { s with fsch := { s.fsch with reports := s.fsch.reports.filter (fun q => decide (q.page ≠ page)) } }

theorem State.reportOf_page {s : State} {page : Word} {r : Report} (h : s.reportOf page = some r) : r.page = page := by
  simpa using List.find?_some h

theorem State.reportOf_dropReport_same (s : State) (page : Word) : (s.dropReport page).reportOf page = none := by
  simp [State.reportOf, State.dropReport]

theorem State.reportOf_dropReport_ne (s : State) {page g : Word} (hg : g ≠ page) : (s.dropReport page).reportOf g = s.reportOf g := by
  simp only [State.reportOf, State.dropReport, List.find?_filter]
  congr 1
  funext r
  by_cases h : r.page = g <;> simp [h, hg]

/-! ## What the writing of a port's records leaves -/

/-- From `s` to `t` records of port `p` have been written and nothing else: lines may have left the port, a report differs by its running digests or, once
complete, has closed, and the words for the inspection have grown. -/
structure Records (p : Fin 48) (s t : State) : Prop where
  others : ∀ q ≠ p, t.fsch.ports[q] = s.fsch.ports[q]
  prevEnd : t.fsch.ports[p].prevEnd = s.fsch.ports[p].prevEnd
  tracked : t.fsch.ports[p].tracked ⊆ s.fsch.ports[p].tracked
  stays : ∀ page r, s.reportOf page = some r → r.complete = false → ∃ u, t.reportOf page = some u ∧ u = { r with crc := u.crc }
  from_ : ∀ page u, t.reportOf page = some u → ∃ r, s.reportOf page = some r ∧ u = { r with crc := u.crc }
  told : s.tbDsp ⊆ t.tbDsp
  regs : RegsBut [FSCH_STAT, FSCH_RPT_CTRL] s t
  frame : t = { s with fsch := t.fsch, regs := t.regs, evt := t.evt, bolt := t.bolt, tbDsp := t.tbDsp }

namespace Records
variable {p : Fin 48} {s t u : State}

theorem refl (p : Fin 48) (s : State) : Records p s s where
  others _ _ := rfl
  prevEnd := rfl
  tracked := List.Subset.refl _
  stays _ r h _ := ⟨r, h, rfl⟩
  from_ _ u h := ⟨u, h, rfl⟩
  told := List.Subset.refl _
  regs := .refl _ s
  frame := rfl

theorem trans (h : Records p s t) (g : Records p t u) : Records p s u where
  others q hq := (g.others q hq).trans (h.others q hq)
  prevEnd := g.prevEnd.trans h.prevEnd
  tracked := List.Subset.trans g.tracked h.tracked
  stays page r hr hc := by
    obtain ⟨v, hv, he⟩ := h.stays page r hr hc
    obtain ⟨w, hw, hf⟩ := g.stays page v hv (by rw [he]; exact hc)
    exact ⟨w, hw, by rw [hf, he]⟩
  from_ page w hw := by
    obtain ⟨v, hv, he⟩ := g.from_ page w hw
    obtain ⟨r, hr, hf⟩ := h.from_ page v hv
    exact ⟨r, hr, by rw [he, hf]⟩
  told := List.Subset.trans h.told g.told
  regs := h.regs.trans g.regs
  frame := by rw [g.frame, h.frame]

/-- What keeps the scheduler's ports and reports, the registers and the words for the inspection. -/
theorem sched (h : Records p s t) (hu : u = { t with fsch := u.fsch, evt := u.evt, bolt := u.bolt }) (hp : u.fsch.ports = t.fsch.ports)
    (hr : u.fsch.reports = t.fsch.reports) : Records p s u :=
  h.trans {
    others := fun q _ => congrArg (·[q]) hp
    prevEnd := congrArg (·[p].prevEnd) hp
    tracked := by rw [hp]; exact List.Subset.refl _
    stays := fun page r h _ => ⟨r, (State.reportOf_congr hr page).trans h, rfl⟩
    from_ := fun page u h => ⟨u, (State.reportOf_congr hr page).symm.trans h, rfl⟩
    told := by rw [hu]; exact List.Subset.refl _
    regs := (RegsBut.refl _ t).regs_eq (by rw [hu])
    frame := by rw [hu] }

theorem raiseAt (h : Records p s t) (ev src : Nat) (v page line : Word) : Records p s (t.raiseAt ev src v page line) := h.sched rfl rfl rfl

theorem put (h : Records p s t) (f : RegField) (v : Nat) (hf : f.addr ∈ [FSCH_STAT, FSCH_RPT_CTRL] := by decide) : Records p s (t.put f v) :=
  h.trans { Records.refl p t with regs := (RegsBut.refl _ t).put hf v, frame := rfl }

/-- The port changed, but for the end of its previous strobe; no line joins it. -/
theorem modPort (h : Records p s t) {f : PortFire → PortFire} (he : ∀ x, (f x).prevEnd = x.prevEnd := by intro _; rfl)
    (ht : ∀ x, (f x).tracked ⊆ x.tracked := by intro _; exact List.Subset.refl _) :
    Records p s (t.modPort p f) :=
  h.trans { Records.refl p t with
    others := fun q hq => State.modPort_ne _ _ _ _ hq
    prevEnd := by rw [State.modPort_same, he]
    tracked := by rw [State.modPort_same]; exact ht _
    frame := rfl }

/-- The running digests of a report. -/
theorem digest (h : Records p s t) (page : Word) (f : Report → Vector Dword 48) :
    Records p s (t.modReport page (fun r => { r with crc := f r })) := by
  have hkeep : ∀ r : Report, ({ r with crc := f r } : Report).page = r.page := fun _ => rfl
  have hreport (g : Word) : (t.modReport page (fun r => { r with crc := f r })).reportOf g =
      (t.reportOf g).map (fun r => if g = page then { r with crc := f r } else r) := by
    by_cases hg : g = page
    · subst hg
      simp [State.reportOf_modReport_same hkeep]
    · simp [State.reportOf_modReport_ne hkeep t hg, hg]
  refine h.trans { Records.refl p t with stays := fun g r hr _ => ?_, from_ := fun g u hu => ?_, frame := rfl }
  · refine ⟨_, by rw [hreport, hr]; rfl, ?_⟩
    split_ifs <;> rfl
  · rw [hreport] at hu
    obtain ⟨r, hr, rfl⟩ := Option.map_eq_some_iff.1 hu
    refine ⟨r, hr, ?_⟩
    split_ifs <;> rfl

/-- A complete report goes. -/
theorem dropReport (h : Records p s t) {page : Word} {r : Report} (hr : t.reportOf page = some r) (hc : r.complete = true) :
    Records p s (t.dropReport page) := by
  refine h.trans { Records.refl p t with stays := fun g x hx hxc => ?_, from_ := fun g x hx => ?_, frame := rfl }
  · have hg : g ≠ page := by
      rintro rfl
      rw [hx, Option.some.injEq] at hr
      rw [hr, hc] at hxc
      exact Bool.noConfusion hxc
    exact ⟨x, (t.reportOf_dropReport_ne hg).trans hx, rfl⟩
  · have hg : g ≠ page := by
      rintro rfl
      rw [State.reportOf_dropReport_same] at hx
      nomatch hx
    exact ⟨x, (t.reportOf_dropReport_ne hg).symm.trans hx, rfl⟩

theorem planDrop (h : Records p s t) (page : Word) : Records p s (t.planDrop page) := h.sched rfl rfl rfl

/-- A closed report held for the ring. -/
theorem hold (h : Records p s t) (l : List HeldReport) : Records p s ({ t with fsch := { t.fsch with held := l } } : State).rptPending :=
  (h.sched (u := { t with fsch := { t.fsch with held := l } }) rfl rfl rfl).put FSCH_RPT_CTRL_PENDING _

theorem boltPast (h : Records p s t) (page : Word) : Records p s (t.boltPast page) := by
  rw [State.boltPast]
  split_ifs
  · exact h
  · exact h.sched rfl rfl rfl

theorem closeReport (h : Records p s t) (page : Word) : Records p s (t.closeReport page) := by
  rw [State.closeReport]
  split
  · exact h
  next r hr =>
    split_ifs with hc
    · have done : r.complete = true := ((Bool.and_eq_true ..).mp hc).1
      have gone : Records p s (((t.dropReport page).planDrop page).boltPast page) := ((h.dropReport hr done).planDrop page).boltPast page
      dsimp only
      split_ifs
      · exact gone.hold _
      · exact (gone.put FSCH_RPT_CTRL_LOST 1).raiseAt ..
    · exact h

theorem closeRun (h : Records p s t) : Records p s (t.closeRun p) := by
  rw [State.closeRun]
  split
  · exact h
  · exact h.modPort.raiseAt ..

theorem runStep (h : Records p s t) (page : Word) (line : Nat) (o : Outc) : Records p s (t.runStep p page line o) := by
  have run (u : State) (hu : Records p s u) (r : Option Run) : Records p s (u.modPort p (fun f => { f with run := r })) :=
    hu.modPort
  rw [State.runStep]
  split_ifs
  · exact h.closeRun
  · dsimp only
    split
    · split_ifs
      · exact (run _ h _).closeRun
      · exact run _ h _
    · exact run _ h.closeRun _

theorem record (h : Records p s t) (page : Word) (line : Nat) (o : Outc) (e : Option Entry) (tg : Option Dword) :
    Records p s (t.record p page line o e tg) :=
  ((h.digest page _).runStep page line o).trans
    { Records.refl p _ with told := List.subset_append_left _ _, frame := rfl }

theorem recordAborts (page : Word) (n line : Nat) (h : Records p s t) : Records p s (State.recordAborts p page n line t) := by
  induction n generalizing line t with
  | zero => exact h
  | succ n ih => exact ih (line + 1) (h.record ..)

theorem recordLines (h : Records p s t) (ts : List Tracked) : Records p s (t.recordLines p ts) :=
  List.foldlRecOn ts _ (motive := Records p s) (h.modPort (ht := fun _ => List.filter_subset_self _)) fun _ hu _ _ => hu.record ..

theorem noplanCheck (h : Records p s t) : Records p s (t.noplanCheck p) := by
  rw [State.noplanCheck]
  split
  · exact h
  next q _ _ =>
    have noted : Records p s ((t.modPort p (fun f => { f with noplan := some q.page })).put FSCH_STAT_NOPLAN 1) :=
      h.modPort.put ..
    dsimp only
    split_ifs
    · exact noted
    · exact noted.raiseAt ..
    · exact h

theorem popPage (h : Records p s t) (page : Word) : Records p s (t.popPage p page) := by
  refine ((?_ : Records p s _).noplanCheck).closeReport page
  have left : Records p s (t.modPort p (fun f => { f with
      pages := f.pages.filter (fun q => decide (q.page ≠ page)), voids := f.voids.filter (fun v => decide (v.page ≠ page))
      noplan := if f.noplan = some page then none else f.noplan
      last := some (page, ((t.fsch.ports[p].pages.find? (fun q => decide (q.page = page))).bind (fun q => q.top)).getD 0) })) :=
    h.modPort
  split
  · split_ifs
    · exact left.closeRun
    · exact left
  · exact left

theorem flushPages (l : List PortPage) (free : Bool) (h : Records p s t) : Records p s (State.flushPages p l free t) := by
  induction l generalizing free t with
  | nil => exact h
  | cons q l ih =>
    simp only [State.flushPages]
    split
    · split_ifs
      · exact ih _ (((h.recordLines _).recordAborts ..).popPage _)
      · exact ih _ (h.recordLines _)
      · exact ih _ h
    · split_ifs
      · exact ih _ h
      · exact ih _ ((h.recordLines _).popPage _)
      · exact ih _ (h.recordLines _)

theorem flush (h : Records p s t) : Records p s (t.flush p) := h.flushPages _ _

end Records

/-! ## A line that resolves (R44, R49) -/

/-- A report with one outcome more (R50, R51). -/
def Report.counting (r : Report) (now : Dword) (o : Outc) : Report := { r with
  counts := vset r.counts o.idx (r.counts[o.idx] + 1), resolved := r.resolved + 1, first := some (r.first.getD now), last := now
  reprint := r.reprint || decide (o ≠ .fired ∧ o ≠ .voidProgram) }

/-- A line with its outcome. -/
def Tracked.ended (t : Tracked) (o : Outc) : Tracked := { t with outcome := some o, strobe := .none, waitVerdict := false }

/-- A page of a port with an outcome of one of its lines (R40). -/
def PortPage.noted (q : PortPage) (line : Nat) : PortPage := { q with top := some (max (q.top.getD 0) line) }

/-- A line whose outcome is set and counted and whose entry is freed, before its record. -/
def State.ended (s : State) (p : Fin 48) (k : Tracked) (o : Outc) : State :=
  (((s.modTracked p k.page k.line (fun t => t.ended o)).modReport k.page
    (fun r => r.counting s.tbc o)).noteOutc p k.page k.line).freeEntry p k.page k.line

theorem State.resolve_eq (s : State) (p : Fin 48) (k : Tracked) (o : Outc) : s.resolve p k o = (s.ended p k o).flush p := rfl

section Ended
variable (s : State) (p : Fin 48) (k : Tracked) (o : Outc)

theorem State.ended_frame : s.ended p k o = { s with fsch := (s.ended p k o).fsch, sqs := (s.ended p k o).sqs } := by
  rw [State.ended, State.freeEntry_only_sqs]
  rfl

theorem State.ended_port : (s.ended p k o).fsch.ports[p] = { s.fsch.ports[p] with
    tracked := s.fsch.ports[p].tracked.map (fun t => if t.page = k.page ∧ t.line = k.line then t.ended o else t)
    pages := s.fsch.ports[p].pages.map (fun q => if q.page = k.page then q.noted k.line else q) } := by
  have hline : ((s.modTracked p k.page k.line (fun t => t.ended o)).modReport k.page (fun r => r.counting s.tbc o)).fsch.ports[p] = _ :=
    s.modTracked_port p k.page k.line (fun t => t.ended o)
  rw [State.ended, State.freeEntry_fsch, State.noteOutc, State.modPort_same, hline]
  rfl

theorem State.reportOf_ended : (s.ended p k o).reportOf k.page = (s.reportOf k.page).map (fun r => r.counting s.tbc o) := by
  rw [State.ended, State.freeEntry_only_sqs]
  exact State.reportOf_modReport_same (f := fun r => r.counting s.tbc o) (fun _ => rfl) s k.page

/-- Resolving a line writes records, and nothing else, after its end. -/
theorem State.resolve_records : Records p (s.ended p k o) (s.resolve p k o) := (Records.refl p _).flush

theorem State.resolve_prevEnd : (s.resolve p k o).fsch.ports[p].prevEnd = s.fsch.ports[p].prevEnd := by
  rw [(s.resolve_records p k o).prevEnd, State.ended_port]

theorem State.resolve_regs : RegsBut [FSCH_STAT, FSCH_RPT_CTRL] s (s.resolve p k o) :=
  (RegsBut.regs_eq (.refl _ s) (by rw [State.ended_frame])).trans (s.resolve_records p k o).regs

theorem State.resolve_hps : (s.resolve p k o).hps = s.hps := by rw [(s.resolve_records p k o).frame, State.ended_frame]

end Ended

/-- While the report of its page waits for more, a line that resolves has its outcome counted there. -/
theorem State.resolve_counted {s u : State} (hr : u.fsch.reports = s.fsch.reports) (ht : u.tbc = s.tbc) {k : Tracked} (h : MoreToCome k.page s)
    (p : Fin 48) (o : Outc) : Counted k.page o s (u.resolve p k o) := by
  obtain ⟨r, hrep, hmore⟩ := h
  have hended : (u.ended p k o).reportOf k.page = some (r.counting s.tbc o) := by
    rw [State.reportOf_ended, State.reportOf_congr hr, hrep, ht]
    rfl
  have hopen : (r.counting s.tbc o).complete = false := decide_eq_false (Nat.ne_of_lt hmore)
  obtain ⟨v, hv, he⟩ := (u.resolve_records p k o).stays _ _ hended hopen
  refine ⟨r, v, hrep, hv, ?_, fun i hi => ?_, ?_, ?_⟩ <;> rw [he]
  · exact vset_same _ _ _
  · exact vset_ne _ _ _ _ hi
  · rfl
  · rfl

/-! ## The record of the oldest line (R55, R186) -/

/-- A line recorded leaves its record for the inspection. -/
theorem State.record_told (s : State) (p : Fin 48) (page : Word) (line : Nat) (o : Outc) (e : Option Entry) (tg : Option Dword) :
    ∃ y ∈ (s.record p page line o e tg).tbDsp, y.tick = s.now ∧ ∃ r, y.word = .fired r ∧ r.port = p.val ∧ r.page = page ∧ r.line = line ∧
      r.outcome = o ∧ r.tg = if o.strobed then tg.getD 0 else 0 := by
  have hnow : (s.record p page line o e tg).now = s.now := by rw [((Records.refl p s).record page line o e tg).frame]; rfl
  exact ⟨_, List.mem_append_right _ (List.mem_singleton_self _), hnow, _, rfl, rfl, rfl, rfl, rfl, rfl⟩

/-- So do several, the first of them among them. -/
theorem State.recordLines_told (s : State) (p : Fin 48) (k : Tracked) (ts : List Tracked) : ∃ y ∈ (s.recordLines p (k :: ts)).tbDsp,
    y.tick = s.now ∧ ∃ r, y.word = .fired r ∧ r.port = p.val ∧ r.page = k.page ∧ r.line = k.line ∧ r.outcome = k.outcome.getD .voidAbort ∧
      r.tg = if (k.outcome.getD .voidAbort).strobed then k.tg.getD 0 else 0 := by
  have hrest (u : State) : Records p u (ts.foldl (fun s t => s.record p t.page t.line (t.outcome.getD .voidAbort) t.entry t.tg) u) :=
    List.foldlRecOn ts _ (motive := Records p u) (.refl p u) fun _ hu _ _ => hu.record ..
  obtain ⟨y, hy, hrec⟩ := State.record_told (s.modPort p (fun f => { f with
    tracked := f.tracked.filter (fun t => !(k :: ts).any (fun u => decide (u.page = t.page ∧ u.line = t.line))) })) p k.page k.line
    (k.outcome.getD .voidAbort) k.entry k.tg
  exact ⟨y, (hrest _).told hy, hrec⟩

/-- The records of a port's first page begin with the line that is first on it, once that has its outcome. -/
theorem State.flushPages_begins {s : State} {p : Fin 48} {q : PortPage} {k : Tracked} {m : List Tracked}
    (hk : s.fsch.ports[p].tracked.filter (fun t => decide (t.page = q.page)) = k :: m) (ho : k.outcome.isSome = true) (l : List PortPage) :
    ∃ ts, Records p (s.recordLines p (k :: ts)) (State.flushPages p (q :: l) true s) := by
  have hdone : (k :: m).takeWhile (fun t => t.outcome.isSome) = k :: m.takeWhile (fun t => t.outcome.isSome) := List.takeWhile_cons_of_pos ho
  have h (ts : List Tracked) : Records p (s.recordLines p (k :: ts)) (s.recordLines p (k :: ts)) := .refl p _
  simp only [State.flushPages, hk, hdone, Bool.not_true, Bool.false_eq_true, if_false, if_true]
  split
  · split_ifs
    · exact ⟨m, (((h m).recordAborts ..).popPage _).flushPages ..⟩
    · exact ⟨_, (h _).flushPages ..⟩
  · split_ifs
    · exact ⟨m, ((h m).popPage _).flushPages ..⟩
    · exact ⟨_, (h _).flushPages ..⟩

/-- The first line of a port's first page has its record as it resolves. -/
theorem State.resolve_told {s : State} {p : Fin 48} {k : Tracked} (hk : s.fsch.ports[p].tracked.head? = some k)
    (hp : (s.fsch.ports[p].pages.head?).map (fun q => q.page) = some k.page) (o : Outc) : ∃ y ∈ (s.resolve p k o).tbDsp,
    y.tick = s.now ∧ ∃ r, y.word = .fired r ∧ r.port = p.val ∧ r.page = k.page ∧ r.line = k.line ∧ r.outcome = o ∧
      r.tg = if o.strobed then k.tg.getD 0 else 0 := by
  obtain ⟨ks, hks⟩ := List.head?_eq_some_iff.1 hk
  obtain ⟨q, hq, hpage⟩ := Option.map_eq_some_iff.1 hp
  obtain ⟨qs, hqs⟩ := List.head?_eq_some_iff.1 hq
  have hport := s.ended_port p k o
  have hpages : (s.ended p k o).fsch.ports[p].pages = q.noted k.line ::
      qs.map (fun q => if q.page = k.page then q.noted k.line else q) := by
    rw [hport, hqs, List.map_cons, if_pos hpage]
  have hmine : (s.ended p k o).fsch.ports[p].tracked.filter (fun t => decide (t.page = q.page)) = k.ended o ::
      (ks.map (fun t => if t.page = k.page ∧ t.line = k.line then t.ended o else t)).filter (fun t => decide (t.page = q.page)) := by
    rw [hport, hks, List.map_cons, if_pos ⟨rfl, rfl⟩]
    exact List.filter_cons_of_pos (decide_eq_true hpage.symm)
  have hnow : (s.ended p k o).now = s.now := by rw [State.ended_frame]; rfl
  rw [State.resolve_eq, State.flush, hpages]
  obtain ⟨ts, hts⟩ := State.flushPages_begins (q := q.noted k.line) hmine rfl (qs.map (fun q => if q.page = k.page then q.noted k.line else q))
  obtain ⟨y, hy, htick, hrec⟩ := State.recordLines_told (s.ended p k o) p (k.ended o) ts
  exact ⟨y, hts.told hy, htick.trans hnow, hrec⟩

end Sys2Proof.Machine
end

section
/-!
PROOFS. Page plans (R169, R170): the table of plans after one is put into a free entry or removed, and the result of a plan command; then the
obligation PagePlans.
-/
namespace Sys2Proof.Machine

/-! ## The table of plans (R169) -/

/-- The plans held, in the order of their entries. -/
def State.plansHeld (s : State) : List Plan := s.fsch.plans.toList.filterMap id

/-- The first entry that holds no plan. -/
def State.planFree (s : State) : Option Nat := s.fsch.plans.toList.findIdx? (fun o => o.isNone)

/-- A plan put into an entry. -/
def State.planPut (s : State) (i : Fin 16) (q : Plan) : State := { s with fsch := { s.fsch with plans := vset s.fsch.plans i (some q) } }

theorem State.planOf_eq (s : State) (page : Word) : s.planOf page = s.plansHeld.find? (fun q => decide (q.page = page)) := rfl

theorem State.planCount_eq (s : State) : s.planCount = s.plansHeld.length := rfl

theorem State.planFree_of_full {s : State} (h : s.planCount = 16) : s.planFree = none := by
  have hall := List.filterMap_length_eq_length.1 ((s.planCount_eq.symm.trans h).trans s.fsch.plans.length_toList.symm)
  exact List.findIdx?_eq_none_iff.2 fun o ho => by simpa using hall o ho

theorem State.planFree_of_room {s : State} (h : s.planCount < 16) : ∃ i : Fin 16, s.planFree = some i.val ∧ s.fsch.plans[i] = none := by
  have hsome : s.planFree ≠ none := fun hn => by
    refine absurd h (Nat.not_lt.2 (Nat.le_of_eq ?_))
    rw [State.planCount_eq, State.plansHeld, List.filterMap_length_eq_length.2, Vector.length_toList]
    exact fun o ho => by simpa using List.findIdx?_eq_none_iff.1 hn o ho
  obtain ⟨i, hi⟩ := Option.ne_none_iff_exists'.1 hsome
  obtain ⟨hlt, hnone, -⟩ := List.findIdx?_eq_some_iff_getElem.1 hi
  exact ⟨⟨i, by simpa using hlt⟩, hi, by simpa using hnone⟩

/-- A free place of a list taken: what it holds gains the new one in its place. -/
theorem filterMap_set_of_none {α : Type} {l : List (Option α)} {i : Nat} (hi : i < l.length) (hn : l[i] = none) (x : α) :
    ∃ a b, l.filterMap id = a ++ b ∧ (l.set i (some x)).filterMap id = a ++ x :: b := by
  refine ⟨(l.take i).filterMap id, (l.drop (i + 1)).filterMap id, ?_, ?_⟩
  · conv_lhs => rw [← List.take_append_drop i l, ← List.getElem_cons_drop hi, hn]
    simp
  · rw [List.set_eq_take_cons_drop _ hi]
    simp

theorem State.planPut_held {s : State} {i : Fin 16} (h : s.fsch.plans[i] = none) (q : Plan) :
    ∃ a b, s.plansHeld = a ++ b ∧ (s.planPut i q).plansHeld = a ++ q :: b := by
  have hput : (s.planPut i q).plansHeld = (s.fsch.plans.toList.set i.val (some q)).filterMap id := by
    rw [State.plansHeld, State.planPut, vset, Vector.toList_set]
  rw [hput]
  exact filterMap_set_of_none (by simp) (by simpa using h) q

section Put
variable {s : State} {i : Fin 16} (h : s.fsch.plans[i] = none) (q : Plan)
include h

theorem State.planCount_planPut : (s.planPut i q).planCount = s.planCount + 1 := by
  obtain ⟨a, b, hs, ht⟩ := State.planPut_held h q
  rw [State.planCount_eq, State.planCount_eq, hs, ht, List.length_append, List.length_append, List.length_cons, Nat.add_assoc]

theorem State.planOf_planPut_same (hq : s.planOf q.page = none) : (s.planPut i q).planOf q.page = some q := by
  obtain ⟨a, b, hs, ht⟩ := State.planPut_held h q
  rw [State.planOf_eq, hs, List.find?_append, Option.or_eq_none_iff] at hq
  rw [State.planOf_eq, ht, List.find?_append, hq.1, List.find?_cons_of_pos (by simp)]
  rfl

theorem State.planOf_planPut_ne {g : Word} (hg : g ≠ q.page) : (s.planPut i q).planOf g = s.planOf g := by
  obtain ⟨a, b, hs, ht⟩ := State.planPut_held h q
  rw [State.planOf_eq, State.planOf_eq, hs, ht, List.find?_append, List.find?_append, List.find?_cons_of_neg (by simpa using hg.symm)]

end Put

/-- What is held once the plan of a page is removed. -/
theorem State.planDrop_held (s : State) (page : Word) : (s.planDrop page).plansHeld = s.plansHeld.filter (fun q => decide (q.page ≠ page)) := by
  rw [State.plansHeld, State.planDrop, Vector.toList_map, List.filterMap_map, State.plansHeld, List.filter_filterMap]
  congr 1
  funext o
  cases o with
  | none => rfl
  | some q => by_cases hq : q.page = page <;> simp [hq, Option.filter]

theorem State.planOf_planDrop_same (s : State) (page : Word) : (s.planDrop page).planOf page = none := by
  rw [State.planOf_eq, State.planDrop_held]
  simp

theorem State.planOf_planDrop_ne (s : State) {page g : Word} (hg : g ≠ page) : (s.planDrop page).planOf g = s.planOf g := by
  rw [State.planOf_eq, State.planOf_eq, State.planDrop_held, List.find?_filter]
  congr 1
  funext q
  by_cases h : q.page = g <;> simp [h, hg]

/-! ## The commands (R170) -/

/-- The plan that the plan registers state. -/
def State.planRegs (s : State) : Plan :=
  { page := s.rd FSCH_PLAN_ID, origin := s.rd64 FSCH_PLAN_ORIGIN_LO FSCH_PLAN_ORIGIN_HI, pitch := s.rd FSCH_PLAN_PITCH }

theorem State.planAdd_of_full {s : State} (h : s.planFree = none) : s.planAdd = s.planRes 1 := by
  rw [State.planFree] at h
  simp only [State.planAdd, h]

section Room
variable {s : State} {i : Fin 16} (h : s.planFree = some i.val)
include h

theorem State.planAdd_of_room : s.planAdd =
    if (s.planOf s.planRegs.page).isSome then s.planRes 2 else if s.planRegs.pitch = 0 then s.planRes 3
    else ((s.planPut i s.planRegs).planCopied s.planRegs).planRes 0 := by
  rw [State.planFree] at h
  simp only [State.planAdd, h, finOf_val]
  rfl

theorem State.planAdd_of_dup (hd : (s.planOf s.planRegs.page).isSome = true) : s.planAdd = s.planRes 2 := by
  rw [State.planAdd_of_room h, if_pos hd]

variable (hn : s.planOf s.planRegs.page = none)
include hn

theorem State.planAdd_of_no_pitch (hp : s.planRegs.pitch = 0) : s.planAdd = s.planRes 3 := by
  rw [State.planAdd_of_room h, hn, Option.isSome_none, if_neg Bool.false_ne_true, if_pos hp]

theorem State.planAdd_of_new (hp : s.planRegs.pitch ≠ 0) : s.planAdd = ((s.planPut i s.planRegs).planCopied s.planRegs).planRes 0 := by
  rw [State.planAdd_of_room h, hn, Option.isSome_none, if_neg Bool.false_ne_true, if_neg hp]

end Room

theorem State.planDelete_of_none {s : State} (h : s.planOf (s.rd FSCH_PLAN_ID) = none) : s.planDelete = s.planRes 5 := by
  simp only [State.planDelete, h]
  rfl

section Held
variable {s : State} (h : (s.planOf (s.rd FSCH_PLAN_ID)).isSome = true)
include h

theorem State.planDelete_of_open (hr : (s.reportOf (s.rd FSCH_PLAN_ID)).isSome = true) : s.planDelete = s.planRes 4 := by
  simp only [State.planDelete, Option.isNone_eq_false_iff.2 h, Bool.false_eq_true, if_false, hr, if_true]

theorem State.planDelete_of_done (hr : s.reportOf (s.rd FSCH_PLAN_ID) = none) : s.planDelete = (s.planDrop (s.rd FSCH_PLAN_ID)).planRes 0 := by
  simp only [State.planDelete, Option.isNone_eq_false_iff.2 h, Bool.false_eq_true, if_false, hr, Option.isSome_none]

end Held

/-- The Bolter's copy changes the Bolter, and tells of none. -/
theorem State.planCopied_frame (s : State) (q : Plan) : ∃ b, s.planCopied q = { s with bolt := b } ∨
    s.planCopied q = ({ s with bolt := b } : State).put BOLT_STAT_PLAN_FULL 1 := by
  rw [State.planCopied]
  dsimp only
  split_ifs
  · exact ⟨_, .inl rfl⟩
  · exact ⟨_, .inr rfl⟩
  · exact ⟨_, .inl rfl⟩

section Exec
variable (x : Fin 2) (s : State)

theorem exec_planAdd : exec (.planAdd x) s = .next (s.planAdd.bus .ok 0) :=
  congrArg busAnswer (State.supWrite_of_rule (b := .fsch) (off := 0x50) rfl x (r := (.ok, s.planAdd)) rfl)

theorem exec_planDelete : exec (.planDelete x) s = .next (s.planDelete.bus .ok 0) :=
  congrArg busAnswer (State.supWrite_of_rule (b := .fsch) (off := 0x50) rfl x (r := (.ok, s.planDelete)) rfl)

theorem State.planCmd_read (i : Fin 16) : s.planCmd (BitVec.ofNat 32 (3 + 65536 * i.val)) = s.planRead i := by
  have hop : ∀ i : Fin 16, field (BitVec.ofNat 32 (3 + 65536 * i.val)) 1 0 = 3 := by decide
  have hindex : ∀ i : Fin 16, field (BitVec.ofNat 32 (3 + 65536 * i.val)) 19 16 = i.val := by decide
  simp only [State.planCmd, hop, hindex, finOf_val]

theorem exec_planRead (i : Fin 16) : exec (.planRead x i) s = .next ((s.planRead i).bus .ok 0) :=
  congrArg busAnswer (State.supWrite_of_rule (b := .fsch) (off := 0x50) rfl x
    ((show _ = some (Resp.ok, s.planCmd _) from rfl).trans (congrArg (fun t => some (Resp.ok, t)) (s.planCmd_read i))))

end Exec

/-- A command done has RESULT 0. -/
theorem State.result_planRes_ok (s : State) : (s.planRes 0).get FSCH_PLAN_RES_RESULT = 0 :=
  State.get_put_same s _ _ (by decide)

/-- The plan registers with a plan, and RESULT 0. -/
def State.planShown (s : State) (q : Plan) : State :=
  (((s.wr FSCH_PLAN_ID q.page).wr64 FSCH_PLAN_ORIGIN_LO FSCH_PLAN_ORIGIN_HI q.origin).wr FSCH_PLAN_PITCH q.pitch).planRes 0

theorem State.planRead_of_some {s : State} {i : Fin 16} {q : Plan} (h : s.fsch.plans[i] = some q) : s.planRead i = s.planShown q := by
  rw [State.planRead, h]
  rfl

theorem State.planRead_of_none {s : State} {i : Fin 16} (h : s.fsch.plans[i] = none) : s.planRead i = s.planRes 5 := by
  rw [State.planRead, h]

theorem State.planShown_regs (s : State) (q : Plan) :
    (s.planShown q).rd FSCH_PLAN_ID = q.page ∧ (s.planShown q).rd64 FSCH_PLAN_ORIGIN_LO FSCH_PLAN_ORIGIN_HI = q.origin ∧
    (s.planShown q).rd FSCH_PLAN_PITCH = q.pitch ∧ (s.planShown q).get FSCH_PLAN_RES_RESULT = 0 ∧
    RegsBut [FSCH_PLAN_ID, FSCH_PLAN_ORIGIN_LO, FSCH_PLAN_ORIGIN_HI, FSCH_PLAN_PITCH, FSCH_PLAN_RES] s (s.planShown q) ∧
    s.planShown q = { s with regs := (s.planShown q).regs } := by
  have hres (u : State) {a : Nat} (ha : a ≠ FSCH_PLAN_RES) : (u.planRes 0).rd a = u.rd a := State.rd_put_ne _ _ _ _ ha
  refine ⟨?_, ?_, ?_, State.result_planRes_ok _, (((((RegsBut.refl _ s).wr ?_ _).wr ?_ _).wr ?_ _).wr ?_ _).put ?_ 0, rfl⟩
  · rw [State.planShown, hres _ (by decide), State.rd_wr_ne _ _ _ _ (by decide), State.wr64, State.rd_wr_ne _ _ _ _ (by decide),
      State.rd_wr_ne _ _ _ _ (by decide), State.rd_wr_same]
  · refine Eq.trans ?_ ((s.wr FSCH_PLAN_ID q.page).rd64_wr64 (lo := FSCH_PLAN_ORIGIN_LO) (hi := FSCH_PLAN_ORIGIN_HI) (by decide) q.origin)
    rw [State.planShown, State.rd64, State.rd64, hres _ (by decide), hres _ (by decide), State.rd_wr_ne _ _ _ _ (by decide),
      State.rd_wr_ne _ _ _ _ (by decide)]
  · rw [State.planShown, hres _ (by decide), State.rd_wr_same]
  all_goals simp

/-- A command refused: its RESULT and PLAN_REFUSED, and no other change. -/
theorem State.planRes_refused (s : State) {code : Nat} (h0 : code ≠ 0) (h8 : code < 8) :
    let t := (s.planRes code).bus .ok 0
    BusOk t ∧ t.get FSCH_PLAN_RES_RESULT = code ∧ t.flag FSCH_STAT_PLAN_REFUSED = true ∧ RegsBut [FSCH_PLAN_RES, FSCH_STAT] s t ∧
      t = { s with regs := t.regs, busResp := t.busResp, busData := t.busData } := by
  have hres : s.planRes code = (s.put FSCH_PLAN_RES_RESULT code).put FSCH_STAT_PLAN_REFUSED 1 := if_neg h0
  rw [hres]
  refine ⟨rfl, ?_, State.flag_put_one _ (by decide) (by decide), (((RegsBut.refl _ s).put (by decide) _).put (by decide) _).bus _ _, rfl⟩
  exact (State.get_put_ne _ _ _ _ (by decide)).trans ((State.get_put_same _ _ _ (by decide)).trans (Nat.mod_eq_of_lt h8))

/-! ## The obligation -/

/-- Settles O32: each command by the entry that it finds, through what putting and removing a plan leave in the table. -/
theorem pagePlans : Obligations.PagePlans := by
  unfold Obligations.PagePlans
  intro x i s page plan refused
  have hrefused {j : Instr} {t : State} {code : Nat} (hj : exec j s = .next (t.bus .ok 0)) (ht : t = s.planRes code) (h0 : code ≠ 0) (h8 : code < 8) :
      Answers j s (refused code) := ⟨_, hj, by rw [ht]; exact s.planRes_refused h0 h8⟩
  refine ⟨fun hroom hnone hpitch => ?add, fun hfull => ?full, fun hroom hdup => ?dup, fun hroom hnone hpitch => ?pitch0,
    fun hsome hrep => ?delete, fun hsome hrep => ?inUse, fun hnone => ?noDelete, fun q hq => ?read, fun hq => ?noRead⟩
  case add =>
    obtain ⟨n, hfree, hn⟩ := State.planFree_of_room hroom
    have hadd : s.planAdd = ((s.planPut n plan).planCopied plan).planRes 0 := State.planAdd_of_new hfree hnone hpitch
    obtain ⟨b, hcopy⟩ := (s.planPut n plan).planCopied_frame plan
    have hplans : (((s.planPut n plan).planCopied plan).planRes 0).fsch = (s.planPut n plan).fsch := by
      obtain h | h := hcopy <;> rw [h] <;> rfl
    have hof (g : Word) : s.planAdd.planOf g = (s.planPut n plan).planOf g := by rw [hadd, State.planOf, State.planOf, hplans]
    have hcount : s.planAdd.planCount = (s.planPut n plan).planCount := by rw [hadd, State.planCount, State.planCount, hplans]
    refine ⟨_, exec_planAdd x s, rfl, (hof page).trans (State.planOf_planPut_same hn plan hnone), hcount.trans (State.planCount_planPut hn plan),
      fun g hg => (hof g).trans (State.planOf_planPut_ne hn plan hg), ?_, ?_⟩ <;> rw [hadd]
    · exact State.result_planRes_ok _
    · obtain h | h := hcopy <;> rw [h] <;> rfl
  case full => exact hrefused (exec_planAdd x s) (State.planAdd_of_full (State.planFree_of_full hfull)) (by decide) (by decide)
  case dup =>
    obtain ⟨n, hfree, -⟩ := State.planFree_of_room hroom
    exact hrefused (exec_planAdd x s) (State.planAdd_of_dup hfree hdup) (by decide) (by decide)
  case pitch0 =>
    obtain ⟨n, hfree, -⟩ := State.planFree_of_room hroom
    exact hrefused (exec_planAdd x s) (State.planAdd_of_no_pitch hfree hnone hpitch) (by decide) (by decide)
  case delete =>
    refine ⟨_, exec_planDelete x s, ?_⟩
    rw [State.planDelete_of_done hsome hrep]
    exact ⟨rfl, s.planOf_planDrop_same page, fun g hg => s.planOf_planDrop_ne hg, State.result_planRes_ok _,
      ((RegsBut.refl _ s).regs_eq (u := s.planDrop page) rfl).put (f := FSCH_PLAN_RES_RESULT) (List.mem_singleton_self _) 0, rfl⟩
  case inUse => exact hrefused (exec_planDelete x s) (State.planDelete_of_open hsome hrep) (by decide) (by decide)
  case noDelete => exact hrefused (exec_planDelete x s) (State.planDelete_of_none hnone) (by decide) (by decide)
  case read =>
    obtain ⟨hid, horigin, hpitch, hres, hregs, hframe⟩ := s.planShown_regs q
    refine ⟨_, exec_planRead x s i, ?_⟩
    rw [State.planRead_of_some hq]
    generalize s.planShown q = u at *
    exact ⟨rfl, hid, horigin, hpitch, hres, hregs, by rw [hframe]; rfl⟩
  case noRead => exact hrefused (exec_planRead x s i) (State.planRead_of_none hq) (by decide) (by decide)

end Sys2Proof.Machine
end

section
/-!
PROOFS. A port-line from its deadline to guard entry (R176, R178, R180, R182): what a deadline tracks, what a freeze in time records, and where guard
entry places a strobe; then the obligation DeadlineToGuard.
-/
namespace Sys2Proof.Machine

/-! ## Deadline (R176) -/

/-- The line handed over at its deadline: in time, and the port not at its thermal LIMIT. -/
def State.handsOver (s : State) (p : Fin 48) (g : Word) (l : Nat) : Bool := !s.thermalAt p && (s.fifoAt p g l).any Entry.readyAtTb

/-- What the scheduler holds of a line from its deadline, where it has no mark. -/
def State.fromDeadline (s : State) (p : Fin 48) (g : Word) (l : Nat) : Tracked := {
  page := g, line := l, thermal := s.thermalAt p, late := !s.thermalAt p && !(s.fifoAt p g l).any Entry.readyAtTb, handed := s.handsOver p g l
  voided := false, tf := none, missed := false, guarded := false, waitVerdict := false, tg := none, strobe := .none
  load := if s.handsOver p g l then .waiting else .none, handTick := s.now, caughtInh := false, caughtCrit := false
  outcome := none, entry := s.fifoAt p g l }

/-- A port whose next line of a page has passed its deadline. -/
def PortFire.pastDeadline (f : PortFire) (k : Tracked) : PortFire := { f with
  tracked := f.tracked ++ [k]
  pages := f.pages.map (fun q => if q.page = k.page then { q with next := q.next + 1 } else q)
  voids := f.voids.filter (fun v => !decide (v.page = k.page ∧ v.line = k.line)) }

/-- An entry that its line's deadline finds (R114). -/
def Entry.pastDeadline (x : Entry) (handed : Bool) : Entry :=
  if handed then { x with handed := true } else if x.committed then x else { x with expired := true, levels := [], raw := none }

/-- The deadline of a line without a mark. -/
theorem State.deadline_of_unmarked {s : State} {p : Fin 48} (h : s.fsch.ports[p].voids = []) (g : Word) (l : Nat) : s.deadline p g l =
    (s.modPort p (fun f => f.pastDeadline (s.fromDeadline p g l))).fifoMap p (fun x =>
      if x.page = g ∧ x.line = l then x.pastDeadline (s.handsOver p g l) else x) := by
  cases he : s.fifoAt p g l with
  | none => simp only [State.deadline, h, he, List.find?_nil, Option.map_none, Option.getD_none, Bool.not_false, Bool.true_and, State.fromDeadline,
      State.handsOver, PortFire.pastDeadline, Entry.pastDeadline, Option.any_none]
  | some e => simp only [State.deadline, h, he, List.find?_nil, Option.map_none, Option.getD_none, Bool.not_false, Bool.true_and, State.fromDeadline,
      State.handsOver, PortFire.pastDeadline, Entry.pastDeadline, Option.any_some]

theorem State.fifoMap_fifo (s : State) (p : Fin 48) (f : Entry → Entry) :
    (s.fifoMap p f).sqs[sqOf p].fifo[laneOf p] = s.sqs[sqOf p].fifo[laneOf p].map f := by
  rw [State.fifoMap, State.modSq_same, vset_same]

theorem exec_deadline_of_due {s : State} {p : Fin 48} {g : Word} {l : Nat} (h : s.deadlineDue p = some (g, l)) :
    exec (.deadline p) s = .next (s.deadline p g l) := by
  change execDeadline p s = _
  rw [execDeadline, h]

/-! ## Freeze (R178) -/

theorem exec_freeze_in_time {s : State} {p : Fin 48} {k : Tracked} {tf : Dword} (h : s.freezeDue p = some (k, tf)) (hin : s.now + 16 ≤ tickOf tf) :
    exec (.freeze p) s = .next (s.modTracked p k.page k.line (fun _ => { k with tf := some tf, missed := false })) := by
  have hlt : ¬ tickOf tf < s.now + 16 := Nat.not_lt.2 hin
  change execFreeze p s = _
  simp only [execFreeze, h, if_neg hlt, State.freeze, decide_eq_false hlt]
  rfl

/-! ## Guard entry (R180 to R182) -/

/-- What a port is eligible by (R209) lies in three of its registers. -/
theorem State.eligible_of_regsBut {l : List Nat} {s t : State} (h : RegsBut l s t) (hl : ∀ a ∈ l, a < 0x41000000) (p : Nat) :
    t.eligible p = s.eligible p := by
  have hout {a : Nat} (ha : 0x41000000 ≤ a) : a ∉ l := fun hm => Nat.not_lt.2 ha (hl a hm)
  rw [State.eligible, State.hpEn, State.retired, h.flag_eq (f := HP_CTRL_EN p) (hout (Nat.le_add_right ..)),
    h.flag_eq (f := HP_STAT_PRESENT p) (hout (by simp [HP_STAT]; omega)), h.flag_eq (f := HP_SVC_STAT_RETIRED p) (hout (by simp [HP_SVC_STAT]; omega))]
  rfl

theorem State.thmElig_of_same {t : State} {p : Fin 48} {was : Bool} (h : t.eligible p = was) : t.thmElig p was = t := by
  rw [State.thmElig, h]
  cases was <;> rfl

/-- Guard entry outside a commit of new tables (R409), where the port stays eligible or stays out of use. -/
theorem exec_guardEntry_of_due {s : State} {p : Fin 48} {k : Tracked} {tf : Dword} (h : s.guardDue p = some (k, tf)) (hf : s.guardFirst p tf = true)
    (hc : s.cal.phase ≠ .committing) (he : (s.guardEntry p k tf).eligible p = s.eligible p) : exec (.guardEntry p) s = .next (s.guardEntry p k tf) := by
  have hcal : s.calGuard p k.page k.line = s := by
    rw [State.calGuard]
    exact if_neg fun h => hc h.1
  change execGuardEntry p s = _
  simp only [execGuardEntry, h, hf, if_true, State.atGuard, hcal, State.thmElig_of_same he]

/-- The row of R180 that applies depends on the scheduler by the port's previous strobe and the groups' last ones. -/
theorem State.guardRow_sched (s : State) {f : Fsch} {p : Fin 48} (hl : f.ports[p].lastTg = s.fsch.ports[p].lastTg)
    (he : f.ports[p].prevEnd = s.fsch.ports[p].prevEnd) (hg : f.groupTg = s.fsch.groupTg) (k : Tracked) (tf : Dword) :
    ({ s with fsch := f } : State).guardRow p k tf = s.guardRow p k tf := by
  have hover : ({ s with fsch := f } : State).overspeed p tf = s.overspeed p tf := by
    simp only [State.overspeed, hl]
    rfl
  have htime : ({ s with fsch := f } : State).guardedTime p tf = s.guardedTime p tf := by
    simp only [State.guardedTime, hg]
    rfl
  have hfits (tg : Dword) : ({ s with fsch := f } : State).loadFits p k tg = s.loadFits p k tg := by
    simp only [State.loadFits, he]
    rfl
  simp only [State.guardRow, hover, htime, hfits]
  rfl

/-- A line that has gone through guard entry. -/
def State.guarded (s : State) (p : Fin 48) (k : Tracked) : State := s.modTracked p k.page k.line (fun t => { t with guarded := true })

/-- The port's line ends at guard entry where it has been handed over (R177). -/
def State.endedAtGuard (s : State) (p : Fin 48) (k : Tracked) : State :=
  if k.handed then s.modPort p (fun f => { f with prevEnd := 16 * s.now }) else s

theorem State.endedAtGuard_frame (s : State) (p : Fin 48) (k : Tracked) :
    (s.endedAtGuard p k).fsch.reports = s.fsch.reports ∧ (s.endedAtGuard p k).tbc = s.tbc ∧ (s.endedAtGuard p k).regs = s.regs := by
  rw [State.endedAtGuard]
  split_ifs <;> exact ⟨rfl, rfl, rfl⟩

theorem State.guardRow_guarded (s : State) (p : Fin 48) (k : Tracked) (tf : Dword) : (s.guarded p k).guardRow p k tf = s.guardRow p k tf := by
  refine State.guardRow_sched s (f := (s.guarded p k).fsch) ?_ ?_ rfl k tf <;> rw [State.guarded, State.modTracked_port]

section Entry
variable {s : State} {p : Fin 48} {k : Tracked} {tf : Dword} (hsvc : s.hps[p].svc = none)
include hsvc

theorem State.guardEntry_of_strobe {tg : Dword} (h : s.guardRow p k tf = .strobe tg) : s.guardEntry p k tf = (s.guarded p k).place p k tf tg := by
  have hsame : s.svcAtGuard p k.page k.line = s := by rw [State.svcAtGuard, hsvc]
  have hrow := (s.guardRow_guarded p k tf).trans h
  rw [State.guarded] at hrow ⊢
  simp only [State.guardEntry, hsame, hrow]

theorem State.guardEntry_of_void {o : Outc} (h : s.guardRow p k tf = .void o) (ho : o ≠ .skipOverspeed) :
    s.guardEntry p k tf = ((s.guarded p k).endedAtGuard p k).resolve p k o := by
  have hsame : s.svcAtGuard p k.page k.line = s := by rw [State.svcAtGuard, hsvc]
  have hrow := (s.guardRow_guarded p k tf).trans h
  rw [State.guarded] at hrow ⊢
  simp only [State.guardEntry, hsame, hrow, if_neg ho, State.endedAtGuard]

end Entry

/-- The strobe of line `k` of port `p` is placed at `tg`, as the line, the port, its group and its registers then show. -/
structure Places (p : Fin 48) (k : Tracked) (tg : Dword) (s t : State) : Prop where
  shown : t.rd64 (FSCH_P_TG_LO p) (FSCH_P_TG_HI p) = tg
  group : t.fsch.groupTg[s.groupOf p] = some tg
  port : t.fsch.ports[p] = { s.fsch.ports[p] with
    lastTg := some tg, prevEnd := tg.toNat + 16 * k.swTicks
    tracked := s.fsch.ports[p].tracked.map (fun u =>
      if u.page = k.page ∧ u.line = k.line then { u with guarded := true, tg := some tg, strobe := .placed } else u) }
  others : ∀ q ≠ p, t.fsch.ports[q] = s.fsch.ports[q]
  regs : RegsBut [FSCH_GRP (s.groupOf p), FSCH_P_TG_LO p, FSCH_P_TG_HI p] s t
  frame : t = { s with fsch := t.fsch, regs := t.regs }

theorem State.wr64_fsch (s : State) (lo hi : Nat) (v : Dword) : (s.wr64 lo hi v).fsch = s.fsch := rfl

/-- Placing a strobe counts a delay in its group's register, then stores TG. -/
theorem State.place_eq (s : State) (p : Fin 48) (k : Tracked) (tf tg : Dword) : ∃ r : Table Word,
    RegsBut [FSCH_GRP (s.groupOf p), FSCH_P_TG_LO p, FSCH_P_TG_HI p] s { s with regs := r } ∧ s.place p k tf tg =
      ((({ s with regs := r, fsch := { s.fsch with groupTg := vset s.fsch.groupTg (s.groupOf p) (some tg) } } : State).modPort p (fun f => { f with
        lastTg := some tg, prevEnd := tg.toNat + 16 * k.swTicks })).wr64 (FSCH_P_TG_LO p) (FSCH_P_TG_HI p) tg).modTracked p k.page k.line
          (fun u => { u with guarded := true, tg := some tg, strobe := .placed }) := by
  by_cases hd : tf.toNat < tg.toNat
  · refine ⟨_, ((RegsBut.refl _ s).bump (f := FSCH_GRP_DELAYED (s.groupOf p)) (List.mem_cons_self ..)).put (f := FSCH_GRP_MAX_DELAY (s.groupOf p))
      (List.mem_cons_self ..) (max (s.get (FSCH_GRP_MAX_DELAY (s.groupOf p))) (min (ceilDiv (tg.toNat - tf.toNat) 16) 255)), ?_⟩
    simp only [State.place, if_pos hd]
    rfl
  · refine ⟨s.regs, .refl _ s, ?_⟩
    simp only [State.place, if_neg hd]

theorem State.place_places (s : State) (p : Fin 48) (k : Tracked) (tf tg : Dword) : Places p k tg s (s.place p k tf tg) := by
  obtain ⟨r, hregs, hplace⟩ := s.place_eq p k tf tg
  rw [hplace]
  constructor
  case shown => exact State.rd64_wr64 _ (by rw [FSCH_P_TG_LO, FSCH_P_TG_HI]; omega) tg
  case group => exact vset_same ..
  case port => rw [State.modTracked_port, State.wr64_fsch, State.modPort_same]
  case others =>
    intro q hq
    rw [State.modTracked, State.modPort_ne _ _ _ _ hq, State.wr64_fsch, State.modPort_ne _ _ _ _ hq]
  case regs => exact (((hregs.wr (by simp) (tg.extractLsb' 0 32)).wr (by simp) (tg.extractLsb' 32 32))).regs_eq rfl
  case frame => rfl

/-! ## The obligation -/

/-- Settles O33: the deadline by the line that it tracks, the freeze by its time, and guard entry by its row of R180. -/
theorem deadlineToGuard : Obligations.DeadlineToGuard := by
  unfold Obligations.DeadlineToGuard
  intro p s f others
  refine ⟨fun g l hdue hvoids => ?deadline, fun k tf hdue hin => ?freeze, fun k tf hdue hfirst hcal hsvc => ⟨fun tg hrow => ?strobe, fun hinh hmore => ?inhibit⟩⟩
  case deadline =>
    refine ⟨_, exec_deadline_of_due hdue, ?_⟩
    rw [State.deadline_of_unmarked hvoids]
    have hport := s.modPort_same p (fun f => f.pastDeadline (s.fromDeadline p g l))
    exact ⟨⟨s.fromDeadline p g l, congrArg PortFire.tracked hport, rfl, rfl, rfl, rfl, rfl, rfl, rfl, rfl, rfl⟩, congrArg PortFire.pages hport,
      State.fifoMap_fifo .., fun q hq => s.modPort_ne p q (fun f => f.pastDeadline (s.fromDeadline p g l)) hq, rfl⟩
  case freeze =>
    exact ⟨_, exec_freeze_in_time hdue hin, s.modTracked_port p k.page k.line _, fun q hq => State.modPort_ne _ _ _ _ hq, rfl⟩
  case strobe =>
    have places := (s.guarded p k).place_places p k tf tg
    rw [← State.guardEntry_of_strobe hsvc hrow] at places
    obtain ⟨shown, group, port, hothers, regs, frame⟩ := places
    have hsame : (s.guardEntry p k tf).eligible p = s.eligible p :=
      State.eligible_of_regsBut (s := s.guarded p k) regs (by simp [FSCH_GRP, FSCH_P_TG_LO, FSCH_P_TG_HI]; omega) p
    refine ⟨_, exec_guardEntry_of_due hdue hfirst hcal hsame, shown, group, congrArg PortFire.lastTg port, congrArg PortFire.prevEnd port, ?_,
      fun q hq => (hothers q hq).trans (State.modPort_ne _ _ _ _ hq), regs, by rw [frame]; rfl⟩
    intro u hu hpage hline
    rw [port] at hu
    obtain ⟨v, -, -, -, rfl⟩ := mem_map_line hu hpage hline
    exact ⟨rfl, rfl, rfl⟩
  case inhibit =>
    have hrow : s.guardRow p k tf = .void .voidInhibit := by rw [State.guardRow, hinh]; rfl
    have hentry := State.guardEntry_of_void hsvc hrow (by decide)
    obtain ⟨hreports, htbc, hregs⟩ := (s.guarded p k).endedAtGuard_frame p k
    have hsame : (s.guardEntry p k tf).eligible p = s.eligible p := by
      rw [hentry]
      exact State.eligible_of_regsBut (((RegsBut.refl _ s).regs_eq hregs).trans (State.resolve_regs _ p k _)) (by decide) p
    refine ⟨_, exec_guardEntry_of_due hdue hfirst hcal hsame, ?_⟩
    rw [hentry]
    exact State.resolve_counted hreports htbc hmore p .voidInhibit

end Sys2Proof.Machine
end

section
/-!
PROOFS. Loads and strobes (R177, R184, R185, R200): the start and the end of a shift, a strobe that rises or that finds its load incomplete, and its fall;
then the obligation LoadsAndStrobes.
-/
namespace Sys2Proof.Machine

/-! ## Loads (R177, R200) -/

/-- Where a line stands once among those of its port, changing it by its place puts one line for it. -/
theorem map_line_of_unique {l : List Tracked} {k : Tracked} (h : ∀ u ∈ l, u.page = k.page → u.line = k.line → u = k) (f : Tracked → Tracked) :
    l.map (fun t => if t.page = k.page ∧ t.line = k.line then f t else t) = l.map (fun t => if t.page = k.page ∧ t.line = k.line then f k else t) :=
  List.map_congr_left fun u hu => by
    split_ifs with hk
    · rw [h u hu hk.1 hk.2]
    · rfl

theorem exec_loadStart_of_next {s : State} {p : Fin 48} {k : Tracked} (h : s.loadNext p = some k) :
    exec (.loadStart p) s = .next (s.loadStart p k) := by
  change execLoadStart p s = _
  rw [execLoadStart, h]

/-- A shift that starts frees at most an entry of its sequencer, and runs the bits of its line. -/
theorem State.loadStart_eq (s : State) (p : Fin 48) {k : Tracked} {e : Entry} (he : k.entry = some e) : ∃ q : Vector Seq 12, s.loadStart p k =
    ((({ s with sqs := q } : State).modPort p (fun f => { f with shifting := some (k.page, k.line, s.now) })).modTracked p k.page k.line
      (fun t => { t with load := .shifting })).startBurst p (s.entryStreams p e) := by
  cases hold : s.fsch.ports[p].shifting with
  | none =>
    refine ⟨s.sqs, ?_⟩
    simp only [State.loadStart, hold, he]
    rfl
  | some old =>
    obtain ⟨g, l, start⟩ := old
    refine ⟨((s.modPort p (fun f => { f with shifting := some (k.page, k.line, s.now) })).freeEntry p g l).sqs, ?_⟩
    simp only [State.loadStart, hold, he]
    rw [State.freeEntry_only_sqs]
    rfl

theorem exec_loadComplete_of_due {s : State} {p : Fin 48} {page : Word} {line start : Nat} (h : s.fsch.ports[p].shifting = some (page, line, start))
    (hend : start + s.tLoad p ≤ s.now) : exec (.loadComplete p) s = .next (s.loadComplete p page line) := by
  change execLoadComplete p s = _
  rw [execLoadComplete, h]
  exact congrArg Host.Outcome.next (if_pos hend)

/-- Whether a line is loaded in time for its strobe as its shift ends now. -/
def State.loadsInTime (s : State) (p : Fin 48) (t : Tracked) : Bool :=
  match t.tg with
  | some g => decide (s.now + s.tLsu p ≤ tickOf g)
  | none => true

theorem State.loadsInTime_iff {s : State} {p : Fin 48} {t : Tracked} :
    s.loadsInTime p t = true ↔ ∀ g, t.tg = some g → s.now + s.tLsu p ≤ tickOf g := by
  rw [State.loadsInTime]
  cases t.tg <;> simp

/-- The port whose shift has ended. -/
def State.shifted (s : State) (p : Fin 48) (page : Word) (line : Nat) : State :=
  (s.modPort p (fun f => { f with shifting := none })).modTracked p page line (fun t => if s.loadsInTime p t then { t with load := .done } else t)

theorem State.shifted_port (s : State) (p : Fin 48) (page : Word) (line : Nat) : (s.shifted p page line).fsch.ports[p] = { s.fsch.ports[p] with
    shifting := none
    tracked := s.fsch.ports[p].tracked.map (fun t =>
      if t.page = page ∧ t.line = line then (if s.loadsInTime p t then { t with load := .done } else t) else t) } := by
  rw [State.shifted, State.modTracked_port, State.modPort_same]

theorem State.shifted_others (s : State) {p q : Fin 48} (page : Word) (line : Nat) (hq : q ≠ p) :
    (s.shifted p page line).fsch.ports[q] = s.fsch.ports[q] := by
  rw [State.shifted, State.modTracked, State.modPort_ne _ _ _ _ hq, State.modPort_ne _ _ _ _ hq]

theorem State.freeEntry_of_idle {s : State} {p : Fin 48} (h : s.fsch.ports[p].shifting = none) (page : Word) (line : Nat) :
    s.freeEntry p page line = s.fifoKeep p (fun e => !decide (e.page = page ∧ e.line = line) || e.expired) := by
  rw [State.freeEntry, h]

theorem State.loadComplete_eq (s : State) (p : Fin 48) (page : Word) (line : Nat) : s.loadComplete p page line =
    (s.shifted p page line).fifoKeep p (fun e => !decide (e.page = page ∧ e.line = line) || e.expired) :=
  State.freeEntry_of_idle (congrArg PortFire.shifting (s.shifted_port p page line)) page line

theorem State.fifoKeep_fifo (s : State) (p : Fin 48) (f : Entry → Bool) :
    (s.fifoKeep p f).sqs[sqOf p].fifo[laneOf p] = s.sqs[sqOf p].fifo[laneOf p].filter f := by
  rw [State.fifoKeep, State.modSq_same, vset_same]

/-! ## Strobes (R184, R185) -/

/-- A strobe that has risen, before Toll counts its energy. -/
def State.risen (s : State) (p : Fin 48) (k : Tracked) : State :=
  let u := (s.modTracked p k.page k.line (fun t => { t with strobe := .high })).modHp p (fun h => { h with lt := some (s.strobeTap p ((k.tg.getD 0).toNat % 16)) })
  if s.flag (FSCH_P_STAT_STALE p) then u.modReport k.page (fun r => { r with staleCal := true }) else u

theorem State.tollStrobe_frame (s : State) (p : Fin 48) (l : List Nat) :
    s.tollStrobe p l = { s with regs := (s.tollStrobe p l).regs, toll := (s.tollStrobe p l).toll } := rfl

section Rise
variable {s : State} {p : Fin 48} {k : Tracked} (hinh : k.caughtInh = false) (hcrit : k.caughtCrit = false) (hbrake : s.brakeCut p = false)
include hinh hcrit hbrake

theorem State.strobeRise_of_loaded (hl : k.load = .done) :
    s.strobeRise p k = (s.risen p k).tollStrobe p ((k.entry.map (fun e => e.levels)).getD []) := by
  simp only [State.strobeRise, hinh, hcrit, hbrake, hl, ne_eq, not_true, decide_false, Bool.or_self, Bool.false_eq_true, if_false]
  rfl

theorem State.strobeRise_of_short (hl : k.load ≠ .done) :
    s.strobeRise p k = ((s.put (FSCH_P_STAT_LOAD_SHORT p) 1).bump (FSCH_P_CNT_MISS_CNT p)).resolve p k .voidLate := by
  simp only [State.strobeRise, State.notStrobed, State.loadShort, State.set1_eq_put, hinh, hcrit, hbrake, hl, ne_eq, not_false_iff, decide_true, Bool.or_true, if_true,
    Bool.false_eq_true, if_false]

end Rise

/-- What a strobe that rises leaves: its line high, HPn_LT on its tap, and the page's report marked while STALE is set. -/
theorem State.risen_effect (s : State) (p : Fin 48) (k : Tracked) :
    (s.risen p k).fsch.ports = (s.modTracked p k.page k.line (fun t => { t with strobe := .high })).fsch.ports ∧
    (s.risen p k).hps = vset s.hps p { s.hps[p] with lt := some (s.strobeTap p ((k.tg.getD 0).toNat % 16)) } ∧
    (s.flag (FSCH_P_STAT_STALE p) = true → ∀ r, (s.risen p k).reportOf k.page = some r → r.staleCal = true) ∧
    s.risen p k = { s with fsch := (s.risen p k).fsch, hps := (s.risen p k).hps } := by
  rw [State.risen]
  cases hstale : s.flag (FSCH_P_STAT_STALE p) with
  | false => exact ⟨rfl, rfl, fun h => Bool.noConfusion h, rfl⟩
  | true =>
    refine ⟨rfl, rfl, fun _ r hr => ?_, rfl⟩
    rw [if_pos rfl, State.reportOf_modReport_same (f := fun r => { r with staleCal := true }) fun _ => rfl] at hr
    obtain ⟨x, -, rfl⟩ := Option.map_eq_some_iff.1 hr
    rfl

theorem exec_strobeRise_of_due {s : State} {p : Fin 48} {k : Tracked} (h : s.placedLine p = some k) (hdue : tickOf (k.tg.getD 0) ≤ s.now) :
    exec (.strobeRise p) s = .next (s.strobeRise p k) := by
  change execStrobeRise p s = _
  rw [execStrobeRise, h]
  exact congrArg Host.Outcome.next (if_pos hdue)

theorem exec_loadShort_of_placed {s : State} {p : Fin 48} {k : Tracked} (hg : s.guardDue p = none) (h : s.placedLine p = some k)
    (hdue : tickOf (k.tg.getD 0) ≤ s.now) (hl : k.load ≠ .done) : exec (.loadShort p) s = .next (s.strobeRise p k) := by
  change execLoadShort p s = _
  rw [execLoadShort, hg, h]
  exact congrArg Host.Outcome.next (if_pos (Bool.and_eq_true_iff.2 ⟨decide_eq_true hdue, decide_eq_true hl⟩))

theorem exec_strobeFall_of_due {s : State} {p : Fin 48} {k : Tracked} (h : s.highLine p = some k) (hdue : k.fallTick ≤ s.now) :
    exec (.strobeFall p) s = .next (s.strobeFall p k) := by
  change execStrobeFall p s = _
  rw [execStrobeFall, h]
  exact congrArg Host.Outcome.next (if_pos hdue)

/-- A strobe over, before its line resolves: HPn_LT inactive, and the line ended now (R177). -/
def State.fallen (s : State) (p : Fin 48) : State := (s.ltOff p).modPort p (fun f => { f with prevEnd := max f.prevEnd (16 * s.now) })

theorem State.strobeFall_eq (s : State) (p : Fin 48) (k : Tracked) : s.strobeFall p k = (s.fallen p).resolve p k .fired := rfl

theorem State.fallen_port (s : State) (p : Fin 48) :
    (s.fallen p).fsch.ports[p] = { s.fsch.ports[p] with prevEnd := max s.fsch.ports[p].prevEnd (16 * s.now) } := State.modPort_same ..

/-! ## The obligation -/

/-- Settles O34: the load by its start and its end, the strobe by whether it finds its line loaded, and its fall by the line's record. -/
theorem loadsAndStrobes : Obligations.LoadsAndStrobes := by
  unfold Obligations.LoadsAndStrobes
  intro p k s f others mark
  refine ⟨fun e hnext he hone => ?start, fun start hs hend => ?complete, fun tg hplaced htg hdue hinh hcrit hbrake => ?strobe,
    fun hhigh hdue hmore => ?fall⟩
  case start =>
    obtain ⟨q, hq⟩ := s.loadStart_eq p he
    refine ⟨_, exec_loadStart_of_next hnext, ?_⟩
    rw [hq]
    have hport : ((({ s with sqs := q } : State).modPort p (fun f => { f with shifting := some (k.page, k.line, s.now) })).modTracked p k.page k.line
        (fun t => { t with load := .shifting })).fsch.ports[p] =
        { f with shifting := some (k.page, k.line, s.now), tracked := mark k { k with load := .shifting } } := by
      rw [State.modTracked_port, State.modPort_same]
      exact congrArg (fun l => { f with shifting := some (k.page, k.line, s.now), tracked := l }) (map_line_of_unique hone _)
    have hothers : others ((({ s with sqs := q } : State).modPort p (fun f => { f with shifting := some (k.page, k.line, s.now) })).modTracked p
        k.page k.line (fun t => { t with load := .shifting })) := fun r hr => by
      rw [State.modTracked, State.modPort_ne _ _ _ _ hr, State.modPort_ne _ _ _ _ hr]
    exact ⟨hport, congrArg HeadPort.shift (vset_same ..), congrArg HeadPort.ck (vset_same ..), fun r hr => vset_ne _ _ _ _ hr, hothers, rfl⟩
  case complete =>
    refine ⟨_, exec_loadComplete_of_due hs hend, ?_⟩
    rw [State.loadComplete_eq]
    have hport := s.shifted_port p k.page k.line
    refine ⟨congrArg PortFire.shifting hport, fun u hu hpage hline htime => ?_, fun e he hpage hline => ?_, fun r hr => ?_, rfl⟩
    · have hu := (congrArg PortFire.tracked hport) ▸ hu
      obtain ⟨v, -, -, -, rfl⟩ := mem_map_line hu hpage hline
      have hin : s.loadsInTime p v = true := State.loadsInTime_iff.2 fun g hg => htime g (by rw [← hg]; split_ifs <;> rfl)
      rw [if_pos hin]
    · rw [State.fifoKeep_fifo] at he
      obtain ⟨-, hkeep⟩ := List.mem_filter.1 he
      simpa [hpage, hline] using hkeep
    · exact s.shifted_others k.page k.line hr
  case strobe =>
    have htick : tickOf (k.tg.getD 0) ≤ s.now := by rw [htg]; exact hdue
    refine ⟨fun hl hone => ⟨_, exec_strobeRise_of_due hplaced htick, ?_⟩, fun hl hg hmore => ⟨_, exec_loadShort_of_placed hg hplaced htick hl, ?_⟩⟩
    · obtain ⟨hports, hhps, hstale, hframe⟩ := s.risen_effect p k
      rw [State.strobeRise_of_loaded hinh hcrit hbrake hl, State.tollStrobe_frame]
      refine ⟨?_, ?_, fun r hr => ?_, hstale, fun r hr => ?_, ?_⟩
      · refine ((congrArg (·[p]) hports).trans (State.modTracked_port ..)).trans ?_
        exact congrArg (fun l => { f with tracked := l }) (map_line_of_unique hone _)
      · refine (congrArg (·[p]) hhps).trans ((vset_same ..).trans ?_)
        rw [htg]
        rfl
      · exact (congrArg (·[r]) hhps).trans (vset_ne _ _ _ _ hr)
      · exact (congrArg (·[r]) hports).trans (State.modPort_ne _ _ _ _ hr)
      · rw [hframe]
    · rw [State.strobeRise_of_short hinh hcrit hbrake hl]
      obtain ⟨hshort, hmiss⟩ := s.put_bump_apart (f := FSCH_P_STAT_LOAD_SHORT p) (g := FSCH_P_CNT_MISS_CNT p) (show 16 < 32 by decide)
        (show 16 ≤ 16 by decide) (show 15 < 32 by decide) (by simp only [FSCH_P_CNT, FSCH_P_STAT]; omega)
      have hregs := ((s.put (FSCH_P_STAT_LOAD_SHORT p) 1).bump (FSCH_P_CNT_MISS_CNT p)).resolve_regs p k .voidLate
      refine ⟨(hregs.flag_eq ?_).trans hshort, (hregs.get_eq ?_).trans hmiss, State.resolve_counted (by rfl) (by rfl) hmore p .voidLate⟩
      · simp [FSCH_P_STAT, FSCH_STAT, FSCH_RPT_CTRL]
        omega
      · simp [FSCH_P_CNT, FSCH_STAT, FSCH_RPT_CTRL]
        omega
  case fall =>
    refine ⟨_, exec_strobeFall_of_due hhigh hdue, ?_⟩
    rw [State.strobeFall_eq]
    have hport := s.fallen_port p
    have hhps : ((s.fallen p).resolve p k .fired).hps = vset s.hps p { s.hps[p] with lt := none } :=
      (s.fallen p).resolve_hps p k .fired
    refine ⟨State.resolve_counted (by rfl) (by rfl) hmore p .fired, (State.resolve_prevEnd ..).trans (congrArg PortFire.prevEnd hport), ?_, fun r hr => ?_,
      fun hfirst hpage => ?_⟩
    · rw [hhps]
      exact vset_same ..
    · rw [hhps]
      exact vset_ne _ _ _ _ hr
    · refine State.resolve_told ?_ ?_ .fired
      · rw [hport]
        exact hfirst
      · rw [hport]
        exact hpage

end Sys2Proof.Machine
end

section
/-!
PROOFS. Cuts of strobes (R45, R187 to R190): a strobe cut, INHIBIT_N asserted on every port, permission withdrawn, the Brake, and the outcome with which
the cuts of a tick end.
-/
namespace Sys2Proof.Machine

/-! ## A strobe cut (R45, R177) -/

/-- The first that a property finds is the first that a narrower one finds, if it has that. -/
theorem find?_of_narrower {α : Type} {p q : α → Bool} {l : List α} {a : α} (h : l.find? p = some a) (hq : q a = true)
    (hpq : ∀ x, q x = true → p x = true) : l.find? q = some a := by
  obtain ⟨-, before, after, rfl, hb⟩ := List.find?_eq_some_iff_append.1 h
  refine List.find?_eq_some_iff_append.2 ⟨hq, before, after, rfl, fun x hx => ?_⟩
  have hx := hb x hx
  cases hqx : q x with
  | false => rfl
  | true => rw [hpq x hqx] at hx; exact hx

theorem State.mem_of_liveLine {s : State} {p : Fin 48} {k : Tracked} (h : s.liveLine p = some k) : k ∈ s.fsch.ports[p].tracked :=
  List.mem_of_find?_eq_some h

/-- A cut leaves no strobe high. -/
theorem Strobe.onCut_ne_high (b : Strobe) (o : Outc) : b.onCut o ≠ .high := by cases b <;> exact Strobe.noConfusion

/-- Of two cuts the one that R45 ranks first stands. -/
theorem Strobe.onCut_orders {o : Outc} (h : o ∈ [Outc.cutCrit, .cutBrake, .cutInhibit]) :
    Strobe.onCut .high o = .cut o ∧ Strobe.onCut (.cut .cutCrit) o = .cut .cutCrit ∧ Strobe.onCut (.cut o) .cutCrit = .cut .cutCrit ∧
    (o ≠ .cutCrit → Strobe.onCut (.cut .cutBrake) o = .cut .cutBrake ∧ Strobe.onCut (.cut o) .cutBrake = .cut .cutBrake) := by
  revert o
  decide

section Cut
variable (s : State) (p : Fin 48) (k : Tracked) (o : Outc)

theorem State.cutLine_port : (s.cutLine p k o).fsch.ports[p] = { s.fsch.ports[p] with
    prevEnd := 16 * s.now
    tracked := s.fsch.ports[p].tracked.map (fun t => if t.page = k.page ∧ t.line = k.line then { t with strobe := t.strobe.onCut o } else t) } := by
  have hend : (((s.ltOff p).modPort p (fun f => { f with prevEnd := 16 * s.now }))).fsch.ports[p] = { s.fsch.ports[p] with prevEnd := 16 * s.now } :=
    State.modPort_same ..
  rw [State.cutLine, State.modTracked_port, hend]

theorem State.cutLine_others {q : Fin 48} (hq : q ≠ p) :
    (s.cutLine p k o).fsch.ports[q] = s.fsch.ports[q] ∧ (s.cutLine p k o).hps[q] = s.hps[q] := by
  refine ⟨?_, vset_ne _ _ _ _ hq⟩
  rw [State.cutLine, State.modTracked, State.modPort_ne _ _ _ _ hq, State.modPort_ne _ _ _ _ hq]
  rfl

theorem State.cutLine_lt : (s.cutLine p k o).hps[p].lt = none := congrArg HeadPort.lt (vset_same s.hps p { s.hps[p] with lt := none })

theorem State.cutLine_frame :
    s.cutLine p k o = { s with fsch := { s.fsch with ports := (s.cutLine p k o).fsch.ports }, hps := (s.cutLine p k o).hps } := rfl

end Cut

/-- The line that a cut acts on shows it. -/
theorem State.cutLine_cuts {s : State} {p : Fin 48} {k : Tracked} (hk : k ∈ s.fsch.ports[p].tracked) (o : Outc) :
    { k with strobe := k.strobe.onCut o } ∈ (s.cutLine p k o).fsch.ports[p].tracked := by
  rw [State.cutLine_port]
  exact List.mem_map.2 ⟨k, hk, if_pos ⟨rfl, rfl⟩⟩

/-- Where the live strobe of a port is cut, none is high. -/
theorem State.cutLine_no_high {s : State} {p : Fin 48} {k : Tracked} (hone : ∀ u ∈ s.fsch.ports[p].tracked, u.strobe.live = true → u = k) (o : Outc) :
    ∀ u ∈ (s.cutLine p k o).fsch.ports[p].tracked, u.strobe ≠ .high := by
  intro u hu
  rw [State.cutLine_port] at hu
  obtain ⟨v, hv, rfl⟩ := List.mem_map.1 hu
  split_ifs with hk
  · exact Strobe.onCut_ne_high _ _
  · intro hh
    obtain rfl := hone v hv (by rw [hh]; rfl)
    exact hk ⟨rfl, rfl⟩

/-! ## INHIBIT_N asserted (R187, R188) -/

/-- A placed line that INHIBIT_N catches. -/
def Tracked.inhibited (t : Tracked) : Tracked := if t.strobe = .placed then { t with caughtInh := true } else t

theorem Tracked.inhibited_strobe (t : Tracked) : t.inhibited.strobe = t.strobe := by
  rw [Tracked.inhibited]
  split_ifs <;> rfl

theorem Tracked.inhibited_place (t : Tracked) : t.inhibited.page = t.page ∧ t.inhibited.line = t.line := by
  rw [Tracked.inhibited]
  split_ifs <;> exact ⟨rfl, rfl⟩

/-- INHIBIT_N reaches one port: its live strobe is cut, then its placed lines are caught. -/
theorem State.inhibitPort_eq (s : State) (p : Fin 48) : s.inhibitPort p =
    ((s.liveLine p).elim s (fun k => s.cutLine p k .cutInhibit)).modPort p (fun f => { f with tracked := f.tracked.map Tracked.inhibited }) := by
  rw [State.inhibitPort]
  cases s.liveLine p <;> rfl

theorem State.inhibitPort_frame (s : State) (p : Fin 48) :
    s.inhibitPort p = { s with fsch := { s.fsch with ports := (s.inhibitPort p).fsch.ports }, hps := (s.inhibitPort p).hps } := by
  rw [State.inhibitPort_eq]
  cases s.liveLine p <;> rfl

theorem State.inhibitPort_others (s : State) {p q : Fin 48} (hq : q ≠ p) :
    (s.inhibitPort p).fsch.ports[q] = s.fsch.ports[q] ∧ (s.inhibitPort p).hps[q] = s.hps[q] := by
  rw [State.inhibitPort_eq, State.modPort_ne _ _ _ _ hq]
  cases s.liveLine p with
  | none => exact ⟨rfl, rfl⟩
  | some k => exact s.cutLine_others p k .cutInhibit hq

theorem State.inhibitPort_catches (s : State) (p : Fin 48) :
    ∀ u ∈ (s.inhibitPort p).fsch.ports[p].tracked, u.strobe = .placed → u.caughtInh = true := by
  intro u hu hplaced
  rw [State.inhibitPort_eq, State.modPort_same] at hu
  obtain ⟨v, -, rfl⟩ := List.mem_map.1 hu
  rw [Tracked.inhibited_strobe] at hplaced
  rw [Tracked.inhibited, if_pos hplaced]

/-- INHIBIT_N cuts the live strobe of a port. -/
theorem State.inhibitPort_cuts {s : State} {p : Fin 48} {k : Tracked} (h : s.liveLine p = some k)
    (hone : ∀ u ∈ s.fsch.ports[p].tracked, u.strobe.live = true → u = k) : (s.inhibitPort p).hps[p].lt = none ∧
    (∃ u ∈ (s.inhibitPort p).fsch.ports[p].tracked, u.page = k.page ∧ u.line = k.line ∧ u.strobe = k.strobe.onCut .cutInhibit) ∧
    ∀ u ∈ (s.inhibitPort p).fsch.ports[p].tracked, u.strobe ≠ .high := by
  rw [State.inhibitPort_eq, h, Option.elim_some, State.modPort_same]
  refine ⟨s.cutLine_lt p k .cutInhibit, ⟨_, List.mem_map_of_mem (State.cutLine_cuts (State.mem_of_liveLine h) .cutInhibit), ?_⟩, fun u hu => ?_⟩
  · rw [Tracked.inhibited_strobe]
    exact ⟨(Tracked.inhibited_place _).1, (Tracked.inhibited_place _).2, rfl⟩
  · obtain ⟨v, hv, rfl⟩ := List.mem_map.1 hu
    rw [Tracked.inhibited_strobe]
    exact State.cutLine_no_high hone .cutInhibit v hv

/-- INHIBIT_N has gone low, as the scheduler's registers and an event show it, before it reaches the ports. -/
def State.inhibitNoted (s : State) (held40ns : Bool) : State :=
  (((({ s.advance with fsch := { s.fsch with inhBall := true, blank := held40ns || Config.freeBit s.free } } : State).bump FSCH_INH_CNT_INH_CNT).put
    FSCH_STAT_INH_SEEN 1).put FSCH_STAT_INHIBIT 1).raise evINHIBIT_ON 0 0

theorem State.inhibitOn_of_high {s : State} (h : s.fsch.inhBall = false) (held40ns : Bool) :
    s.inhibitOn held40ns = (fins 48).foldl (fun s (p : Fin 48) => s.inhibitPort p) (s.inhibitNoted held40ns) := by
  simp only [State.inhibitOn, h, Bool.false_eq_true, if_false]
  rfl

theorem State.inhibitNoted_regs (s : State) (held40ns : Bool) : (s.inhibitNoted held40ns).flag FSCH_STAT_INHIBIT = true ∧
    (s.inhibitNoted held40ns).flag FSCH_STAT_INH_SEEN = true ∧
    (s.inhibitNoted held40ns).get FSCH_INH_CNT_INH_CNT = min (s.get FSCH_INH_CNT_INH_CNT + 1) 65535 := by
  rw [State.inhibitNoted, State.flag_raise, State.flag_raise, State.get_raise]
  refine ⟨State.flag_put_one _ (by decide) (by decide), ?_, ?_⟩
  · rw [State.flag_put_apart _ (by decide) _ (by decide)]
    exact State.flag_put_one _ (by decide) (by decide)
  · rw [State.get_put_ne _ _ _ _ (by decide), State.get_put_ne _ _ _ _ (by decide)]
    exact State.get_bump_same _ (show 15 < 32 by decide)

/-- An event raised, seen from a state of the same time. -/
theorem State.raise_rose {s t : State} (h : t.tbc = s.tbc) (ev : Nat) {src : Nat} (hsrc : src < 4096) (v : Word) : Rose ev src s (t.raise ev src v) := by
  obtain ⟨e, he, hev, hs, -, htbc⟩ := t.raise_flight ev src v
  exact ⟨e, he, hev, hs.trans (Nat.mod_eq_of_lt hsrc), htbc.trans h⟩

theorem State.inhibitNoted_rose (s : State) (held40ns : Bool) : Rose evINHIBIT_ON 0 s (s.inhibitNoted held40ns) :=
  State.raise_rose (by rfl) _ (by decide) 0

/-- What INHIBIT_N makes of the ports, one by one. -/
theorem State.foldl_inhibitPort (s : State) (q : Fin 48) : ∃ u : State, u.fsch.ports[q] = s.fsch.ports[q] ∧
    ((fins 48).foldl (fun s (p : Fin 48) => s.inhibitPort p) s).fsch.ports[q] = (u.inhibitPort q).fsch.ports[q] ∧
    ((fins 48).foldl (fun s (p : Fin 48) => s.inhibitPort p) s).hps[q] = (u.inhibitPort q).hps[q] := by
  obtain ⟨u, hu, hfold⟩ := foldl_view (f := fun (s : State) (p : Fin 48) => s.inhibitPort p) (v := fun s => (s.fsch.ports[q], s.hps[q])) (i := q)
    (fun s j hj => Prod.ext (s.inhibitPort_others hj.symm).1 (s.inhibitPort_others hj.symm).2) (fins_nodup 48) (mem_fins q) s
  simp only [Prod.mk.injEq] at hu hfold
  exact ⟨u, hu.1, hfold⟩

theorem State.foldl_inhibitPort_frame (s : State) (l : List (Fin 48)) : let t := l.foldl (fun s (p : Fin 48) => s.inhibitPort p) s
    t = { s with fsch := { s.fsch with ports := t.fsch.ports }, hps := t.hps } :=
  List.foldlRecOn l _ (motive := fun t : State => t = { s with fsch := { s.fsch with ports := t.fsch.ports }, hps := t.hps }) rfl fun t ht p _ => by
    rw [State.inhibitPort_frame, ht]

/-! ## Permission withdrawn (R32, R224, R419) -/

/-- Permission of port `p` has been withdrawn: beside its own state, that of a pending return that drops. -/
structure Withdrawn (p : Fin 48) (s t : State) : Prop where
  permit : t.flag (HP_STAT_PERMIT p) = false
  regs : RegsBut [HP_STAT p, HP_SVC_STAT p, HP_HIR_STAT p] s t
  flight : s.evt.flight ⊆ t.evt.flight
  frame : t = { s with regs := t.regs, hps := t.hps, evt := t.evt }

theorem State.dropReturn_eq_or (s : State) (p : Fin 48) : s.dropReturn p 6 0 = s ∨ s.dropReturn p 6 0 =
    (((s.modHp p (fun h => { h with svc := none })).put (HP_SVC_STAT_PENDING p) 0).put (HP_SVC_STAT_RESULT p) 6).raise evHEAD_RETURN_DROPPED p 0 := by
  rw [State.dropReturn]
  split
  next v _ =>
    by_cases hr : v.ret = true
    · exact .inr (if_pos hr)
    · exact .inl (if_neg hr)
  · exact .inl rfl

theorem State.dropReturn_regs (s : State) (p : Fin 48) : RegsBut [HP_SVC_STAT p] s (s.dropReturn p 6 0) := by
  obtain e | e := s.dropReturn_eq_or p <;> rw [e]
  · exact .refl _ s
  · have h : RegsBut [HP_SVC_STAT p] s (s.modHp p (fun h => { h with svc := none })) := (RegsBut.refl _ s).regs_eq rfl
    exact ((h.put (f := HP_SVC_STAT_PENDING p) (List.mem_singleton_self _) 0).put (f := HP_SVC_STAT_RESULT p) (List.mem_singleton_self _) 6).raise _ _ _

theorem State.dropReturn_flight (s : State) (p : Fin 48) : s.evt.flight ⊆ (s.dropReturn p 6 0).evt.flight := by
  obtain e | e := s.dropReturn_eq_or p <;> rw [e]
  · exact List.Subset.refl _
  · exact fun r hr => mem_insertEvent_of_mem _ r _ hr

theorem State.dropReturn_frame (s : State) (p : Fin 48) :
    s.dropReturn p 6 0 = { s with regs := (s.dropReturn p 6 0).regs, hps := (s.dropReturn p 6 0).hps, evt := (s.dropReturn p 6 0).evt } := by
  obtain e | e := s.dropReturn_eq_or p <;> rw [e]
  rw [State.raise_regs, State.raise_hps]
  rfl

/-- A pending return that drops is no permission. -/
theorem State.dropReturn_withdrawn {s : State} {p : Fin 48} (h : s.flag (HP_STAT_PERMIT p) = false) : Withdrawn p s (s.dropReturn p 6 0) := by
  have hstat : HP_STAT p ∉ [HP_SVC_STAT p] := by
    rw [List.mem_singleton, HP_STAT, HP_SVC_STAT]
    omega
  refine ⟨((s.dropReturn_regs p).flag_eq (f := HP_STAT_PERMIT p) hstat).trans h, (s.dropReturn_regs p).mono ?_, s.dropReturn_flight p, s.dropReturn_frame p⟩
  exact fun a ha => List.mem_cons_of_mem _ (List.mem_cons.2 (.inl (List.mem_singleton.1 ha)))

theorem State.withdraw_withdrawn (s : State) (p : Fin 48) : Withdrawn p s (s.withdraw p false) := by
  rw [State.withdraw]
  cases h : s.flag (HP_STAT_PERMIT p) with
  | false => exact ⟨h, .refl _ s, List.Subset.refl _, rfl⟩
  | true =>
    have hoff : ((s.put (HP_STAT_PERMIT p) 0).modHp p (fun h => { h with permThermal := false })).flag (HP_STAT_PERMIT p) = false :=
      State.flag_put_zero s (show 6 < 32 by decide)
    obtain ⟨permit, regs, flight, frame⟩ := State.dropReturn_withdrawn hoff
    refine ⟨permit, ?_, flight, ?_⟩
    · exact (((RegsBut.refl _ s).put (f := HP_STAT_PERMIT p) (List.mem_cons_self ..) 0).regs_eq rfl).trans regs
    · rw [if_pos rfl]
      exact frame.trans rfl

/-- Withdrawing the permission of other ports keeps that of a port. -/
theorem State.flag_permit_withdraw (s : State) {p q : Fin 48} (h : p ≠ q) :
    (s.withdraw p false).flag (HP_STAT_PERMIT q) = s.flag (HP_STAT_PERMIT q) := by
  have hpq : p.val ≠ q.val := fun e => h (Fin.ext e)
  refine (s.withdraw_withdrawn p).regs.flag_eq (f := HP_STAT_PERMIT q) ?_
  simp only [List.mem_cons, List.not_mem_nil, or_false, HP_STAT, HP_SVC_STAT, HP_HIR_STAT]
  omega

theorem State.flag_permit_withdrawAll (s : State) (q : Fin 48) : s.withdrawAll.flag (HP_STAT_PERMIT q) = false := by
  obtain ⟨u, -, hfold⟩ := foldl_view (f := fun (s : State) (p : Fin 48) => s.withdraw p false) (v := fun s => s.flag (HP_STAT_PERMIT q)) (i := q)
    (fun s j hj => s.flag_permit_withdraw hj) (fins_nodup 48) (mem_fins q) s
  exact hfold.trans (u.withdraw_withdrawn q).permit

/-- What withdrawing every permission keeps: the registers below those of the head ports, and the events in flight. -/
theorem State.withdrawAll_keeps (s : State) : (∀ a < 0x41000000, s.withdrawAll.rd a = s.rd a) ∧ s.evt.flight ⊆ s.withdrawAll.evt.flight :=
  List.foldlRecOn (fins 48) _ (motive := fun t : State => (∀ a < 0x41000000, t.rd a = s.rd a) ∧ s.evt.flight ⊆ t.evt.flight)
    ⟨fun _ _ => rfl, List.Subset.refl _⟩ fun t ht p _ => by
      obtain ⟨-, regs, flight, -⟩ := t.withdraw_withdrawn p
      refine ⟨fun a ha => (regs a ?_).trans (ht.1 a ha), List.Subset.trans ht.2 flight⟩
      simp only [List.mem_cons, List.not_mem_nil, or_false, HP_STAT, HP_SVC_STAT, HP_HIR_STAT]
      omega

/-! ## The Brake (R189, R190) -/

/-- The latch of a port in BRAKE_STAT set. -/
def State.brakeLatched (s : State) (p : Fin 48) : State := s.putBit (maskWord BRAKE_STAT0 BRAKE_STAT1 p).1 (maskWord BRAKE_STAT0 BRAKE_STAT1 p).2 true

theorem maskWord_bounds {w0 w1 : Nat} (p : Fin 48) : ((maskWord w0 w1 p).1 = w0 ∨ (maskWord w0 w1 p).1 = w1) ∧ (maskWord w0 w1 p).2 < 32 := by
  rw [maskWord]
  split_ifs with h
  · exact ⟨.inl rfl, h⟩
  · exact ⟨.inr rfl, by have := p.isLt; simp only; omega⟩

theorem State.brakeCut_brakeLatched (s : State) (p : Fin 48) : (s.brakeLatched p).brakeCut p = true := by
  simp only [State.brakeCut, State.brakeLatched, State.bit, State.putBit, State.rd_wr_same]
  rw [getLsbD_setBit_true _ _ _ (maskWord_bounds p).2, decide_eq_true rfl, Bool.or_true]

theorem State.brakeCut_of_regsBut {l : List Nat} {s t : State} (h : RegsBut l s t) (p : Fin 48) (h0 : BRAKE_STAT0 ∉ l) (h1 : BRAKE_STAT1 ∉ l) :
    t.brakeCut p = s.brakeCut p := by
  have hout : (maskWord BRAKE_STAT0 BRAKE_STAT1 p).1 ∉ l := by
    obtain e | e := (maskWord_bounds (w0 := BRAKE_STAT0) (w1 := BRAKE_STAT1) p).1 <;> rw [e]
    · exact h0
    · exact h1
  rw [State.brakeCut, State.brakeCut, State.bit, State.bit, h _ hout]

/-- The Brake latches its cut and tells of it, withdraws the permission, and cuts. -/
theorem State.brake_eq (s : State) (p : Fin 48) (k : Tracked) : s.brake p k =
    (((s.brakeLatched p).raiseAt evBRAKE_CUT p 0 k.page (BitVec.ofNat 32 k.line)).withdraw p false).cutLine p k .cutBrake := rfl

/-- A strobe that may have lasted its limit is one that the Brake cuts. -/
theorem State.brakeDue_of_lasted {s : State} {p : Fin 48} {k : Tracked} (h0 : s.get (BRAKE_LIM_LIMIT p) ≠ 0)
    (h : s.tbRuns = false ∨ 608 * s.get (BRAKE_LIM_LIMIT p) ≤ 25 * (16 * (s.now + 1) - (k.tg.getD 0).toNat)) : s.brakeDue p k = true := by
  simp only [State.brakeDue, decide_eq_true h0, Bool.true_and, Bool.or_eq_true, Bool.not_eq_true', decide_eq_true_eq]
  exact h

theorem exec_brakeCut_of_due {s : State} {p : Fin 48} {k : Tracked} (h : s.liveLine p = some k) (hdue : s.brakeDue p k = true) :
    exec (.brakeCut p) s = .next (s.brake p k) := by
  change execBrakeCut p s = _
  rw [execBrakeCut, h]
  exact congrArg Host.Outcome.next (if_pos hdue)

/-- A cut by the Brake: its latch, the permission, its event and the strobe. -/
theorem State.brake_effect {s : State} {p : Fin 48} {k : Tracked} (h : s.liveLine p = some k) :
    (s.brake p k).brakeCut p = true ∧ (s.brake p k).flag (HP_STAT_PERMIT p) = false ∧ Rose evBRAKE_CUT p s (s.brake p k) ∧
    (s.brake p k).hps[p].lt = none ∧ (s.brake p k).fsch.ports[p].prevEnd = 16 * s.now ∧
    ∃ u ∈ (s.brake p k).fsch.ports[p].tracked, u.page = k.page ∧ u.line = k.line ∧ u.strobe = k.strobe.onCut .cutBrake := by
  rw [State.brake_eq]
  have hlatch := s.brakeCut_brakeLatched p
  have hevent := (s.brakeLatched p).raiseAt_flight evBRAKE_CUT p 0 k.page (BitVec.ofNat 32 k.line) none
  obtain ⟨permit, regs, flight, frame⟩ := ((s.brakeLatched p).raiseAt evBRAKE_CUT p 0 k.page (BitVec.ofNat 32 k.line)).withdraw_withdrawn p
  generalize ((s.brakeLatched p).raiseAt evBRAKE_CUT p 0 k.page (BitVec.ofNat 32 k.line)).withdraw p false = u at *
  have hfsch : u.fsch = s.fsch := by rw [frame]; rfl
  have hnow : u.now = s.now := by rw [frame]; rfl
  refine ⟨?_, permit, ⟨_, flight hevent, rfl, Nat.mod_eq_of_lt (by omega), rfl⟩, u.cutLine_lt p k .cutBrake, ?_, ?_⟩
  · rw [← hlatch]
    refine State.brakeCut_of_regsBut (s := s.brakeLatched p) (regs.regs_eq rfl) p ?_ ?_ <;>
      simp only [List.mem_cons, List.not_mem_nil, or_false, HP_STAT, HP_SVC_STAT, HP_HIR_STAT, BRAKE_STAT0, BRAKE_STAT1] <;> omega
  · rw [State.cutLine_port, ← hnow]
  · exact ⟨_, State.cutLine_cuts (by rw [hfsch]; exact State.mem_of_liveLine h) .cutBrake, rfl, rfl, rfl⟩

/-- The cuts of a tick have met: the live line resolves with the outcome of its cut. -/
theorem State.settleCut_of_cut {s : State} {p : Fin 48} {k : Tracked} {o : Outc} (h : s.liveLine p = some k) (hcut : k.strobe = .cut o) :
    s.settleCut p = s.resolve p k o := by
  rw [State.settleCut, find?_of_narrower (show s.fsch.ports[p].tracked.find? (fun t => t.strobe.live) = some k from h) (by rw [hcut])]
  · simp only [hcut]
  · intro x hx
    split at hx
    · next hx' => rw [hx']; rfl
    · exact Bool.noConfusion hx

end Sys2Proof.Machine
end

section
/-!
PROOFS. A page aborted (R131, R196): what the abort leaves of a port's lines, of the open reports and of the sequencers; then the obligation
InhibitBrakeAndAbort, with the cuts of the section before.
-/
namespace Sys2Proof.Machine

/-! ## The scheduler's side of an abort (R196) -/

/-- What resolving a page's lines keeps: the sequencers but their FIFOs, and the ABORTED marks of the reports that stay. -/
structure Aborting (s t : State) : Prop where
  sqs : ∀ k : Fin 12, t.sqs[k] = { s.sqs[k] with fifo := t.sqs[k].fifo }
  reports : ∀ page u, t.reportOf page = some u → ∃ r, s.reportOf page = some r ∧ u.aborted = r.aborted

/-- From `s` to `t` lines of port `p` have been resolved: the other ports stay, and a line still without outcome is one of before. -/
structure AbortsPort (p : Fin 48) (s t : State) : Prop extends Aborting s t where
  others : ∀ q ≠ p, t.fsch.ports[q] = s.fsch.ports[q]
  open_ : ∀ u ∈ t.fsch.ports[p].tracked, u.outcome = none → u ∈ s.fsch.ports[p].tracked

namespace Aborting
variable {s t u : State}

theorem refl (s : State) : Aborting s s := ⟨fun _ => rfl, fun _ u h => ⟨u, h, rfl⟩⟩

theorem trans (h : Aborting s t) (g : Aborting t u) : Aborting s u where
  sqs k := by rw [g.sqs k, h.sqs k]
  reports page v hv := by
    obtain ⟨w, hw, hvw⟩ := g.reports page v hv
    obtain ⟨r, hr, hwr⟩ := h.reports page w hw
    exact ⟨r, hr, hvw.trans hwr⟩

/-- What keeps the sequencers and the reports. -/
theorem of_eq (hq : t.sqs = s.sqs) (hr : t.fsch.reports = s.fsch.reports) : Aborting s t :=
  ⟨fun k => by rw [hq], fun page u h => ⟨u, (State.reportOf_congr hr page).symm.trans h, rfl⟩⟩

/-- A report changed but for its ABORTED mark. -/
theorem modReport (s : State) (page : Word) {f : Report → Report} (hp : ∀ r, (f r).page = r.page) (ha : ∀ r, (f r).aborted = r.aborted) :
    Aborting s (s.modReport page f) := by
  refine ⟨fun _ => rfl, fun g u hu => ?_⟩
  by_cases hg : g = page
  · rw [hg, State.reportOf_modReport_same hp] at hu
    obtain ⟨r, hr, rfl⟩ := Option.map_eq_some_iff.1 hu
    exact ⟨r, by rw [hg, hr], ha r⟩
  · exact ⟨u, (State.reportOf_modReport_ne hp s hg).symm.trans hu, rfl⟩

end Aborting

namespace AbortsPort
variable {p : Fin 48} {s t : State}

theorem refl (p : Fin 48) (s : State) : AbortsPort p s s := ⟨.refl s, fun _ _ => rfl, fun _ h _ => h⟩

theorem trans {u : State} (h : AbortsPort p s t) (g : AbortsPort p t u) : AbortsPort p s u :=
  ⟨h.toAborting.trans g.toAborting, fun q hq => (g.others q hq).trans (h.others q hq), fun v hv ho => h.open_ v (g.open_ v hv ho) ho⟩

theorem records {u : State} (h : AbortsPort p s t) (g : Records p t u) : AbortsPort p s u := by
  refine h.trans ⟨⟨fun k => ?_, fun page v hv => ?_⟩, g.others, fun v hv _ => g.tracked hv⟩
  · rw [g.frame]
  · obtain ⟨r, hr, e⟩ := g.from_ page v hv
    exact ⟨r, hr, by rw [e]⟩

theorem modPort (h : AbortsPort p s t) {f : PortFire → PortFire}
    (hf : ∀ x, ∀ u ∈ (f x).tracked, u.outcome = none → u ∈ x.tracked := by intro _ _ h _; exact h) : AbortsPort p s (t.modPort p f) :=
  h.trans ⟨.of_eq rfl rfl, fun q hq => State.modPort_ne _ _ _ _ hq, fun u hu ho => hf _ u (by rwa [State.modPort_same] at hu) ho⟩

/-- A line given an outcome. -/
theorem modTracked (h : AbortsPort p s t) (page : Word) (line : Nat) {f : Tracked → Tracked} (hf : ∀ x, (f x).outcome ≠ none) :
    AbortsPort p s (t.modTracked p page line f) :=
  h.modPort fun x u hu ho => by
    obtain ⟨v, hv, rfl⟩ := List.mem_map.1 hu
    split_ifs at ho ⊢
    · exact absurd ho (hf v)
    · exact hv

theorem noteOutc (h : AbortsPort p s t) (page : Word) (line : Nat) : AbortsPort p s (t.noteOutc p page line) := h.modPort

theorem keepMarks (h : AbortsPort p s t) (page : Word) (line : Nat) : AbortsPort p s (t.keepMarks p page line) := by
  rw [State.keepMarks]
  exact h.modPort

theorem countOutc (h : AbortsPort p s t) (page : Word) (o : Outc) (n : Nat) : AbortsPort p s (t.countOutc page o n) := by
  rw [State.countOutc]
  split_ifs
  · exact h
  · exact h.trans ⟨.modReport t page (fun _ => rfl) fun _ => rfl, fun _ _ => rfl, fun _ hu _ => hu⟩

theorem fifoKeep (h : AbortsPort p s t) (f : Entry → Bool) : AbortsPort p s (t.fifoKeep p f) := by
  refine h.trans ⟨⟨fun k => ?_, fun page u hu => ⟨u, hu, rfl⟩⟩, fun _ _ => rfl, fun _ hu _ => hu⟩
  by_cases hk : k = sqOf p
  · rw [hk, State.fifoKeep, State.modSq_same]
  · rw [State.fifoKeep, State.modSq_ne _ _ _ _ hk]

theorem freeEntry (h : AbortsPort p s t) (page : Word) (line : Nat) : AbortsPort p s (t.freeEntry p page line) := by
  obtain e | e := t.freeEntry_eq_or p page line <;> rw [e]
  · exact h
  · exact h.fifoKeep _

end AbortsPort

/-- Lines of a port resolved as VOID_ABORT. -/
def State.abortLines (s : State) (p : Fin 48) (page : Word) (ts : List Tracked) : State :=
  ts.foldl (fun s t => ((s.modTracked p t.page t.line (fun t => t.ended .voidAbort)).countOutc page .voidAbort).freeEntry p t.page t.line) s

/-- The lines of a page that an abort resolves on a port. -/
def State.abortGone (s : State) (p : Fin 48) (page : Word) : List Tracked :=
  s.fsch.ports[p].tracked.filter (fun t => decide (t.page = page) && !t.strobe.live && t.outcome.isNone)

theorem State.abortLines_aborts (s : State) (p : Fin 48) (page : Word) (ts : List Tracked) : AbortsPort p s (s.abortLines p page ts) :=
  List.foldlRecOn ts _ (motive := AbortsPort p s) (.refl p s) fun _ hu t _ =>
    ((hu.modTracked t.page t.line (f := fun t => t.ended .voidAbort) fun _ => Option.some_ne_none _).countOutc ..).freeEntry ..

theorem State.countOutc_ports (s : State) (page : Word) (o : Outc) (n : Nat) : (s.countOutc page o n).fsch.ports = s.fsch.ports := by
  rw [State.countOutc]
  split_ifs <;> rfl

/-- A line still without outcome is none of those resolved. -/
theorem State.abortLines_resolves {s : State} {p : Fin 48} {page : Word} {ts : List Tracked} {t : Tracked} (ht : t ∈ ts) :
    ∀ u ∈ (s.abortLines p page ts).fsch.ports[p].tracked, u.outcome = none → ¬ (u.page = t.page ∧ u.line = t.line) := by
  induction ts generalizing s with
  | nil => simp at ht
  | cons a ts ih =>
    intro u hu ho hplace
    obtain rfl | ht := List.mem_cons.1 ht
    · have hstep := (State.abortLines_aborts _ p page ts).open_ u hu ho
      rw [State.freeEntry_fsch, State.countOutc_ports, State.modTracked_port] at hstep
      obtain ⟨v, -, -, -, rfl⟩ := mem_map_line hstep hplace.1 hplace.2
      exact Option.some_ne_none _ ho
    · exact ih ht u hu ho hplace

theorem State.abortPort_of_open {s : State} {p : Fin 48} {page : Word} {g : PortPage}
    (h : s.fsch.ports[p].pages.find? (fun q => decide (q.page = page)) = some g) (ha : g.abortFrom = none) :
    AbortsPort p (s.abortLines p page (s.abortGone p page)) (s.abortPort p page) := by
  rw [State.abortPort, h]
  simp only [ha, Option.isSome_none, Bool.false_eq_true, if_false]
  exact (AbortsPort.modPort (.fifoKeep (.keepMarks (.noteOutc (.countOutc (.refl p _) ..) ..) ..) _)).records (.flush (.refl p _))

theorem State.abortPort_aborts (s : State) (p : Fin 48) (page : Word) : AbortsPort p s (s.abortPort p page) := by
  cases h : s.fsch.ports[p].pages.find? (fun q => decide (q.page = page)) with
  | none =>
    rw [State.abortPort, h]
    exact .refl p s
  | some g =>
    cases ha : g.abortFrom with
    | none => exact (s.abortLines_aborts p page _).trans (State.abortPort_of_open h ha)
    | some f =>
      rw [State.abortPort, h]
      simp only [ha, Option.isSome_some, if_true]
      exact .refl p s

/-- Of the page aborted on a port only lines whose strobe has risen stay without outcome. -/
theorem State.abortPort_live {s : State} {p : Fin 48} {page : Word} {g : PortPage}
    (h : s.fsch.ports[p].pages.find? (fun q => decide (q.page = page)) = some g) (ha : g.abortFrom = none) :
    ∀ u ∈ (s.abortPort p page).fsch.ports[p].tracked, u.page = page → u.outcome = none → u.strobe.live = true := by
  intro u hu hpage ho
  have hlines := (State.abortPort_of_open h ha).open_ u hu ho
  have hs := (s.abortLines_aborts p page _).open_ u hlines ho
  by_contra hl
  have hgone : u ∈ s.abortGone p page := List.mem_filter.2 ⟨hs, by simp [hpage, ho, Bool.eq_false_iff.2 hl]⟩
  exact State.abortLines_resolves hgone u hlines ho ⟨rfl, rfl⟩

/-! ## An abort of every port of the page, and of the sequencers (R131, R196) -/

theorem portsOf_nodup (m : BitVec 48) : (portsOf m).Nodup := (fins_nodup 48).filter _

theorem mem_portsOf {m : BitVec 48} {p : Fin 48} (h : m.getLsbD p.val = true) : p ∈ portsOf m := List.mem_filter.2 ⟨mem_fins p, h⟩

/-- The report of a page that is being aborted. -/
def State.abortMarked (s : State) (page : Word) : State := s.modReport page (fun r => { r with aborted := true })

theorem State.abortPage_of_open {s : State} {page : Word} {r : Report} (h : s.reportOf page = some r) :
    s.abortPage page = (portsOf r.portSet).foldl (fun s p => s.abortPort p page) (s.abortMarked page) := by
  rw [State.abortPage, h]
  rfl

theorem State.abortPage_aborting {s : State} {page : Word} {r : Report} (h : s.reportOf page = some r) :
    Aborting (s.abortMarked page) (s.abortPage page) := by
  rw [State.abortPage_of_open h]
  exact List.foldlRecOn _ _ (motive := Aborting (s.abortMarked page)) (.refl _) fun u hu p _ => hu.trans (u.abortPort_aborts p page).toAborting

theorem State.abortPage_reports {s : State} {page : Word} {r u : Report} (h : s.reportOf page = some r) (hu : (s.abortPage page).reportOf page = some u) :
    u.aborted = true := by
  obtain ⟨v, hv, huv⟩ := (State.abortPage_aborting h).reports page u hu
  rw [State.abortMarked, State.reportOf_modReport_same (f := fun r => { r with aborted := true }) fun _ => rfl] at hv
  obtain ⟨w, -, rfl⟩ := Option.map_eq_some_iff.1 hv
  exact huv

theorem State.abortPage_live {s : State} {page : Word} {r : Report} (h : s.reportOf page = some r) {q : Fin 48} {g : PortPage}
    (hq : r.portSet.getLsbD q.val = true) (hg : s.fsch.ports[q].pages.find? (fun x => decide (x.page = page)) = some g) (ha : g.abortFrom = none) :
    ∀ u ∈ (s.abortPage page).fsch.ports[q].tracked, u.page = page → u.outcome = none → u.strobe.live = true := by
  obtain ⟨v, hv, hfold⟩ := foldl_view (f := fun (s : State) p => s.abortPort p page) (v := fun s => s.fsch.ports[q]) (i := q)
    (fun u p hp => (u.abortPort_aborts p page).others q hp.symm) (portsOf_nodup r.portSet) (mem_portsOf hq) (s.abortMarked page)
  rw [State.abortPage_of_open h, hfold]
  exact State.abortPort_live (by rw [show v.fsch.ports[q] = s.fsch.ports[q] from hv]; exact hg) ha

/-- What the sequencers' side of an abort leaves in the scheduler: reports, and the lines of the ports. -/
structure LinesKept (s t : State) : Prop where
  reports : t.fsch.reports = s.fsch.reports
  tracked : ∀ q : Fin 48, t.fsch.ports[q].tracked = s.fsch.ports[q].tracked

namespace LinesKept
variable {s t u : State}

theorem refl (s : State) : LinesKept s s := ⟨rfl, fun _ => rfl⟩

theorem trans (h : LinesKept s t) (g : LinesKept t u) : LinesKept s u :=
  ⟨g.reports.trans h.reports, fun q => (g.tracked q).trans (h.tracked q)⟩

theorem of_fsch (h : t.fsch = s.fsch) : LinesKept s t := ⟨by rw [h], fun _ => by rw [h]⟩

theorem of_onlySqs (h : OnlySqs s t) : LinesKept s t := .of_fsch (by unfold OnlySqs at h; rw [h])

theorem tbVoid (h : LinesKept s t) (p : Fin 48) (m : VoidMark) : LinesKept s (t.tbVoid p m) := by
  refine h.trans ?_
  simp only [State.tbVoid]
  split_ifs
  · refine ⟨rfl, fun q => ?_⟩
    by_cases hq : q = p
    · rw [hq, State.modPort_same]
    · rw [State.modPort_ne _ _ _ _ hq]
  · exact .refl t

theorem closePage (h : LinesKept s t) (k : Fin 12) : LinesKept s (t.closePage k) := by
  rw [State.closePage]
  split_ifs
  · have dropped : LinesKept s (t.dropSeg k) := h.trans (.of_onlySqs (t.dropSeg_onlySqs k))
    exact List.foldlRecOn _ _ (motive := LinesKept s) (dropped.trans (.of_fsch rfl)) fun _ hu m _ =>
      List.foldlRecOn m.2 _ (motive := LinesKept s) hu fun _ hv x _ => hv.tbVoid _ x
  · exact h

end LinesKept

section SqAbort
variable (s : State) (k : Fin 12) (page : Word)

/-- A sequencer as its page's abort leaves it, before a wait of its own ends. -/
def State.sqClosed : State :=
  ((s.cond k xABORT).closePage k).modSq k (fun q => { q with wait := .none, stall := 0, lastAborted := some page })

theorem State.sqAbort_eq_or : s.sqAbort k page = s ∨ s.sqAbort k page = s.sqClosed k page ∨
    s.sqAbort k page = (s.sqClosed k page).nextPc (.sq k) := by
  rw [State.sqAbort]
  dsimp only
  split_ifs
  · exact .inr (.inr rfl)
  · exact .inr (.inl rfl)
  · exact .inl rfl

theorem State.sqClosed_others {j : Fin 12} (hj : j ≠ k) : (s.sqClosed k page).sqs[j] = s.sqs[j] := by
  rw [State.sqClosed, State.modSq_ne _ _ _ _ hj, ((s.cond k xABORT).closePage_closes k).others j hj]
  exact (Gains.refl k s).cond.others j hj

theorem State.sqAbort_others {j : Fin 12} (hj : j ≠ k) : (s.sqAbort k page).sqs[j] = s.sqs[j] := by
  obtain e | e | e := s.sqAbort_eq_or k page <;> rw [e]
  · exact s.sqClosed_others k page hj
  · exact (State.modSq_ne _ _ _ _ hj).trans (s.sqClosed_others k page hj)

theorem State.sqAbort_linesKept : LinesKept s (s.sqAbort k page) := by
  have closed : LinesKept s (s.sqClosed k page) :=
    ((LinesKept.of_onlySqs ((OnlySqs.refl s).cond k xABORT)).closePage k).trans (.of_fsch rfl)
  obtain e | e | e := s.sqAbort_eq_or k page <;> rw [e]
  · exact .refl s
  · exact closed
  · exact closed.trans (.of_fsch rfl)

/-- The page closes on the sequencer that has it open. -/
theorem State.sqAbort_closes (ho : s.sqs[k].pageOpen = true) (hp : s.sqs[k].page = page) :
    (s.sqAbort k page).sqs[k].pageOpen = false ∧ (s.sqAbort k page).sqs[k].lastAborted = some page := by
  have hclosed := ((s.cond k xABORT).closePage_closes k).pageOpen
  rw [State.sqAbort, if_pos ⟨ho, hp⟩]
  dsimp only
  split_ifs
  · rw [State.nextPc, sqCore, State.modCore.eq_2, State.modSq_same, State.modSq_same]
    exact ⟨hclosed, rfl⟩
  · rw [State.modSq_same]
    exact ⟨hclosed, rfl⟩

end SqAbort

theorem State.foldl_sqAbort_linesKept (s : State) (page : Word) (l : List (Fin 12)) :
    LinesKept s (l.foldl (fun s (k : Fin 12) => s.sqAbort k page) s) :=
  List.foldlRecOn l _ (motive := LinesKept s) (.refl s) fun u hu k _ => hu.trans (u.sqAbort_linesKept k page)

theorem State.foldl_sqAbort_closes (s : State) (k : Fin 12) (page : Word) (ho : s.sqs[k].pageOpen = true) (hp : s.sqs[k].page = page) :
    ((fins 12).foldl (fun s (k : Fin 12) => s.sqAbort k page) s).sqs[k].pageOpen = false ∧
    ((fins 12).foldl (fun s (k : Fin 12) => s.sqAbort k page) s).sqs[k].lastAborted = some page := by
  obtain ⟨u, hu, hfold⟩ := foldl_view (f := fun (s : State) (k : Fin 12) => s.sqAbort k page) (v := fun s => s.sqs[k]) (i := k)
    (fun u j hj => u.sqAbort_others j page hj.symm) (fins_nodup 12) (mem_fins k) s
  rw [hfold]
  exact u.sqAbort_closes k page (by rw [hu, ho]) (by rw [hu, hp])

theorem State.fschAbort_of_open {s : State} {page : Word} {r : Report} (h : s.reportOf page = some r) :
    s.fschAbort page = (fins 12).foldl (fun s (k : Fin 12) => s.sqAbort k page) (s.abortPage page) := by
  rw [State.fschAbort, h]
  rfl

theorem State.fschAbort_of_none {s : State} {page : Word} (h : s.reportOf page = none) : s.fschAbort page = s.put FSCH_STAT_ABORT_REFUSED 1 := by
  rw [State.fschAbort, h]
  rfl

theorem exec_fschAbort (x : Fin 2) (page : Word) (s : State) : exec (.fschAbort x page) s = .next ((s.fschAbort page).bus .ok 0) :=
  congrArg busAnswer (State.supWrite_of_rule (b := .fsch) (off := 0x0C) rfl x (r := (.ok, s.fschAbort page)) rfl)

/-! ## The count of the Brake's oscillator (R190) -/

section Osc
variable {s : State} {count : BitVec 16}

/-- A count out of range, before the permissions are withdrawn. -/
def State.oscFailed (s : State) (count : BitVec 16) : State :=
  let u := s.put BRAKE_OSC_RATE count.toNat
  ((({ u with boot := { u.boot with oscBad := true } } : State).put BRAKE_OSC_OSC_FAIL 1).raise evOSC_FAIL 0 0)

theorem State.flag_refOk_put : (s.put BRAKE_OSC_RATE count.toNat).flag CLK_STAT_REF_OK = s.flag CLK_STAT_REF_OK :=
  State.flag_put_apart s (by decide) _ (by decide)

theorem State.brakeOsc_of_bad (hr : s.flag CLK_STAT_REF_OK = true) (hb : count.toNat < 4762 ∨ 5263 < count.toNat) :
    s.brakeOsc count = (s.oscFailed count).withdrawAll := by
  simp only [State.brakeOsc, State.flag_refOk_put, hr, if_true, decide_eq_true hb]
  rfl

theorem State.brakeOsc_of_good (h : s.flag CLK_STAT_REF_OK = false ∨ (4762 ≤ count.toNat ∧ count.toNat ≤ 5263)) : ∃ b : Boot,
    s.brakeOsc count = { s.put BRAKE_OSC_RATE count.toNat with boot := b } := by
  cases hr : s.flag CLK_STAT_REF_OK with
  | false =>
    refine ⟨s.boot, ?_⟩
    simp only [State.brakeOsc, State.flag_refOk_put, hr, Bool.false_eq_true, if_false]
    rfl
  | true =>
    have hrange := h.resolve_left (by rw [hr]; exact Bool.noConfusion)
    have hb : ¬ (count.toNat < 4762 ∨ 5263 < count.toNat) := by omega
    refine ⟨{ s.boot with oscBad := false }, ?_⟩
    simp only [State.brakeOsc, State.flag_refOk_put, hr, if_true, decide_eq_false hb, Bool.false_eq_true, if_false]
    rfl

/-- A count is judged and out of range, or it does no harm. -/
theorem State.brakeOsc_range (s : State) (count : BitVec 16) :
    s.flag CLK_STAT_REF_OK = true ∧ (count.toNat < 4762 ∨ 5263 < count.toNat) ∨
    (s.flag CLK_STAT_REF_OK = false ∨ (4762 ≤ count.toNat ∧ count.toNat ≤ 5263)) := by
  cases s.flag CLK_STAT_REF_OK with
  | false => exact .inr (.inl rfl)
  | true =>
    obtain hb | hb := Decidable.em (count.toNat < 4762 ∨ 5263 < count.toNat)
    · exact .inl ⟨rfl, hb⟩
    · exact .inr (.inr (by omega))

theorem State.get_of_rd {t : State} {f : RegField} (h : t.rd f.addr = s.rd f.addr) : t.get f = s.get f := by rw [State.get, h, State.get]

theorem State.flag_of_rd {t : State} {f : RegField} (h : t.rd f.addr = s.rd f.addr) : t.flag f = s.flag f := by
  rw [State.flag, State.get_of_rd h, State.flag]

theorem State.get_rate_put : (s.put BRAKE_OSC_RATE count.toNat).get BRAKE_OSC_RATE = count.toNat :=
  (State.get_put_same s BRAKE_OSC_RATE _ (show 15 < 32 by decide)).trans (Nat.mod_eq_of_lt count.isLt)

theorem State.oscFailed_regs (s : State) (count : BitVec 16) :
    (s.oscFailed count).get BRAKE_OSC_RATE = count.toNat ∧ (s.oscFailed count).flag BRAKE_OSC_OSC_FAIL = true := by
  rw [State.oscFailed, State.get_raise, State.flag_raise]
  exact ⟨(State.get_put_apart _ (by decide) _ (by decide)).trans State.get_rate_put, State.flag_put_one _ (by decide) (by decide)⟩

/-- A count out of range stands in its register, fails the oscillator with an event and withdraws every permission. -/
theorem State.oscFailed_withdrawAll (s : State) (count : BitVec 16) : (s.oscFailed count).withdrawAll.get BRAKE_OSC_RATE = count.toNat ∧
    (s.oscFailed count).withdrawAll.flag BRAKE_OSC_OSC_FAIL = true ∧ Rose evOSC_FAIL 0 s (s.oscFailed count).withdrawAll := by
  obtain ⟨hrd, hflight⟩ := (s.oscFailed count).withdrawAll_keeps
  have hosc := hrd BRAKE_OSC (by decide)
  obtain ⟨hrate, hfail⟩ := s.oscFailed_regs count
  obtain ⟨e, he, hrose⟩ : Rose evOSC_FAIL 0 s (s.oscFailed count) := State.raise_rose (by rfl) _ (by decide) 0
  exact ⟨(State.get_of_rd (f := BRAKE_OSC_RATE) hosc).trans hrate, (State.flag_of_rd (f := BRAKE_OSC_OSC_FAIL) hosc).trans hfail, e, hflight he, hrose⟩

end Osc

/-! ## INHIBIT_N negated (R187) -/

/-- INHIBIT_N high again, before its register and its event show it. -/
def State.inhibitFreed (s : State) : State := { s with fsch := { s.fsch with inhBall := false, blank := false } }

theorem State.inhibitOff_of_low {s : State} (h : s.fsch.inhBall = true) :
    s.inhibitOff = (s.inhibitFreed.put FSCH_STAT_INHIBIT 0).raise evINHIBIT_OFF 0 0 := if_pos h

/-! ## The obligation -/

/-- Settles O35: INHIBIT_N and the Brake by what they do to each port, the oscillator by its range, and the abort by the port and the sequencer that it
reaches. -/
theorem inhibitBrakeAndAbort : Obligations.InhibitBrakeAndAbort := by
  unfold Obligations.InhibitBrakeAndAbort
  intro p x held count page s
  refine ⟨fun hhigh => ?assert, fun hlow => ?deassert, fun k hk h0 hlasted => ?brake, fun o ho => Strobe.onCut_orders ho,
    fun k o hk hcut hmore => ?settle, ?osc, ?abort⟩
  case assert =>
    refine ⟨_, rfl, ?_⟩
    obtain ⟨hinh, hseen, hcnt⟩ := s.inhibitNoted_regs held
    have hframe := (s.inhibitNoted held).foldl_inhibitPort_frame (fins 48)
    have hports := (s.inhibitNoted held).foldl_inhibitPort
    rw [State.inhibitOn_of_high hhigh held]
    generalize (fins 48).foldl (fun s (p : Fin 48) => s.inhibitPort p) (s.inhibitNoted held) = t at *
    have hregs : t.regs = (s.inhibitNoted held).regs := by rw [hframe]
    refine ⟨by rw [hframe]; rfl, ?_, (State.flag_congr hregs _).trans hinh, (State.flag_congr hregs _).trans hseen, (State.get_congr hregs _).trans hcnt, ?_,
      fun q => ?_, fun q k hk hone => ?_⟩
    · rintro rfl
      rw [hframe]
      rfl
    · have hevt : t.evt = (s.inhibitNoted held).evt := by rw [hframe]
      rw [Rose, hevt]
      exact s.inhibitNoted_rose held
    · obtain ⟨u, -, hu, -⟩ := hports q
      rw [hu]
      exact u.inhibitPort_catches q
    · obtain ⟨u, hs, hu, hlt⟩ := hports q
      have hs : u.fsch.ports[q] = s.fsch.ports[q] := hs
      rw [hu, hlt]
      exact State.inhibitPort_cuts (by rw [State.liveLine, hs, ← hk, State.liveLine]) (by rw [hs]; exact hone)
  case deassert =>
    refine ⟨_, rfl, ?_⟩
    rw [State.inhibitOff_of_low hlow]
    have hregs : RegsBut [FSCH_STAT] s (s.inhibitFreed.put FSCH_STAT_INHIBIT 0) :=
      ((RegsBut.refl _ s).regs_eq rfl).put (f := FSCH_STAT_INHIBIT) (List.mem_singleton_self _) 0
    exact ⟨rfl, State.flag_put_zero _ (show FSCH_STAT_INHIBIT.hi < 32 by decide), State.raise_rose rfl _ (by decide) 0, hregs.raise _ _ _, rfl⟩
  case brake => exact ⟨_, exec_brakeCut_of_due hk (State.brakeDue_of_lasted h0 hlasted), State.brake_effect hk⟩
  case settle =>
    rw [State.settleCut_of_cut hk hcut]
    exact State.resolve_counted rfl rfl hmore p o
  case osc =>
    refine ⟨_, rfl, ?_, fun hr hb => ?_, fun hgood => ?_⟩
    · obtain ⟨hr, hb⟩ | hgood := s.brakeOsc_range count
      · rw [State.brakeOsc_of_bad hr hb]
        exact (s.oscFailed_withdrawAll count).1
      · obtain ⟨b, e⟩ := State.brakeOsc_of_good hgood
        rw [e]
        exact State.get_rate_put
    · rw [State.brakeOsc_of_bad hr hb]
      exact ⟨(s.oscFailed_withdrawAll count).2.1, (s.oscFailed_withdrawAll count).2.2, (s.oscFailed count).flag_permit_withdrawAll⟩
    · obtain ⟨b, e⟩ := State.brakeOsc_of_good hgood
      rw [e]
      exact ⟨(RegsBut.of_put s BRAKE_OSC_RATE _).regs_eq rfl, rfl⟩
  case abort =>
    refine ⟨_, exec_fschAbort x page s, rfl, fun hnone => ?_, fun r hr => ?_⟩
    · rw [State.fschAbort_of_none hnone]
      exact ⟨State.flag_put_one _ (show FSCH_STAT_ABORT_REFUSED.hi < 32 by decide) (by decide),
        (RegsBut.of_put s FSCH_STAT_ABORT_REFUSED 1).regs_eq rfl, rfl⟩
    · rw [State.fschAbort_of_open hr]
      obtain ⟨hreports, htracked⟩ := (s.abortPage page).foldl_sqAbort_linesKept page (fins 12)
      have hsqs := fun k : Fin 12 => (State.abortPage_aborting hr).sqs k
      have hcloses := fun k : Fin 12 => (s.abortPage page).foldl_sqAbort_closes k page
      generalize (fins 12).foldl (fun s (k : Fin 12) => s.sqAbort k page) (s.abortPage page) = t at *
      refine ⟨fun u hu => ?_, fun k ho hp => ?_, fun q g hq hg ha u hu => ?_⟩
      · exact State.abortPage_reports hr ((State.reportOf_congr (t := t.bus .ok 0) hreports page).symm.trans hu)
      · have hsq : (s.abortPage page).sqs[k] = { s.sqs[k] with fifo := (s.abortPage page).sqs[k].fifo } := hsqs k
        exact hcloses k (by rw [hsq, ← ho]) (by rw [hsq, ← hp])
      · exact State.abortPage_live hr hq hg ha u ((htracked q).subst (motive := (u ∈ ·)) hu)

end Sys2Proof.Machine
end

section
/-!
PROOFS. The signals of a head port (R207 to R209, R402): a permission withdrawn for a LIMIT that lost status alone forced, and the status word that
gives it back; then the refutation of HeadSignals.
-/
namespace Sys2Proof.Machine

/-- Port 12 enabled, present and permitted, with limits of 50, 55 and 60 °C. -/
def permittedHead : State :=
  (((((State.reset.wr (HP_TLIM 12) 0x5A786E64#32).put (HP_CTRL_EN 12) 1).put (HP_STAT_PRESENT 12) 1).put CLK_STAT_REF_OK 1).put (BRAKE_LIM_LIMIT 12) 1).put
    (HP_STAT_PERMIT 12) 1

/-- The same port after ST_TO ms without a valid status word (R209): it is treated as at LIMIT. -/
def silentHead : State := permittedHead.headStLost 12

/-- A status word of TYPE 0 with TEMP 25 °C. -/
def coolWord : Word := 0x81900081#32

/-- The silent port takes in the word. -/
theorem silentHead_takes_coolWord : silentHead.retired 12 = false ∧ silentHead.flag (HP_LINK_ST_FMT 12) = false ∧ statusOk coolWord = true ∧
    field coolWord 29 28 = 0 := by decide +kernel

/-- Its permission is withdrawn for the LIMIT alone (R402). -/
theorem silentHead_permThermal : silentHead.hps[(12 : Fin 48)].permThermal = true := by decide +kernel

/-- The word ends the LIMIT, so the permission is back and no longer withdrawn (R209, R402). -/
theorem silentHead_coolWord_permThermal : (silentHead.statusWord 12 coolWord true).hps[(12 : Fin 48)].permThermal = false ∧
    (silentHead.statusWord 12 coolWord true).flag (HP_STAT_PERMIT 12) = true := by decide +kernel

/-- Refutes O37: a valid status word of TYPE 0 that ends ST_LOST ends the LIMIT that ST_LOST forced, and with it the withdrawal of the permission for
that LIMIT; the statement keeps everything that the port holds beside its registers but the fault bits of the word. -/
theorem not_headSignals : ¬ Obligations.HeadSignals := by
  unfold Obligations.HeadSignals
  intro h
  obtain ⟨hretired, hasync, hok, htype⟩ := silentHead_takes_coolWord
  obtain ⟨-, ⟨t, ht, -, -, -, htaken⟩, -⟩ := h 0 12 0 coolWord true silentHead
  obtain rfl : silentHead.statusWord 12 coolWord true = t := Host.Outcome.next.inj ht
  have hwhole : silentHead.flag (HP_LINK_ST_FMT 12) = true → ∃ l ∈ silentHead.hps[(12 : Fin 48)].shift,
      32 * silentHead.get (HP_LINK_ST_DIV 12) ≤ l.length := fun hclocked => absurd (hasync.symm.trans hclocked) (by decide)
  obtain ⟨-, -, -, hkeeps, -⟩ := htaken hretired ⟨fun _ => rfl, hwhole⟩ hok htype
  have hperm := congrArg HeadPort.permThermal hkeeps
  exact absurd ((silentHead_coolWord_permThermal.1.symm.trans hperm).trans silentHead_permThermal) (by decide)

end Sys2Proof.Machine
end

section
/-!
PROOFS. The head memory of a port (R213 to R215, R218, R219): what a command of a port changes, how a command of the head memory begins and ends, and
the verdicts of a record that is read.
-/
namespace Sys2Proof.Machine

/-! ## What a command of a port changes -/

/-- A supervisor's write was answered OK, and only the listed registers and what the head ports hold beside their registers differ. -/
def PortAnswered (l : List Nat) (s t : State) : Prop :=
  BusOk t ∧ RegsBut l s t ∧ t = { s with regs := t.regs, hps := t.hps, busResp := t.busResp, busData := t.busData }

/-- Only the listed registers and what the head ports hold beside their registers differ. -/
structure PortWrite (l : List Nat) (s t : State) : Prop where
  regs : RegsBut l s t
  frame : t = { s with regs := t.regs, hps := t.hps }

namespace PortWrite
variable {l : List Nat} {s t : State}

theorem refl (l : List Nat) (s : State) : PortWrite l s s := ⟨.refl l s, rfl⟩

theorem wr (h : PortWrite l s t) {a : Nat} (ha : a ∈ l) (v : Word) : PortWrite l s (t.wr a v) :=
  ⟨h.regs.wr ha v, by rw [h.frame]; rfl⟩

theorem put (h : PortWrite l s t) {f : RegField} (hf : f.addr ∈ l) (v : Nat) : PortWrite l s (t.put f v) := h.wr hf _

theorem modHp (h : PortWrite l s t) (p : Fin 48) (f : HeadPort → HeadPort) : PortWrite l s (t.modHp p f) :=
  ⟨h.regs.regs_eq rfl, by rw [h.frame]; rfl⟩

/-- One change after the other. -/
theorem trans {m : List Nat} {u : State} (h : PortWrite l s t) (g : PortWrite m t u) : PortWrite (m ++ l) s u :=
  ⟨fun a ha => (g.regs a fun hm => ha (List.mem_append_left _ hm)).trans (h.regs a fun hl => ha (List.mem_append_right _ hl)), by
    rw [g.frame, h.frame]⟩

/-- The same, with the write answered OK on the bus. -/
theorem answered (h : PortWrite l s t) : PortAnswered l s (t.bus .ok 0) := ⟨rfl, h.regs.bus _ _, by rw [h.frame]; rfl⟩

end PortWrite

/-- The port changed. -/
theorem State.modHp_same (s : State) (p : Fin 48) (f : HeadPort → HeadPort) : (s.modHp p f).hps[p] = f s.hps[p] := vset_same _ _ _

@[simp] theorem State.get_modHp (s : State) (p : Fin 48) (f : HeadPort → HeadPort) (g : RegField) : (s.modHp p f).get g = s.get g := rfl
@[simp] theorem State.flag_modHp (s : State) (p : Fin 48) (f : HeadPort → HeadPort) (g : RegField) : (s.modHp p f).flag g = s.flag g := rfl
@[simp] theorem State.get_bus (s : State) (r : Resp) (v : Word) (f : RegField) : (s.bus r v).get f = s.get f := rfl
@[simp] theorem State.rd_bus (s : State) (r : Resp) (v : Word) (a : Nat) : (s.bus r v).rd a = s.rd a := rfl

/-- A field of one bit set to a truth value reads as that value. -/
theorem State.flag_put_b2n (s : State) {f : RegField} (hh : f.hi < 32) (hl : f.lo ≤ f.hi) (b : Bool) : (s.put f (b2n b)).flag f = b := by
  cases b
  · exact s.flag_put_zero hh
  · exact s.flag_put_one hh hl

/-! ## Writes of a port's command registers (R214, R215, R221) -/

section Exec
variable {s : State} {p : Fin 48} (hc : s.clocked (.hp p.val) = true) (x : Fin 2)
include hc

/-- A supervisor's write that the block of a clocked port answers. -/
theorem State.supWrite_hp {off : Nat} {v : Word} {r : Resp × State} (hw : s.hpWrite p off v = some r) : s.supWrite x (.hp p.val) off v = r := by
  refine State.supWrite_of_rule hc x ?_
  rw [← hw]
  exact congrArg (fun q => s.hpWrite q off v) (finOf_val _ p)

theorem exec_readHir : exec (.readHir x p) s = .next ((s.i2cStart p 1).bus .ok 0) :=
  congrArg busAnswer (State.supWrite_hp hc x (off := 0x74) (v := 1) (r := (.ok, s.i2cStart p 1)) rfl)

theorem exec_writeCal : exec (.writeCal x p) s = .next ((s.i2cStart p 2).bus .ok 0) :=
  congrArg busAnswer (State.supWrite_hp hc x (off := 0x74) (v := 2) (r := (.ok, s.i2cStart p 2)) rfl)

theorem exec_rankReqWrite (value : Word) :
    exec (.rankReqWrite x p value) s = .next (((s.wr (HP_RANK_REQ p) (value &&& 0x000FFFFF#32)).rankRefresh p).bus .ok 0) :=
  congrArg busAnswer (State.supWrite_hp hc x (off := 0x60) rfl)

theorem exec_retire (now : Bool) : exec (.retire x p now) s = .next ((s.svcRetire p now).bus .ok 0) := by
  refine congrArg busAnswer (State.supWrite_hp hc x (off := 0x80) (r := (.ok, s.svcRetire p now)) ?_)
  cases now <;> rfl

theorem exec_return : exec (.return x p) s = .next ((s.svcReturn p).bus .ok 0) :=
  congrArg busAnswer (State.supWrite_hp hc x (off := 0x80) (v := 2) (r := (.ok, s.svcReturn p)) rfl)

theorem exec_cancel : exec (.cancel x p) s = .next ((s.svcCancel p).bus .ok 0) :=
  congrArg busAnswer (State.supWrite_hp hc x (off := 0x80) (v := 3) (r := (.ok, s.svcCancel p)) rfl)

end Exec

/-! ## A head-memory command (R214, R218, R219) -/

/-- What a command of the head memory leaves: a running one keeps the unit and refuses it with RESULT 6. -/
def State.i2cBegun (s : State) (p : Fin 48) (c : I2cCmd) : State :=
  if s.flag (HP_I2C_STAT_BUSY p) then s.put (HP_I2C_STAT_RESULT p) 6
  else (s.put (HP_I2C_STAT_BUSY p) 1).modHp p (fun h => { h with i2c := some c })

/-- READ_HIR and WRITE_CAL begin alike; WRITE_CAL takes the section that stands in the window. -/
theorem exec_i2cCmd {s : State} {p : Fin 48} (hc : s.clocked (.hp p.val) = true) {x : Fin 2} {i : Instr} {c : I2cCmd}
    (h : (i, c) ∈ [(Instr.readHir x p, I2cCmd.read), (.writeCal x p, .write (s.calSection p))]) :
    exec i s = .next ((s.i2cBegun p c).bus .ok 0) := by
  simp only [List.mem_cons, List.not_mem_nil, or_false, Prod.mk.injEq] at h
  obtain ⟨rfl, rfl⟩ | ⟨rfl, rfl⟩ := h
  · exact exec_readHir hc x
  · exact exec_writeCal hc x

theorem State.i2cBegun_portWrite (s : State) (p : Fin 48) (c : I2cCmd) : PortWrite [HP_I2C_STAT p] s (s.i2cBegun p c) := by
  have hs := PortWrite.refl [HP_I2C_STAT p] s
  rw [State.i2cBegun]
  split_ifs
  · exact hs.put (f := HP_I2C_STAT_RESULT p) (List.mem_singleton_self _) 6
  · exact (hs.put (f := HP_I2C_STAT_BUSY p) (List.mem_singleton_self _) 1).modHp p _

/-- A command of the head memory begun or refused. -/
theorem State.i2cBegun_answers (s : State) (p : Fin 48) (c : I2cCmd) : let t := (s.i2cBegun p c).bus .ok 0
    PortAnswered [HP_I2C_STAT p] s t ∧
    (s.flag (HP_I2C_STAT_BUSY p) = false → t.flag (HP_I2C_STAT_BUSY p) = true ∧ t.hps[p] = { s.hps[p] with i2c := some c }) ∧
    (s.flag (HP_I2C_STAT_BUSY p) = true → t.get (HP_I2C_STAT_RESULT p) = 6 ∧ t.hps = s.hps) := by
  refine ⟨(s.i2cBegun_portWrite p c).answered, fun hb => ?_, fun hb => ?_⟩
  · rw [State.i2cBegun, if_neg (ne_true_of_eq_false hb), State.flag_bus, State.flag_modHp]
    exact ⟨s.flag_put_one (show 31 < 32 by decide) (le_refl 31), vset_same s.hps p { s.hps[p] with i2c := some c }⟩
  · rw [State.i2cBegun, if_pos hb, State.get_bus, State.get_put_same _ _ _ (show 3 < 32 by decide)]
    exact ⟨rfl, rfl⟩

/-- An I2C command has ended with a result, before what its data change (R219). -/
def State.i2cEnded (s : State) (p : Fin 48) (result : Nat) : State :=
  (((s.put (HP_I2C_STAT_BUSY p) 0).put (HP_I2C_STAT_RESULT p) result).modHp p (fun h => { h with i2c := none })).raise evI2C_DONE p (value1 result)

/-- What the end of an I2C command with a result leaves. -/
structure I2cEnded (p : Fin 48) (result : Nat) (s t : State) : Prop where
  busy : t.flag (HP_I2C_STAT_BUSY p) = false
  result : t.get (HP_I2C_STAT_RESULT p) = result
  rose : Rose evI2C_DONE p s t

theorem State.i2cEnded_ends (s : State) (p : Fin 48) {result : Nat} (hr : result < 16) : I2cEnded p result s (s.i2cEnded p result) := by
  rw [State.i2cEnded]
  refine ⟨?_, ?_, State.raise_rose (by rfl) _ (by omega) _⟩
  · rw [State.flag_raise, State.flag_modHp, State.flag_put_apart _ (show 3 < 32 by decide) _ (by simp)]
    exact s.flag_put_zero (show 31 < 32 by decide)
  · rw [State.get_raise, State.get_modHp, State.get_put_same _ _ _ (show 3 < 32 by decide)]
    exact Nat.mod_eq_of_lt hr

theorem State.i2cEnded_regs (s : State) (p : Fin 48) (result : Nat) : RegsBut [HP_I2C_STAT p] s (s.i2cEnded p result) :=
  (((RegsBut.refl _ s).put (f := HP_I2C_STAT_BUSY p) (List.mem_singleton_self _) 0).put (f := HP_I2C_STAT_RESULT p) (List.mem_singleton_self _)
    result).regs_eq rfl

theorem State.i2cEnded_hps (s : State) (p : Fin 48) (result : Nat) : (s.i2cEnded p result).hps[p] = { s.hps[p] with i2c := none } :=
  vset_same s.hps p { s.hps[p] with i2c := none }

/-- What follows the end of an I2C command outside its register and with the events kept does not undo it. -/
theorem I2cEnded.kept {p : Fin 48} {result : Nat} {s t u : State} {l : List Nat} (h : I2cEnded p result s t) (hregs : RegsBut l t u)
    (hl : HP_I2C_STAT p ∉ l) (hflight : t.evt.flight ⊆ u.evt.flight) : I2cEnded p result s u where
  busy := (hregs.flag_eq (f := HP_I2C_STAT_BUSY p) hl).trans h.busy
  result := (hregs.get_eq (f := HP_I2C_STAT_RESULT p) hl).trans h.result
  rose := let ⟨e, he, hrest⟩ := h.rose
    ⟨e, hflight he, hrest⟩

section End
variable {s : State} {p : Fin 48} {sec data : List Byte}

/-- A section that is read back as it was written is a write that came through; another one is a VERIFY (R218). -/
theorem I2cCmd.outcome_of_same (hd : data.take 64 = sec) : (I2cCmd.write sec).outcome 0 data = 0 := by
  rw [I2cCmd.outcome, if_pos (.inl rfl), if_pos hd]

theorem I2cCmd.outcome_of_differs (hd : data.take 64 ≠ sec) : (I2cCmd.write sec).outcome 0 data = 5 := by
  rw [I2cCmd.outcome, if_pos (.inl rfl), if_neg hd]

theorem State.i2cEnd_of_read (h : s.hps[p].i2c = some .read) (r : Nat) (data : List Byte) :
    s.i2cEnd p r data = (s.i2cEnded p r).hirDone p r data := by
  simp only [State.i2cEnd, h]
  rfl

theorem State.i2cEnd_of_verified (h : s.hps[p].i2c = some (.write sec)) (hd : data.take 64 = sec) : s.i2cEnd p 0 data =
    ((s.i2cEnded p 0).modHp p (fun q => { q with hir := hirPut q.hir 0x200 sec })).put (HP_HIR_STAT_CAL p) 1 := by
  simp only [State.i2cEnd, h, I2cCmd.outcome_of_same hd]
  rfl

/-- A write whose result is not OK leaves the window. -/
theorem State.i2cEnd_of_write_failed (h : s.hps[p].i2c = some (.write sec)) {r k : Nat} (hk : (I2cCmd.write sec).outcome r data = k) (h0 : k ≠ 0) :
    s.i2cEnd p r data = s.i2cEnded p k := by
  simp only [State.i2cEnd, h, hk, if_neg h0]
  rfl

end End

/-! ## A record read (R213 to R215) -/

/-- A choice of two codes below a bound. -/
theorem ite_lt_of {c : Prop} [Decidable c] {a b n : Nat} (ha : a < n) (hb : b < n) : (if c then a else b) < n := by
  split_ifs <;> assumption

theorem State.hirVerdict_lt (s : State) (p : Fin 48) : s.hirVerdict p < 16 := by
  unfold State.hirVerdict
  repeat' apply ite_lt_of
  all_goals decide

theorem State.hirCal_lt (s : State) (p : Fin 48) : s.hirCal p < 4 := by
  unfold State.hirCal
  repeat' apply ite_lt_of
  all_goals decide

/-- The verdict of a read (R214): the record's where it is complete, I2C where it failed. -/
def State.readVerdict (s : State) (p : Fin 48) (result : Nat) : Nat := if result = 0 then s.hirVerdict p else 2

/-- HPn_HIR_STAT of the record in the window, after a read with its result. -/
def State.hirJudged (s : State) (p : Fin 48) (result : Nat) : State :=
  (((s.put (HP_HIR_STAT_VERDICT p) (s.readVerdict p result)).put (HP_HIR_STAT_FRESH p) 1).put (HP_HIR_STAT_CAL p) (s.hirCal p)).rankRefresh p

/-- The window after a read with its result. -/
def State.hirLoaded (s : State) (p : Fin 48) (result : Nat) (data : List Byte) : State :=
  if result = 0 then s.modHp p (fun h => { h with hir := hirPut h.hir 0 (slice data 0 576) }) else s

theorem State.hirDone_eq (s : State) (p : Fin 48) (result : Nat) (data : List Byte) :
    ∃ v, s.hirDone p result data = ((s.hirLoaded p result data).hirJudged p result).raise evHIR_DONE p v := ⟨_, rfl⟩

/-- RANK_OK is one field of HPn_HIR_STAT. -/
theorem State.rankRefresh_eq (s : State) (p : Fin 48) : s.rankRefresh p = s.put (HP_HIR_STAT_RANK_OK p)
    (b2n ((s.get (HP_RANK_REQ_VOL_MASK p)).testBit (s.hir p 0x1C 1) && decide (s.get (HP_RANK_REQ_SPEED_MIN p) ≤ s.hir p 0x1D 1))) := rfl

/-- HPn_RANK_REQ written, and RANK_OK computed from it and the record (R215). -/
theorem State.rankReq_answers (s : State) (p : Fin 48) (v : Word) : let t := ((s.wr (HP_RANK_REQ p) v).rankRefresh p).bus .ok 0
    PortAnswered [HP_RANK_REQ p, HP_HIR_STAT p] s t ∧
    t.rd (HP_RANK_REQ p) = v ∧ t.flag (HP_HIR_STAT_RANK_OK p) =
      ((t.get (HP_RANK_REQ_VOL_MASK p)).testBit (s.hir p 0x1C 1) && decide (t.get (HP_RANK_REQ_SPEED_MIN p) ≤ s.hir p 0x1D 1)) := by
  have hwr := (PortWrite.refl [HP_RANK_REQ p, HP_HIR_STAT p] s).wr (List.mem_cons_self ..) v
  have hreq := s.rd_wr_same (HP_RANK_REQ p) v
  have hir (a n : Nat) : (s.wr (HP_RANK_REQ p) v).hir p a n = s.hir p a n := rfl
  generalize s.wr (HP_RANK_REQ p) v = u at *
  rw [State.rankRefresh_eq]
  refine ⟨(hwr.put (f := HP_HIR_STAT_RANK_OK p) (by simp) _).answered, ?_, ?_⟩
  · rw [State.rd_bus, State.rd_put_ne _ _ _ _ (by simp), hreq]
  · rw [State.flag_bus, State.get_bus, State.get_bus, State.get_put_ne _ _ _ _ (by simp), State.get_put_ne _ _ _ _ (by simp), hir, hir]
    exact u.flag_put_b2n (show 8 < 32 by decide) (le_refl 8) _

theorem State.hirJudged_verdict (s : State) (p : Fin 48) (result : Nat) : (s.hirJudged p result).get (HP_HIR_STAT_VERDICT p) = s.readVerdict p result := by
  have hlt : s.readVerdict p result < 16 := by
    rw [State.readVerdict]
    split_ifs
    · exact s.hirVerdict_lt p
    · decide
  rw [State.hirJudged, State.rankRefresh_eq, State.get_put_apart _ (show 8 < 32 by decide) _ (by simp),
    State.get_put_apart _ (show 5 < 32 by decide) _ (by simp), State.get_put_apart _ (show 16 < 32 by decide) _ (by simp),
    State.get_put_same _ _ _ (show 3 < 32 by decide)]
  exact Nat.mod_eq_of_lt hlt

theorem State.hirJudged_fresh (s : State) (p : Fin 48) (result : Nat) : (s.hirJudged p result).flag (HP_HIR_STAT_FRESH p) = true := by
  rw [State.hirJudged, State.rankRefresh_eq, State.flag_put_apart _ (show 8 < 32 by decide) _ (by simp),
    State.flag_put_apart _ (show 5 < 32 by decide) _ (by simp)]
  exact State.flag_put_one _ (show 16 < 32 by decide) (le_refl 16)

theorem State.hirJudged_cal (s : State) (p : Fin 48) (result : Nat) : (s.hirJudged p result).get (HP_HIR_STAT_CAL p) = s.hirCal p := by
  rw [State.hirJudged, State.rankRefresh_eq, State.get_put_apart _ (show 8 < 32 by decide) _ (by simp),
    State.get_put_same _ _ _ (show 5 < 32 by decide)]
  exact Nat.mod_eq_of_lt (s.hirCal_lt p)

theorem State.hirJudged_hps (s : State) (p : Fin 48) (result : Nat) : (s.hirJudged p result).hps = s.hps := rfl

/-- A record judged changes HPn_HIR_STAT and the window alone. -/
theorem State.hirJudged_portWrite (s : State) (p : Fin 48) (result : Nat) (data : List Byte) :
    PortWrite [HP_HIR_STAT p] s ((s.hirLoaded p result data).hirJudged p result) := by
  have hmem : HP_HIR_STAT p ∈ [HP_HIR_STAT p] := List.mem_singleton_self _
  have hload : PortWrite [HP_HIR_STAT p] s (s.hirLoaded p result data) := by
    rw [State.hirLoaded]
    split_ifs
    · exact (PortWrite.refl _ s).modHp p _
    · exact .refl _ s
  exact (((hload.put (f := HP_HIR_STAT_VERDICT p) hmem _).put (f := HP_HIR_STAT_FRESH p) hmem _).put (f := HP_HIR_STAT_CAL p) hmem _).put
    (f := HP_HIR_STAT_RANK_OK p) hmem _

/-- What a read with its result leaves, seen from the state `s` in which its command has ended. -/
structure HirDone (p : Fin 48) (result : Nat) (data : List Byte) (s t : State) : Prop where
  verdict : t.get (HP_HIR_STAT_VERDICT p) = (s.hirLoaded p result data).readVerdict p result
  fresh : t.flag (HP_HIR_STAT_FRESH p) = true
  cal : t.get (HP_HIR_STAT_CAL p) = (s.hirLoaded p result data).hirCal p
  regs : RegsBut [HP_HIR_STAT p] s t
  hps : t.hps = (s.hirLoaded p result data).hps
  flight : s.evt.flight ⊆ t.evt.flight
  rose : Rose evHIR_DONE p s t
  frame : t = { s with regs := t.regs, hps := t.hps, evt := t.evt }

theorem State.hirDone_done (s : State) (p : Fin 48) (result : Nat) (data : List Byte) : HirDone p result data s (s.hirDone p result data) := by
  obtain ⟨v, e⟩ := s.hirDone_eq p result data
  have hverdict := State.hirJudged_verdict (s.hirLoaded p result data) p result
  have hfresh := State.hirJudged_fresh (s.hirLoaded p result data) p result
  have hcal := State.hirJudged_cal (s.hirLoaded p result data) p result
  have hhps := State.hirJudged_hps (s.hirLoaded p result data) p result
  obtain ⟨hregs, hframe⟩ := s.hirJudged_portWrite p result data
  rw [e]
  generalize (s.hirLoaded p result data).hirJudged p result = u at *
  have hevt : u.evt = s.evt := by rw [hframe]
  have htbc : u.tbc = s.tbc := by rw [hframe]
  have hraise : u.raise evHIR_DONE p v = { u with evt := (u.raise evHIR_DONE p v).evt } := rfl
  refine ⟨by rw [State.get_raise, hverdict], by rw [State.flag_raise, hfresh], by rw [State.get_raise, hcal], hregs.raise _ _ _,
    by rw [State.raise_hps, hhps], fun r hr => ?_, State.raise_rose htbc _ (by omega) v, ?_⟩
  · exact mem_insertEvent_of_mem _ r _ (by rw [hevt]; exact hr)
  · rw [State.raise_regs, State.raise_hps, hraise, hframe]

/-- The verdicts of a record are read from what the ports hold alone. -/
theorem State.hirVerdict_congr {s t : State} (h : t.hps = s.hps) (p : Fin 48) : t.hirVerdict p = s.hirVerdict p := by
  have e : t.hirVerdict p = ({ s with hps := t.hps } : State).hirVerdict p := rfl
  rw [e, h]

theorem State.hirCal_congr {s t : State} (h : t.hps = s.hps) (p : Fin 48) : t.hirCal p = s.hirCal p := by
  have e : t.hirCal p = ({ s with hps := t.hps } : State).hirCal p := rfl
  rw [e, h]

/-! ## The end of an I2C command, whole (R214, R218, R219) -/

theorem State.i2cEnded_frame (s : State) (p : Fin 48) (r : Nat) :
    s.i2cEnded p r = { s with regs := (s.i2cEnded p r).regs, hps := (s.i2cEnded p r).hps, evt := (s.i2cEnded p r).evt } := rfl

/-- Changes of registers, ports and events, one after the other. -/
theorem State.eventFrame_trans {s t u : State} (h : t = { s with regs := t.regs, hps := t.hps, evt := t.evt })
    (g : u = { t with regs := u.regs, hps := u.hps, evt := u.evt }) : u = { s with regs := u.regs, hps := u.hps, evt := u.evt } := by
  rw [g, h]

section Ends
variable {s : State} {p : Fin 48} {sec data : List Byte}

/-- A read has ended: its command and its record. -/
theorem State.i2cEnd_read (h : s.hps[p].i2c = some .read) {r : Nat} (hr : r < 16) (data : List Byte) :
    I2cEnded p r s (s.i2cEnd p r data) ∧ HirDone p r data (s.i2cEnded p r) (s.i2cEnd p r data) := by
  rw [State.i2cEnd_of_read h]
  have hdone := (s.i2cEnded p r).hirDone_done p r data
  exact ⟨(s.i2cEnded_ends p hr).kept hdone.regs (by simp) hdone.flight, hdone⟩

/-- The window after a complete read, seen from before its command ended. -/
theorem State.hirLoaded_complete (s : State) (p : Fin 48) (data : List Byte) : ((s.i2cEnded p 0).hirLoaded p 0 data).hps[p] =
    { s.hps[p] with i2c := none, hir := hirPut s.hps[p].hir 0 (slice data 0 576) } := by
  rw [State.hirLoaded, if_pos rfl, State.modHp_same, State.i2cEnded_hps]

theorem State.hirLoaded_failed (s : State) (p : Fin 48) (data : List Byte) {r : Nat} (hr : r ≠ 0) : s.hirLoaded p r data = s := if_neg hr

/-- A section verified has ended its command, stands in the window, and makes CAL OK (R218). -/
theorem State.i2cEnd_verified (h : s.hps[p].i2c = some (.write sec)) (hd : data.take 64 = sec) :
    I2cEnded p 0 s (s.i2cEnd p 0 data) ∧ (s.i2cEnd p 0 data).hps[p] = { s.hps[p] with i2c := none, hir := hirPut s.hps[p].hir 0x200 sec } ∧
    (s.i2cEnd p 0 data).get (HP_HIR_STAT_CAL p) = 1 := by
  have hends := s.i2cEnded_ends p (result := 0) (by decide)
  have hhps := s.i2cEnded_hps p 0
  rw [State.i2cEnd_of_verified h hd]
  generalize s.i2cEnded p 0 = u at *
  have hput := ((PortWrite.refl [HP_HIR_STAT p] u).modHp p (fun q => { q with hir := hirPut q.hir 0x200 sec })).put (f := HP_HIR_STAT_CAL p)
    (List.mem_singleton_self _) 1
  refine ⟨hends.kept hput.regs (by simp) (by rw [hput.frame]; exact List.Subset.refl _), ?_, ?_⟩
  · rw [State.put_hps, State.modHp_same, hhps]
  · rw [State.get_put_same _ _ _ (show 5 < 32 by decide)]
    rfl

/-- A page write that is not acknowledged in time ends its command with WR_TIMEOUT (R218). -/
theorem State.wrTimeout_of_write (h : s.hps[p].i2c = some (.write sec)) : s.wrTimeout p = s.i2cEnded p 4 := by
  simp only [State.wrTimeout, h]
  exact State.i2cEnd_of_write_failed h (by rw [I2cCmd.outcome, if_neg (by decide)]) (by decide)

end Ends

end Sys2Proof.Machine
end

section
/-!
PROOFS. The service commands of a head port (R205, R221, R224): the conditions of RETIRE and RETURN in order, a command that pends, and what a
retirement at once leaves to the service unit; then the obligation HeadMemoryAndService.
-/
namespace Sys2Proof.Machine

/-! ## RETIRE, RETURN and CANCEL (R221, R224) -/

section Service
variable (s : State) (p : Fin 48)

/-- The service unit answers a RESULT alone. -/
theorem State.svcResult_portWrite (r : Nat) : PortWrite [HP_SVC_STAT p] s (s.svcResult p r) :=
  (PortWrite.refl _ s).put (f := HP_SVC_STAT_RESULT p) (List.mem_singleton_self _) r

theorem State.get_svcResult {r : Nat} (hr : r < 16) : (s.svcResult p r).get (HP_SVC_STAT_RESULT p) = r :=
  (State.get_put_same _ (HP_SVC_STAT_RESULT p) r (show 3 < 32 by decide)).trans (Nat.mod_eq_of_lt hr)

/-- A RESULT answered. -/
theorem State.svcResult_answers {r : Nat} (hr : r < 16) : let t := (s.svcResult p r).bus .ok 0
    PortAnswered [HP_SVC_STAT p] s t ∧ t.hps = s.hps ∧ t.get (HP_SVC_STAT_RESULT p) = r := by
  refine ⟨(s.svcResult_portWrite p r).answered, rfl, ?_⟩
  rw [State.get_bus, State.get_svcResult s p hr]

/-- The command that pends at the stated line. -/
def State.svcStated (ret : Bool) : SvcPending := {
  ret := ret, now := false, page := s.rd (HP_SVC_PAGE p), line := (s.rd (HP_SVC_LINE p)).toNat
  seen := s.fsch.ports[p].pages.any (fun x => decide (x.page = s.rd (HP_SVC_PAGE p))) }

theorem State.svcPend_eq (ret : Bool) : s.svcPend p ret =
    ((s.svcResult p 0).put (HP_SVC_STAT_PENDING p) 1).modHp p (fun h => { h with svc := some (s.svcStated p ret) }) := rfl

/-- What a command pending at the stated line leaves. -/
structure SvcPends (ret : Bool) (s t : State) : Prop where
  result : t.get (HP_SVC_STAT_RESULT p) = 0
  pending : t.flag (HP_SVC_STAT_PENDING p) = true
  stated : ∃ v, t.hps[p].svc = some v ∧ v.ret = ret ∧ v.now = false ∧ v.page = s.rd (HP_SVC_PAGE p) ∧ v.line = (s.rd (HP_SVC_LINE p)).toNat
  only : PortWrite [HP_SVC_STAT p] s t

theorem State.svcPend_pends (ret : Bool) : SvcPends p ret s (s.svcPend p ret) := by
  rw [State.svcPend_eq]
  refine ⟨?_, ?_, ⟨s.svcStated p ret, ?_, rfl, rfl, rfl, rfl⟩, ?_⟩
  · rw [State.get_modHp]
    exact (State.get_put_apart (s.svcResult p 0) (f := HP_SVC_STAT_PENDING p) (show 31 < 32 by decide) 1 (by simp)).trans (s.get_svcResult p (by decide))
  · rw [State.flag_modHp]
    exact State.flag_put_one (s.svcResult p 0) (f := HP_SVC_STAT_PENDING p) (show 31 < 32 by decide) (le_refl 31)
  · rw [State.modHp_same]
  · exact ((s.svcResult_portWrite p 0).put (f := HP_SVC_STAT_PENDING p) (List.mem_singleton_self _) 1).modHp p _

end Service

theorem SvcPends.answers {p : Fin 48} {ret : Bool} {s t : State} (h : SvcPends p ret s t) : let u := t.bus .ok 0
    u.get (HP_SVC_STAT_RESULT p) = 0 ∧ u.flag (HP_SVC_STAT_PENDING p) = true ∧ ∃ v, u.hps[p].svc = some v ∧ v.ret = ret ∧ v.now = false ∧
    v.page = s.rd (HP_SVC_PAGE p) ∧ v.line = (s.rd (HP_SVC_LINE p)).toNat := ⟨h.result, h.pending, h.stated⟩

section Conditions
variable {s : State} {p : Fin 48}

/-- A command of the service unit while one is pending (R221). -/
theorem State.svc_of_pending (h : s.flag (HP_SVC_STAT_PENDING p) = true) :
    (∀ now, s.svcRetire p now = s.svcResult p 2) ∧ s.svcReturn p = s.svcResult p 2 := ⟨fun _ => if_pos h, if_pos h⟩

theorem State.svcCancel_of_pending (h : s.flag (HP_SVC_STAT_PENDING p) = true) :
    s.svcCancel p = ((s.put (HP_SVC_STAT_PENDING p) 0).svcResult p 0).modHp p (fun q => { q with svc := none }) := if_pos h

variable (hp : s.flag (HP_SVC_STAT_PENDING p) = false)
include hp

theorem State.svcRetire_of_retired (hr : s.retired p = true) (now : Bool) : s.svcRetire p now = s.svcResult p 3 := by
  simp [State.svcRetire, hp, hr]

theorem State.svcRetire_of_late (hr : s.retired p = false) (hl : s.svcLate p (s.rd (HP_SVC_PAGE p)) (s.rd (HP_SVC_LINE p)).toNat = true) :
    s.svcRetire p false = s.svcResult p 1 := by
  simp [State.svcRetire, hp, hr, hl]

theorem State.svcRetire_of_line (hr : s.retired p = false) (hl : s.svcLate p (s.rd (HP_SVC_PAGE p)) (s.rd (HP_SVC_LINE p)).toNat = false) :
    s.svcRetire p false = s.svcPend p false := by
  simp [State.svcRetire, hp, hr, hl]

/-- RETIRE at once with no page open on the port takes effect (R221). -/
theorem State.svcRetire_of_now (hr : s.retired p = false) (ho : s.portPageOpen p = false) :
    s.svcRetire p true = ((s.svcResult p 0).retire p 0 0).thmElig p ((s.svcResult p 0).eligible p) := by
  have ho : (s.svcResult p 0).portPageOpen p = false := ho
  simp [State.svcRetire, hp, hr, State.retireNow, ho]

theorem State.svcReturn_of_serving (hr : s.retired p = false) : s.svcReturn p = s.svcResult p 3 := by
  simp [State.svcReturn, hp, hr]

theorem State.svcReturn_of_check (hr : s.retired p = true) (hc : s.enableCheck p ≠ 0) :
    s.svcReturn p = (s.put (HP_HIR_STAT_CHECK p) (s.enableCheck p)).svcResult p 4 := by
  simp [State.svcReturn, hp, hr, hc]

/-- The conditions of RETURN after the checks of R205, in order (R224). -/
theorem State.svcReturn_of_checked (hr : s.retired p = true) (hc : s.enableCheck p = 0) : s.svcReturn p =
    if s.hps[p].deskewed = false then (s.put (HP_HIR_STAT_CHECK p) 0).svcResult p 5
    else if s.flag (HP_STAT_PERMIT p) = false then (s.put (HP_HIR_STAT_CHECK p) 0).svcResult p 6
    else if s.svcLate p (s.rd (HP_SVC_PAGE p)) (s.rd (HP_SVC_LINE p)).toNat = true then (s.put (HP_HIR_STAT_CHECK p) 0).svcResult p 1
    else (s.put (HP_HIR_STAT_CHECK p) 0).svcPend p true := by
  have hpermit : (s.put (HP_HIR_STAT_CHECK p) 0).flag (HP_STAT_PERMIT p) = s.flag (HP_STAT_PERMIT p) :=
    s.flag_put_apart (f := HP_HIR_STAT_CHECK p) (show 15 < 32 by decide) 0 (by simp)
  have hrd {a : Nat} (ha : a ≠ HP_HIR_STAT p) : (s.put (HP_HIR_STAT_CHECK p) 0).rd a = s.rd a := s.rd_put_ne (HP_HIR_STAT_CHECK p) 0 a ha
  have hpage := hrd (a := HP_SVC_PAGE p) (by simp)
  have hline := hrd (a := HP_SVC_LINE p) (by simp)
  have hlate (g : Word) (l : Nat) : (s.put (HP_HIR_STAT_CHECK p) 0).svcLate p g l = s.svcLate p g l := rfl
  simp [State.svcReturn, hp, hr, hc, hpermit, hpage, hline, hlate]

end Conditions

/-! ## What the bus shows of RETURN and CANCEL -/

/-- CHECK of R205 is stored whole. -/
theorem State.get_put_check (s : State) (p : Fin 48) {c : Nat} (hc : c < 16) : (s.put (HP_HIR_STAT_CHECK p) c).get (HP_HIR_STAT_CHECK p) = c :=
  (State.get_put_same _ (HP_HIR_STAT_CHECK p) c (show 15 < 32 by decide)).trans (Nat.mod_eq_of_lt hc)

theorem State.enableCheck_lt (s : State) (p : Fin 48) : s.enableCheck p < 16 := by
  have hprofile : s.profileCheck p < 16 := by
    unfold State.profileCheck
    repeat' apply ite_lt_of
    all_goals decide
  unfold State.enableCheck
  iterate 3 refine ite_lt_of (by decide) ?_
  refine ite_lt_of hprofile ?_
  repeat' apply ite_lt_of
  all_goals decide

/-- RETURN turned away by a condition after its checks. -/
theorem State.check_svcResult_answers (s : State) (p : Fin 48) (c : Nat) {r : Nat} (hr : r < 16) :
    let t := ((s.put (HP_HIR_STAT_CHECK p) c).svcResult p r).bus .ok 0
    t.get (HP_SVC_STAT_RESULT p) = r ∧ t.hps = s.hps := ⟨by rw [State.get_bus, State.get_svcResult _ p hr], rfl⟩

/-- The code of a check is not touched by the RESULT. -/
theorem State.get_check_svcResult (s : State) (p : Fin 48) {c : Nat} (hc : c < 16) (r : Nat) :
    (((s.put (HP_HIR_STAT_CHECK p) c).svcResult p r).bus .ok 0).get (HP_HIR_STAT_CHECK p) = c := by
  rw [State.get_bus, State.svcResult, State.get_put_ne _ _ _ _ (by simp), s.get_put_check p hc]

/-- RETURN taken: it pends at the stated line, with its checks passed. -/
theorem State.check_svcPend_answers (s : State) (p : Fin 48) : let t := ((s.put (HP_HIR_STAT_CHECK p) 0).svcPend p true).bus .ok 0
    PortAnswered [HP_SVC_STAT p, HP_HIR_STAT p] s t ∧
    t.get (HP_HIR_STAT_CHECK p) = 0 ∧ t.get (HP_SVC_STAT_RESULT p) = 0 ∧ t.flag (HP_SVC_STAT_PENDING p) = true ∧
    ∃ v, t.hps[p].svc = some v ∧ v.ret = true ∧ v.now = false ∧ v.page = s.rd (HP_SVC_PAGE p) ∧ v.line = (s.rd (HP_SVC_LINE p)).toNat := by
  have hput := (PortWrite.refl [HP_HIR_STAT p] s).put (f := HP_HIR_STAT_CHECK p) (List.mem_singleton_self _) 0
  have hcheck := s.get_put_check p (c := 0) (by decide)
  generalize s.put (HP_HIR_STAT_CHECK p) 0 = u at *
  have hpends := u.svcPend_pends p true
  obtain ⟨result, pending, hat⟩ := hpends.answers
  refine ⟨(hput.trans hpends.only).answered, ?_, result, pending, ?_⟩
  · rw [State.get_bus, hpends.only.regs.get_eq (f := HP_HIR_STAT_CHECK p) (by simp), hcheck]
  · rw [← hput.regs (HP_SVC_PAGE p) (by simp), ← hput.regs (HP_SVC_LINE p) (by simp)]
    exact hat

theorem State.svcCancel_answers {s : State} {p : Fin 48} (h : s.flag (HP_SVC_STAT_PENDING p) = true) : let t := (s.svcCancel p).bus .ok 0
    PortAnswered [HP_SVC_STAT p] s t ∧
    t.flag (HP_SVC_STAT_PENDING p) = false ∧ t.get (HP_SVC_STAT_RESULT p) = 0 ∧ t.hps[p] = { s.hps[p] with svc := none } := by
  have hput := (PortWrite.refl [HP_SVC_STAT p] s).put (f := HP_SVC_STAT_PENDING p) (List.mem_singleton_self _) 0
  rw [State.svcCancel_of_pending h]
  refine ⟨((hput.put (f := HP_SVC_STAT_RESULT p) (List.mem_singleton_self _) 0).modHp p _).answered, ?_, ?_,
    vset_same s.hps p { s.hps[p] with svc := none }⟩
  · rw [State.flag_bus, State.flag_modHp, State.svcResult, State.flag_put_apart _ (show 3 < 32 by decide) _ (by simp)]
    exact s.flag_put_zero (show 31 < 32 by decide)
  · rw [State.get_bus, State.get_modHp, State.get_svcResult _ p (by decide)]

/-! ## What a retirement leaves to the service unit (R221, R397, R402) -/

/-- The service register of port `p` and the absence of a pending command stay, and every event stays in flight. -/
structure KeepsSvc (p : Fin 48) (s t : State) : Prop where
  stat : t.rd (HP_SVC_STAT p) = s.rd (HP_SVC_STAT p)
  idle : s.hps[p].svc = none → t.hps[p].svc = none
  flight : s.evt.flight ⊆ t.evt.flight

namespace KeepsSvc
variable {p : Fin 48} {s t u : State}

theorem refl (p : Fin 48) (s : State) : KeepsSvc p s s := ⟨rfl, id, List.Subset.refl _⟩

theorem trans (h : KeepsSvc p s t) (g : KeepsSvc p t u) : KeepsSvc p s u :=
  ⟨g.stat.trans h.stat, g.idle ∘ h.idle, List.Subset.trans h.flight g.flight⟩

/-- What keeps the registers, the ports and the events. -/
theorem of_eq (hr : t.regs = s.regs) (hh : t.hps = s.hps) (he : t.evt = s.evt) : KeepsSvc p s t :=
  ⟨State.rd_congr _ _ hr _, fun h => by rw [hh, h], by rw [he]; exact List.Subset.refl _⟩

theorem wr (h : KeepsSvc p s t) {a : Nat} (ha : HP_SVC_STAT p ≠ a) (v : Word) : KeepsSvc p s (t.wr a v) :=
  h.trans ⟨State.rd_wr_ne _ _ _ _ ha, id, List.Subset.refl _⟩

theorem put (h : KeepsSvc p s t) {f : RegField} (hf : HP_SVC_STAT p ≠ f.addr) (v : Nat) : KeepsSvc p s (t.put f v) := h.wr hf _

theorem modHp (h : KeepsSvc p s t) {f : HeadPort → HeadPort} (hf : ∀ q, (f q).svc = q.svc) : KeepsSvc p s (t.modHp p f) :=
  h.trans ⟨rfl, fun h => by rw [State.modHp_same, hf, h], List.Subset.refl _⟩

theorem raiseAt (h : KeepsSvc p s t) (ev src : Nat) (v pg ln : Word) : KeepsSvc p s (t.raiseAt ev src v pg ln) :=
  h.trans ⟨rfl, id, fun r hr => mem_insertEvent_of_mem _ r _ hr⟩

end KeepsSvc

section Keeps
variable (s : State) (p : Fin 48)

theorem State.faultRefresh_keepsSvc : KeepsSvc p s (s.faultRefresh p) := by
  have hfault := (KeepsSvc.refl p s).put (f := HP_STAT_FAULT p) (by simp) (b2n (s.faultNow p))
  simp only [State.faultRefresh]
  split_ifs
  · exact (hfault.put (f := HP_STAT_FLT_SEEN p) (by simp) 1).raiseAt _ _ _ _ _
  · exact hfault

/-- With no command pending a withdrawal drops nothing. -/
theorem State.withdraw_keepsSvc (h : s.hps[p].svc = none) (thermal : Bool) : KeepsSvc p s (s.withdraw p thermal) := by
  have hoff := ((KeepsSvc.refl p s).put (f := HP_STAT_PERMIT p) (by simp) 0).modHp (f := fun q => { q with permThermal := thermal }) fun _ => rfl
  have hdrop : ((s.put (HP_STAT_PERMIT p) 0).modHp p (fun q => { q with permThermal := thermal })).dropReturn p 6 0 =
      (s.put (HP_STAT_PERMIT p) 0).modHp p (fun q => { q with permThermal := thermal }) := by
    rw [State.dropReturn, hoff.idle h]
  simp only [State.withdraw, State.clr, hdrop]
  split_ifs
  · exact hoff
  · exact .refl p s
  · exact (KeepsSvc.refl p s).modHp fun _ => rfl

theorem State.thermalBack_keepsSvc : KeepsSvc p s (s.thermalBack p) := by
  rw [State.thermalBack]
  split_ifs
  · exact ((KeepsSvc.refl p s).put (f := HP_STAT_PERMIT p) (by simp) 1).modHp fun _ => rfl
  · exact (KeepsSvc.refl p s).modHp fun _ => rfl
  · exact .refl p s

theorem State.portThermal_keepsSvc (h : s.hps[p].svc = none) : KeepsSvc p s (s.portThermal p) := by
  have hstat := (KeepsSvc.refl p s).put (f := FSCH_P_STAT_THERMAL p) (by simp only [HP_SVC_STAT, FSCH_P_STAT]; omega) (b2n (s.portLimit p))
  simp only [State.portThermal]
  split_ifs
  · exact hstat.trans (State.withdraw_keepsSvc _ p (hstat.idle h) true)
  · exact hstat.trans (State.thermalBack_keepsSvc _ p)

theorem State.slowEnd_keepsSvc (i : Fin 3) : KeepsSvc p s (s.slowEnd i) := by
  simp only [State.slowEnd]
  split_ifs
  · exact .of_eq rfl rfl rfl
  · exact .refl p s

/-- The sensor of a port. -/
def sensorOf (p : Fin 48) : Fin 64 := ⟨p.val, by omega⟩

theorem thmLevel_sensorOf : thmLevel (sensorOf p).val = HT_READ_LEVEL p := if_pos p.isLt

/-- A head sensor at WARN or above goes to NORMAL without an event: the THERMAL cause ends with the last of them, and the port's actions follow. -/
theorem State.setLevel_normal {s : State} {p : Fin 48} (h : s.level (sensorOf p).val ≠ 0) : s.setLevel (sensorOf p) 0 0 0 true =
    (if (s.put (HT_READ_LEVEL p) 0).anyWarn = false then (s.put (HT_READ_LEVEL p) 0).slowEnd 2 else s.put (HT_READ_LEVEL p) 0).portThermal p := by
  have h48 : (sensorOf p).val < 48 := p.isLt
  simp only [State.setLevel, if_neg h, if_true, thmLevel_sensorOf, true_and, dif_pos h48, show ¬ 0 = 3 by decide, if_false]
  rfl

theorem State.setLevel_normal_keepsSvc (h : s.hps[p].svc = none) : KeepsSvc p s (s.setLevel (sensorOf p) 0 0 0 true) := by
  by_cases h0 : s.level (sensorOf p).val = 0
  · rw [State.setLevel, if_pos h0]
    exact .refl p s
  · have hlevel := (KeepsSvc.refl p s).put (f := HT_READ_LEVEL p) (by simp only [HP_SVC_STAT, HT_READ]; omega) 0
    rw [State.setLevel_normal h0]
    split_ifs
    · have hend := hlevel.trans (State.slowEnd_keepsSvc _ p 2)
      exact hend.trans (State.portThermal_keepsSvc _ p (hend.idle h))
    · exact hlevel.trans (State.portThermal_keepsSvc _ p (hlevel.idle h))

/-- A head sensor that stops being evaluated. -/
theorem State.thmStop_keepsSvc (h : s.hps[p].svc = none) : KeepsSvc p s (s.thmStop p) :=
  ((s.setLevel_normal_keepsSvc p h).wr (a := HT_READ p) (by simp only [HP_SVC_STAT, HT_READ]; omega) 0).trans (.of_eq rfl rfl rfl)

theorem State.thmElig_keepsSvc (h : s.hps[p].svc = none) (was : Bool) : KeepsSvc p s (s.thmElig p was) := by
  simp only [State.thmElig]
  split_ifs
  · exact .of_eq rfl rfl rfl
  · have hlost := (KeepsSvc.refl p s).put (f := HP_STAT_ST_LOST p) (by simp) 0
    exact hlost.trans (State.thmStop_keepsSvc _ p (hlost.idle h))
  · exact .refl p s

end Keeps

/-- Retirement as it is recorded: RETIRED is set, nothing is pending, and HEAD_RETIRED tells of it. -/
def State.retiredAt (s : State) (p : Fin 48) (page line : Word) : State :=
  (((s.put (HP_SVC_STAT_RETIRED p) 1).put (HP_SVC_STAT_PENDING p) 0).modHp p (fun h => { h with svc := none })).raiseAt evHEAD_RETIRED p 0 page line

/-- What a retirement that takes effect leaves of the service unit. -/
structure Retired (p : Fin 48) (s t : State) : Prop where
  retired : t.retired p = true
  result : t.get (HP_SVC_STAT_RESULT p) = s.get (HP_SVC_STAT_RESULT p)
  idle : t.hps[p].svc = none
  rose : Rose evHEAD_RETIRED p s t

theorem State.retiredAt_retired (s : State) (p : Fin 48) (page line : Word) : Retired p s (s.retiredAt p page line) := by
  have hget (t : State) (v : Word) (f : RegField) : (t.raiseAt evHEAD_RETIRED p v page line).get f = t.get f := rfl
  refine ⟨?_, ?_, congrArg HeadPort.svc (vset_same s.hps p { s.hps[p] with svc := none }), ?_⟩
  · rw [State.retired, State.flag, State.retiredAt, hget, ← State.flag, State.flag_modHp, State.flag_put_apart _ (show 31 < 32 by decide) _ (by simp)]
    exact State.flag_put_one _ (show 30 < 32 by decide) (le_refl 30)
  · rw [State.retiredAt, hget, State.get_modHp, State.get_put_apart _ (show 31 < 32 by decide) _ (by simp),
      State.get_put_apart _ (show 30 < 32 by decide) _ (by simp)]
  · exact ⟨_, State.raiseAt_flight .., rfl, Nat.mod_eq_of_lt (by omega), rfl⟩

/-- What follows a retirement does not undo it. -/
theorem Retired.kept {p : Fin 48} {s t u : State} (h : Retired p s t) (k : KeepsSvc p t u) : Retired p s u where
  retired := by rw [← h.retired, State.retired, State.retired, State.flag, State.flag, State.get, State.get, k.stat]
  result := by rw [← h.result, State.get, State.get, k.stat]
  idle := k.idle h.idle
  rose := let ⟨e, he, hrest⟩ := h.rose
    ⟨e, k.flight he, hrest⟩

theorem Retired.answers {p : Fin 48} {s t : State} (h : Retired p s t) : Retired p s (t.bus .ok 0) := h.kept (.of_eq rfl rfl rfl)

/-- A retirement takes effect, with the evaluation of the head sensor that may end by it. -/
theorem State.retire_retired (s : State) (p : Fin 48) (page line : Word) (was : Bool) : Retired p s ((s.retire p page line).thmElig p was) := by
  have hlost := (KeepsSvc.refl p (s.retiredAt p page line)).put (f := HP_STAT_ST_LOST p) (by simp) 0
  have hfault := hlost.trans (State.faultRefresh_keepsSvc _ p)
  have hretired := (s.retiredAt_retired p page line).kept hfault
  exact hretired.kept (State.thmElig_keepsSvc _ p hretired.idle was)

/-! ## The obligation -/

/-- Settles O38: each command by its equation in the case it is in, a read by the verdicts of its record, and a retirement at once by what follows it. -/
theorem headMemoryAndService : Obligations.HeadMemoryAndService := by
  unfold Obligations.HeadMemoryAndService
  intro x p value data sec s hc ok pend late
  refine ⟨fun i c hi => ?begins, fun h => ?read, fun r hr h => ?readFails, fun h => ?written, fun h => ?timeout, ?rank,
    fun now hp => ⟨fun hr => ?retired, fun hr hn hl => ?late, fun hr hn hl => ?line, fun hr hn ho => ?now⟩, fun i hi hp => ?pending,
    fun hp hr he hd hm hl => ?returns, fun hp => ?returnRefused, fun hp => ?cancel⟩
  case begins => exact ⟨_, exec_i2cCmd hc hi, s.i2cBegun_answers p c⟩
  case read =>
    obtain ⟨⟨busy, result, rose⟩, done⟩ := State.i2cEnd_read h (show 0 < 16 by decide) data
    refine ⟨s.i2cEnd p 0 data, rfl, busy, result, ?_, ?_, done.fresh, rose, done.rose, ?_, ?_, ?_⟩
    · rw [done.hps, State.hirLoaded_complete]
    · rw [done.verdict, State.hirVerdict_congr done.hps, State.readVerdict, if_pos rfl]
    · rw [done.cal, State.hirCal_congr done.hps]
    · exact ((s.i2cEnded_regs p 0).mono (by simp)).trans (done.regs.mono (by simp))
    · exact State.eventFrame_trans (s.i2cEnded_frame p 0) done.frame
  case readFails =>
    have hr : r.val ≠ 0 := fun e => hr (Fin.ext e)
    obtain ⟨⟨busy, result, rose⟩, done⟩ := State.i2cEnd_read h (show r.val < 16 by omega) data
    refine ⟨_, rfl, busy, result, ?_, ?_, done.fresh, rose, done.rose⟩
    · rw [done.hps, State.hirLoaded_failed _ p data hr, State.i2cEnded_hps]
    · rw [done.verdict, State.readVerdict, if_neg hr]
  case written =>
    by_cases hd : data.take 64 = sec
    · obtain ⟨⟨busy, result, rose⟩, hhps, hcal⟩ := State.i2cEnd_verified h hd
      exact ⟨_, rfl, busy, rose, fun _ => ⟨result, hhps, hcal⟩, fun hne => absurd hd hne⟩
    · obtain ⟨busy, result, rose⟩ := s.i2cEnded_ends p (result := 5) (by decide)
      have hend : s.i2cEnd p 0 data = s.i2cEnded p 5 := State.i2cEnd_of_write_failed h (I2cCmd.outcome_of_differs hd) (by decide)
      exact ⟨_, congrArg Host.Outcome.next hend, busy, rose, fun hs => absurd hs hd, fun _ => ⟨result, s.i2cEnded_hps p 5⟩⟩
  case timeout =>
    obtain ⟨busy, result, rose⟩ := s.i2cEnded_ends p (result := 4) (by decide)
    exact ⟨_, congrArg Host.Outcome.next (State.wrTimeout_of_write h), busy, result, s.i2cEnded_hps p 4, rose, s.i2cEnded_regs p 4, s.i2cEnded_frame p 4⟩
  case rank => exact ⟨_, exec_rankReqWrite hc x value, s.rankReq_answers p _⟩
  case retired =>
    refine ⟨_, exec_retire hc x now, ?_⟩
    rw [State.svcRetire_of_retired hp hr]
    exact s.svcResult_answers p (by decide)
  case late =>
    refine ⟨_, exec_retire hc x now, ?_⟩
    rw [hn, State.svcRetire_of_late hp hr hl]
    exact s.svcResult_answers p (by decide)
  case line =>
    refine ⟨_, exec_retire hc x now, ?_⟩
    rw [hn, State.svcRetire_of_line hp hr hl]
    exact ⟨(s.svcPend_pends p false).only.answered, (s.svcPend_pends p false).answers⟩
  case now =>
    refine ⟨_, exec_retire hc x now, ?_⟩
    rw [hn, State.svcRetire_of_now hp hr ho]
    obtain ⟨retired, result, idle, rose⟩ := ((s.svcResult p 0).retire_retired p 0 0 ((s.svcResult p 0).eligible p)).answers
    exact ⟨rfl, retired, result.trans (s.get_svcResult p (by decide)), idle, rose⟩
  case pending =>
    obtain ⟨hretire, hreturn⟩ := State.svc_of_pending hp
    have hexec : exec i s = .next ((s.svcResult p 2).bus .ok 0) := by
      simp only [List.mem_cons, List.not_mem_nil, or_false] at hi
      obtain rfl | rfl | rfl := hi
      · rw [exec_retire hc, hretire]
      · rw [exec_retire hc, hretire]
      · rw [exec_return hc, hreturn]
    exact ⟨_, hexec, s.svcResult_answers p (by decide)⟩
  case returns =>
    refine ⟨_, exec_return hc x, ?_⟩
    rw [State.svcReturn_of_checked hp hr he, if_neg (ne_false_of_eq_true hd), if_neg (ne_false_of_eq_true hm), if_neg (ne_true_of_eq_false hl)]
    exact s.check_svcPend_answers p
  case returnRefused =>
    refine ⟨_, exec_return hc x, fun hr => ?_, fun hr he => ?_, fun hr he hd => ?_, fun hr he hd hm => ?_, fun hr he hd hm hl => ?_⟩
    · rw [State.svcReturn_of_serving hp hr]
      obtain ⟨-, hhps, hresult⟩ := s.svcResult_answers p (r := 3) (by decide)
      exact ⟨hresult, hhps⟩
    · rw [State.svcReturn_of_check hp hr he]
      obtain ⟨hresult, hhps⟩ := s.check_svcResult_answers p (s.enableCheck p) (r := 4) (by decide)
      exact ⟨hresult, s.get_check_svcResult p (s.enableCheck_lt p) 4, hhps⟩
    · rw [State.svcReturn_of_checked hp hr he, if_pos hd]
      exact s.check_svcResult_answers p 0 (by decide)
    · rw [State.svcReturn_of_checked hp hr he, if_neg (ne_false_of_eq_true hd), if_pos hm]
      exact s.check_svcResult_answers p 0 (by decide)
    · rw [State.svcReturn_of_checked hp hr he, if_neg (ne_false_of_eq_true hd), if_neg (ne_false_of_eq_true hm), if_pos hl]
      exact s.check_svcResult_answers p 0 (by decide)
  case cancel => exact ⟨_, exec_cancel hc x, State.svcCancel_answers hp⟩

end Sys2Proof.Machine
end
